-- ==== Sys2Proof/Word.lean ====
section
/-! DEFINITION. The word types, and the type of the sparse tables in which arrays of the module (register cells,
tiles, memory bytes) are held. -/

set_option autoImplicit false

namespace Sys2Proof

/-- One byte. -/
abbrev Byte := BitVec 8

/-- A sparse table: keys and values, keys strictly rising, no entry equal to what an unlisted key reads as.
`Tab Byte` is a list of `Host.Cell`. -/
abbrev Tab (α : Type) := List (Nat × α)

/-- Memory: the bytes that differ from the byte an unlisted address reads as (0, log entry 3). -/
abbrev Memory := Tab Byte

/-- A tile register or FTQ entry: 4 KiB (R241). Element e of width w stands at bits w·e. -/
abbrev TileReg := BitVec 32768

/-- A wide accumulator: 128 bits (R200, R202). -/
abbrev Acc := BitVec 128

end Sys2Proof
end

