-- ==== Sys2Proof/Syntax.lean ====
section
/-! DEFINITION. The commands of the block (opcode table) and the types of their operands. -/

set_option autoImplicit false

namespace Sys2Proof

/-- The four slots of a bundle (R299). -/
inductive BundleSlot where
  | a | f | m | c
deriving DecidableEq, Repr

/-- What hardware does to a bundle's own operation: a parity mismatch in a tile register (R296), an FTQ entry (R296) or an
accumulator bank (R237) that it reads; an ECC event in the operand-cache word at a byte offset of its load (R447-R449); or a
write of another port, FILL or RES, in the same cycle to the granule at a byte offset of its store (R251). -/
inductive VeUpset where
  | none | register (reg : Nat) | ftq | bank | memory (off : Nat) (uncorrectable : Bool) | clash (off : Nat) (res : Bool)
deriving DecidableEq, Repr

/-- What stands beside an instruction in its bundle (R299): the words of the four slots, of which the instruction's own
slot is not used, and an upset that its own operation meets. -/
structure Beside where
  a : BitVec 42
  f : BitVec 24
  m : BitVec 30
  c : BitVec 32
  upset : VeUpset
deriving DecidableEq, Repr

/-- A bundle with NOPs beside the instruction (R300). -/
def Beside.nops : Beside := ⟨0, 0, 0, 0, .none⟩

/-- A hardware fault that a matrix multiply meets (R229, R237). -/
inductive CalFault where
  | none | feedParity (row stamp : Nat) | feedSkew (row stamp : Nat) | setParity (set : Nat) | accParity
deriving DecidableEq, Repr

/-- What hardware does to a drain as it posts: parity in its bank (R237), or a write of another port, FILL or RES, in the same
cycle to the granule at a byte offset of its WIDE write (R251). -/
inductive DrainEvent where
  | none | accParity | clash (off : Nat) (res : Bool)
deriving DecidableEq, Repr

/-- The end of a command that fills a bank: the tile, and whether the bank then has a parity error (R237). -/
structure BankEnd where
  tile : Nat
  accParity : Bool
deriving DecidableEq, Repr

/-- The post of a drain: the tile, and what hardware does to it. -/
structure DrainEnd where
  tile : Nat
  event : DrainEvent
deriving DecidableEq, Repr

/-- The signals in flight that reach the synchronisation unit in one cycle (R492, R494), by their places: one, and what comes with it. -/
structure SigCycle where
  first : Nat
  more : List Nat
deriving DecidableEq, Repr

/-- On what terms a module joins a job: whether it will be free-running, and what it finds among the members, whose tables and modes
the join exchanges: whether their routes hold a cycle (R536), and how many of them are free-running (R691). -/
structure JoinTerms where
  freeRun : Bool
  cycle : Bool
  free : Nat
deriving DecidableEq, Repr

/-- The 32-byte extension of the first segment of a SEND (R537). -/
structure SendExt where
  sizes : List Nat
  etype : Nat
  rank : Nat
deriving DecidableEq, Repr

/-- What the receiver of a SEND needs beside the header of R537: the record's SIG_OBJ and SIG_COUNT, CRC_POLY and PROTECT
(R454, R460, R468). -/
structure SendSig where
  obj : Nat
  count : Nat
  poly : Nat
  protect : Bool
deriving DecidableEq, Repr

/-- A fabric message (R537): the header's fields, the extension, the payload and HCRC; the
sideband of a SEND. -/
structure Msg where
  kind : Nat
  vc : Nat
  first : Bool
  last : Bool
  tag : Nat
  dst : Nat
  src : Nat
  unit : Nat
  obj : Nat
  index : Nat
  aux : Nat
  ext : Option SendExt
  sig : Option SendSig
  payload : List Byte
  hcrc : Nat
deriving DecidableEq, Repr

/-- What ECC finds while codewords are read (R448, R449): the i-th codeword of the operation's list, or of the scrub. -/
inductive MemEvent where
  | none | corrected (i : Nat) | uncorrectable (i : Nat)
deriving DecidableEq, Repr

/-- Where a beat stands in a locked sequence (R476). -/
inductive LockBeat where
  | none | take | hold | release
deriving DecidableEq, Repr

/-- A requester that waits at a residual arbiter (R471): rank, cycles waited, address, the bytes it writes (none for a
read), and its place in a locked sequence. -/
structure ResReq where
  rank : Nat
  waited : Nat
  addr : Nat
  write : Option (List Byte)
  lock : LockBeat
deriving DecidableEq, Repr

/-- What resets the host adapter domain (R773, R777): PERST_N low, a hot reset, a Function Level Reset, a scheduled reset. -/
inductive HaReset where
  | perst | hotReset | flr | scheduled
deriving DecidableEq, Repr

/-- The commands: one constructor per row of the opcode table, with the row's operands. -/
inductive Instr where
  /-- DEVICE_INFO (R738): Mailbox command that writes device information, optionally signed with a nonce, into a buffer. -/
  | deviceInfo (tag : Nat) (handle : Nat) (offset : Nat) (nonce : Option (List Byte))
  /-- POLICY_LOAD (R741): Mailbox command that loads the 128-byte policy block: coordinate, salt, statistics table, shares and intervals. -/
  | policyLoad (tag : Nat) (blk : List Byte)
  /-- TIME_STATUS (R737): Mailbox command that returns the time-base stamp, its state, the hop count and the parent offset. -/
  | timeStatus (tag : Nat)
  /-- ERRLOG_READ (R737): Mailbox command that copies error-log or persistent-history records into a buffer. -/
  | errlogRead (tag : Nat) (first : Nat) (number : Nat) (handle : Nat) (offset : Nat) (persistent : Bool)
  /-- ALLOC (R788): Mailbox command that checks its arguments in order and creates a named allocation of a given kind. -/
  | alloc (tag : Nat) (handle : Nat) (kind : Nat) (place : Nat) (bytes : Nat) (symmetric : Bool) (paged : Bool)
  /-- FREE (R393): Mailbox command that removes an allocation or a descriptor unless it is in use. -/
  | free (tag : Nat) (isDesc : Bool) (handle : Nat)
  /-- DESC_CREATE (R420): Mailbox command that validates a 128-byte descriptor, computes CHECK and enters it into the table. -/
  | descCreate (tag : Nat) (descId : Nat) (blk : List Byte)
  /-- PROGRAM_LOAD (R99): Mailbox command that runs the plan checks in their stages and loads a frame program with its tables. -/
  | programLoad (tag : Nat) (handle : Nat) (imageOff : Nat) (syncOff : Nat) (stepOff : Nat) (sinterOff : Nat) (powerOff : Nat) (compat : Nat)
  /-- PROGRAM_START (R101): Mailbox command that checks the epoch and conditions, sets the step count and arms the sequencer. -/
  | programStart (tag : Nat) (epoch : Nat)
  /-- STEP_COMMIT (R607): Mailbox command that queues a host authorisation with a data-position token for a step. -/
  | stepCommit (tag : Nat) (step : Nat) (token : Nat)
  /-- STEP_COMMIT_CATCHUP (R605): STEP_COMMIT with CATCHUP, applying the commit actions to a module one step behind in HALT_STEP. -/
  | stepCommitCatchup (tag : Nat)
  /-- STEP_ABORT (R88): Mailbox command that halts the step, makes ticks IDLE and schedules the body restart at a frame count. -/
  | stepAbort (tag : Nat) (restart : Nat)
  /-- ABORT_OP_RECORD (R508): ABORT_OP naming a transfer record, ending it unless it has already posted completion. -/
  | abortOpRecord (tag : Nat) (e : Nat) (slotIdx : Nat) (rec : Nat)
  /-- ABORT_OP_TAG (R735): ABORT_OP naming a pending mailbox command by tag, stopping it before start or at a safe point. -/
  | abortOpTag (tag : Nat) (target : Nat)
  /-- SECURE_NOW (R633): Mailbox command that names a step whose body is to be a securing body. -/
  | secureNow (tag : Nat) (step : Nat)
  /-- SET_CAP (R680): Mailbox command that writes the sustained power cap, clamped to 600 to 3,200 W. -/
  | setCap (tag : Nat) (watts : Nat)
  /-- SET_FIXED_OP (R674): Mailbox command that sets the operating point used while no program is loaded. -/
  | setFixedOp (tag : Nat) (op : Nat)
  /-- PACE_GROUP_JOIN (R530): Mailbox command that checks a job table and joins the module to the job and its pace group. -/
  | paceGroupJoin (tag : Nat) (handle : Nat) (offset : Nat) (terms : JoinTerms)
  /-- PACE_GROUP_LEAVE (R531): PACE_GROUP_JOIN with handle 0, leaving the job and unloading any program. -/
  | paceGroupLeave (tag : Nat)
  /-- TELEMETRY_SUBSCRIBE (R712): Mailbox command that names the host ring and fabric rank that receive telemetry records. -/
  | telemetrySubscribe (tag : Nat) (handle : Nat) (offset : Nat) (entries : Nat) (rank : Nat)
  /-- RESTORE_FULL (R636): RESTORE in FULL mode, running records, parity rebuild, partner copy, verify, statistics, counters and join. -/
  | restoreFull (tag : Nat) (asTarget : Bool) (rank : Nat) (lost : List Nat) (step : Nat) (epoch : Nat) (recs : List Nat) (copy : Nat) (crcs : List (Nat × Nat × Nat)) (copies : List (Nat × Nat × Nat))
  /-- RESTORE_BLOCK (R636): RESTORE in BLOCK mode, rebuilding or copying only the named region blocks. -/
  | restoreBlock (tag : Nat) (asTarget : Bool) (rank : Nat) (group : Nat) (firstBlock : Nat) (blocks : Nat) (lost : List Nat) (copy : Nat) (copies : List (Nat × Nat × Nat))
  /-- SPARE_ADOPT (R634): Mailbox command by which a hot spare takes a fabric coordinate and job rank. -/
  | spareAdopt (tag : Nat) (coord : Nat) (rank : Nat)
  /-- BIST_SCHEDULE_FULL (R666): BIST_SCHEDULE in FULL mode, running all sixteen slices on every physical tile with the sequencer EMPTY. -/
  | bistScheduleFull (tag : Nat) (fails : List (Nat × Nat × Nat))
  /-- BIST_SCHEDULE_PERIODIC (R737): BIST_SCHEDULE in PERIODIC mode, setting slice spacing, rotation and self-test enables. -/
  | bistSchedulePeriodic (tag : Nat) (gapMs : Nat) (rotEn : Bool) (bistEn : Bool)
  /-- REPAIR_APPLY (R659): Mailbox command that appends a repair entry to a die's soft table and applies it within the repair ranges. -/
  | repairApply (tag : Nat) (h : Nat) (word : Nat)
  /-- FUSE_BURN (R665): Mailbox command that burns unfused soft repairs into fuses in maintenance state. -/
  | fuseBurn (tag : Nat) (h : Nat) (bad : List Nat)
  /-- RESET_DOMAIN_SECONDARY_CP (R777): RESET_DOMAIN code 0x0001, resetting the secondary control island, which reboots as SECONDARY. -/
  | resetDomainSecondaryCp (tag : Nat)
  /-- RESET_DOMAIN_MODULE_CORE (R777): RESET_DOMAIN code 0x0002, scheduling a reset of the cores, control islands and host adapter 10 ms later. -/
  | resetDomainModuleCore (tag : Nat)
  /-- RESET_DOMAIN_PORT (R777): RESET_DOMAIN of a fabric port, forgetting its learned neighbour and retraining. -/
  | resetDomainPort (tag : Nat) (unit : Nat)
  /-- RESET_DOMAIN_STREAM_ENGINE (R777): RESET_DOMAIN of a stream engine while the sequencer is EMPTY, LOADED or STOPPED. -/
  | resetDomainStreamEngine (tag : Nat) (n : Nat)
  /-- RESET_DOMAIN_UPDATE_ENGINE (R777): RESET_DOMAIN of an update engine while the sequencer is EMPTY, LOADED or STOPPED. -/
  | resetDomainUpdateEngine (tag : Nat) (n : Nat)
  /-- RESET_DOMAIN_REDUCTION (R777): RESET_DOMAIN of both reduction engine halves while the sequencer is EMPTY, LOADED or STOPPED. -/
  | resetDomainReduction (tag : Nat)
  /-- RESET_DOMAIN_HOST_ADAPTER (R777): RESET_DOMAIN code 0x0060, scheduling a host adapter reset 1 ms after the response. -/
  | resetDomainHostAdapter (tag : Nat)
  /-- MODULE_CORE_RESET_EFFECT (R777): Expiry of the 10 ms delay after which the module core domains reset and start-up reruns from step 3. -/
  | moduleCoreResetEffect (bad : List Nat)
  /-- SLEEP_STANDBY (R701): SLEEP into STANDBY, powering down all but the Fumarole island. -/
  | sleepStandby (tag : Nat)
  /-- SLEEP_DORMANT (R701): SLEEP into DORMANT, keeping the time base, HBM self-refresh and the PCIe wake path. -/
  | sleepDormant (tag : Nat)
  /-- WAKE (R700): Command served by the Fumarole island that wakes the module from STANDBY or DORMANT. -/
  | wake (tag : Nat)
  /-- FW_UPDATE (R739): Mailbox command that writes and checks an image in the inactive flash slot and updates the directory. -/
  | fwUpdate (tag : Nat) (handle : Nat) (offset : Nat) (bytes : Nat) (adv : Bool)
  /-- MBX_CMD_TAIL_WRITE (R728): Host doorbell write that advances the command ring tail, ignored if it overfills the ring. -/
  | mbxCmdTailWrite (count : Nat)
  /-- MBX_FETCH (R731): The mailbox engine fetches a command entry in ring order and checks CRC, opcode, format, tag and source. -/
  | mbxFetch
  /-- MBX_RESPONSE_POST (R733): A finished response is written into a freed response-ring entry, after waiting for room if the ring is full. -/
  | mbxResponsePost
  /-- MBX_ENABLE_WRITE (R727): Write of MBX_CTRL.ENABLE that starts or stops the mailbox rings. -/
  | mbxEnableWrite (enable : Bool)
  /-- MCTP_MESSAGE (R736): An MCTP vendor-defined message arrives over SMBus carrying a command entry. -/
  | mctpMessage (entry : List Byte)
  /-- SMBUS_ALERT_RESPONSE (R763): The endpoint answers the SMBus Alert Response Address and releases ALERT_N. -/
  | smbusAlertResponse
  /-- SMBUS_ARP (R762): The SMBus Address Resolution Protocol assigns the endpoint an address. -/
  | smbusArp (addr : Nat)
  /-- MSIX_MODERATION_END (R743): End of a vector's moderation interval, delivering the events gathered in it by one raise. -/
  | msixModerationEnd (v : Nat)
  /-- CP_KICK_WRITE (R719): A control processor writes CP_KICK and restarts its watchdog. -/
  | cpKickWrite (h : Nat)
  /-- WATCHDOG_EXPIRE (R719): A control processor's watchdog expires, resetting its island and moving the primary role if needed. -/
  | watchdogExpire (h : Nat)
  /-- CONTROL_ISLAND_BOOT (R723): Boot ROM checks the flash slots and starts Waily on the released control islands, or enters BOOT_FAIL. -/
  | controlIslandBoot (copyOk : Bool)
  /-- ERRLOG_WRITE (R748): The error collector writes a held record to the log in stamp order after its 2 µs hold. -/
  | errlogWrite
  /-- POWER_APPLIED (R778): VIN reaches 32 V: the standby regulator starts, FUMAROLE is released and rules H0 to H5 arm. -/
  | powerApplied (slotId : Nat) (perst : Bool)
  /-- POWER_REMOVED (R699): Removal of 48 V puts the module in OFF and stops the time base. -/
  | powerRemoved
  /-- STARTUP_RAILS (R778): After VIN holds at or above 40.5 V for 10 ms, or a wake from STANDBY, the rail stages begin. -/
  | startupRails
  /-- RAIL_STAGE_SETTLED (R779): The rails of a stage settle in regulation and the next stage, or the domain release, begins. -/
  | railStageSettled (bad : List Nat)
  /-- RAIL_SETTLE_TIMEOUT (R779): A rail fails to settle within 5 ms, recording ERR_RAIL_FAIL and forcing the module down. -/
  | railSettleTimeout (second : Bool)
  /-- STARTUP_MEMORY_DONE (R778): Waily completes HBM training, pattern test, full self-test and SRAM clearing, then starts link training. -/
  | startupMemoryDone (badStacks : List Nat) (fails : List (Nat × Nat × Nat))
  /-- STARTUP_READY (R778): Links and calibrations complete and MBX_STATUS.STATE becomes READY. -/
  | startupReady
  /-- WAKE_COMPLETE (R700): A wake from DORMANT completes with the module READY and its HBM contents kept. -/
  | wakeComplete
  /-- BROWNOUT_RESTART (R782): After an input-voltage force-down, VIN in range for 1 s reruns step 2, or the island holds after three restarts. -/
  | brownoutRestart
  /-- PCIE_LINK_REQUEST (R775): A PERST_N rising edge or electrical-idle exit on lane 0 is a PCIe wake request. -/
  | pcieLinkRequest (perst : Bool)
  /-- HOST_ADAPTER_RESET (R773): PERST_N low, hot reset, FLR, link down or a scheduled reset resets the host adapter domain alone. -/
  | hostAdapterReset (cause : HaReset)
  /-- PCIE_LINK_EVENT (R773): A PCIe link comes up, goes down or changes width or rate. -/
  | pcieLinkEvent (speed : Nat) (width : Nat) (flit : Bool) (l0p : Bool)
  /-- SLOT_ID_CHANGE (R764): The SLOT_ID pins change after latching, setting CHANGED and recording ERR_STRAP_CHANGE. -/
  | slotIdChange (slotId : Nat)
  /-- JTAG_INSTRUCTION_LOAD (R765): An instruction is loaded into a TAP; maintenance-only codes act as BYPASS outside maintenance state. -/
  | jtagInstructionLoad (h : Nat) (code : Nat)
  /-- HOST_BAR_READ (R769): A host memory read through a BAR is served through the residual arbiters, or aborted if unbacked. -/
  | hostBarRead (bar : Nat) (barOff : Nat) (len : Nat)
  /-- HOST_BAR_WRITE (R769): A host memory write through a BAR is applied through the residual arbiters, or discarded. -/
  | hostBarWrite (bar : Nat) (barOff : Nat) (sent : List Byte)
  /-- HOST_COMPLETION_TIMEOUT (R772): A host-window completion does not arrive within HA_CPL_TMO_US and the operation fails. -/
  | hostCompletionTimeout (e : Nat) (k : Nat)
  /-- RESIDUAL_GRANT (R472): A residual arbiter grants a beat to the highest-ranked waiter, or the longest waiter every N-th grant. -/
  | residualGrant (arb : Nat) (reqs : List ResReq)
  /-- LOCK_GAP_TEAR (R477): More than 256 cycles between beats of a locked sequence tears it. -/
  | lockGapTear (arb : Nat)
  /-- REGISTER_WRITE (R14): A write to a register with no row of its own, following its access type. -/
  | registerWrite (req : Nat) (regOff : Nat) (regVal : Nat) (wide : Bool)
  /-- ROC_READ (R16): A read of an ROC register returns its value and clears it in the same access. -/
  | rocRead (req : Nat) (regOff : Nat)
  /-- HALF_WORD_READ (R18): A 32-bit read of the low word of a 64-bit register latches the high word for the requester. -/
  | halfWordRead (req : Nat) (regOff : Nat)
  /-- TB_NOW_READ (R50): A read of GEY_TB_NOW or GEY_EPOCH latches the whole 96-bit stamp. -/
  | tbNowRead (req : Nat) (ofEpoch : Bool) (wide : Bool)
  /-- SYNC_ISSUED_READ (R515): A read of SYNC_ISSUED latches all seven synchronisation book registers. -/
  | syncIssuedRead (req : Nat) (wide : Bool)
  /-- RED_EXPECTED_READ (R563): A read of RED_EXPECTED latches the reduction book registers. -/
  | redExpectedRead (req : Nat)
  /-- SIN_EXPECTED_READ (R627): A read of SIN_EXPECTED latches the Sinter book registers. -/
  | sinExpectedRead (req : Nat)
  /-- PWR_FRAME_ENERGY_READ (R676): A read of PWR_FRAME_ENERGY_NJ latches the frame tag and the per-die core energy. -/
  | pwrFrameEnergyRead (req : Nat) (wide : Bool)
  /-- RES_SHARE_WRITE (R436): A write to a share register or BG_WINDOWS, ignored with ERR_SHARE_SUM if over 200 windows. -/
  | resShareWrite (reqRank : Nat) (reg : Nat) (value : Nat)
  /-- FAB_COORD_WRITE (R528): A write of the fabric coordinate, effective only while no port is UP, DEGRADED or HELD. -/
  | fabCoordWrite (valid : Bool) (coord : Nat)
  /-- FAB_CREDIT_LIMIT_WRITE (R540): A write of a virtual channel's credit limit, effective only in the permitted states and total. -/
  | fabCreditLimitWrite (p : Nat) (vc : Nat) (limit : Nat)
  /-- PWR_GB_WRITE (R672): A write of a die's guardband, clamped to its floor with ERR_GB_FLOOR. -/
  | pwrGbWrite (h : Nat) (gb : Nat)
  /-- PWR_ALERT_CLEAR_WRITE (R695): A write of 1 to a latched alert bit, clearing it only if its source condition is absent. -/
  | pwrAlertClearWrite (bits : Nat)
  /-- SYNC_HOST_SIG_WRITE (R496): A 64-bit host or firmware write that signals a synchronisation object. -/
  | syncHostSigWrite (id : Nat) (count : Nat)
  /-- MAINT_SET_WRITE (R664): A write setting STR_CTRL.MAINT, accepted only with the sequencer EMPTY and no job. -/
  | maintSetWrite
  /-- GEYSER_TICK (R68): The time base crosses epoch plus n periods and the frame sequencer decides ADVANCE, JOIN or IDLE. -/
  | geyserTick (late : List Nat) (fec : List Nat)
  /-- IDLE_TICK (R70): With no program running, the time base crosses a multiple of 10,000 ns and an IDLE tick occurs. -/
  | idleTick (fec : List Nat)
  /-- TIME_PROBE (R54): A time-transfer probe from a neighbour is received and the offset to it computed. -/
  | timeProbe (p : Nat) (hops : Nat) (anchored : Bool) (backup : Nat) (off : Int)
  /-- TIME_ALIGN_REJECT (R58): A parent offset beyond the limit for three ticks records ERR_TIME_ALIGN and rejects that parent. -/
  | timeAlignReject
  /-- PPS_IN_EDGE (R59): A rising edge on PPS_IN is accepted or rejected against the predicted second. -/
  | ppsInEdge
  /-- PPS_OUT_EDGE (R60): At each whole second of the time base the module drives a rising edge on PPS_OUT. -/
  | ppsOutEdge
  /-- HOLDOVER_ENTER (R61): No PPS edge within 1 s plus the window puts the anchor in HOLDOVER with ERR_PPS_LOST. -/
  | holdoverEnter
  /-- HOLDOVER_EXPIRE (R63): After 60 s in HOLDOVER the anchor enters HOLDOVER_EXPIRED. -/
  | holdoverExpire
  /-- SLOT_START (R84): An engine starts slot i at the later of its START and the end of the previous slot. -/
  | slotStart (e : Nat)
  /-- GUARD_HELD_LAUNCH (R93): A cross-module message held in the tick guard is launched at cycle 256. -/
  | guardHeldLaunch
  /-- DROOP_SKIP (R97): A droop detector fires and its die skips one cycle. -/
  | droopSkip (h : Nat)
  /-- DROOP_HEAVY (R698): Skips above half the slack for eight consecutive frames record ERR_DROOP_HEAVY. -/
  | droopHeavy (h : Nat)
  /-- POWER_ALERT (R693): An alert source latches its bit and the dies fall to OP0 within 2 µs. -/
  | powerAlert (level : Nat)
  /-- CAP_FORCED (R692): Average power over the cap by 5 % at two round ticks forces OP0 and dilution level 15. -/
  | capForced
  /-- ENERGY_SAMPLE (R675): The island samples input voltage and current and adds the energy to PWR_ENERGY_NJ. -/
  | energySample (mv : Nat) (ma : Nat) (coreA : Nat) (coreB : Nat)
  /-- SENSOR_SAMPLE (R705): The island samples and filters its sensor channels and evaluates the rules. -/
  | sensorSample (samples : List (Nat × Nat))
  /-- FUMAROLE_RULE_FIRE (R708): A rule's condition holds for HOLD samples and its actions take effect. -/
  | fumaroleRuleFire (rule : Nat)
  /-- SENSOR_SNAPSHOT (R711): Every SENSOR_PERIOD the island emits three SENSOR records. -/
  | sensorSnapshot
  /-- TELEMETRY_DELIVER (R712): Buffered records are written to the host ring or sent to the fabric rank when there is room. -/
  | telemetryDeliver
  /-- PACE_REPORT (R686): A pace report arrives from a child and is combined and reported up. -/
  | paceReport (p : Nat)
  /-- PACE_DECISION (R688): A pace decision arrives from the parent and is forwarded to the children. -/
  | paceDecision (p : Nat)
  /-- SYNC_SIGNAL_APPLY (R491): A signal reaches its object and its count is added, or it is refused. -/
  | syncSignalApply (sigs : SigCycle)
  /-- SYNC_WAIT_REGISTER (R493): A wait reaches its object, is registered and is tested against the count. -/
  | syncWaitRegister (e : Nat)
  /-- SYNC_WAIT_RELEASE (R496): A release reaches the waiter and its held bundle or record proceeds. -/
  | syncWaitRelease (e : Nat)
  /-- SYNC_WAIT_TIMEOUT (R498): A wait unsatisfied at its TMO-th frame boundary expires with ERR_SYNC_TIMEOUT. -/
  | syncWaitTimeout (e : Nat)
  /-- BARRIER_REPORT (R503): A job-barrier report arrives from a child and the module reports up or the root releases. -/
  | barrierReport (p : Nat)
  /-- BARRIER_RELEASE (R503): A job-barrier release arrives, sets GEN and is forwarded to the children. -/
  | barrierRelease (p : Nat)
  /-- SYNC_BODY_ENTRY (R510): In cycle 20 of a BODY_FIRST frame the unit checks balance and restores every object. -/
  | syncBodyEntry
  /-- SYNC_PROGRAM_END_CHECK (R511): In cycle 20 of the frame after STOPPED the unit records unbalanced objects. -/
  | syncProgramEndCheck
  /-- TRANSFER_START (R456): A stream or update engine starts a transfer record once order, limit, wait and overlap conditions hold. -/
  | transferStart (e : Nat)
  /-- HBM_OPERATION_COMPLETE (R457): A memory operation leaves the operation table when its read data is written or its write is acknowledged. -/
  | hbmOperationComplete (e : Nat) (k : Nat) (ev : MemEvent)
  /-- TRANSFER_COMPLETE (R458): A transfer completes when all its operations have left the table and its signal is sent. -/
  | transferComplete (e : Nat) (k : Nat)
  /-- SEND_SEGMENT_RECEIVE (R460): A SEND segment is received, checked against its destination and written through the stream engine. -/
  | sendSegmentReceive (q : Nat) (n : Nat)
  /-- SEND_ACK_RECEIVE (R460): A SEND acknowledgement arrives and the last one completes the sender's transfer. -/
  | sendAckReceive (q : Nat)
  /-- GATHER_REQUEST_RECEIVE (R428): A gather request arrives and the owner returns data or a refusal. -/
  | gatherRequestReceive (q : Nat)
  /-- GATHER_RESPONSE_RECEIVE (R398): A gather response or refusal arrives for a shard-gather read. -/
  | gatherResponseReceive (q : Nat)
  /-- PATROL_SCRUB (R450): The patrol scrubber reads the next codeword and corrects or poisons it. -/
  | patrolScrub (inst : Nat) (ev : MemEvent)
  /-- RESIDENT_FILL_COMPLETE (R254): A tile's resident region fill completes. -/
  | residentFillComplete (t : Nat)
  /-- MESSAGE_ARRIVE (R535): A fabric message arrives at a port and is forwarded or delivered after its HCRC check. -/
  | messageArrive (p : Nat) (m : Msg) (replays : Nat)
  /-- CREDIT_RETURN (R541): A credit return arrives and the sender's available credits rise. -/
  | creditReturn (p : Nat) (vc : Nat)
  /-- LANE_FAIL (R524): A lane loses lock or exceeds its FEC limit for three frames and is dropped. -/
  | laneFail (p : Nat) (lane : Nat) (replay : Nat)
  /-- LANE_DROP_NOTICE (R524): A lane-drop notice arrives from the neighbour. -/
  | laneDropNotice (p : Nat) (lane : Nat) (replay : Nat)
  /-- PORT_SIGNAL_LOSS (R522): A port detects no signal on any lane and enters ABSENT. -/
  | portSignalLoss (p : Nat)
  /-- PORT_SIGNAL_DETECT (R522): A signal appears on an ABSENT port and it enters TRAINING. -/
  | portSignalDetect (p : Nat)
  /-- PORT_TRAINING_COMPLETE (R523): Training completes and the port enters UP, DEGRADED or HELD by the announced coordinate. -/
  | portTrainingComplete (p : Nat) (lanes : Nat) (coord : Nat) (nport : Nat)
  /-- LEDGER_AUDIT_EXCHANGE (R559): A neighbour's latched credit counters arrive and the credit book is checked. -/
  | ledgerAuditExchange (p : Nat) (rx : List Nat) (cret : List Nat) (occ : List Nat)
  /-- LEDGER_AUDIT (R558): By cycle 64 the ledger checks books 2 to 7 and records mismatches. -/
  | ledgerAudit
  /-- RED_RECORD_START (R548): A reduction half starts a record in list order when its conditions hold. -/
  | redRecordStart (h : Nat)
  /-- RED_PART_RECEIVE (R548): A reduction partial arrives and is staged, decided, folded and delivered. -/
  | redPartReceive (q : Nat) (h : Nat)
  /-- RED_DEADLINE (R549): The deadline frame ends and an entry takes a backup, an unchecked source or raises ERR_RED_MISSING. -/
  | redDeadline (h : Nat)
  /-- RED_ACK_RECEIVE (R553): A reduction acknowledgement arrives and the last completes the record. -/
  | redAckReceive (q : Nat)
  /-- COMMIT_VOTE (R596): At VOTE_CYCLE the step unit tests readiness and a ready module arrives at VOTE_BAR. -/
  | commitVote
  /-- SINTER_CAPTURE (R629): A CAPTURE slot snapshots the step record and sends it to both record holders. -/
  | sinterCapture
  /-- SINTER_RESECURE (R632): A RESECURE slot sends fresh region blocks to both parity holders in a securing body. -/
  | sinterResecure
  /-- SINTER_DELTA_RECEIVE (R622): A DELTA message is accepted and folded into the pending buffer. -/
  | sinterDeltaReceive (q : Nat)
  /-- SINTER_FRESH_RECEIVE (R622): A FRESH message is accepted and folded into the fresh buffer. -/
  | sinterFreshReceive (q : Nat)
  /-- SINTER_RECORD_RECEIVE (R629): A RECORD message is written into the alternate copy of the rank's record slot. -/
  | sinterRecordReceive (q : Nat)
  /-- SINTER_REBUILD_RECEIVE (R637): A REBUILD message delivers a rebuilt block that the target writes into its current page. -/
  | sinterRebuildReceive (q : Nat)
  /-- SINTER_COPY_RECEIVE (R636): A COPY message delivers partner bytes for restore. -/
  | sinterCopyReceive (q : Nat)
  /-- PARITY_APPLY (R623): Sinter XORs the committed pending buffer into parity granule by granule. -/
  | parityApply
  /-- SLICE_START (R654): A write of STR_SLICE starts a BIST slice on a spare tile. -/
  | sliceStart (pt : Nat) (slice : Nat) (keyLeft : Bool)
  /-- SLICE_COMPLETE (R654): A slice ends and the tile returns to SPARE on pass or enters FAILED on mismatch. -/
  | sliceComplete (pt : Nat) (pass : Bool) (misr : Nat) (rowsOk : Bool)
  /-- SLICE_BUDGET_EXPIRE (R654): A slice not finished within 2 ms is stopped and the tile enters FAILED. -/
  | sliceBudgetExpire (pt : Nat)
  /-- PREFILL_START (R645): A write of STR_PREFILL starts copying a resident image into a spare tile. -/
  | prefillStart (pt : Nat) (pos : Nat)
  /-- PREFILL_COMPLETE (R645): The prefill copy completes and PREFILLED is set. -/
  | prefillComplete
  /-- ROWMAP_WRITE (R661): A write of STR_ROWMAP_WR sets a tile's cube-row map and feed delays. -/
  | rowmapWrite (pt : Nat) (dly : Nat) (rowmap : Nat)
  /-- SPARE_LANE_TEST (R658): Every 60 s the spare lane circuit finishes its PRBS31 loopback test. -/
  | spareLaneTest (p : Nat) (bitError : Bool)
  /-- DROPPED_LANE_TEST_END (R658): The 1 ms loopback test of a dropped lane circuit ends. -/
  | droppedLaneTestEnd (p : Nat) (lane : Nat) (failed : Bool)
  /-- LANE_REPAIR_TRAINED (R662): The spare lane circuit completes training and the lane is added back. -/
  | laneRepairTrained (p : Nat)
  /-- NOP (R300): A NOP in any bundle slot. -/
  | nop (t : Nat) (slot : BundleSlot) (b : Beside)
  /-- FADD (R309): A-slot floating-point addition. -/
  | fadd (t : Nat) (w : BitVec 36) (b : Beside)
  /-- FSUB (R309): A-slot floating-point subtraction. -/
  | fsub (t : Nat) (w : BitVec 36) (b : Beside)
  /-- FMUL (R309): A-slot floating-point multiplication. -/
  | fmul (t : Nat) (w : BitVec 36) (b : Beside)
  /-- FMA (R309): A-slot fused multiply-add with one rounding. -/
  | fma (t : Nat) (w : BitVec 36) (b : Beside)
  /-- FNMA (R309): A-slot negated fused multiply-add with one rounding. -/
  | fnma (t : Nat) (w : BitVec 36) (b : Beside)
  /-- FMIN (R311): A-slot IEEE minimum. -/
  | fmin (t : Nat) (w : BitVec 36) (b : Beside)
  /-- FMAX (R311): A-slot IEEE maximum. -/
  | fmax (t : Nat) (w : BitVec 36) (b : Beside)
  /-- FABS (R309): A-slot absolute value. -/
  | fabs (t : Nat) (w : BitVec 36) (b : Beside)
  /-- FNEG (R309): A-slot negation. -/
  | fneg (t : Nat) (w : BitVec 36) (b : Beside)
  /-- FCPYS (R309): A-slot copy-sign. -/
  | fcpys (t : Nat) (w : BitVec 36) (b : Beside)
  /-- FMANT (R312): A-slot significand in [1, 2). -/
  | fmant (t : Nat) (w : BitVec 36) (b : Beside)
  /-- FMANT2 (R312): A-slot significand in [1, 4) with even exponent shift. -/
  | fmant2 (t : Nat) (w : BitVec 36) (b : Beside)
  /-- FRND (R313): A-slot round to integral value. -/
  | frnd (t : Nat) (w : BitVec 36) (b : Beside)
  /-- FSCALE (R313): A-slot scaling by a power of two from a scalar. -/
  | fscale (t : Nat) (w : BitVec 36) (b : Beside)
  /-- FDIV_FIN (R326): A-slot final division checking the estimate and delivering the rounded quotient. -/
  | fdivFin (t : Nat) (w : BitVec 36) (b : Beside)
  /-- FSQRT_FIN (R326): A-slot final square root checking the estimate and delivering the rounded root. -/
  | fsqrtFin (t : Nat) (w : BitVec 36) (b : Beside)
  /-- MOV (R309): A-slot bit copy. -/
  | mov (t : Nat) (w : BitVec 36) (b : Beside)
  /-- SEL (R316): A-slot selection by predicate. -/
  | sel (t : Nat) (w : BitVec 36) (b : Beside)
  /-- IADD (R314): A-slot INT32 addition fitted under OVF. -/
  | iadd (t : Nat) (w : BitVec 36) (b : Beside)
  /-- ISUB (R314): A-slot INT32 subtraction fitted under OVF. -/
  | isub (t : Nat) (w : BitVec 36) (b : Beside)
  /-- IMUL (R314): A-slot INT32 multiplication fitted under OVF. -/
  | imul (t : Nat) (w : BitVec 36) (b : Beside)
  /-- IMIN (R309): A-slot signed minimum. -/
  | imin (t : Nat) (w : BitVec 36) (b : Beside)
  /-- IMAX (R309): A-slot signed maximum. -/
  | imax (t : Nat) (w : BitVec 36) (b : Beside)
  /-- AND (R314): A-slot bitwise and. -/
  | and (t : Nat) (w : BitVec 36) (b : Beside)
  /-- OR (R314): A-slot bitwise or. -/
  | or (t : Nat) (w : BitVec 36) (b : Beside)
  /-- XOR (R314): A-slot bitwise exclusive or. -/
  | xor (t : Nat) (w : BitVec 36) (b : Beside)
  /-- SHL (R309): A-slot left shift. -/
  | shl (t : Nat) (w : BitVec 36) (b : Beside)
  /-- SHR (R309): A-slot logical right shift. -/
  | shr (t : Nat) (w : BitVec 36) (b : Beside)
  /-- SRA (R309): A-slot arithmetic right shift. -/
  | sra (t : Nat) (w : BitVec 36) (b : Beside)
  /-- FCMP_EQ (R315): A-slot quiet equality comparison into a predicate. -/
  | fcmpEq (t : Nat) (w : BitVec 36) (b : Beside)
  /-- FCMP_LT (R315): A-slot less-than comparison into a predicate. -/
  | fcmpLt (t : Nat) (w : BitVec 36) (b : Beside)
  /-- FCMP_LE (R315): A-slot less-or-equal comparison into a predicate. -/
  | fcmpLe (t : Nat) (w : BitVec 36) (b : Beside)
  /-- FCMP_UN (R315): A-slot unordered comparison into a predicate. -/
  | fcmpUn (t : Nat) (w : BitVec 36) (b : Beside)
  /-- ICMP_EQ (R315): A-slot integer equality into a predicate. -/
  | icmpEq (t : Nat) (w : BitVec 36) (b : Beside)
  /-- ICMP_LT (R315): A-slot signed less-than into a predicate. -/
  | icmpLt (t : Nat) (w : BitVec 36) (b : Beside)
  /-- RMAX (R317): A-slot row maximum written into every element of the row. -/
  | rmax (t : Nat) (w : BitVec 36) (b : Beside)
  /-- RMIN (R317): A-slot row minimum written into every element of the row. -/
  | rmin (t : Nat) (w : BitVec 36) (b : Beside)
  /-- BCOL (R317): A-slot broadcast of a column across each row. -/
  | bcol (t : Nat) (w : BitVec 36) (b : Beside)
  /-- RED_ADD (R318): A-slot row reduction adding row elements into a wide row accumulator. -/
  | redAdd (t : Nat) (w : BitVec 36) (b : Beside)
  /-- RED_SQ (R318): A-slot row reduction adding squares into a wide row accumulator. -/
  | redSq (t : Nat) (w : BitVec 36) (b : Beside)
  /-- RED_CSQ (R318): A-slot row reduction adding squared differences into a wide row accumulator. -/
  | redCsq (t : Nat) (w : BitVec 36) (b : Beside)
  /-- RED_GET (R318): A-slot rounding of a wide row accumulator into one column. -/
  | redGet (t : Nat) (w : BitVec 36) (b : Beside)
  /-- RED_CLR (R318): A-slot clear of a wide row accumulator and its lost marks. -/
  | redClr (t : Nat) (w : BitVec 36) (b : Beside)
  /-- CVT (R319): A-slot conversion between formats with scaling and statistics. -/
  | cvt (t : Nat) (w : BitVec 36) (b : Beside)
  /-- SEED (R329): F-slot seed function from the seed tables. -/
  | seed (t : Nat) (w : BitVec 19) (b : Beside)
  /-- SCAN_LR (R379): F-slot linear-recurrence scan along each row with carry. -/
  | scanLr (t : Nat) (w : BitVec 19) (b : Beside)
  /-- SCAN_CGET (R330): F-slot copy of a carry register into a register column. -/
  | scanCget (t : Nat) (w : BitVec 19) (b : Beside)
  /-- SCAN_CPUT (R330): F-slot copy of a register column into a carry register. -/
  | scanCput (t : Nat) (w : BitVec 19) (b : Beside)
  /-- LD (R332): M-slot load of rows from the operand cache into a tile register. -/
  | ld (t : Nat) (w : BitVec 26) (b : Beside)
  /-- ST (R332): M-slot store of tile-register rows to the operand cache. -/
  | st (t : Nat) (w : BitVec 26) (b : Beside)
  /-- FTQ_POP (R270): M-slot pop of the oldest posted FTQ entry into a register. -/
  | ftqPop (t : Nat) (w : BitVec 26) (b : Beside)
  /-- AWIN_RD (R286): M-slot read of an accumulator bank through the compatibility window. -/
  | awinRd (t : Nat) (w : BitVec 26) (b : Beside)
  /-- AWIN_CLR (R287): M-slot clear of an accumulator bank through the compatibility window. -/
  | awinClr (t : Nat) (w : BitVec 26) (b : Beside)
  /-- LDS (R335): M-slot load of a granule into four scalar registers. -/
  | lds (t : Nat) (w : BitVec 26) (b : Beside)
  /-- STS (R335): M-slot store of four scalar registers as a granule. -/
  | sts (t : Nat) (w : BitVec 26) (b : Beside)
  /-- VE_END (R343): C-slot marker of the last bundle of a slot. -/
  | veEnd (t : Nat) (w : BitVec 27) (b : Beside)
  /-- BR (R342): C-slot conditional branch. -/
  | br (t : Nat) (w : BitVec 27) (b : Beside)
  /-- SALU (R338): C-slot 64-bit scalar or address operation selected by SOP. -/
  | salu (t : Nat) (w : BitVec 27) (b : Beside)
  /-- LI (R340): C-slot load of a sign-extended immediate. -/
  | li (t : Nat) (w : BitVec 25) (b : Beside)
  /-- ADDI (R340): C-slot addition of a sign-extended immediate. -/
  | addi (t : Nat) (w : BitVec 25) (b : Beside)
  /-- LSH16 (R340): C-slot shift left by 16 and insertion of an immediate. -/
  | lsh16 (t : Nat) (w : BitVec 25) (b : Beside)
  /-- AGET (R340): C-slot copy of an address register into a scalar register. -/
  | aget (t : Nat) (w : BitVec 25) (b : Beside)
  /-- PRED (R341): C-slot predicate operation or mask generation. -/
  | pred (t : Nat) (w : BitVec 27) (b : Beside)
  /-- SYNC_SIG (R346): C-slot signal of a synchronisation object, optionally fenced. -/
  | syncSig (t : Nat) (w : BitVec 27) (b : Beside)
  /-- SYNC_WAIT (R344): C-slot wait on a synchronisation object that holds the bundle. -/
  | syncWait (t : Nat) (w : BitVec 27) (b : Beside)
  /-- FLAGS_RD (R347): C-slot read of VE_FLAGS into a scalar register. -/
  | flagsRd (t : Nat) (w : BitVec 27) (b : Beside)
  /-- FLAGS_CLR (R347): C-slot clear of the flags named by a mask. -/
  | flagsClr (t : Nat) (w : BitVec 27) (b : Beside)
  /-- CAL_WLOAD (R187): C-slot command queuing a weight-set load. -/
  | calWload (t : Nat) (w : BitVec 27) (b : Beside)
  /-- CAL_WLOAD_START (R794): A weight load starts in the weight loader after its waits and checks. -/
  | calWloadStart (t : Nat)
  /-- WEIGHT_SET_LOADED (R188): A weight load ends and the set becomes LOADED. -/
  | weightSetLoaded (t : Nat)
  /-- CAL_MM (R199): C-slot command queuing a matrix multiply. -/
  | calMm (t : Nat) (w : BitVec 27) (b : Beside)
  /-- CAL_MM_START (R794): A matrix multiply starts in the feed sequencer after its waits and checks. -/
  | calMmStart (t : Nat)
  /-- CAL_MM_COMPLETE (R220): The last step of a matrix multiply is summed and the bank becomes HELD. -/
  | calMmComplete (t : Nat) (fault : CalFault)
  /-- CAL_ACCLOAD (R199): C-slot command queuing an accumulator load. -/
  | calAccload (t : Nat) (w : BitVec 27) (b : Beside)
  /-- CAL_ACCLOAD_START (R794): An accumulator load starts in the bank port. -/
  | calAccloadStart (t : Nat)
  /-- CAL_ACCLOAD_COMPLETE (R212): An accumulator load ends with C written exactly into the bank. -/
  | calAccloadComplete (done : BankEnd)
  /-- CAL_DRAIN (R199): C-slot command queuing a drain of a bank. -/
  | calDrain (t : Nat) (w : BitVec 27) (b : Beside)
  /-- CAL_DRAIN_START (R213): A drain starts when its bank is HELD and its FTQ tokens are free. -/
  | calDrainStart (t : Nat)
  /-- CAL_DRAIN_POST (R213): A drain posts its rounded FTQ entry or finishes its WIDE write. -/
  | calDrainPost (post : DrainEnd)
  /-- VENT_MV (R199): C-slot command queuing a Vent path multiply. -/
  | ventMv (t : Nat) (w : BitVec 27) (b : Beside)
  /-- VENT_MV_START (R234): A Vent multiply starts and consumes stream-buffer chunks. -/
  | ventMvStart (t : Nat)
  /-- VENT_MV_COMPLETE (R234): A Vent multiply's last sums reach the bank. -/
  | ventMvComplete (done : BankEnd)
  /-- UE_NOP (R588): Update-engine no-operation. -/
  | ueNop (n : Nat) (w : BitVec 58)
  /-- UE_LD (R588): Update-engine load of a stream segment into a vector register. -/
  | ueLd (n : Nat) (w : BitVec 58)
  /-- UE_ST (R588): Update-engine store of a vector register into a stream segment. -/
  | ueSt (n : Nat) (w : BitVec 58)
  /-- UE_SCALEW (R588): Update-engine write of NEXT_SCALE into a tensor scale byte. -/
  | ueScalew (n : Nat) (w : BitVec 58)
  /-- UE_FADD (R589): Update-engine vector addition. -/
  | ueFadd (n : Nat) (w : BitVec 58)
  /-- UE_FSUB (R589): Update-engine vector subtraction. -/
  | ueFsub (n : Nat) (w : BitVec 58)
  /-- UE_FMUL (R589): Update-engine vector multiplication. -/
  | ueFmul (n : Nat) (w : BitVec 58)
  /-- UE_FMA (R589): Update-engine vector fused multiply-add. -/
  | ueFma (n : Nat) (w : BitVec 58)
  /-- UE_FNMA (R589): Update-engine vector negated fused multiply-add. -/
  | ueFnma (n : Nat) (w : BitVec 58)
  /-- UE_FDIV (R589): Update-engine vector division. -/
  | ueFdiv (n : Nat) (w : BitVec 58)
  /-- UE_FSQRT (R589): Update-engine vector square root. -/
  | ueFsqrt (n : Nat) (w : BitVec 58)
  /-- UE_FMIN (R589): Update-engine vector minimum. -/
  | ueFmin (n : Nat) (w : BitVec 58)
  /-- UE_FMAX (R589): Update-engine vector maximum. -/
  | ueFmax (n : Nat) (w : BitVec 58)
  /-- UE_SQACC (R589): Update-engine accumulation of squares into the norm accumulator. -/
  | ueSqacc (n : Nat) (w : BitVec 58)
  /-- UE_SADD (R589): Update-engine scalar FP64 addition. -/
  | ueSadd (n : Nat) (w : BitVec 58)
  /-- UE_SMUL (R589): Update-engine scalar FP64 multiplication. -/
  | ueSmul (n : Nat) (w : BitVec 58)
  /-- UE_SFMA (R589): Update-engine scalar FP64 fused multiply-add. -/
  | ueSfma (n : Nat) (w : BitVec 58)
  /-- UE_SDIV (R589): Update-engine scalar FP64 division. -/
  | ueSdiv (n : Nat) (w : BitVec 58)
  /-- UE_SSQRT (R589): Update-engine scalar FP64 square root. -/
  | ueSsqrt (n : Nat) (w : BitVec 58)
  /-- UE_SPOWI (R589): Update-engine scalar integer power by repeated squaring. -/
  | ueSpowi (n : Nat) (w : BitVec 58)
  /-- SINTER_RECORD_ACKNOWLEDGED (R629): A record holder's acknowledgement of a RECORD message reaches the capturing module, and the CAPTURE slot ends once both holders have acknowledged. -/
  | sinterRecordAcknowledged (q : Nat)
deriving DecidableEq, Repr

end Sys2Proof
end

