-- ==== Sys2Proof/Machine/Table.lean ====
section
/-! DEFINITION. Reading and writing sparse tables and memory. The value an unlisted key reads as is an argument,
so that a table that holds nothing reads as its reset value everywhere. -/

set_option autoImplicit false

namespace Sys2Proof.Machine

open Sys2Proof

/-- The value at key `k`; `d` where the table lists none. -/
def tabGet {α : Type} (d : α) (k : Nat) : Tab α → α
  | [] => d
  | (j, v) :: r => if j = k then v else tabGet d k r

/-- The table with `v` listed at `k`, in key order. -/
def tabPut {α : Type} (k : Nat) (v : α) : Tab α → Tab α
  | [] => [(k, v)]
  | (j, w) :: r =>
    if k < j then (k, v) :: (j, w) :: r
    else if k = j then (k, v) :: r
    else (j, w) :: tabPut k v r

/-- The table with nothing listed at `k`. -/
def tabDel {α : Type} (k : Nat) : Tab α → Tab α
  | [] => []
  | (j, w) :: r => if j = k then tabDel k r else (j, w) :: tabDel k r

/-- The table that reads as `v` at `k` and as before elsewhere; it lists `k` only when `v` is not the value `d` that
an unlisted key reads as. -/
def tabSet {α : Type} [DecidableEq α] (d : α) (k : Nat) (v : α) (t : Tab α) : Tab α :=
  if v = d then tabDel k t else tabPut k v t

/-- Keys strictly rising from above `lo`. -/
def tabRising {α : Type} : Option Nat → Tab α → Bool
  | _, [] => true
  | none, (j, _) :: r => tabRising (some j) r
  | some lo, (j, _) :: r => decide (lo < j) && tabRising (some j) r

/-- No entry equal to `d`. -/
def tabNone {α : Type} [DecidableEq α] (d : α) : Tab α → Bool
  | [] => true
  | (_, v) :: r => decide (v ≠ d) && tabNone d r

/-- The canonical form of a table whose unlisted keys read as `d`. -/
def tabWf {α : Type} [DecidableEq α] (d : α) (t : Tab α) : Bool :=
  tabRising none t && tabNone d t

/-- The byte that an unlisted memory address reads as. -/
def memDefault : Byte := 0

/-- The byte at address `a`. -/
def memGet (m : Memory) (a : Nat) : Byte := tabGet memDefault a m

/-- Memory with byte `b` at address `a`. -/
def memSet (m : Memory) (a : Nat) (b : Byte) : Memory := tabSet memDefault a b m

/-- The canonical form of memory. -/
abbrev Memory.wf (m : Memory) : Bool := tabWf memDefault m

/-- The bytes at addresses `a` to `a + n - 1`. -/
def memBytes (m : Memory) : Nat → Nat → List Byte
  | _, 0 => []
  | a, n + 1 => memGet m a :: memBytes m (a + 1) n

/-- Memory with the bytes `bs` from address `a` on. -/
def memWrite (m : Memory) (a : Nat) : List Byte → Memory
  | [] => m
  | b :: bs => memWrite (memSet m a b) (a + 1) bs

/-- Little-endian value of bytes (R8). -/
def leNat : List Byte → Nat
  | [] => 0
  | b :: bs => b.toNat + 256 * leNat bs

/-- The `n` little-endian bytes of a value (R8). -/
def leBytes : Nat → Nat → List Byte
  | 0, _ => []
  | n + 1, v => BitVec.ofNat 8 v :: leBytes n (v / 256)

/-- Little-endian value of `n` bytes at `a`. -/
def memNat (m : Memory) (a n : Nat) : Nat := leNat (memBytes m a n)

/-- Bits hi down to lo of a number (R7). -/
def bitsOf (v hi lo : Nat) : Nat := v / 2 ^ lo % 2 ^ (hi + 1 - lo)

/-- Bit n of a number. -/
def bitOf (v n : Nat) : Bool := v.testBit n

/-- The number with bits hi down to lo replaced by f. -/
def setBits (v hi lo f : Nat) : Nat :=
  v - bitsOf v hi lo * 2 ^ lo + f % 2 ^ (hi + 1 - lo) * 2 ^ lo

/-- 1 for true. -/
def b2n (b : Bool) : Nat := if b then 1 else 0

/-- Two's-complement reading of the low w bits. -/
def toSigned (w v : Nat) : Int :=
  let m := v % 2 ^ w
  if m < 2 ^ (w - 1) then (m : Int) else (m : Int) - 2 ^ w

/-- The low w bits of an integer. -/
def ofSigned (w : Nat) (v : Int) : Nat := (v % (2 ^ w : Int)).toNat

/-- Value clamped to a range. -/
def clampNat (lo hi v : Nat) : Nat := if v < lo then lo else if hi < v then hi else v

/-- List with element i replaced. -/
def setAt {α : Type} (l : List α) (i : Nat) (v : α) : List α := l.set i v

/-- The list without its first element that satisfies p. -/
def dropFirst {α : Type} (p : α → Bool) : List α → List α
  | [] => []
  | x :: r => if p x then r else x :: dropFirst p r

end Sys2Proof.Machine
end

