-- ==== Sys2Proof/Machine/Crc.lean ====
section
/-! DEFINITION. The CRCs of R465, and the bytes and HCRC of a fabric message (R537). -/

set_option autoImplicit false

namespace Sys2Proof.Machine

open Sys2Proof

/-- One bit of a reflected CRC. -/
def crcBit (poly c : Nat) : Nat := if c % 2 = 1 then (c / 2) ^^^ poly else c / 2

/-- One byte of a reflected CRC. -/
def crcByte (poly c : Nat) (b : Byte) : Nat :=
  let c := c ^^^ b.toNat
  crcBit poly (crcBit poly (crcBit poly (crcBit poly (crcBit poly (crcBit poly (crcBit poly (crcBit poly c)))))))

/-- The reflected CRC of bytes, initial value and final XOR 0xFFFF_FFFF (R465). -/
def crcOf (poly : Nat) (bs : List Byte) : Nat := bs.foldl (crcByte poly) 0xFFFFFFFF ^^^ 0xFFFFFFFF

/-- CRC-32, polynomial 0x04C1_1DB7 reflected (R465). -/
def crc32 (bs : List Byte) : Nat := crcOf 0xEDB88320 bs

/-- CRC-32C, polynomial 0x1EDC_6F41 reflected (R465). -/
def crc32c (bs : List Byte) : Nat := crcOf 0x82F63B78 bs

/-- The CRC a transfer's CRC_POLY selects. -/
def crcPoly (p : Nat) (bs : List Byte) : Nat := if p = 1 then crc32 bs else crc32c bs

/-- The extension's bytes (R537). -/
def sendExtBytes (e : SendExt) : List Byte :=
  ((List.range 6).flatMap fun i => leBytes 4 (e.sizes.getD i 0)) ++ leBytes 1 e.etype ++ leBytes 1 e.rank ++ leBytes 6 0

/-- Bytes 0x00 to 0x1B of the header (R537). -/
def msgHeader (m : Msg) : List Byte :=
  leBytes 1 m.kind ++ leBytes 1 (m.vc % 4 + b2n m.first * 4 + b2n m.last * 8) ++ leBytes 2 m.tag ++ leBytes 2 m.dst ++
    leBytes 2 m.src ++ leBytes 2 m.payload.length ++ leBytes 1 m.unit ++ leBytes 1 0 ++ leBytes 4 m.obj ++
    leBytes 4 m.index ++ leBytes 8 m.aux

/-- HCRC: CRC-32C over the header, the extension and the payload (R537). -/
def msgCrc (m : Msg) : Nat :=
  crc32c (msgHeader m ++ (match m.ext with | some e => sendExtBytes e | none => []) ++ m.payload)

/-- The virtual channel of a kind (R538); `none` for a reserved kind. -/
def kindVc : Nat → Option Nat
  | 1 => some 1 | 2 => some 0 | 3 => some 0 | 4 => some 1 | 5 => some 2 | 6 => some 0 | 7 => some 0 | 8 => some 0
  | 9 => some 2 | 10 => some 3 | _ => none

end Sys2Proof.Machine
end

