-- ==== Sys2Proof/Machine/Flags.lean ====
section
/-! DEFINITION. The sticky flag word FLAGS (R173): its bits, and how flags of several elements combine. -/

set_option autoImplicit false

namespace Sys2Proof.Machine

/-- A set of flags, in the bit positions of R173. -/
abbrev FlagSet := BitVec 32

/-- invalid operation, bit 0 -/
def fNV : FlagSet := 0x1#32
/-- division by zero, bit 1 -/
def fDZ : FlagSet := 0x2#32
/-- overflow, or saturation of an infinity, bit 2 -/
def fOF : FlagSet := 0x4#32
/-- underflow, bit 3 -/
def fUF : FlagSet := 0x8#32
/-- inexact, bit 4 -/
def fIX : FlagSet := 0x10#32
/-- an integer result did not fit, bit 5 -/
def fIOV : FlagSet := 0x20#32
/-- a NaN block scale was decoded, bit 6 -/
def fSCNAN : FlagSet := 0x40#32
/-- a microscaled element saturated, bit 7 -/
def fCLAMP : FlagSet := 0x80#32
/-- EMPTY_SOFTMAX, bit 8 -/
def fEMPTY : FlagSet := 0x100#32
/-- no flag -/
def fNone : FlagSet := 0#32

/-- The flag when the condition holds. -/
def flagIf (c : Bool) (f : FlagSet) : FlagSet := if c then f else fNone

/-- A flag raised by any element is ORed into the word (R173). -/
def flagsOr (l : List FlagSet) : FlagSet := l.foldl (· ||| ·) fNone

end Sys2Proof.Machine
end

