-- ==== Sys2Proof/Machine/Numeric.lean ====
section
/-! DEFINITION. Number formats, rounding and conversion (03, R113-R162): element types, exact values, the one rounding
procedure of R131, overflow, the arithmetic of R145, conversions, block scales and the draw of stochastic rounding.

An exact value is a sign, a whole number times a power of two, and a mark for a non-zero rest below the last bit
(division and square root give one; they keep enough bits that every rounding of R131 is decided). -/

set_option autoImplicit false

namespace Sys2Proof.Machine

open Sys2Proof

/-- Element types (R113). -/
inductive ElemType where
  | fp64 | fp32 | bf16 | fp16 | e4m3 | e5m2 | e2m3 | e2m1 | int8 | int4 | int32 | e8m0
deriving DecidableEq, Repr

/-- The type a 4-bit code names; `none` for the reserved codes 0xB and 0xD to 0xF (R113). -/
def ElemType.ofCode : Nat → Option ElemType
  | 0 => some .fp64 | 1 => some .fp32 | 2 => some .bf16 | 3 => some .fp16 | 4 => some .e4m3 | 5 => some .e5m2
  | 6 => some .e2m3 | 7 => some .e2m1 | 8 => some .int8 | 9 => some .int4 | 10 => some .int32 | 12 => some .e8m0
  | _ => none

/-- Width in bits (R113). -/
def ElemType.width : ElemType → Nat
  | .fp64 => 64 | .fp32 => 32 | .bf16 => 16 | .fp16 => 16 | .e4m3 => 8 | .e5m2 => 8 | .e2m3 => 6 | .e2m1 => 4
  | .int8 => 8 | .int4 => 4 | .int32 => 32 | .e8m0 => 8

/-- Narrow formats (R115). -/
def ElemType.narrow : ElemType → Bool
  | .e4m3 | .e5m2 | .e2m3 | .e2m1 | .int8 | .int4 => true
  | _ => false

/-- The integer formats (R123). -/
def ElemType.isInt : ElemType → Bool
  | .int8 | .int4 | .int32 => true
  | _ => false

/-- The formats that can be microscaled (R153). -/
def ElemType.micro : ElemType → Bool
  | .e4m3 | .e5m2 | .e2m3 | .e2m1 | .int8 => true
  | _ => false

/-- A floating-point format (R116): width of the significand field, bias, the magnitude code of MAXFIN, of infinity,
of the default NaN, and whether NaNs carry a payload (IEEE style, R117). -/
structure Fmt where
  t : Nat
  w : Nat
  bias : Nat
  maxFin : Nat
  inf : Option Nat
  nan : Option Nat
  ieee : Bool
deriving DecidableEq, Repr

/-- FP64 (R116). -/
def fmt64 : Fmt := ⟨52, 11, 1023, 0x7FEFFFFFFFFFFFFF, some 0x7FF0000000000000, some 0x7FF8000000000000, true⟩
/-- FP32 (R116). -/
def fmt32 : Fmt := ⟨23, 8, 127, 0x7F7FFFFF, some 0x7F800000, some 0x7FC00000, true⟩
/-- BF16 (R116). -/
def fmtBf : Fmt := ⟨7, 8, 127, 0x7F7F, some 0x7F80, some 0x7FC0, true⟩
/-- FP16 (R116). -/
def fmt16 : Fmt := ⟨10, 5, 15, 0x7BFF, some 0x7C00, some 0x7E00, true⟩
/-- E4M3 (R116, R118). -/
def fmtE4M3 : Fmt := ⟨3, 4, 7, 0x7E, none, some 0x7F, false⟩
/-- E5M2 (R116). -/
def fmtE5M2 : Fmt := ⟨2, 5, 15, 0x7B, some 0x7C, some 0x7E, true⟩
/-- E2M3 (R116, R119). -/
def fmtE2M3 : Fmt := ⟨3, 2, 1, 0x1F, none, none, false⟩
/-- E2M1 (R116, R119). -/
def fmtE2M1 : Fmt := ⟨1, 2, 1, 0x7, none, none, false⟩

/-- The format of a floating-point element type. -/
def ElemType.fmt : ElemType → Option Fmt
  | .fp64 => some fmt64 | .fp32 => some fmt32 | .bf16 => some fmtBf | .fp16 => some fmt16 | .e4m3 => some fmtE4M3
  | .e5m2 => some fmtE5M2 | .e2m3 => some fmtE2M3 | .e2m1 => some fmtE2M1 | _ => none

/-- Bits of a value of the format, sign included. -/
def Fmt.bits (f : Fmt) : Nat := f.t + f.w + 1

/-- The sign bit as a number to add to a magnitude code. -/
def Fmt.signed (f : Fmt) (neg : Bool) (mag : Nat) : Nat := if neg then 2 ^ (f.t + f.w) + mag else mag

/-- An exact value: (−1)^neg × (man + rest) × 2^exp, 0 ≤ rest < 1, rest ≠ 0 exactly when `rest` is set. -/
structure Ex where
  neg : Bool
  man : Nat
  exp : Int
  rest : Bool
deriving DecidableEq, Repr

/-- A decoded operand: a NaN with its sign, payload below the quiet bit as a fraction of 52 bits, and whether it
signals; an infinity; or an exact finite value. -/
inductive Num where
  | nan (neg : Bool) (payload : Nat) (signalling : Bool)
  | inf (neg : Bool)
  | fin (x : Ex)
deriving DecidableEq, Repr

/-- Zero with a sign. -/
def exZero (neg : Bool) : Ex := ⟨neg, 0, 0, false⟩

/-- An integer as an exact value. -/
def exInt (v : Int) : Ex := ⟨decide (v < 0), v.natAbs, 0, false⟩

/-- Value of a bit pattern in a floating-point format (R116-R120). -/
def Fmt.decode (f : Fmt) (b : Nat) : Num :=
  let neg := bitOf b (f.t + f.w)
  let mag := b % 2 ^ (f.t + f.w)
  let e := mag / 2 ^ f.t
  let m := mag % 2 ^ f.t
  if f.inf = some mag then .inf neg
  else if f.ieee && decide (f.maxFin < mag) then
    .nan neg (m % 2 ^ (f.t - 1) * 2 ^ (52 - f.t)) (!bitOf m (f.t - 1))
  else if !f.ieee && decide (f.nan = some mag) then .nan neg 0 false
  else if e = 0 then .fin ⟨neg, m, 1 - (f.bias : Int) - f.t, false⟩
  else .fin ⟨neg, 2 ^ f.t + m, (e : Int) - f.bias - f.t, false⟩

/-- Value of an element (R113, R121, R123). -/
def ElemType.decode (ty : ElemType) (b : Nat) : Num :=
  match ty.fmt with
  | some f => f.decode b
  | none =>
    if ty = .e8m0 then
      if b % 256 = 255 then .nan false 0 false else .fin ⟨false, 1, (b % 256 : Nat) - (127 : Int), false⟩
    else .fin (exInt (toSigned ty.width b))

/-- Rounding modes (R129). -/
inductive Rnd where
  | rne | rtz | rup | rdn | sr
deriving DecidableEq, Repr

/-- The mode a 3-bit rounding code names; `none` for 5 to 7 (R129). -/
def Rnd.ofCode : Nat → Option Rnd
  | 0 => some .rne | 1 => some .rtz | 2 => some .rup | 3 => some .rdn | 4 => some .sr | _ => none

/-- Whether a magnitude lo + d, 0 < d < q, rounds up (R131, R133): `odd` says that lo/q is odd, d stands against q as
num (+ rest) against 2^sh, r is the 24-bit draw. -/
def roundsUp (m : Rnd) (r : Nat) (neg odd : Bool) (num : Nat) (rest : Bool) (sh : Nat) : Bool :=
  match m with
  | .rne =>
    let half := 2 ^ (sh - 1)
    decide (half < num) || (decide (num = half) && (rest || odd))
  | .rtz => false
  | .rup => !neg
  | .rdn => neg
  | .sr => decide (2 ^ 24 ≤ num * 2 ^ 24 / 2 ^ sh + r)

/-- An exact magnitude rounded to a whole multiple of 2^qe (R131): the multiple, and whether it differs. -/
def roundAt (m : Rnd) (r : Nat) (x : Ex) (qe : Int) : Nat × Bool :=
  if qe ≤ x.exp then (x.man * 2 ^ (x.exp - qe).toNat, x.rest)
  else
    -- beyond the leading bit and the 24 fraction bits a longer shift decides nothing differently
    let sh := min (qe - x.exp).toNat (Nat.log2 x.man + 40)
    let lo := x.man / 2 ^ sh
    let num := x.man % 2 ^ sh
    if num = 0 && !x.rest then (lo, false)
    else (if roundsUp m r x.neg (decide (lo % 2 = 1)) num x.rest sh then lo + 1 else lo, true)

/-- A value rounded to a format with an unbounded exponent range above (R131, R134): its magnitude code E·2^t + T
(which exceeds the code of MAXFIN exactly when the result overflows), whether it is inexact and whether it is tiny
(R132). -/
structure Rounded where
  mag : Nat
  inexact : Bool
  tiny : Bool
deriving DecidableEq, Repr

/-- Rounding to a format (R131, R132). -/
def Fmt.roundMag (f : Fmt) (m : Rnd) (r : Nat) (x : Ex) : Rounded :=
  if x.man = 0 && !x.rest then ⟨0, false, false⟩
  else
    let emin : Int := 1 - f.bias
    let top : Int := (Nat.log2 x.man : Nat) + x.exp
    let e := if top < emin then emin else top
    let qe := e - f.t
    let (n, ix) := roundAt m r x qe
    -- n·2^qe: n < 2^t is subnormal (qe is then the lowest quantum); n = 2^(t+1) has carried
    if n < 2 ^ f.t then ⟨n, ix, true⟩
    else if n < 2 ^ (f.t + 1) then ⟨(e + f.bias).toNat * 2 ^ f.t + (n - 2 ^ f.t), ix, false⟩
    else ⟨(e + 1 + f.bias).toNat * 2 ^ f.t, ix, false⟩

/-- Where IEEE 754-2019 gives an infinity on overflow (R135); under SR when the draw rounds the magnitude up. -/
def overflowToInf (m : Rnd) (neg : Bool) (srUp : Bool) : Bool :=
  match m with
  | .rne => true
  | .rtz => false
  | .rup => !neg
  | .rdn => neg
  | .sr => srUp

/-- Whether the draw rounds an overflowing magnitude up: the rounded magnitude differs from what RTZ gives. -/
def srRoundedUp (f : Fmt) (r : Nat) (x : Ex) : Bool :=
  decide ((f.roundMag .sr r x).mag ≠ (f.roundMag .rtz 0 x).mag)

/-- The default NaN of a format; +0 where the format has none (R142, R149). -/
def Fmt.defaultNan (f : Fmt) : Nat := f.nan.getD 0

/-- A finite exact value delivered into a format under a mode and a SAT field (R131-R136): bits and flags. -/
def Fmt.deliver (f : Fmt) (m : Rnd) (r : Nat) (sat : Bool) (x : Ex) : Nat × FlagSet :=
  let v := f.roundMag m r x
  if f.maxFin < v.mag then
    let toInf := overflowToInf m x.neg (srRoundedUp f r x)
    let mag :=
      if toInf && !sat then
        match f.inf, f.nan with
        | some i, _ => f.signed x.neg i
        | none, some n => n
        | none, none => f.signed x.neg f.maxFin
      else f.signed x.neg f.maxFin
    (mag, fOF ||| fIX)
  else (f.signed x.neg v.mag, flagIf v.inexact fIX ||| flagIf (v.tiny && v.inexact) fUF)

/-- Arithmetic delivers an infinity or a NaN as it is, and a finite value under R131 with SAT = 0. -/
def Fmt.finish (f : Fmt) (m : Rnd) (r : Nat) : Num × FlagSet → Nat × FlagSet
  | (.nan _ _ _, fl) => (f.defaultNan, fl)
  | (.inf s, fl) => (f.signed s (f.inf.getD f.maxFin), fl)
  | (.fin x, fl) => let (b, g) := f.deliver m r false x; (b, fl ||| g)

/-- The default NaN as a result. -/
def nanRes : Num := .nan false 0 false

/-- A signalling NaN among operands sets NV (R143). -/
def sigFlags (l : List Num) : FlagSet :=
  flagIf (l.any fun n => match n with | .nan _ _ s => s | _ => false) fNV

/-- Some operand is a NaN. -/
def anyNan (l : List Num) : Bool := l.any fun n => match n with | .nan _ _ _ => true | _ => false

/-- Exact negation. -/
def exNeg (x : Ex) : Ex := { x with neg := !x.neg }

/-- Negation of an operand. -/
def numNeg : Num → Num
  | .nan s p g => .nan (!s) p g
  | .inf s => .inf (!s)
  | .fin x => .fin (exNeg x)

/-- Signed multiple of 2^e of an exact value whose exponent is at least e. -/
def exScaled (x : Ex) (e : Int) : Int :=
  let v : Int := (x.man * 2 ^ (x.exp - e).toNat : Nat)
  if x.neg then -v else v

/-- Exact sum; a zero sum of unlike signs is +0, and −0 under RDN (IEEE 754-2019, R145). -/
def exAdd (m : Rnd) (x y : Ex) : Ex :=
  let e := if x.exp < y.exp then x.exp else y.exp
  let s := exScaled x e + exScaled y e
  if s = 0 then
    if x.man = 0 && y.man = 0 && x.neg == y.neg then exZero x.neg
    else exZero (decide (m = .rdn))
  else ⟨decide (s < 0), s.natAbs, e, false⟩

/-- Exact product. -/
def exMul (x y : Ex) : Ex := ⟨x.neg != y.neg, x.man * y.man, x.exp + y.exp, false⟩

/-- Exact product with a power of two. -/
def exShift (x : Ex) (k : Int) : Ex := { x with exp := x.exp + k }

/-- The value is zero. -/
def exIsZero (x : Ex) : Bool := decide (x.man = 0) && !x.rest

/-- Addition of operands (R143, R145). -/
def numAdd (m : Rnd) (a b : Num) : Num × FlagSet :=
  let fl := sigFlags [a, b]
  match a, b with
  | .nan _ _ _, _ => (nanRes, fl)
  | _, .nan _ _ _ => (nanRes, fl)
  | .inf s, .inf t => if s = t then (.inf s, fl) else (nanRes, fl ||| fNV)
  | .inf s, .fin _ => (.inf s, fl)
  | .fin _, .inf t => (.inf t, fl)
  | .fin x, .fin y => (.fin (exAdd m x y), fl)

/-- Multiplication of operands (R143, R145). -/
def numMul (a b : Num) : Num × FlagSet :=
  let fl := sigFlags [a, b]
  match a, b with
  | .nan _ _ _, _ => (nanRes, fl)
  | _, .nan _ _ _ => (nanRes, fl)
  | .inf s, .inf t => (.inf (s != t), fl)
  | .inf s, .fin y => if exIsZero y then (nanRes, fl ||| fNV) else (.inf (s != y.neg), fl)
  | .fin x, .inf t => if exIsZero x then (nanRes, fl ||| fNV) else (.inf (x.neg != t), fl)
  | .fin x, .fin y => (.fin (exMul x y), fl)

/-- a × b + c with one rounding (R145); 0 × inf is invalid whatever c is. -/
def numFma (m : Rnd) (a b c : Num) : Num × FlagSet :=
  let (p, fl) := numMul a b
  let fl := fl ||| sigFlags [c]
  match p, c with
  | .nan _ _ _, _ => (nanRes, fl)
  | _, .nan _ _ _ => (nanRes, fl)
  | p, c => let (v, g) := numAdd m p c; (v, fl ||| g)

/-- Bits of quotient and root kept before the rest mark. -/
def quotBits : Nat := 160

/-- Exact quotient of finite values, the divisor not zero. -/
def exDiv (x y : Ex) : Ex :=
  let k := quotBits + Nat.log2 y.man
  let n := x.man * 2 ^ k
  ⟨x.neg != y.neg, n / y.man, x.exp - y.exp - k, decide (n % y.man ≠ 0)⟩

/-- Division of operands (R143, R145): finite / 0 is an infinity with DZ. -/
def numDiv (a b : Num) : Num × FlagSet :=
  let fl := sigFlags [a, b]
  match a, b with
  | .nan _ _ _, _ => (nanRes, fl)
  | _, .nan _ _ _ => (nanRes, fl)
  | .inf _, .inf _ => (nanRes, fl ||| fNV)
  | .inf s, .fin y => (.inf (s != y.neg), fl)
  | .fin x, .inf t => (.fin (exZero (x.neg != t)), fl)
  | .fin x, .fin y =>
    if exIsZero y then
      if exIsZero x then (nanRes, fl ||| fNV) else (.inf (x.neg != y.neg), fl ||| fDZ)
    else if exIsZero x then (.fin (exZero (x.neg != y.neg)), fl)
    else (.fin (exDiv x y), fl)

/-- Whole square root of n below 2^(2k), bit by bit. -/
def isqrtFrom : Nat → Nat → Nat → Nat
  | 0, r, _ => r
  | k + 1, r, n => isqrtFrom k (if (r + 2 ^ k) * (r + 2 ^ k) ≤ n then r + 2 ^ k else r) n

/-- Whole square root. -/
def isqrt (n : Nat) : Nat := isqrtFrom (Nat.log2 n / 2 + 1) 0 n

/-- Exact square root of a positive finite value. -/
def exSqrt (x : Ex) : Ex :=
  let odd := x.exp % 2 = 1
  let man := if odd then x.man * 2 else x.man
  let exp := if odd then x.exp - 1 else x.exp
  let n := man * 2 ^ (2 * quotBits)
  let s := isqrt n
  ⟨false, s, exp / 2 - quotBits, decide (s * s ≠ n)⟩

/-- Square root of an operand (R143, R145). -/
def numSqrt (a : Num) : Num × FlagSet :=
  let fl := sigFlags [a]
  match a with
  | .nan _ _ _ => (nanRes, fl)
  | .inf s => if s then (nanRes, fl ||| fNV) else (.inf false, fl)
  | .fin x =>
    if exIsZero x then (.fin (exZero x.neg), fl)
    else if x.neg then (nanRes, fl ||| fNV)
    else (.fin (exSqrt x), fl)

/-- Order of finite values. -/
def exLt (x y : Ex) : Bool :=
  let e := if x.exp < y.exp then x.exp else y.exp
  decide (exScaled x e < exScaled y e)

/-- Equality of finite values; +0 equals −0 (R120). -/
def exEq (x y : Ex) : Bool :=
  let e := if x.exp < y.exp then x.exp else y.exp
  decide (exScaled x e = exScaled y e)

/-- a < b; false when an operand is a NaN. -/
def numLt : Num → Num → Bool
  | .nan _ _ _, _ => false
  | _, .nan _ _ _ => false
  | .inf s, .inf t => s && !t
  | .inf s, .fin _ => s
  | .fin _, .inf t => !t
  | .fin x, .fin y => exLt x y

/-- a = b; false when an operand is a NaN. -/
def numEq : Num → Num → Bool
  | .nan _ _ _, _ => false
  | _, .nan _ _ _ => false
  | .inf s, .inf t => s == t
  | .inf _, .fin _ => false
  | .fin _, .inf _ => false
  | .fin x, .fin y => exEq x y

/-- Whole value of an exact number rounded to an integer under a mode; whether it changed. -/
def exToInt (m : Rnd) (r : Nat) (x : Ex) : Int × Bool :=
  let (n, ix) := roundAt m r x 0
  (if x.neg then -(n : Int) else n, ix)

/-- Least and greatest value of an n-bit two's complement integer (R123). -/
def intMin (n : Nat) : Int := -(2 ^ (n - 1) : Int)
/-- Greatest value. -/
def intMax (n : Nat) : Int := 2 ^ (n - 1) - 1

/-- An exact integer fitted under OVF: WRAP keeps the low bits, SAT clamps; IOV when it does not fit (R124). -/
def fitInt (n : Nat) (sat : Bool) (v : Int) : Nat × FlagSet :=
  if intMin n ≤ v ∧ v ≤ intMax n then (ofSigned n v, fNone)
  else (ofSigned n (if sat then (if v < 0 then intMin n else intMax n) else v), fIOV)

/-- The controls of a conversion: rounding mode, draw, SAT (R136) and OVF (R124). -/
structure CvtCtl where
  rnd : Rnd
  draw : Nat
  sat : Bool
  ovf : Bool
deriving DecidableEq, Repr

/-- Conversion of a value into a floating-point format (R149-R152). -/
def Fmt.convert (f : Fmt) (c : CvtCtl) (x : Num) : Nat × FlagSet :=
  let isNarrowFin := f.nan.isNone
  let sat := c.sat && f != fmt32 && f != fmt64
  match x with
  | .nan s p g =>
    if isNarrowFin then (0, fNV)
    else if f.ieee then
      (f.signed s (f.inf.getD 0 + 2 ^ (f.t - 1) + p / 2 ^ (52 - f.t)), flagIf g fNV)
    else (f.defaultNan, flagIf g fNV)
  | .inf s =>
    if isNarrowFin then (f.signed s f.maxFin, fOF)
    else if sat then (f.signed s f.maxFin, fOF)
    else match f.inf with
      | some i => (f.signed s i, fNone)
      | none => (f.defaultNan, fNV)
  | .fin v => f.deliver c.rnd c.draw (sat || isNarrowFin) v

/-- Conversion of a value into an integer format of n bits (R149, R151). -/
def intConvert (n : Nat) (c : CvtCtl) (x : Num) : Nat × FlagSet :=
  match x with
  | .nan _ _ _ => (0, fNV)
  | .inf s =>
    (if c.ovf then ofSigned n (if s then intMin n else intMax n) else 0, fNV ||| fIOV)
  | .fin v =>
    let (i, ix) := exToInt c.rnd c.draw v
    let (b, g) := fitInt n c.ovf i
    if g = fNone then (b, flagIf ix fIX) else (b, fNV ||| fIOV)

/-- Conversion of an integer value into an integer format: fitted under OVF; a value out of range sets NV and IOV (R124, R148,
R151). -/
def intFromInt (n : Nat) (c : CvtCtl) (v : Int) : Nat × FlagSet :=
  let (b, g) := fitInt n c.ovf v
  (b, if g = fNone then fNone else fNV ||| fIOV)

/-- Conversion between element types (R148-R152); neither side is E8M0 (R122). -/
def convertNum (src dst : ElemType) (c : CvtCtl) (x : Num) : Nat × FlagSet :=
  match dst.fmt with
  | some f => f.convert c x
  | none =>
    match src.isInt, x with
    | true, .fin v => intFromInt dst.width c (exToInt .rtz 0 v).1
    | _, x => intConvert dst.width c x

/-- The value of a source element before conversion: a NaN from E4M3 or E5M2 widens to the default NaN with its sign
(R150), so its payload is dropped. DESIGN CHOICE (log entry 80): the payload is dropped into E5M2 too, of which R150 says nothing. -/
def ElemType.decodeForCvt (ty : ElemType) (b : Nat) : Num :=
  match ty, ty.decode b with
  | .e5m2, .nan s _ g => .nan s 0 g
  | _, n => n

/-- An element of a block with scale byte e (R156, R157): v × 2^(e − 127), INT8 as q × 2⁻⁶; and SCNAN for 0xFF. -/
def decodeMicro (ty : ElemType) (e b : Nat) : Num × FlagSet :=
  if e % 256 = 255 then (nanRes, fSCNAN)
  else
    match ty.decodeForCvt b with
    | .fin x => (.fin (exShift x ((e % 256 : Nat) - (127 : Int) - (if ty = .int8 then 6 else 0))), fNone)
    | n => (n, fNone)

/-- A decoded element of a block into a wide type (R158): a product beyond MAXFIN of FP32 or BF16 gives the infinity of its
sign with OF and IX, whatever rounding and SAT say; any other value is rounded once. -/
def ElemType.decodeInto (dst : ElemType) (c : CvtCtl) (x : Num) : Nat × FlagSet :=
  match dst.fmt with
  | none => intConvert dst.width c x
  | some f =>
    match x, f.decode f.maxFin with
    | .fin v, .fin m =>
      if (f == fmt32 || f == fmtBf) && exLt m { v with neg := false } then (f.signed v.neg (f.inf.getD 0), fOF ||| fIX)
      else f.convert c x
    | _, _ => f.convert c x

/-- An element under a tensor scale byte: v × 2^(e − 127), integers included (R163 ff.). -/
def decodeTensorScaled (ty : ElemType) (e b : Nat) : Num :=
  match ty.decodeForCvt b with
  | .fin x => .fin (exShift x ((e % 256 : Nat) - (127 : Int)))
  | n => n

/-- emax of the scale rules (R159). -/
def ElemType.scaleEmax : ElemType → Int
  | .e4m3 => 8 | .e5m2 => 15 | .e2m3 => 2 | .e2m1 => 2 | _ => 0

/-- MAXFIN as an exact value; 127/64 for INT8 elements of a microscaled block (R159). -/
def ElemType.microMax (ty : ElemType) : Ex :=
  match ty.fmt with
  | some f => match f.decode f.maxFin with | .fin x => x | _ => exZero false
  | none => ⟨false, 127, -6, false⟩

/-- MAXFIN of R170: 127 for INT8 and 7 for INT4. -/
def ElemType.statMax (ty : ElemType) : Ex :=
  match ty with
  | .int8 => exInt 127
  | .int4 => exInt 7
  | _ => ty.microMax

/-- floor(log2 of a non-zero magnitude). -/
def exLog2 (x : Ex) : Int := (Nat.log2 x.man : Nat) + x.exp

/-- The smallest k with m ≤ mx × 2^k, both positive. -/
def smallestScale (m mx : Ex) : Int :=
  let k := exLog2 m - exLog2 mx - 1
  if !exLt (exShift mx k) m then k
  else if !exLt (exShift mx (k + 1)) m then k + 1
  else k + 2

/-- The exponent X of a block whose largest magnitude is m (R159), before the clamp. -/
def blockExponent (ty : ElemType) (ceil : Bool) (m : Ex) : Int :=
  if ceil then smallestScale m ty.microMax else exLog2 m - ty.scaleEmax

/-- Clamp of an exponent to the range of a scale byte; whether it was clamped (R160). -/
def clampScale (x : Int) : Int × Bool :=
  if x < -127 then (-127, true) else if 127 < x then (127, true) else (x, false)

/-- Larger magnitude of two exact values. -/
def exMaxMag (a b : Ex) : Ex :=
  let a := { a with neg := false }
  let b := { b with neg := false }
  if exLt a b then b else a

/-- The outcome of scaling and encoding one block (R155, R159-R162): scale byte, elements, flags, whether X was clamped,
and which elements saturated. -/
structure BlockOut where
  scale : Nat
  elems : List Nat
  flags : FlagSet
  clamped : Bool
  clamps : List Bool
deriving DecidableEq, Repr

/-- One element of a microscaled block as x ÷ 2^X, saturating with CLAMP and IX (R162). -/
def microElem (ty : ElemType) (rnd : Rnd) (draw : Nat) (x : Int) (v : Ex) : Nat × FlagSet :=
  let y := exShift v (-x)
  match ty.fmt with
  | some f =>
    let q := f.roundMag rnd draw y
    if f.maxFin < q.mag then (f.signed v.neg f.maxFin, fCLAMP ||| fIX)
    else (f.signed v.neg q.mag, flagIf q.inexact fIX ||| flagIf (q.tiny && q.inexact) fUF)
  | none =>
    let (n, ix) := roundAt rnd draw (exShift y 6) 0
    if 127 < n then (ofSigned 8 (if v.neg then -127 else 127), fCLAMP ||| fIX)
    else (ofSigned 8 (if v.neg then -(n : Int) else n), flagIf ix fIX)

/-- How an element of a block is rounded: mode and draw; a pad rounds under RNE and sets no flag (R409). -/
structure ElemHow where
  rnd : Rnd
  draw : Nat
  pad : Bool

/-- One block into a microscaled tensor: scale byte, elements, flags, whether X was clamped, saturated elements.
`draws` gives each element's draw. -/
def encodeBlockWith (ty : ElemType) (ceil : Bool) (how : List ElemHow) (xs : List Num) : BlockOut :=
  let infs := fun (l : List Num) => l.any fun n => match n with | .inf _ => true | _ => false
  let loud := ((xs.zip how).filter fun p => !p.2.pad).map (·.1)
  let zeros := xs.map fun _ => (0 : Nat)
  if anyNan xs || infs xs then ⟨255, zeros, flagIf (anyNan loud) fNV ||| flagIf (infs loud) fOF, false, xs.map fun _ => false⟩
  else
    let vs := xs.map fun n => match n with | .fin v => v | _ => exZero false
    let m := vs.foldl exMaxMag (exZero false)
    if exIsZero m then
      ⟨0, vs.map fun v => match ty.fmt with | some f => f.signed v.neg 0 | none => 0, fNone, false,
        xs.map fun _ => false⟩
    else
      let (x, cl) := clampScale (blockExponent ty ceil m)
      let es := (vs.zip how).map fun p =>
        let e := microElem ty (if p.2.pad then .rne else p.2.rnd) p.2.draw x p.1
        (e.1, if p.2.pad then fNone else e.2)
      ⟨(x + 127).toNat, es.map (·.1), flagsOr (es.map (·.2)), cl,
        es.map fun e => decide (e.2 &&& fCLAMP ≠ 0)⟩

/-- A block without pads. -/
def encodeBlock (ty : ElemType) (ceil : Bool) (rnd : Rnd) (draws : List Nat) (xs : List Num) : BlockOut :=
  encodeBlockWith ty ceil (draws.map fun d => ⟨rnd, d, false⟩) xs

/-- One element into a tensor-scaled tensor: divided by 2^(e − 127), then converted (R172). -/
def encodeTensorScaled (dst : ElemType) (e : Nat) (c : CvtCtl) (x : Num) : Nat × FlagSet :=
  let y := match x with
    | .fin v => Num.fin (exShift v (127 - ((e % 256 : Nat) : Int)))
    | n => n
  match dst.fmt with
  | some f => f.convert c y
  | none => intConvert dst.width c y

/-- mix64 of R137. -/
def mix64 (z : BitVec 64) : BitVec 64 :=
  let z := (z ^^^ (z >>> 30)) * 0xBF58476D1CE4E5B9#64
  let z := (z ^^^ (z >>> 27)) * 0x94D049BB133111EB#64
  z ^^^ (z >>> 31)

/-- The 24-bit draw of R137. -/
def srDraw (salt step tag engine index : Nat) : Nat :=
  let k1 := mix64 (BitVec.ofNat 64 salt ^^^ (BitVec.ofNat 64 (step * 2 ^ 32) ||| BitVec.ofNat 64 tag))
  let k2 := mix64 (k1 ^^^ BitVec.ofNat 64 (engine * 2 ^ 48) ^^^ BitVec.ofNat 64 index)
  (k2 >>> 40).toNat

/-- The FP32 AMAX after folding in a magnitude rounded under RUP (R165): larger of two non-negative FP32 codes. -/
def foldAmax (amax : Nat) (x : Num) : Nat :=
  match x with
  | .nan _ _ _ => amax
  | .inf _ => 0x7F800000
  | .fin v =>
    let c := (fmt32.deliver .rup 0 false { v with neg := false }).1
    if amax < c then c else amax

/-- A step of a saturating 32-bit count. -/
def satAdd32 (a n : Nat) : Nat := if 0xFFFFFFFF < a + n then 0xFFFFFFFF else a + n

/-- NEXT_SCALE of R170 from AMAX (FP32 code, finite and not zero), MARGIN and type; whether k was clamped. -/
def nextScale (ty : ElemType) (amax margin : Nat) : Nat × Bool :=
  match fmt32.decode amax with
  | .fin v =>
    let (k, cl) := clampScale (smallestScale (exShift v margin) ty.statMax)
    ((k + 127).toNat, cl)
  | _ => (0, false)

end Sys2Proof.Machine
end

