-- ==== Sys2Proof/Machine/ErrMap.lean ====
section
/-! DEFINITION. The error codes of the chapters' error tables, with their codes (R24) and severities (R26). -/

set_option autoImplicit false

namespace Sys2Proof.Machine

/-- The errors, named as the chapters name them. -/
inductive Err where
  | ERR_FRAME_OVERRUN
  | ERR_GUARD_LAUNCH
  | ERR_SLOT_BOUNDS
  | ERR_FETCH_LATE
  | ERR_FRAME_AHEAD
  | ERR_STEP_WINDOW
  | ERR_FRAME_STALE
  | ERR_RESTART_STALE
  | ERR_PROG_HEADER
  | ERR_PERIOD_RANGE
  | ERR_PERIOD_CYCLES
  | ERR_ENGINE_ID
  | ERR_SLOT_ORDER
  | ERR_SLOT_FIT
  | ERR_GUARD_SLOT
  | ERR_SLACK_RANGE
  | ERR_BODY_RANGE
  | ERR_START_LEAD
  | ERR_EPOCH_FORMAT
  | ERR_MODE_OP
  | ERR_SLOT_KIND
  | ERR_SEQ_STATE
  | ERR_PPS_LOST
  | ERR_PPS_JUMP
  | ERR_HOLDOVER_EXPIRED
  | ERR_TIME_ALIGN
  | ERR_TIME_ISOLATED
  | ERR_TIME_DEPTH
  | ERR_RND_RESERVED
  | ERR_TYPE_RESERVED
  | ERR_CONV_PAIR
  | ERR_SCALE_CLAMP
  | ERR_STAT_SLOT
  | ERR_SCALE_INF
  | ERR_STAT_TYPE
  | ERR_FEED_PARITY
  | ERR_FEED_SKEW
  | ERR_CAL_TYPE
  | ERR_CAL_KRANGE
  | ERR_CAL_ADDR
  | ERR_CAL_BANK_EMPTY
  | ERR_CAL_FMT
  | ERR_CAL_BANK_MODE
  | ERR_CAL_SCALE_TYPE
  | ERR_WSET_PARITY
  | ERR_ACC_PARITY
  | ERR_CAL_SET_EMPTY
  | ERR_VE_ADDR
  | ERR_VE_ENTRY
  | ERR_OC_CLASH
  | ERR_RES_WRITE
  | ERR_RES_FILL_LATE
  | ERR_FTQ_KIND
  | ERR_FTQ_RESIDUE
  | ERR_AWIN_BUSY
  | ERR_AWIN_MODE
  | ERR_REG_PARITY
  | ERR_FTQ_PARITY
  | ERR_OC_HOST_WRITE
  | ERR_VE_OPCODE
  | ERR_VE_FIELD
  | ERR_VE_TYPE
  | ERR_VE_OPERAND
  | ERR_VE_DUP_DEST
  | ERR_VE_CVT
  | ERR_DESC_ID
  | ERR_DESC_FORMAT
  | ERR_DESC_CODE
  | ERR_DESC_ALLOC
  | ERR_DESC_SHARD
  | ERR_DESC_WINDOW
  | ERR_DESC_ALIGN
  | ERR_DESC_BOUNDS
  | ERR_DESC_ZERO_STRIDE
  | ERR_DESC_INJECTIVE
  | ERR_DESC_PARTIAL
  | ERR_DESC_SCALE
  | ERR_DESC_BLOCK
  | ERR_DESC_INDEX
  | ERR_DESC_PAIR
  | ERR_PAD_OVERLAP
  | ERR_PAD_COUNT
  | ERR_DESC_UNKNOWN
  | ERR_DESC_IN_USE
  | ERR_ALLOC_IN_USE
  | ERR_DESC_CHECK
  | ERR_GATHER_INDEX
  | ERR_GATHER_REMOTE
  | ERR_MEM_CE
  | ERR_MEM_UE
  | ERR_MEM_POISON
  | ERR_CRC
  | ERR_REPEAT
  | ERR_LOSS
  | ERR_SE_RECORD
  | ERR_SEND_PAIR
  | ERR_LOCK_LONG
  | ERR_LOCK_TORN
  | ERR_RES_DISCARD
  | ERR_SHARE_SUM
  | ERR_ALLOC_ALIAS
  | ERR_ALLOC_HANDLE
  | ERR_ALLOC_SIZE
  | ERR_ALLOC_PLACE
  | ERR_ALLOC_SPACE
  | ERR_SYNC_TIMEOUT
  | ERR_SYNC_SATURATE
  | ERR_SYNC_ID
  | ERR_SYNC_UNDECLARED
  | ERR_SYNC_CONSUMER
  | ERR_SYNC_BAR_ARRIVE
  | ERR_SYNC_TREE
  | ERR_SYNC_UNBALANCED
  | ERR_SYNC_STALE
  | ERR_SYNC_TABLE
  | ERR_SYNC_REF
  | ERR_SYNC_CIRCLE
  | ERR_FAB_LANE
  | ERR_FAB_PORT_DOWN
  | ERR_FAB_ABSENT
  | ERR_FAB_NEIGH
  | ERR_FAB_HCRC
  | ERR_FAB_NO_ROUTE
  | ERR_FAB_JOB
  | ERR_FAB_ROUTE
  | ERR_RED_RECORD
  | ERR_RED_REGION
  | ERR_RED_MISSING
  | ERR_RED_UNEXPECTED
  | ERR_RED_NONFINITE
  | ERR_LEDGER_MISMATCH
  | ERR_STEP_INCOMPLETE
  | ERR_STEP_NONFINITE
  | ERR_STEP_DIVERGE
  | ERR_STEP_NORM
  | ERR_STEP_VETO
  | ERR_STEP_NO_AUTH
  | ERR_STEP_PARITY
  | ERR_CKPT_WINDOW
  | ERR_UPROG
  | ERR_COMMIT_LATE
  | ERR_COMMIT_NO_RELEASE
  | ERR_STEP_TABLE
  | ERR_CKPT_OVERLAP
  | ERR_PAGED_CLASS
  | ERR_AUTH_STALE
  | ERR_CATCHUP
  | ERR_SINTER_TABLE
  | ERR_SINTER_MSG
  | ERR_SINTER_COUNT
  | ERR_SINTER_LATE_STAT
  | ERR_SINTER_CAPTURE
  | ERR_SINTER_DRIFT
  | ERR_SINTER_STALE
  | ERR_ADOPT_STATE
  | ERR_RESTORE_STEP
  | ERR_RESTORE_VERIFY
  | ERR_RESTORE_LOST
  | ERR_BIST_FAIL
  | ERR_BIST_BUDGET
  | ERR_CLUSTER_DEGRADED
  | ERR_CLUSTER_RESTORED
  | ERR_NO_SPARE
  | ERR_ROT_DEFER
  | ERR_SCAN_CLEAR
  | ERR_REPAIR_RANGE
  | ERR_REPAIR_STATE
  | ERR_FUSE_STATE
  | ERR_FUSE_FULL
  | ERR_FUSE_VERIFY
  | ERR_FUSE_ECC
  | ERR_LANE_REPAIRED
  | ERR_SPARE_LANE_BAD
  | ERR_CAP_CLAMP
  | ERR_PWR_ALERT
  | ERR_CAP_FORCED
  | ERR_PACE_LATE
  | ERR_PACE_WITHHELD
  | ERR_PACE_MODE
  | ERR_PACE_ROUND
  | ERR_POWER_MODEL
  | ERR_POWER_DECL
  | ERR_GB_FLOOR
  | ERR_DROOP_HEAVY
  | ERR_PWR_STATE
  | ERR_FORCE_DOWN
  | ERR_RULE_HIT
  | ERR_THERM
  | ERR_REC_DROP
  | ERR_MBX_CRC
  | ERR_MBX_OPCODE
  | ERR_MBX_FORMAT
  | ERR_MBX_TAG
  | ERR_MBX_SOURCE
  | ERR_MBX_STATE
  | ERR_MBX_RING
  | ERR_MBX_RSP_FULL
  | ERR_CP_WDOG
  | ERR_NO_FIRMWARE
  | ERR_CMD_INTERRUPTED
  | ERR_BOOT_IMAGE
  | ERR_BOOT_FAIL
  | ERR_NO_KEY
  | ERR_FW_UPDATE
  | ERR_LOG_LOST
  | ERR_RAIL_FAIL
  | ERR_HOST_ADDR
  | ERR_HOST_ATU
  | ERR_HOST_DOWN
  | ERR_HOST_CPL
  | ERR_PCIE_LINK
  | ERR_JTAG_STATE
  | ERR_RESET_DOMAIN
  | ERR_HBM_TRAIN
  | ERR_STARTUP
  | ERR_STRAP_CHANGE
  | ERR_BROWNOUT_HOLD
deriving DecidableEq, Repr

/-- The 16-bit code of an error (R24). -/
def Err.code : Err → Nat
  | .ERR_FRAME_OVERRUN => 0x0101
  | .ERR_GUARD_LAUNCH => 0x0102
  | .ERR_SLOT_BOUNDS => 0x0103
  | .ERR_FETCH_LATE => 0x0104
  | .ERR_FRAME_AHEAD => 0x0105
  | .ERR_STEP_WINDOW => 0x0106
  | .ERR_FRAME_STALE => 0x0107
  | .ERR_RESTART_STALE => 0x0108
  | .ERR_PROG_HEADER => 0x0110
  | .ERR_PERIOD_RANGE => 0x0111
  | .ERR_PERIOD_CYCLES => 0x0112
  | .ERR_ENGINE_ID => 0x0113
  | .ERR_SLOT_ORDER => 0x0114
  | .ERR_SLOT_FIT => 0x0115
  | .ERR_GUARD_SLOT => 0x0116
  | .ERR_SLACK_RANGE => 0x0117
  | .ERR_BODY_RANGE => 0x0118
  | .ERR_START_LEAD => 0x0119
  | .ERR_EPOCH_FORMAT => 0x011A
  | .ERR_MODE_OP => 0x011B
  | .ERR_SLOT_KIND => 0x011C
  | .ERR_SEQ_STATE => 0x011D
  | .ERR_PPS_LOST => 0x0120
  | .ERR_PPS_JUMP => 0x0121
  | .ERR_HOLDOVER_EXPIRED => 0x0122
  | .ERR_TIME_ALIGN => 0x0123
  | .ERR_TIME_ISOLATED => 0x0124
  | .ERR_TIME_DEPTH => 0x0125
  | .ERR_RND_RESERVED => 0x0201
  | .ERR_TYPE_RESERVED => 0x0202
  | .ERR_CONV_PAIR => 0x0203
  | .ERR_SCALE_CLAMP => 0x0204
  | .ERR_STAT_SLOT => 0x0205
  | .ERR_SCALE_INF => 0x0206
  | .ERR_STAT_TYPE => 0x0207
  | .ERR_FEED_PARITY => 0x0301
  | .ERR_FEED_SKEW => 0x0302
  | .ERR_CAL_TYPE => 0x0303
  | .ERR_CAL_KRANGE => 0x0304
  | .ERR_CAL_ADDR => 0x0305
  | .ERR_CAL_BANK_EMPTY => 0x0306
  | .ERR_CAL_FMT => 0x0307
  | .ERR_CAL_BANK_MODE => 0x0308
  | .ERR_CAL_SCALE_TYPE => 0x0309
  | .ERR_WSET_PARITY => 0x030A
  | .ERR_ACC_PARITY => 0x030B
  | .ERR_CAL_SET_EMPTY => 0x030C
  | .ERR_VE_ADDR => 0x0401
  | .ERR_VE_ENTRY => 0x0402
  | .ERR_OC_CLASH => 0x0403
  | .ERR_RES_WRITE => 0x0404
  | .ERR_RES_FILL_LATE => 0x0405
  | .ERR_FTQ_KIND => 0x0406
  | .ERR_FTQ_RESIDUE => 0x0407
  | .ERR_AWIN_BUSY => 0x0408
  | .ERR_AWIN_MODE => 0x0409
  | .ERR_REG_PARITY => 0x040A
  | .ERR_FTQ_PARITY => 0x040B
  | .ERR_OC_HOST_WRITE => 0x040C
  | .ERR_VE_OPCODE => 0x0410
  | .ERR_VE_FIELD => 0x0411
  | .ERR_VE_TYPE => 0x0412
  | .ERR_VE_OPERAND => 0x0413
  | .ERR_VE_DUP_DEST => 0x0414
  | .ERR_VE_CVT => 0x0415
  | .ERR_DESC_ID => 0x0501
  | .ERR_DESC_FORMAT => 0x0502
  | .ERR_DESC_CODE => 0x0503
  | .ERR_DESC_ALLOC => 0x0504
  | .ERR_DESC_SHARD => 0x0505
  | .ERR_DESC_WINDOW => 0x0506
  | .ERR_DESC_ALIGN => 0x0507
  | .ERR_DESC_BOUNDS => 0x0508
  | .ERR_DESC_ZERO_STRIDE => 0x0509
  | .ERR_DESC_INJECTIVE => 0x050A
  | .ERR_DESC_PARTIAL => 0x050B
  | .ERR_DESC_SCALE => 0x050C
  | .ERR_DESC_BLOCK => 0x050D
  | .ERR_DESC_INDEX => 0x050E
  | .ERR_DESC_PAIR => 0x0510
  | .ERR_PAD_OVERLAP => 0x0511
  | .ERR_PAD_COUNT => 0x0512
  | .ERR_DESC_UNKNOWN => 0x0513
  | .ERR_DESC_IN_USE => 0x0514
  | .ERR_ALLOC_IN_USE => 0x0515
  | .ERR_DESC_CHECK => 0x0520
  | .ERR_GATHER_INDEX => 0x0521
  | .ERR_GATHER_REMOTE => 0x0522
  | .ERR_MEM_CE => 0x0601
  | .ERR_MEM_UE => 0x0602
  | .ERR_MEM_POISON => 0x0603
  | .ERR_CRC => 0x0604
  | .ERR_REPEAT => 0x0605
  | .ERR_LOSS => 0x0606
  | .ERR_SE_RECORD => 0x0607
  | .ERR_SEND_PAIR => 0x0608
  | .ERR_LOCK_LONG => 0x0610
  | .ERR_LOCK_TORN => 0x0611
  | .ERR_RES_DISCARD => 0x0612
  | .ERR_SHARE_SUM => 0x0613
  | .ERR_ALLOC_ALIAS => 0x0620
  | .ERR_ALLOC_HANDLE => 0x0621
  | .ERR_ALLOC_SIZE => 0x0622
  | .ERR_ALLOC_PLACE => 0x0623
  | .ERR_ALLOC_SPACE => 0x0624
  | .ERR_SYNC_TIMEOUT => 0x0701
  | .ERR_SYNC_SATURATE => 0x0702
  | .ERR_SYNC_ID => 0x0703
  | .ERR_SYNC_UNDECLARED => 0x0704
  | .ERR_SYNC_CONSUMER => 0x0705
  | .ERR_SYNC_BAR_ARRIVE => 0x0706
  | .ERR_SYNC_TREE => 0x0707
  | .ERR_SYNC_UNBALANCED => 0x0708
  | .ERR_SYNC_STALE => 0x0709
  | .ERR_SYNC_TABLE => 0x0710
  | .ERR_SYNC_REF => 0x0711
  | .ERR_SYNC_CIRCLE => 0x0712
  | .ERR_FAB_LANE => 0x0801
  | .ERR_FAB_PORT_DOWN => 0x0802
  | .ERR_FAB_ABSENT => 0x0803
  | .ERR_FAB_NEIGH => 0x0804
  | .ERR_FAB_HCRC => 0x0805
  | .ERR_FAB_NO_ROUTE => 0x0806
  | .ERR_FAB_JOB => 0x0807
  | .ERR_FAB_ROUTE => 0x0808
  | .ERR_RED_RECORD => 0x0810
  | .ERR_RED_REGION => 0x0811
  | .ERR_RED_MISSING => 0x0812
  | .ERR_RED_UNEXPECTED => 0x0813
  | .ERR_RED_NONFINITE => 0x0814
  | .ERR_LEDGER_MISMATCH => 0x0820
  | .ERR_STEP_INCOMPLETE => 0x0A01
  | .ERR_STEP_NONFINITE => 0x0A02
  | .ERR_STEP_DIVERGE => 0x0A03
  | .ERR_STEP_NORM => 0x0A04
  | .ERR_STEP_VETO => 0x0A05
  | .ERR_STEP_NO_AUTH => 0x0A06
  | .ERR_STEP_PARITY => 0x0A07
  | .ERR_CKPT_WINDOW => 0x0A08
  | .ERR_UPROG => 0x0A09
  | .ERR_COMMIT_LATE => 0x0A10
  | .ERR_COMMIT_NO_RELEASE => 0x0A11
  | .ERR_STEP_TABLE => 0x0A12
  | .ERR_CKPT_OVERLAP => 0x0A13
  | .ERR_PAGED_CLASS => 0x0A14
  | .ERR_AUTH_STALE => 0x0A15
  | .ERR_CATCHUP => 0x0A16
  | .ERR_SINTER_TABLE => 0x0B01
  | .ERR_SINTER_MSG => 0x0B02
  | .ERR_SINTER_COUNT => 0x0B03
  | .ERR_SINTER_LATE_STAT => 0x0B04
  | .ERR_SINTER_CAPTURE => 0x0B05
  | .ERR_SINTER_DRIFT => 0x0B06
  | .ERR_SINTER_STALE => 0x0B07
  | .ERR_ADOPT_STATE => 0x0B08
  | .ERR_RESTORE_STEP => 0x0B09
  | .ERR_RESTORE_VERIFY => 0x0B0A
  | .ERR_RESTORE_LOST => 0x0B0B
  | .ERR_BIST_FAIL => 0x0C01
  | .ERR_BIST_BUDGET => 0x0C02
  | .ERR_CLUSTER_DEGRADED => 0x0C03
  | .ERR_CLUSTER_RESTORED => 0x0C04
  | .ERR_NO_SPARE => 0x0C05
  | .ERR_ROT_DEFER => 0x0C06
  | .ERR_SCAN_CLEAR => 0x0C07
  | .ERR_REPAIR_RANGE => 0x0C08
  | .ERR_REPAIR_STATE => 0x0C09
  | .ERR_FUSE_STATE => 0x0C0A
  | .ERR_FUSE_FULL => 0x0C0B
  | .ERR_FUSE_VERIFY => 0x0C0C
  | .ERR_FUSE_ECC => 0x0C0D
  | .ERR_LANE_REPAIRED => 0x0C0E
  | .ERR_SPARE_LANE_BAD => 0x0C0F
  | .ERR_CAP_CLAMP => 0x0D01
  | .ERR_PWR_ALERT => 0x0D02
  | .ERR_CAP_FORCED => 0x0D03
  | .ERR_PACE_LATE => 0x0D04
  | .ERR_PACE_WITHHELD => 0x0D05
  | .ERR_PACE_MODE => 0x0D06
  | .ERR_PACE_ROUND => 0x0D07
  | .ERR_POWER_MODEL => 0x0D08
  | .ERR_POWER_DECL => 0x0D09
  | .ERR_GB_FLOOR => 0x0D0A
  | .ERR_DROOP_HEAVY => 0x0D0B
  | .ERR_PWR_STATE => 0x0D0C
  | .ERR_FORCE_DOWN => 0x0D0D
  | .ERR_RULE_HIT => 0x0D0E
  | .ERR_THERM => 0x0D0F
  | .ERR_REC_DROP => 0x0D10
  | .ERR_MBX_CRC => 0x0E01
  | .ERR_MBX_OPCODE => 0x0E02
  | .ERR_MBX_FORMAT => 0x0E03
  | .ERR_MBX_TAG => 0x0E04
  | .ERR_MBX_SOURCE => 0x0E05
  | .ERR_MBX_STATE => 0x0E06
  | .ERR_MBX_RING => 0x0E07
  | .ERR_MBX_RSP_FULL => 0x0E08
  | .ERR_CP_WDOG => 0x0E10
  | .ERR_NO_FIRMWARE => 0x0E11
  | .ERR_CMD_INTERRUPTED => 0x0E12
  | .ERR_BOOT_IMAGE => 0x0E13
  | .ERR_BOOT_FAIL => 0x0E14
  | .ERR_NO_KEY => 0x0E15
  | .ERR_FW_UPDATE => 0x0E16
  | .ERR_LOG_LOST => 0x0E17
  | .ERR_RAIL_FAIL => 0x0F01
  | .ERR_HOST_ADDR => 0x0F02
  | .ERR_HOST_ATU => 0x0F03
  | .ERR_HOST_DOWN => 0x0F04
  | .ERR_HOST_CPL => 0x0F05
  | .ERR_PCIE_LINK => 0x0F06
  | .ERR_JTAG_STATE => 0x0F07
  | .ERR_RESET_DOMAIN => 0x0F08
  | .ERR_HBM_TRAIN => 0x0F09
  | .ERR_STARTUP => 0x0F0A
  | .ERR_STRAP_CHANGE => 0x0F0B
  | .ERR_BROWNOUT_HOLD => 0x0F0C

/-- The severity of an error: 0 INFO, 1 CORRECTED, 2 STEP, 3 UNIT, 4 MODULE (R26, R745). A code with two severities
has STEP here; R787 makes it INFO in a command result and at program end, and the raiser says so. -/
def Err.severity : Err → Nat
  | .ERR_FRAME_OVERRUN => 2
  | .ERR_GUARD_LAUNCH => 2
  | .ERR_SLOT_BOUNDS => 2
  | .ERR_FETCH_LATE => 2
  | .ERR_FRAME_AHEAD => 2
  | .ERR_STEP_WINDOW => 2
  | .ERR_FRAME_STALE => 0
  | .ERR_RESTART_STALE => 0
  | .ERR_PROG_HEADER => 0
  | .ERR_PERIOD_RANGE => 0
  | .ERR_PERIOD_CYCLES => 0
  | .ERR_ENGINE_ID => 0
  | .ERR_SLOT_ORDER => 0
  | .ERR_SLOT_FIT => 0
  | .ERR_GUARD_SLOT => 0
  | .ERR_SLACK_RANGE => 0
  | .ERR_BODY_RANGE => 0
  | .ERR_START_LEAD => 0
  | .ERR_EPOCH_FORMAT => 0
  | .ERR_MODE_OP => 0
  | .ERR_SLOT_KIND => 0
  | .ERR_SEQ_STATE => 0
  | .ERR_PPS_LOST => 0
  | .ERR_PPS_JUMP => 0
  | .ERR_HOLDOVER_EXPIRED => 0
  | .ERR_TIME_ALIGN => 2
  | .ERR_TIME_ISOLATED => 4
  | .ERR_TIME_DEPTH => 4
  | .ERR_RND_RESERVED => 2
  | .ERR_TYPE_RESERVED => 2
  | .ERR_CONV_PAIR => 2
  | .ERR_SCALE_CLAMP => 0
  | .ERR_STAT_SLOT => 2
  | .ERR_SCALE_INF => 0
  | .ERR_STAT_TYPE => 0
  | .ERR_FEED_PARITY => 2
  | .ERR_FEED_SKEW => 3
  | .ERR_CAL_TYPE => 2
  | .ERR_CAL_KRANGE => 2
  | .ERR_CAL_ADDR => 2
  | .ERR_CAL_BANK_EMPTY => 2
  | .ERR_CAL_FMT => 2
  | .ERR_CAL_BANK_MODE => 2
  | .ERR_CAL_SCALE_TYPE => 2
  | .ERR_WSET_PARITY => 2
  | .ERR_ACC_PARITY => 2
  | .ERR_CAL_SET_EMPTY => 2
  | .ERR_VE_ADDR => 2
  | .ERR_VE_ENTRY => 2
  | .ERR_OC_CLASH => 2
  | .ERR_RES_WRITE => 2
  | .ERR_RES_FILL_LATE => 2
  | .ERR_FTQ_KIND => 2
  | .ERR_FTQ_RESIDUE => 0
  | .ERR_AWIN_BUSY => 2
  | .ERR_AWIN_MODE => 2
  | .ERR_REG_PARITY => 2
  | .ERR_FTQ_PARITY => 2
  | .ERR_OC_HOST_WRITE => 0
  | .ERR_VE_OPCODE => 2
  | .ERR_VE_FIELD => 2
  | .ERR_VE_TYPE => 2
  | .ERR_VE_OPERAND => 2
  | .ERR_VE_DUP_DEST => 2
  | .ERR_VE_CVT => 2
  | .ERR_DESC_ID => 0
  | .ERR_DESC_FORMAT => 0
  | .ERR_DESC_CODE => 0
  | .ERR_DESC_ALLOC => 0
  | .ERR_DESC_SHARD => 0
  | .ERR_DESC_WINDOW => 0
  | .ERR_DESC_ALIGN => 0
  | .ERR_DESC_BOUNDS => 0
  | .ERR_DESC_ZERO_STRIDE => 0
  | .ERR_DESC_INJECTIVE => 0
  | .ERR_DESC_PARTIAL => 0
  | .ERR_DESC_SCALE => 0
  | .ERR_DESC_BLOCK => 0
  | .ERR_DESC_INDEX => 0
  | .ERR_DESC_PAIR => 0
  | .ERR_PAD_OVERLAP => 0
  | .ERR_PAD_COUNT => 0
  | .ERR_DESC_UNKNOWN => 0
  | .ERR_DESC_IN_USE => 0
  | .ERR_ALLOC_IN_USE => 0
  | .ERR_DESC_CHECK => 2
  | .ERR_GATHER_INDEX => 2
  | .ERR_GATHER_REMOTE => 2
  | .ERR_MEM_CE => 1
  | .ERR_MEM_UE => 2
  | .ERR_MEM_POISON => 0
  | .ERR_CRC => 2
  | .ERR_REPEAT => 2
  | .ERR_LOSS => 2
  | .ERR_SE_RECORD => 2
  | .ERR_SEND_PAIR => 2
  | .ERR_LOCK_LONG => 0
  | .ERR_LOCK_TORN => 0
  | .ERR_RES_DISCARD => 0
  | .ERR_SHARE_SUM => 0
  | .ERR_ALLOC_ALIAS => 0
  | .ERR_ALLOC_HANDLE => 0
  | .ERR_ALLOC_SIZE => 0
  | .ERR_ALLOC_PLACE => 0
  | .ERR_ALLOC_SPACE => 0
  | .ERR_SYNC_TIMEOUT => 2
  | .ERR_SYNC_SATURATE => 2
  | .ERR_SYNC_ID => 2
  | .ERR_SYNC_UNDECLARED => 2
  | .ERR_SYNC_CONSUMER => 2
  | .ERR_SYNC_BAR_ARRIVE => 2
  | .ERR_SYNC_TREE => 2
  | .ERR_SYNC_UNBALANCED => 2
  | .ERR_SYNC_STALE => 0
  | .ERR_SYNC_TABLE => 0
  | .ERR_SYNC_REF => 0
  | .ERR_SYNC_CIRCLE => 0
  | .ERR_FAB_LANE => 0
  | .ERR_FAB_PORT_DOWN => 3
  | .ERR_FAB_ABSENT => 0
  | .ERR_FAB_NEIGH => 3
  | .ERR_FAB_HCRC => 2
  | .ERR_FAB_NO_ROUTE => 2
  | .ERR_FAB_JOB => 0
  | .ERR_FAB_ROUTE => 0
  | .ERR_RED_RECORD => 2
  | .ERR_RED_REGION => 0
  | .ERR_RED_MISSING => 2
  | .ERR_RED_UNEXPECTED => 2
  | .ERR_RED_NONFINITE => 0
  | .ERR_LEDGER_MISMATCH => 2
  | .ERR_STEP_INCOMPLETE => 2
  | .ERR_STEP_NONFINITE => 2
  | .ERR_STEP_DIVERGE => 2
  | .ERR_STEP_NORM => 2
  | .ERR_STEP_VETO => 2
  | .ERR_STEP_NO_AUTH => 2
  | .ERR_STEP_PARITY => 2
  | .ERR_CKPT_WINDOW => 2
  | .ERR_UPROG => 2
  | .ERR_COMMIT_LATE => 0
  | .ERR_COMMIT_NO_RELEASE => 0
  | .ERR_STEP_TABLE => 0
  | .ERR_CKPT_OVERLAP => 0
  | .ERR_PAGED_CLASS => 0
  | .ERR_AUTH_STALE => 0
  | .ERR_CATCHUP => 0
  | .ERR_SINTER_TABLE => 0
  | .ERR_SINTER_MSG => 2
  | .ERR_SINTER_COUNT => 2
  | .ERR_SINTER_LATE_STAT => 2
  | .ERR_SINTER_CAPTURE => 2
  | .ERR_SINTER_DRIFT => 0
  | .ERR_SINTER_STALE => 0
  | .ERR_ADOPT_STATE => 0
  | .ERR_RESTORE_STEP => 0
  | .ERR_RESTORE_VERIFY => 0
  | .ERR_RESTORE_LOST => 4
  | .ERR_BIST_FAIL => 0
  | .ERR_BIST_BUDGET => 0
  | .ERR_CLUSTER_DEGRADED => 0
  | .ERR_CLUSTER_RESTORED => 0
  | .ERR_NO_SPARE => 4
  | .ERR_ROT_DEFER => 0
  | .ERR_SCAN_CLEAR => 3
  | .ERR_REPAIR_RANGE => 0
  | .ERR_REPAIR_STATE => 0
  | .ERR_FUSE_STATE => 0
  | .ERR_FUSE_FULL => 0
  | .ERR_FUSE_VERIFY => 0
  | .ERR_FUSE_ECC => 0
  | .ERR_LANE_REPAIRED => 0
  | .ERR_SPARE_LANE_BAD => 0
  | .ERR_CAP_CLAMP => 0
  | .ERR_PWR_ALERT => 0
  | .ERR_CAP_FORCED => 2
  | .ERR_PACE_LATE => 2
  | .ERR_PACE_WITHHELD => 0
  | .ERR_PACE_MODE => 0
  | .ERR_PACE_ROUND => 0
  | .ERR_POWER_MODEL => 0
  | .ERR_POWER_DECL => 0
  | .ERR_GB_FLOOR => 0
  | .ERR_DROOP_HEAVY => 0
  | .ERR_PWR_STATE => 0
  | .ERR_FORCE_DOWN => 4
  | .ERR_RULE_HIT => 0
  | .ERR_THERM => 0
  | .ERR_REC_DROP => 0
  | .ERR_MBX_CRC => 0
  | .ERR_MBX_OPCODE => 0
  | .ERR_MBX_FORMAT => 0
  | .ERR_MBX_TAG => 0
  | .ERR_MBX_SOURCE => 0
  | .ERR_MBX_STATE => 0
  | .ERR_MBX_RING => 0
  | .ERR_MBX_RSP_FULL => 0
  | .ERR_CP_WDOG => 3
  | .ERR_NO_FIRMWARE => 4
  | .ERR_CMD_INTERRUPTED => 0
  | .ERR_BOOT_IMAGE => 0
  | .ERR_BOOT_FAIL => 4
  | .ERR_NO_KEY => 0
  | .ERR_FW_UPDATE => 0
  | .ERR_LOG_LOST => 0
  | .ERR_RAIL_FAIL => 4
  | .ERR_HOST_ADDR => 0
  | .ERR_HOST_ATU => 2
  | .ERR_HOST_DOWN => 2
  | .ERR_HOST_CPL => 2
  | .ERR_PCIE_LINK => 0
  | .ERR_JTAG_STATE => 0
  | .ERR_RESET_DOMAIN => 0
  | .ERR_HBM_TRAIN => 4
  | .ERR_STARTUP => 0
  | .ERR_STRAP_CHANGE => 0
  | .ERR_BROWNOUT_HOLD => 0

end Sys2Proof.Machine
end

