-- ==== Sys2Proof/Config.lean ====
section
/-! DEFINITION. What an implementation fixes (fuses, keys, cryptographic functions) and the free values: constants
with no body, of which nothing can be proved but what holds for every value. -/

set_option autoImplicit false

namespace Sys2Proof.Config

open Sys2Proof

/-- Fused initial guardband of a die, in mV (R672). -/
opaque gbInit : Nat → Nat
/-- Fused guardband floor of a die, in mV (R672). -/
opaque gbFloor : Nat → Nat
/-- Fused minimum voltage of a die at an operating point, in 0.1 mV (R672). -/
opaque vmin : Nat → Nat → Nat
/-- Fused security version number (R723). -/
opaque svnFused : Nat

/-- Whether the 96 bits of 2/π in the seed unit are rounded up rather than cut; R358 gives only their number. -/
opaque twoOverPiUp : Bool
/-- Whether the product of R357 is rounded to nearest rather than cut; R357 gives only its 32 significant bits. -/
opaque tailNearest : Bool

/-- A byte whose value the spec leaves open, by the number of the free value and its place. -/
opaque freeByte : Nat → Nat → Byte
/-- Whether a byte that an aborted or failed transfer wrote holds the new data (R463), by the number of the free value
and its place. -/
opaque freeNew : Nat → Nat → Bool
/-- The predicted core current of a die at OP7, in A (R682), by the number of the free value and the die: the rule names no
prediction. -/
opaque op7Current : Nat → Nat → Nat
/-- The rate correction in ppb by which a time base steers toward its reference (R56), by the number of the free value and the
offset in ps: only its bound is given. -/
opaque steerRate : Nat → Int → Int

/-- What a field holds after a write of a value outside the range of its table, by the number of the free value and the value
written: only the range is given. -/
opaque outOfRange : Nat → Nat → Nat

/-- The level of PPS_IN at a time (R784): the pin is an input, and no command tells its level between edges. -/
opaque ppsInLevel : Nat → Bool
/-- SHA-384 of bytes (R722). -/
opaque sha384 : List Byte → Nat
/-- Hash of the root key fused at manufacture (R723). -/
opaque rootKeyHash : Nat
/-- Whether an ECDSA P-384 signature over a hash verifies under a public key (R722). -/
opaque ecdsaOk : List Byte → List Byte → Nat → Bool
/-- Stedebel's JEP106 manufacturer code (R766). -/
opaque jep106 : BitVec 11
/-- The stepping of a die (R766). -/
opaque stepping : Nat → BitVec 4
/-- Stedebel's PCI Vendor ID and Subsystem Vendor ID, which DEVICE_INFO reports (17, beside R767). -/
opaque vendorId : BitVec 16
/-- A byte of the FRU EEPROM as it was written at manufacture (17, beside R764). -/
opaque fruByte : Nat → Byte
/-- The copy of a body in die B's SRAM when it does not hash to BODY_HASH (R723). -/
opaque spoiltCopy : List Byte → List Byte
/-- The layout of the information that DEVICE_INFO writes, by the facts it reports (R738): the manual gives none. -/
opaque deviceInfo : List Nat → List Byte
/-- The signature of bytes by the attestation key (R738). -/
opaque attest : List Byte → List Byte

end Sys2Proof.Config
end

