-- ==== Sys2Proof/RegNames.lean ====
section
/-! DEFINITION. The names of the registers of the register tables (one constructor of `Reg` per register)
and of their fields (one constructor of `Fld` per field that the tables do not call reserved): 02 R110, 04 R236,
05 R295, 09 R481-R482, 10 R516, 11 R562-R564, 12 R609-R610, 13 R640, 14 R669, 15 R714-R715, 16 R750-R752,
17 R784-R785. -/

set_option autoImplicit false

namespace Sys2Proof

/-- The registers, named as the tables name them (R27). -/
inductive Reg where
  | GEY_CTRL
  | GEY_STATUS
  | GEY_FRAME_PERIOD_NS
  | GEY_SLACK_BP
  | GEY_CYC_PER_FRAME
  | GEY_PROG_FRAME
  | GEY_EPOCH
  | GEY_EPOCH_HI
  | GEY_TB_NOW
  | GEY_TB_NOW_HI
  | GEY_FRAME_COUNT
  | GEY_STEP_COUNT
  | GEY_START_LEAD_US
  | GEY_IDLE_TICKS
  | GEY_JOIN_TICKS
  | GEY_SKIP_TOTAL
  | GEY_SKIP_LAST
  | GEY_MARGIN_MIN
  | GEY_SLEW_PPB
  | GEY_ALIGN_LIMIT_PS
  | GEY_TIME_PARENT
  | GEY_PARENT_OFFSET_PS
  | GEY_PPS_OFFSET_PS
  | GEY_FREQ_ADJ_PPB
  | GEY_HOLDOVER_S
  | GEY_PPS_WINDOW_NS
  | CAL_STATUS
  | CAL_FLAGS
  | CAL_ROWMAP
  | CAL_FEED_DLY
  | CAL_FEED_ERR
  | CAL_STEPS
  | CAL_TRUNC_STEPS
  | VENT_STEPS
  | CAL_BUSY_CYC
  | VE_CTRL
  | VE_STATUS
  | VE_FLAGS
  | VE_PC
  | VE_RES_SIZE
  | VE_RES_SRC
  | FTQ_STATUS
  | FTQ_HEAD
  | FTQ_RESIDUE
  | VE_PARITY_ERR
  | VE_BUNDLES
  | VE_STALL_CYC
  | VE_SCANS
  | VE_SEEDS
  | SE_STATUS
  | SE_DESC_HEAD
  | SE_OPS_PEAK
  | SE_SB_STATUS
  | SE_BYTES_RD
  | SE_BYTES_WR
  | SE_TRANSFERS
  | SE_HBM_CE
  | SE_HBM_UE
  | SE_SCRUB_POS
  | SE_SCRUB_PASSES
  | SE_PROT_ERR
  | SE_FLAGS
  | SE_PCH_TX_TAG
  | SE_PCH_RX_TAG
  | SE_PCH_STATE
  | RES_CTRL
  | RES_SCRUB_HBM_S
  | RES_SCRUB_SRAM_S
  | RES_SHARE_SE
  | RES_SHARE_UE
  | RES_INST_SEL
  | RES_GRANTS
  | RES_DONE
  | RES_INFLIGHT
  | RES_LOCK
  | RES_TEAR_COUNT
  | RES_STARVE_GRANTS
  | SYNC_STATUS
  | SYNC_WAITERS
  | SYNC_TMO_COUNT
  | SYNC_STALE_COUNT
  | SYNC_ISSUED
  | SYNC_CONSUMED
  | SYNC_NET
  | SYNC_LOST
  | SYNC_CLEARED
  | SYNC_INFLIGHT
  | SYNC_HOST_SIG
  | SYNC_BAR_PARENT
  | SYNC_BAR_CHILDREN
  | SYNC_BARRIER
  | SYNC_COUNT
  | SYNC_BASE
  | SYNC_BAR
  | SYNC_ATTR
  | FAB_STATUS
  | FAB_NEIGH
  | FAB_LANE_LIMIT
  | FAB_LANE_ERR
  | FAB_CREDIT_VC
  | FAB_TX_MSG
  | FAB_RX_MSG
  | FAB_CRET_TX
  | FAB_CRET_RX
  | FAB_OCCUPIED
  | FAB_REPLAYS
  | FAB_LINK_LOSS
  | FAB_HCRC_ERR
  | RED_HALF_SEL
  | RED_STATUS
  | RED_BUF_USED
  | RED_FLAGS
  | RED_EXPECTED
  | RED_ABSENT
  | RED_STAGED
  | RED_FOLDED
  | RED_DISCARDED
  | RED_CANCELLED
  | RED_LATE
  | RED_RECORDS
  | FAB_COORD
  | FAB_JOB_RANK
  | FAB_JOB_SIZE
  | FAB_JOB_ID
  | FAB_MESH_N
  | LED_STATUS
  | LED_AUDITS
  | LED_MISMATCHES
  | LED_LAST
  | UE_STATUS
  | UE_SHARD
  | UE_SEGMENT
  | UE_FLAGS
  | UE_ELEMS
  | UE_DELTA_BYTES
  | UE_NONFINITE
  | STEP_STATUS
  | STEP_AUTH
  | STEP_TOKEN
  | STEP_LAST_COMMIT
  | STEP_COMMITS
  | STEP_NORM
  | STEP_VOTE_MISS
  | SIN_STATUS
  | SIN_SECURE_STEPS
  | SIN_LAST_SECURE
  | SIN_SECURE_AT
  | SIN_EXPECTED
  | SIN_INFLIGHT
  | SIN_HELD
  | SIN_APPLIED
  | SIN_CANCELLED
  | SIN_SENT
  | SIN_STALE
  | SIN_DRIFT
  | SIN_APPLY_POS
  | SIN_REBUILT
  | SIN_SECURINGS
  | STR_CTRL
  | STR_STATUS
  | STR_SLICE
  | STR_SLICE_RES
  | STR_PREFILL
  | STR_ROWMAP_WR
  | STR_REPAIR_SOFT
  | STR_FUSE_FREE
  | STR_SPARE_LANE
  | STR_SLICES_RUN
  | STR_ROTATIONS
  | STR_PTILE
  | STR_CLUSTER
  | STR_REP_SEL
  | STR_REP_ENTRY
  | STR_REP_FUSED
  | PWR_STATUS
  | PWR_CAP_W
  | PWR_CAP_WINDOW_MS
  | PWR_STATIC_W
  | PWR_IDLE_W
  | PWR_RUN_W
  | PWR_AVG_W
  | PWR_PACE_ROUND
  | PWR_OP_CEIL
  | PWR_THERM_CEIL
  | PWR_FIXED_OP
  | PWR_BOOST_TJ
  | PWR_ALERT
  | PWR_ALERT_COUNT
  | PWR_DROOP_MV
  | PWR_GB_MV
  | PWR_GB_FLOOR
  | PWR_ENERGY_NJ
  | PWR_FRAME_ENERGY_NJ
  | PWR_FRAME_TAG
  | PWR_FRAME_CORE_UJ
  | PWR_DECL_W
  | PWR_VMIN
  | FUM_STATUS
  | FUM_CTRL
  | FUM_REC_CTRL
  | FUM_REC_SEQ
  | FUM_REC_CONS
  | FUM_REC_DROPPED
  | FUM_THERM
  | FUM_SIGDET
  | FUM_VAL
  | FUM_FILT
  | FUM_RULE_CFG
  | FUM_RULE_LIM
  | FUM_RULE_STAT
  | CP_STATUS
  | CP_WDOG_MS
  | CP_KICK
  | CP_WDOG_EXPIRED
  | CP_TAKEOVERS
  | CP_BOOT
  | MBX_STATUS
  | MBX_CTRL
  | MBX_CMD_BASE
  | MBX_CMD_SIZE
  | MBX_CMD_TAIL
  | MBX_CMD_HEAD
  | MBX_RSP_BASE
  | MBX_RSP_SIZE
  | MBX_RSP_TAIL
  | MBX_RSP_HEAD
  | MBX_PENDING
  | MBX_ERR
  | MBX_RSP_LOST
  | MBX_IRQ
  | ERRLOG_BASE
  | ERRLOG_SIZE
  | ERRLOG_PROD
  | ERRLOG_CONS
  | ERRLOG_LOST
  | ERRLOG_DROPPED
  | ERRLOG_IRQ_MIN
  | ERRLOG_WORST
  | GLB_STRAPS
  | GLB_SIDEBAND
  | GLB_ALERT
  | GLB_ALERT_MASK
  | GLB_STARTUP
  | GLB_STARTUP_MS
  | HA_STATUS
  | HA_BAR2_BASE
  | HA_BAR2_SIZE
  | HA_CPL_TMO_US
  | HA_LINK_EVENTS
  | HA_WIN_ERR
  | HA_ATU
deriving DecidableEq, Repr

/-- The fields of the registers: register name, underscore, field name (each unique, R27). -/
inductive Fld where
  | GEY_CTRL_ANCHOR_RANK
  | GEY_CTRL_TIME_ROLE
  | GEY_CTRL_PPS_OUT_EN
  | GEY_CTRL_PPS_IN_EN
  | GEY_STATUS_JOINED
  | GEY_STATUS_NEXT_TICK
  | GEY_STATUS_PPS_QUALIFIED
  | GEY_STATUS_IN_GUARD
  | GEY_STATUS_TB_STATE
  | GEY_STATUS_SEQ_STATE
  | GEY_FRAME_PERIOD_NS_PERIOD
  | GEY_SLACK_BP_SLACK
  | GEY_CYC_PER_FRAME_N
  | GEY_PROG_FRAME_INDEX
  | GEY_EPOCH_STAMP_LO
  | GEY_EPOCH_HI_STAMP_HI
  | GEY_TB_NOW_STAMP_LO
  | GEY_TB_NOW_HI_STAMP_HI
  | GEY_FRAME_COUNT_COUNT
  | GEY_STEP_COUNT_STEP
  | GEY_START_LEAD_US_LEAD
  | GEY_IDLE_TICKS_COUNT
  | GEY_JOIN_TICKS_COUNT
  | GEY_SKIP_TOTAL_COUNT
  | GEY_SKIP_LAST_SKIP_B
  | GEY_SKIP_LAST_SKIP_A
  | GEY_MARGIN_MIN_MARGIN
  | GEY_SLEW_PPB_SLEW
  | GEY_ALIGN_LIMIT_PS_LIMIT
  | GEY_TIME_PARENT_HOPS
  | GEY_TIME_PARENT_PORT
  | GEY_PARENT_OFFSET_PS_OFFSET
  | GEY_PPS_OFFSET_PS_OFFSET
  | GEY_FREQ_ADJ_PPB_ADJ
  | GEY_HOLDOVER_S_SECONDS
  | GEY_PPS_WINDOW_NS_WINDOW
  | CAL_STATUS_VENT_BUSY
  | CAL_STATUS_ROW_SPARE_IN
  | CAL_STATUS_BANK_INT
  | CAL_STATUS_WSET1
  | CAL_STATUS_WSET0
  | CAL_STATUS_BANK3
  | CAL_STATUS_BANK2
  | CAL_STATUS_BANK1
  | CAL_STATUS_BANK0
  | CAL_FLAGS_FLAGS
  | CAL_ROWMAP_FAILED_ROW
  | CAL_ROWMAP_LROW3
  | CAL_ROWMAP_LROW2
  | CAL_ROWMAP_LROW1
  | CAL_ROWMAP_LROW0
  | CAL_FEED_DLY_DLY4
  | CAL_FEED_DLY_DLY3
  | CAL_FEED_DLY_DLY2
  | CAL_FEED_DLY_DLY1
  | CAL_FEED_DLY_DLY0
  | CAL_FEED_ERR_SKEW
  | CAL_FEED_ERR_PARITY
  | CAL_STEPS_COUNT
  | CAL_TRUNC_STEPS_COUNT
  | VENT_STEPS_COUNT
  | CAL_BUSY_CYC_COUNT
  | VE_CTRL_ACC_WINDOW
  | VE_STATUS_SLOT
  | VE_STATUS_IN_SLOT
  | VE_STATUS_STALL
  | VE_FLAGS_FLAGS
  | VE_PC_BUNDLE
  | VE_RES_SIZE_SIZE
  | VE_RES_SRC_ADDR
  | FTQ_STATUS_POPPING
  | FTQ_STATUS_POSTED
  | FTQ_STATUS_RESERVED
  | FTQ_STATUS_FREE
  | FTQ_HEAD_BANK
  | FTQ_HEAD_KIND
  | FTQ_HEAD_SEQ
  | FTQ_RESIDUE_COUNT
  | VE_PARITY_ERR_FTQ
  | VE_PARITY_ERR_REG
  | VE_BUNDLES_COUNT
  | VE_STALL_CYC_COUNT
  | VE_SCANS_COUNT
  | VE_SEEDS_COUNT
  | SE_STATUS_OPS
  | SE_STATUS_ACTIVE
  | SE_STATUS_STALL
  | SE_STATUS_IN_SLOT
  | SE_DESC_HEAD_SLOT
  | SE_DESC_HEAD_RECORD
  | SE_OPS_PEAK_PEAK
  | SE_SB_STATUS_HELD
  | SE_SB_STATUS_FILLING
  | SE_SB_STATUS_FREE
  | SE_BYTES_RD_COUNT
  | SE_BYTES_WR_COUNT
  | SE_TRANSFERS_COUNT
  | SE_HBM_CE_COUNT
  | SE_HBM_UE_COUNT
  | SE_SCRUB_POS_OFFSET
  | SE_SCRUB_PASSES_COUNT
  | SE_PROT_ERR_CRC
  | SE_PROT_ERR_REPEAT
  | SE_PROT_ERR_LOSS
  | SE_FLAGS_FLAGS
  | SE_PCH_TX_TAG_ALIVE
  | SE_PCH_TX_TAG_CRC
  | SE_PCH_RX_TAG_ALIVE
  | SE_PCH_RX_TAG_CRC
  | SE_PCH_STATE_RX_ALIVE
  | SE_PCH_STATE_TX_ALIVE
  | RES_CTRL_BG_WINDOWS
  | RES_CTRL_STARVE_N
  | RES_SCRUB_HBM_S_PERIOD
  | RES_SCRUB_SRAM_S_PERIOD
  | RES_SHARE_SE_SHARE
  | RES_SHARE_UE_SHARE
  | RES_INST_SEL_INST
  | RES_GRANTS_COUNT
  | RES_DONE_COUNT
  | RES_INFLIGHT_COUNT
  | RES_LOCK_OWNER
  | RES_LOCK_BEATS
  | RES_TEAR_COUNT_LONG
  | RES_TEAR_COUNT_TORN
  | RES_STARVE_GRANTS_COUNT
  | SYNC_STATUS_ENTRIES
  | SYNC_STATUS_TABLE
  | SYNC_WAITERS_COUNT
  | SYNC_TMO_COUNT_COUNT
  | SYNC_STALE_COUNT_COUNT
  | SYNC_ISSUED_COUNT
  | SYNC_CONSUMED_COUNT
  | SYNC_NET_COUNT
  | SYNC_LOST_COUNT
  | SYNC_CLEARED_COUNT
  | SYNC_INFLIGHT_COUNT
  | SYNC_HOST_SIG_COUNT
  | SYNC_HOST_SIG_ID
  | SYNC_BAR_PARENT_PORT
  | SYNC_BAR_CHILDREN_PORTS
  | SYNC_BARRIER_COUNT
  | SYNC_COUNT_COUNT
  | SYNC_BASE_BASE
  | SYNC_BAR_GEN
  | SYNC_BAR_KIND
  | SYNC_BAR_MEMBERS
  | SYNC_BAR_REPORTED
  | SYNC_BAR_ARRIVALS
  | SYNC_ATTR_DECLARED
  | SYNC_ATTR_CONSUMER
  | FAB_STATUS_LANE_MASK
  | FAB_STATUS_STATE
  | FAB_NEIGH_LEARNED
  | FAB_NEIGH_PORT
  | FAB_NEIGH_COORD
  | FAB_LANE_LIMIT_LIMIT
  | FAB_LANE_ERR_FRAMES
  | FAB_CREDIT_VC_LIMIT
  | FAB_CREDIT_VC_AVAIL
  | FAB_TX_MSG_COUNT
  | FAB_RX_MSG_COUNT
  | FAB_CRET_TX_COUNT
  | FAB_CRET_RX_COUNT
  | FAB_OCCUPIED_ENTRIES
  | FAB_REPLAYS_COUNT
  | FAB_LINK_LOSS_COUNT
  | FAB_HCRC_ERR_COUNT
  | RED_HALF_SEL_HALF
  | RED_STATUS_ACTIVE
  | RED_STATUS_IN_SLOT
  | RED_BUF_USED_UNITS
  | RED_FLAGS_FLAGS
  | RED_EXPECTED_COUNT
  | RED_ABSENT_COUNT
  | RED_STAGED_COUNT
  | RED_FOLDED_COUNT
  | RED_DISCARDED_COUNT
  | RED_CANCELLED_COUNT
  | RED_LATE_COUNT
  | RED_RECORDS_COUNT
  | FAB_COORD_VALID
  | FAB_COORD_COORD
  | FAB_JOB_RANK_RANK
  | FAB_JOB_SIZE_SIZE
  | FAB_JOB_ID_ID
  | FAB_MESH_N_ODD
  | FAB_MESH_N_EVEN
  | LED_STATUS_FAILED
  | LED_STATUS_DONE
  | LED_AUDITS_COUNT
  | LED_MISMATCHES_COUNT
  | LED_LAST_DETAIL
  | UE_STATUS_ACTIVE
  | UE_STATUS_STALL
  | UE_STATUS_PASS
  | UE_STATUS_IN_SLOT
  | UE_SHARD_UPROG
  | UE_SHARD_SHARD
  | UE_SEGMENT_INDEX
  | UE_FLAGS_FLAGS
  | UE_ELEMS_COUNT
  | UE_DELTA_BYTES_COUNT
  | UE_NONFINITE_COUNT
  | STEP_STATUS_CAUSE
  | STEP_STATUS_RETAINED
  | STEP_STATUS_RELEASED
  | STEP_STATUS_ARRIVED
  | STEP_STATUS_TRAIN
  | STEP_STATUS_CUR_PAGE
  | STEP_AUTH_QUEUED
  | STEP_TOKEN_TOKEN
  | STEP_LAST_COMMIT_FRAME
  | STEP_COMMITS_COUNT
  | STEP_NORM_VALUE
  | STEP_VOTE_MISS_COUNT
  | SIN_STATUS_RESTORING
  | SIN_STATUS_PEND_SEL
  | SIN_STATUS_APPLYING
  | SIN_STATUS_SECURING
  | SIN_STATUS_HOLDER
  | SIN_STATUS_TABLE
  | SIN_SECURE_STEPS_STEPS
  | SIN_LAST_SECURE_STEP
  | SIN_SECURE_AT_STEP
  | SIN_EXPECTED_COUNT
  | SIN_INFLIGHT_COUNT
  | SIN_HELD_COUNT
  | SIN_APPLIED_COUNT
  | SIN_CANCELLED_COUNT
  | SIN_SENT_COUNT
  | SIN_STALE_COUNT
  | SIN_DRIFT_COUNT
  | SIN_APPLY_POS_GRANULE
  | SIN_REBUILT_BYTES
  | SIN_SECURINGS_COUNT
  | STR_CTRL_ROT_EN
  | STR_CTRL_BIST_EN
  | STR_CTRL_MAINT
  | STR_STATUS_DEGRADED
  | STR_STATUS_SLICE_RUN
  | STR_SLICE_GO
  | STR_SLICE_PTILE
  | STR_SLICE_SLICE
  | STR_SLICE_RES_RESULT
  | STR_SLICE_RES_PTILE
  | STR_SLICE_RES_SLICE
  | STR_PREFILL_GO
  | STR_PREFILL_DONE
  | STR_PREFILL_PTILE
  | STR_PREFILL_POS
  | STR_ROWMAP_WR_GO
  | STR_ROWMAP_WR_PTILE
  | STR_ROWMAP_WR_DLY
  | STR_ROWMAP_WR_ROWMAP
  | STR_REPAIR_SOFT_DIE_B
  | STR_REPAIR_SOFT_DIE_A
  | STR_FUSE_FREE_DIE_B
  | STR_FUSE_FREE_DIE_A
  | STR_SPARE_LANE_BAD
  | STR_SPARE_LANE_USED
  | STR_SLICES_RUN_COUNT
  | STR_ROTATIONS_COUNT
  | STR_PTILE_STATE
  | STR_PTILE_TESTED
  | STR_PTILE_REPAIRABLE
  | STR_PTILE_POS
  | STR_PTILE_LAST_FAIL
  | STR_PTILE_PASSED
  | STR_CLUSTER_NEXT_POS
  | STR_CLUSTER_SPARE_PT
  | STR_CLUSTER_PREFILLED
  | STR_CLUSTER_DEGRADED
  | STR_REP_SEL_DIE
  | STR_REP_SEL_INDEX
  | STR_REP_ENTRY_ENTRY
  | STR_REP_FUSED_FUSED
  | PWR_STATUS_DIL
  | PWR_STATUS_FREE_RUN
  | PWR_STATUS_CAP_FORCED
  | PWR_STATUS_ALERT
  | PWR_STATUS_OPPORTUNISTIC
  | PWR_STATUS_OP_AGREED
  | PWR_STATUS_OP_REQ
  | PWR_STATUS_OP_NOW
  | PWR_CAP_W_CAP
  | PWR_CAP_WINDOW_MS_WINDOW
  | PWR_STATIC_W_STATIC
  | PWR_IDLE_W_IDLE
  | PWR_RUN_W_RUN
  | PWR_AVG_W_AVG
  | PWR_PACE_ROUND_ROUND
  | PWR_OP_CEIL_OP
  | PWR_THERM_CEIL_OP
  | PWR_FIXED_OP_OP
  | PWR_BOOST_TJ_TEMP
  | PWR_ALERT_LEVEL
  | PWR_ALERT_LATCH
  | PWR_ALERT_COUNT_COUNT
  | PWR_DROOP_MV_DIE_B
  | PWR_DROOP_MV_DIE_A
  | PWR_GB_MV_GB_B
  | PWR_GB_MV_GB_A
  | PWR_GB_FLOOR_FLOOR_B
  | PWR_GB_FLOOR_FLOOR_A
  | PWR_ENERGY_NJ_COUNT
  | PWR_FRAME_ENERGY_NJ_ENERGY
  | PWR_FRAME_TAG_FRAME
  | PWR_FRAME_CORE_UJ_DIE_B
  | PWR_FRAME_CORE_UJ_DIE_A
  | PWR_DECL_W_DECL
  | PWR_VMIN_V_SET
  | PWR_VMIN_VMIN
  | FUM_STATUS_WAKE_CAUSE
  | FUM_STATUS_DOWN_CAUSE
  | FUM_STATUS_STATE
  | FUM_CTRL_WAKE_EN
  | FUM_REC_CTRL_FRAME_DECIM
  | FUM_REC_CTRL_SENSOR_PERIOD
  | FUM_REC_SEQ_SEQ
  | FUM_REC_CONS_CONS
  | FUM_REC_DROPPED_COUNT
  | FUM_THERM_ASSERTED
  | FUM_SIGDET_PORTS
  | FUM_VAL_RAW
  | FUM_VAL_FILT
  | FUM_FILT_K
  | FUM_RULE_CFG_EN
  | FUM_RULE_CFG_CMP
  | FUM_RULE_CFG_CH
  | FUM_RULE_CFG_HOLD
  | FUM_RULE_CFG_ACTIONS
  | FUM_RULE_LIM_HYST
  | FUM_RULE_LIM_THRESH
  | FUM_RULE_STAT_ACTIVE
  | FUM_RULE_STAT_HITS
  | CP_STATUS_STATE_B
  | CP_STATUS_STATE_A
  | CP_STATUS_PRIMARY
  | CP_WDOG_MS_PERIOD
  | CP_KICK_KICK
  | CP_WDOG_EXPIRED_DIE_B
  | CP_WDOG_EXPIRED_DIE_A
  | CP_TAKEOVERS_COUNT
  | CP_BOOT_SVN_FUSED
  | CP_BOOT_FAILED
  | CP_BOOT_SLOT
  | MBX_STATUS_MAJOR
  | MBX_STATUS_MINOR
  | MBX_STATUS_STATE
  | MBX_CTRL_ENABLE
  | MBX_CMD_BASE_ADDR
  | MBX_CMD_SIZE_LOG2
  | MBX_CMD_TAIL_COUNT
  | MBX_CMD_HEAD_COUNT
  | MBX_RSP_BASE_ADDR
  | MBX_RSP_SIZE_LOG2
  | MBX_RSP_TAIL_COUNT
  | MBX_RSP_HEAD_COUNT
  | MBX_PENDING_COUNT
  | MBX_ERR_COUNT
  | MBX_RSP_LOST_COUNT
  | MBX_IRQ_EN
  | MBX_IRQ_MOD_US
  | ERRLOG_BASE_ADDR
  | ERRLOG_SIZE_ENTRIES
  | ERRLOG_PROD_COUNT
  | ERRLOG_CONS_COUNT
  | ERRLOG_LOST_COUNT
  | ERRLOG_DROPPED_COUNT
  | ERRLOG_IRQ_MIN_SEVERITY
  | ERRLOG_WORST_SEVERITY
  | GLB_STRAPS_CHANGED
  | GLB_STRAPS_SLOT_ID
  | GLB_SIDEBAND_THERM_LOW
  | GLB_SIDEBAND_WAKE_LOW
  | GLB_SIDEBAND_ALERT_LOW
  | GLB_SIDEBAND_PPS_IN
  | GLB_SIDEBAND_PWR_ALERT_N
  | GLB_SIDEBAND_PERST_N
  | GLB_ALERT_PEND
  | GLB_ALERT_MASK_EN
  | GLB_STARTUP_RESTARTS
  | GLB_STARTUP_STEP
  | GLB_STARTUP_MS_MS
  | HA_STATUS_SPEED
  | HA_STATUS_WIDTH
  | HA_STATUS_FLIT
  | HA_STATUS_L0P
  | HA_STATUS_LINK_UP
  | HA_BAR2_BASE_BASE
  | HA_BAR2_SIZE_LOG2
  | HA_CPL_TMO_US_TMO
  | HA_LINK_EVENTS_CHANGES
  | HA_LINK_EVENTS_DOWNS
  | HA_WIN_ERR_COUNT
  | HA_ATU_HOST_BASE
  | HA_ATU_VALID
deriving DecidableEq, Repr

end Sys2Proof
end

