-- ==== Sys2Proof/Machine/RegMap.lean ====
section
/-! DEFINITION. The register tables as data: where each register stands (R9, R744), how wide it is (R12), which
reset domain owns it (R11), and each field's bits, access type (R14), value at the release of its domain, range of
stored values and whether its count saturates or wraps. -/

set_option autoImplicit false

namespace Sys2Proof.Machine

open Sys2Proof

/-- Access types (R14). -/
inductive Access where
  | ro | rw | wo | rw1c | rw1s | roc
deriving DecidableEq, Repr

/-- Reset domain of a register block (R744, R776). -/
inductive RegDomain where
  | fumarole | tile | streamEngine | updateEngine | port | reduction | sync | hostAdapter
deriving DecidableEq, Repr

/-- One register of the tables: block base and spacing (R744), offset in the block, spacing and number of its
array elements, width, domain, fields from the highest bit down. -/
structure RegRow where
  base : Nat
  unitStride : Nat
  units : Nat
  off : Nat
  stride : Nat
  count : Nat
  wide : Bool
  domain : RegDomain
  fields : List Fld
deriving DecidableEq, Repr

/-- One field: its bits, access, value at release, least and greatest value a write stores, and whether a count in
it saturates (else it wraps). -/
structure FldRow where
  hi : Nat
  lo : Nat
  acc : Access
  reset : Nat
  min : Nat
  max : Nat
  sat : Bool
deriving DecidableEq, Repr

/-- The row of each register. -/
def regRow : Reg → RegRow
  | .GEY_CTRL => RegRow.mk 0x00100000 0x0 1 0x0 0 1 false RegDomain.fumarole [Fld.GEY_CTRL_ANCHOR_RANK, Fld.GEY_CTRL_TIME_ROLE, Fld.GEY_CTRL_PPS_OUT_EN, Fld.GEY_CTRL_PPS_IN_EN]
  | .GEY_STATUS => RegRow.mk 0x00100000 0x0 1 0x4 0 1 false RegDomain.fumarole [Fld.GEY_STATUS_JOINED, Fld.GEY_STATUS_NEXT_TICK, Fld.GEY_STATUS_PPS_QUALIFIED, Fld.GEY_STATUS_IN_GUARD, Fld.GEY_STATUS_TB_STATE, Fld.GEY_STATUS_SEQ_STATE]
  | .GEY_FRAME_PERIOD_NS => RegRow.mk 0x00100000 0x0 1 0x8 0 1 false RegDomain.fumarole [Fld.GEY_FRAME_PERIOD_NS_PERIOD]
  | .GEY_SLACK_BP => RegRow.mk 0x00100000 0x0 1 0xC 0 1 false RegDomain.fumarole [Fld.GEY_SLACK_BP_SLACK]
  | .GEY_CYC_PER_FRAME => RegRow.mk 0x00100000 0x0 1 0x10 0 1 false RegDomain.fumarole [Fld.GEY_CYC_PER_FRAME_N]
  | .GEY_PROG_FRAME => RegRow.mk 0x00100000 0x0 1 0x14 0 1 false RegDomain.fumarole [Fld.GEY_PROG_FRAME_INDEX]
  | .GEY_EPOCH => RegRow.mk 0x00100000 0x0 1 0x18 0 1 true RegDomain.fumarole [Fld.GEY_EPOCH_STAMP_LO]
  | .GEY_EPOCH_HI => RegRow.mk 0x00100000 0x0 1 0x20 0 1 false RegDomain.fumarole [Fld.GEY_EPOCH_HI_STAMP_HI]
  | .GEY_TB_NOW => RegRow.mk 0x00100000 0x0 1 0x28 0 1 true RegDomain.fumarole [Fld.GEY_TB_NOW_STAMP_LO]
  | .GEY_TB_NOW_HI => RegRow.mk 0x00100000 0x0 1 0x30 0 1 false RegDomain.fumarole [Fld.GEY_TB_NOW_HI_STAMP_HI]
  | .GEY_FRAME_COUNT => RegRow.mk 0x00100000 0x0 1 0x38 0 1 true RegDomain.fumarole [Fld.GEY_FRAME_COUNT_COUNT]
  | .GEY_STEP_COUNT => RegRow.mk 0x00100000 0x0 1 0x40 0 1 false RegDomain.fumarole [Fld.GEY_STEP_COUNT_STEP]
  | .GEY_START_LEAD_US => RegRow.mk 0x00100000 0x0 1 0x44 0 1 false RegDomain.fumarole [Fld.GEY_START_LEAD_US_LEAD]
  | .GEY_IDLE_TICKS => RegRow.mk 0x00100000 0x0 1 0x48 0 1 true RegDomain.fumarole [Fld.GEY_IDLE_TICKS_COUNT]
  | .GEY_JOIN_TICKS => RegRow.mk 0x00100000 0x0 1 0x50 0 1 true RegDomain.fumarole [Fld.GEY_JOIN_TICKS_COUNT]
  | .GEY_SKIP_TOTAL => RegRow.mk 0x00100000 0x0 1 0x58 0 1 true RegDomain.fumarole [Fld.GEY_SKIP_TOTAL_COUNT]
  | .GEY_SKIP_LAST => RegRow.mk 0x00100000 0x0 1 0x60 0 1 false RegDomain.fumarole [Fld.GEY_SKIP_LAST_SKIP_B, Fld.GEY_SKIP_LAST_SKIP_A]
  | .GEY_MARGIN_MIN => RegRow.mk 0x00100000 0x0 1 0x64 0 1 false RegDomain.fumarole [Fld.GEY_MARGIN_MIN_MARGIN]
  | .GEY_SLEW_PPB => RegRow.mk 0x00100000 0x0 1 0x68 0 1 false RegDomain.fumarole [Fld.GEY_SLEW_PPB_SLEW]
  | .GEY_ALIGN_LIMIT_PS => RegRow.mk 0x00100000 0x0 1 0x6C 0 1 false RegDomain.fumarole [Fld.GEY_ALIGN_LIMIT_PS_LIMIT]
  | .GEY_TIME_PARENT => RegRow.mk 0x00100000 0x0 1 0x70 0 1 false RegDomain.fumarole [Fld.GEY_TIME_PARENT_HOPS, Fld.GEY_TIME_PARENT_PORT]
  | .GEY_PARENT_OFFSET_PS => RegRow.mk 0x00100000 0x0 1 0x74 0 1 false RegDomain.fumarole [Fld.GEY_PARENT_OFFSET_PS_OFFSET]
  | .GEY_PPS_OFFSET_PS => RegRow.mk 0x00100000 0x0 1 0x78 0 1 false RegDomain.fumarole [Fld.GEY_PPS_OFFSET_PS_OFFSET]
  | .GEY_FREQ_ADJ_PPB => RegRow.mk 0x00100000 0x0 1 0x7C 0 1 false RegDomain.fumarole [Fld.GEY_FREQ_ADJ_PPB_ADJ]
  | .GEY_HOLDOVER_S => RegRow.mk 0x00100000 0x0 1 0x80 0 1 false RegDomain.fumarole [Fld.GEY_HOLDOVER_S_SECONDS]
  | .GEY_PPS_WINDOW_NS => RegRow.mk 0x00100000 0x0 1 0x84 0 1 false RegDomain.fumarole [Fld.GEY_PPS_WINDOW_NS_WINDOW]
  | .CAL_STATUS => RegRow.mk 0x01000000 0x10000 256 0x2000 0 1 false RegDomain.tile [Fld.CAL_STATUS_VENT_BUSY, Fld.CAL_STATUS_ROW_SPARE_IN, Fld.CAL_STATUS_BANK_INT, Fld.CAL_STATUS_WSET1, Fld.CAL_STATUS_WSET0, Fld.CAL_STATUS_BANK3, Fld.CAL_STATUS_BANK2, Fld.CAL_STATUS_BANK1, Fld.CAL_STATUS_BANK0]
  | .CAL_FLAGS => RegRow.mk 0x01000000 0x10000 256 0x2004 0 1 false RegDomain.tile [Fld.CAL_FLAGS_FLAGS]
  | .CAL_ROWMAP => RegRow.mk 0x01000000 0x10000 256 0x2008 0 1 false RegDomain.tile [Fld.CAL_ROWMAP_FAILED_ROW, Fld.CAL_ROWMAP_LROW3, Fld.CAL_ROWMAP_LROW2, Fld.CAL_ROWMAP_LROW1, Fld.CAL_ROWMAP_LROW0]
  | .CAL_FEED_DLY => RegRow.mk 0x01000000 0x10000 256 0x200C 0 1 false RegDomain.tile [Fld.CAL_FEED_DLY_DLY4, Fld.CAL_FEED_DLY_DLY3, Fld.CAL_FEED_DLY_DLY2, Fld.CAL_FEED_DLY_DLY1, Fld.CAL_FEED_DLY_DLY0]
  | .CAL_FEED_ERR => RegRow.mk 0x01000000 0x10000 256 0x2010 0 1 false RegDomain.tile [Fld.CAL_FEED_ERR_SKEW, Fld.CAL_FEED_ERR_PARITY]
  | .CAL_STEPS => RegRow.mk 0x01000000 0x10000 256 0x2018 0 1 true RegDomain.tile [Fld.CAL_STEPS_COUNT]
  | .CAL_TRUNC_STEPS => RegRow.mk 0x01000000 0x10000 256 0x2020 0 1 true RegDomain.tile [Fld.CAL_TRUNC_STEPS_COUNT]
  | .VENT_STEPS => RegRow.mk 0x01000000 0x10000 256 0x2028 0 1 true RegDomain.tile [Fld.VENT_STEPS_COUNT]
  | .CAL_BUSY_CYC => RegRow.mk 0x01000000 0x10000 256 0x2030 0 1 true RegDomain.tile [Fld.CAL_BUSY_CYC_COUNT]
  | .VE_CTRL => RegRow.mk 0x01000000 0x10000 256 0x1000 0 1 false RegDomain.tile [Fld.VE_CTRL_ACC_WINDOW]
  | .VE_STATUS => RegRow.mk 0x01000000 0x10000 256 0x1004 0 1 false RegDomain.tile [Fld.VE_STATUS_SLOT, Fld.VE_STATUS_IN_SLOT, Fld.VE_STATUS_STALL]
  | .VE_FLAGS => RegRow.mk 0x01000000 0x10000 256 0x1008 0 1 false RegDomain.tile [Fld.VE_FLAGS_FLAGS]
  | .VE_PC => RegRow.mk 0x01000000 0x10000 256 0x100C 0 1 false RegDomain.tile [Fld.VE_PC_BUNDLE]
  | .VE_RES_SIZE => RegRow.mk 0x01000000 0x10000 256 0x1010 0 1 false RegDomain.tile [Fld.VE_RES_SIZE_SIZE]
  | .VE_RES_SRC => RegRow.mk 0x01000000 0x10000 256 0x1018 0 1 true RegDomain.tile [Fld.VE_RES_SRC_ADDR]
  | .FTQ_STATUS => RegRow.mk 0x01000000 0x10000 256 0x1020 0 1 false RegDomain.tile [Fld.FTQ_STATUS_POPPING, Fld.FTQ_STATUS_POSTED, Fld.FTQ_STATUS_RESERVED, Fld.FTQ_STATUS_FREE]
  | .FTQ_HEAD => RegRow.mk 0x01000000 0x10000 256 0x1024 0 1 false RegDomain.tile [Fld.FTQ_HEAD_BANK, Fld.FTQ_HEAD_KIND, Fld.FTQ_HEAD_SEQ]
  | .FTQ_RESIDUE => RegRow.mk 0x01000000 0x10000 256 0x1028 0 1 false RegDomain.tile [Fld.FTQ_RESIDUE_COUNT]
  | .VE_PARITY_ERR => RegRow.mk 0x01000000 0x10000 256 0x102C 0 1 false RegDomain.tile [Fld.VE_PARITY_ERR_FTQ, Fld.VE_PARITY_ERR_REG]
  | .VE_BUNDLES => RegRow.mk 0x01000000 0x10000 256 0x1030 0 1 true RegDomain.tile [Fld.VE_BUNDLES_COUNT]
  | .VE_STALL_CYC => RegRow.mk 0x01000000 0x10000 256 0x1038 0 1 true RegDomain.tile [Fld.VE_STALL_CYC_COUNT]
  | .VE_SCANS => RegRow.mk 0x01000000 0x10000 256 0x1040 0 1 true RegDomain.tile [Fld.VE_SCANS_COUNT]
  | .VE_SEEDS => RegRow.mk 0x01000000 0x10000 256 0x1048 0 1 true RegDomain.tile [Fld.VE_SEEDS_COUNT]
  | .SE_STATUS => RegRow.mk 0x02000000 0x10000 16 0x0 0 1 false RegDomain.streamEngine [Fld.SE_STATUS_OPS, Fld.SE_STATUS_ACTIVE, Fld.SE_STATUS_STALL, Fld.SE_STATUS_IN_SLOT]
  | .SE_DESC_HEAD => RegRow.mk 0x02000000 0x10000 16 0x4 0 1 false RegDomain.streamEngine [Fld.SE_DESC_HEAD_SLOT, Fld.SE_DESC_HEAD_RECORD]
  | .SE_OPS_PEAK => RegRow.mk 0x02000000 0x10000 16 0x8 0 1 false RegDomain.streamEngine [Fld.SE_OPS_PEAK_PEAK]
  | .SE_SB_STATUS => RegRow.mk 0x02000000 0x10000 16 0xC 0 1 false RegDomain.streamEngine [Fld.SE_SB_STATUS_HELD, Fld.SE_SB_STATUS_FILLING, Fld.SE_SB_STATUS_FREE]
  | .SE_BYTES_RD => RegRow.mk 0x02000000 0x10000 16 0x10 0 1 true RegDomain.streamEngine [Fld.SE_BYTES_RD_COUNT]
  | .SE_BYTES_WR => RegRow.mk 0x02000000 0x10000 16 0x18 0 1 true RegDomain.streamEngine [Fld.SE_BYTES_WR_COUNT]
  | .SE_TRANSFERS => RegRow.mk 0x02000000 0x10000 16 0x20 0 1 true RegDomain.streamEngine [Fld.SE_TRANSFERS_COUNT]
  | .SE_HBM_CE => RegRow.mk 0x02000000 0x10000 16 0x28 0 1 false RegDomain.streamEngine [Fld.SE_HBM_CE_COUNT]
  | .SE_HBM_UE => RegRow.mk 0x02000000 0x10000 16 0x2C 0 1 false RegDomain.streamEngine [Fld.SE_HBM_UE_COUNT]
  | .SE_SCRUB_POS => RegRow.mk 0x02000000 0x10000 16 0x30 0 1 true RegDomain.streamEngine [Fld.SE_SCRUB_POS_OFFSET]
  | .SE_SCRUB_PASSES => RegRow.mk 0x02000000 0x10000 16 0x38 0 1 false RegDomain.streamEngine [Fld.SE_SCRUB_PASSES_COUNT]
  | .SE_PROT_ERR => RegRow.mk 0x02000000 0x10000 16 0x3C 0 1 false RegDomain.streamEngine [Fld.SE_PROT_ERR_CRC, Fld.SE_PROT_ERR_REPEAT, Fld.SE_PROT_ERR_LOSS]
  | .SE_FLAGS => RegRow.mk 0x02000000 0x10000 16 0x40 0 1 false RegDomain.streamEngine [Fld.SE_FLAGS_FLAGS]
  | .SE_PCH_TX_TAG => RegRow.mk 0x02000000 0x10000 16 0x1000 16 64 true RegDomain.streamEngine [Fld.SE_PCH_TX_TAG_ALIVE, Fld.SE_PCH_TX_TAG_CRC]
  | .SE_PCH_RX_TAG => RegRow.mk 0x02000000 0x10000 16 0x1008 16 64 true RegDomain.streamEngine [Fld.SE_PCH_RX_TAG_ALIVE, Fld.SE_PCH_RX_TAG_CRC]
  | .SE_PCH_STATE => RegRow.mk 0x02000000 0x10000 16 0x2000 4 64 false RegDomain.streamEngine [Fld.SE_PCH_STATE_RX_ALIVE, Fld.SE_PCH_STATE_TX_ALIVE]
  | .RES_CTRL => RegRow.mk 0x00600000 0x0 1 0x0 0 1 false RegDomain.fumarole [Fld.RES_CTRL_BG_WINDOWS, Fld.RES_CTRL_STARVE_N]
  | .RES_SCRUB_HBM_S => RegRow.mk 0x00600000 0x0 1 0x4 0 1 false RegDomain.fumarole [Fld.RES_SCRUB_HBM_S_PERIOD]
  | .RES_SCRUB_SRAM_S => RegRow.mk 0x00600000 0x0 1 0x8 0 1 false RegDomain.fumarole [Fld.RES_SCRUB_SRAM_S_PERIOD]
  | .RES_SHARE_SE => RegRow.mk 0x00600000 0x0 1 0x10 4 4 false RegDomain.fumarole [Fld.RES_SHARE_SE_SHARE]
  | .RES_SHARE_UE => RegRow.mk 0x00600000 0x0 1 0x20 4 4 false RegDomain.fumarole [Fld.RES_SHARE_UE_SHARE]
  | .RES_INST_SEL => RegRow.mk 0x00600000 0x0 1 0x30 0 1 false RegDomain.fumarole [Fld.RES_INST_SEL_INST]
  | .RES_GRANTS => RegRow.mk 0x00600000 0x0 1 0x38 0 1 true RegDomain.fumarole [Fld.RES_GRANTS_COUNT]
  | .RES_DONE => RegRow.mk 0x00600000 0x0 1 0x40 0 1 true RegDomain.fumarole [Fld.RES_DONE_COUNT]
  | .RES_INFLIGHT => RegRow.mk 0x00600000 0x0 1 0x48 0 1 false RegDomain.fumarole [Fld.RES_INFLIGHT_COUNT]
  | .RES_LOCK => RegRow.mk 0x00600000 0x0 1 0x4C 0 1 false RegDomain.fumarole [Fld.RES_LOCK_OWNER, Fld.RES_LOCK_BEATS]
  | .RES_TEAR_COUNT => RegRow.mk 0x00600000 0x0 1 0x50 0 1 false RegDomain.fumarole [Fld.RES_TEAR_COUNT_LONG, Fld.RES_TEAR_COUNT_TORN]
  | .RES_STARVE_GRANTS => RegRow.mk 0x00600000 0x0 1 0x54 0 1 false RegDomain.fumarole [Fld.RES_STARVE_GRANTS_COUNT]
  | .SYNC_STATUS => RegRow.mk 0x03300000 0x0 1 0x0 0 1 false RegDomain.sync [Fld.SYNC_STATUS_ENTRIES, Fld.SYNC_STATUS_TABLE]
  | .SYNC_WAITERS => RegRow.mk 0x03300000 0x0 1 0x4 0 1 false RegDomain.sync [Fld.SYNC_WAITERS_COUNT]
  | .SYNC_TMO_COUNT => RegRow.mk 0x03300000 0x0 1 0x8 0 1 false RegDomain.sync [Fld.SYNC_TMO_COUNT_COUNT]
  | .SYNC_STALE_COUNT => RegRow.mk 0x03300000 0x0 1 0xC 0 1 false RegDomain.sync [Fld.SYNC_STALE_COUNT_COUNT]
  | .SYNC_ISSUED => RegRow.mk 0x03300000 0x0 1 0x10 0 1 true RegDomain.sync [Fld.SYNC_ISSUED_COUNT]
  | .SYNC_CONSUMED => RegRow.mk 0x03300000 0x0 1 0x18 0 1 true RegDomain.sync [Fld.SYNC_CONSUMED_COUNT]
  | .SYNC_NET => RegRow.mk 0x03300000 0x0 1 0x20 0 1 true RegDomain.sync [Fld.SYNC_NET_COUNT]
  | .SYNC_LOST => RegRow.mk 0x03300000 0x0 1 0x28 0 1 true RegDomain.sync [Fld.SYNC_LOST_COUNT]
  | .SYNC_CLEARED => RegRow.mk 0x03300000 0x0 1 0x30 0 1 true RegDomain.sync [Fld.SYNC_CLEARED_COUNT]
  | .SYNC_INFLIGHT => RegRow.mk 0x03300000 0x0 1 0x38 0 1 false RegDomain.sync [Fld.SYNC_INFLIGHT_COUNT]
  | .SYNC_HOST_SIG => RegRow.mk 0x03300000 0x0 1 0x40 0 1 true RegDomain.sync [Fld.SYNC_HOST_SIG_COUNT, Fld.SYNC_HOST_SIG_ID]
  | .SYNC_BAR_PARENT => RegRow.mk 0x03300000 0x0 1 0x48 0 1 false RegDomain.sync [Fld.SYNC_BAR_PARENT_PORT]
  | .SYNC_BAR_CHILDREN => RegRow.mk 0x03300000 0x0 1 0x4C 0 1 false RegDomain.sync [Fld.SYNC_BAR_CHILDREN_PORTS]
  | .SYNC_BARRIER => RegRow.mk 0x03300000 0x0 1 0x50 0 1 true RegDomain.sync [Fld.SYNC_BARRIER_COUNT]
  | .SYNC_COUNT => RegRow.mk 0x03300000 0x0 1 0x10000 4 16384 false RegDomain.sync [Fld.SYNC_COUNT_COUNT]
  | .SYNC_BASE => RegRow.mk 0x03300000 0x0 1 0x20000 4 16384 false RegDomain.sync [Fld.SYNC_BASE_BASE]
  | .SYNC_BAR => RegRow.mk 0x03300000 0x0 1 0x30000 8 256 true RegDomain.sync [Fld.SYNC_BAR_GEN, Fld.SYNC_BAR_KIND, Fld.SYNC_BAR_MEMBERS, Fld.SYNC_BAR_REPORTED, Fld.SYNC_BAR_ARRIVALS]
  | .SYNC_ATTR => RegRow.mk 0x03300000 0x0 1 0x40000 4 16384 false RegDomain.sync [Fld.SYNC_ATTR_DECLARED, Fld.SYNC_ATTR_CONSUMER]
  | .FAB_STATUS => RegRow.mk 0x03000000 0x10000 18 0x0 0 1 false RegDomain.port [Fld.FAB_STATUS_LANE_MASK, Fld.FAB_STATUS_STATE]
  | .FAB_NEIGH => RegRow.mk 0x03000000 0x10000 18 0x4 0 1 false RegDomain.port [Fld.FAB_NEIGH_LEARNED, Fld.FAB_NEIGH_PORT, Fld.FAB_NEIGH_COORD]
  | .FAB_LANE_LIMIT => RegRow.mk 0x03000000 0x10000 18 0x8 0 1 false RegDomain.port [Fld.FAB_LANE_LIMIT_LIMIT]
  | .FAB_LANE_ERR => RegRow.mk 0x03000000 0x10000 18 0xC 0 1 false RegDomain.port [Fld.FAB_LANE_ERR_FRAMES]
  | .FAB_CREDIT_VC => RegRow.mk 0x03000000 0x10000 18 0x10 4 4 false RegDomain.port [Fld.FAB_CREDIT_VC_LIMIT, Fld.FAB_CREDIT_VC_AVAIL]
  | .FAB_TX_MSG => RegRow.mk 0x03000000 0x10000 18 0x20 4 4 false RegDomain.port [Fld.FAB_TX_MSG_COUNT]
  | .FAB_RX_MSG => RegRow.mk 0x03000000 0x10000 18 0x30 4 4 false RegDomain.port [Fld.FAB_RX_MSG_COUNT]
  | .FAB_CRET_TX => RegRow.mk 0x03000000 0x10000 18 0x40 4 4 false RegDomain.port [Fld.FAB_CRET_TX_COUNT]
  | .FAB_CRET_RX => RegRow.mk 0x03000000 0x10000 18 0x50 4 4 false RegDomain.port [Fld.FAB_CRET_RX_COUNT]
  | .FAB_OCCUPIED => RegRow.mk 0x03000000 0x10000 18 0x60 0 1 true RegDomain.port [Fld.FAB_OCCUPIED_ENTRIES]
  | .FAB_REPLAYS => RegRow.mk 0x03000000 0x10000 18 0x68 0 1 false RegDomain.port [Fld.FAB_REPLAYS_COUNT]
  | .FAB_LINK_LOSS => RegRow.mk 0x03000000 0x10000 18 0x6C 0 1 false RegDomain.port [Fld.FAB_LINK_LOSS_COUNT]
  | .FAB_HCRC_ERR => RegRow.mk 0x03000000 0x10000 18 0x70 0 1 false RegDomain.port [Fld.FAB_HCRC_ERR_COUNT]
  | .RED_HALF_SEL => RegRow.mk 0x03200000 0x0 1 0x0 0 1 false RegDomain.reduction [Fld.RED_HALF_SEL_HALF]
  | .RED_STATUS => RegRow.mk 0x03200000 0x0 1 0x4 0 1 false RegDomain.reduction [Fld.RED_STATUS_ACTIVE, Fld.RED_STATUS_IN_SLOT]
  | .RED_BUF_USED => RegRow.mk 0x03200000 0x0 1 0x8 0 1 false RegDomain.reduction [Fld.RED_BUF_USED_UNITS]
  | .RED_FLAGS => RegRow.mk 0x03200000 0x0 1 0xC 0 1 false RegDomain.reduction [Fld.RED_FLAGS_FLAGS]
  | .RED_EXPECTED => RegRow.mk 0x03200000 0x0 1 0x10 0 1 false RegDomain.reduction [Fld.RED_EXPECTED_COUNT]
  | .RED_ABSENT => RegRow.mk 0x03200000 0x0 1 0x14 0 1 false RegDomain.reduction [Fld.RED_ABSENT_COUNT]
  | .RED_STAGED => RegRow.mk 0x03200000 0x0 1 0x18 0 1 false RegDomain.reduction [Fld.RED_STAGED_COUNT]
  | .RED_FOLDED => RegRow.mk 0x03200000 0x0 1 0x1C 0 1 false RegDomain.reduction [Fld.RED_FOLDED_COUNT]
  | .RED_DISCARDED => RegRow.mk 0x03200000 0x0 1 0x20 0 1 false RegDomain.reduction [Fld.RED_DISCARDED_COUNT]
  | .RED_CANCELLED => RegRow.mk 0x03200000 0x0 1 0x24 0 1 false RegDomain.reduction [Fld.RED_CANCELLED_COUNT]
  | .RED_LATE => RegRow.mk 0x03200000 0x0 1 0x28 0 1 false RegDomain.reduction [Fld.RED_LATE_COUNT]
  | .RED_RECORDS => RegRow.mk 0x03200000 0x0 1 0x30 0 1 true RegDomain.reduction [Fld.RED_RECORDS_COUNT]
  | .FAB_COORD => RegRow.mk 0x03200000 0x0 1 0x8000 0 1 false RegDomain.fumarole [Fld.FAB_COORD_VALID, Fld.FAB_COORD_COORD]
  | .FAB_JOB_RANK => RegRow.mk 0x03200000 0x0 1 0x8004 0 1 false RegDomain.fumarole [Fld.FAB_JOB_RANK_RANK]
  | .FAB_JOB_SIZE => RegRow.mk 0x03200000 0x0 1 0x8008 0 1 false RegDomain.fumarole [Fld.FAB_JOB_SIZE_SIZE]
  | .FAB_JOB_ID => RegRow.mk 0x03200000 0x0 1 0x800C 0 1 false RegDomain.fumarole [Fld.FAB_JOB_ID_ID]
  | .FAB_MESH_N => RegRow.mk 0x03200000 0x0 1 0x8010 4 3 false RegDomain.fumarole [Fld.FAB_MESH_N_ODD, Fld.FAB_MESH_N_EVEN]
  | .LED_STATUS => RegRow.mk 0x00500000 0x0 1 0x10000 0 1 false RegDomain.fumarole [Fld.LED_STATUS_FAILED, Fld.LED_STATUS_DONE]
  | .LED_AUDITS => RegRow.mk 0x00500000 0x0 1 0x10008 0 1 true RegDomain.fumarole [Fld.LED_AUDITS_COUNT]
  | .LED_MISMATCHES => RegRow.mk 0x00500000 0x0 1 0x10010 0 1 true RegDomain.fumarole [Fld.LED_MISMATCHES_COUNT]
  | .LED_LAST => RegRow.mk 0x00500000 0x0 1 0x10018 0 1 true RegDomain.fumarole [Fld.LED_LAST_DETAIL]
  | .UE_STATUS => RegRow.mk 0x02100000 0x10000 16 0x0 0 1 false RegDomain.updateEngine [Fld.UE_STATUS_ACTIVE, Fld.UE_STATUS_STALL, Fld.UE_STATUS_PASS, Fld.UE_STATUS_IN_SLOT]
  | .UE_SHARD => RegRow.mk 0x02100000 0x10000 16 0x4 0 1 false RegDomain.updateEngine [Fld.UE_SHARD_UPROG, Fld.UE_SHARD_SHARD]
  | .UE_SEGMENT => RegRow.mk 0x02100000 0x10000 16 0x8 0 1 false RegDomain.updateEngine [Fld.UE_SEGMENT_INDEX]
  | .UE_FLAGS => RegRow.mk 0x02100000 0x10000 16 0xC 0 1 false RegDomain.updateEngine [Fld.UE_FLAGS_FLAGS]
  | .UE_ELEMS => RegRow.mk 0x02100000 0x10000 16 0x10 0 1 true RegDomain.updateEngine [Fld.UE_ELEMS_COUNT]
  | .UE_DELTA_BYTES => RegRow.mk 0x02100000 0x10000 16 0x18 0 1 true RegDomain.updateEngine [Fld.UE_DELTA_BYTES_COUNT]
  | .UE_NONFINITE => RegRow.mk 0x02100000 0x10000 16 0x20 0 1 false RegDomain.updateEngine [Fld.UE_NONFINITE_COUNT]
  | .STEP_STATUS => RegRow.mk 0x02100000 0x0 1 0x8000 0 1 false RegDomain.fumarole [Fld.STEP_STATUS_CAUSE, Fld.STEP_STATUS_RETAINED, Fld.STEP_STATUS_RELEASED, Fld.STEP_STATUS_ARRIVED, Fld.STEP_STATUS_TRAIN, Fld.STEP_STATUS_CUR_PAGE]
  | .STEP_AUTH => RegRow.mk 0x02100000 0x0 1 0x8004 0 1 false RegDomain.fumarole [Fld.STEP_AUTH_QUEUED]
  | .STEP_TOKEN => RegRow.mk 0x02100000 0x0 1 0x8008 0 1 true RegDomain.fumarole [Fld.STEP_TOKEN_TOKEN]
  | .STEP_LAST_COMMIT => RegRow.mk 0x02100000 0x0 1 0x8010 0 1 true RegDomain.fumarole [Fld.STEP_LAST_COMMIT_FRAME]
  | .STEP_COMMITS => RegRow.mk 0x02100000 0x0 1 0x8018 0 1 true RegDomain.fumarole [Fld.STEP_COMMITS_COUNT]
  | .STEP_NORM => RegRow.mk 0x02100000 0x0 1 0x8020 0 1 false RegDomain.fumarole [Fld.STEP_NORM_VALUE]
  | .STEP_VOTE_MISS => RegRow.mk 0x02100000 0x0 1 0x8024 0 1 false RegDomain.fumarole [Fld.STEP_VOTE_MISS_COUNT]
  | .SIN_STATUS => RegRow.mk 0x04000000 0x0 1 0x0 0 1 false RegDomain.fumarole [Fld.SIN_STATUS_RESTORING, Fld.SIN_STATUS_PEND_SEL, Fld.SIN_STATUS_APPLYING, Fld.SIN_STATUS_SECURING, Fld.SIN_STATUS_HOLDER, Fld.SIN_STATUS_TABLE]
  | .SIN_SECURE_STEPS => RegRow.mk 0x04000000 0x0 1 0x4 0 1 false RegDomain.fumarole [Fld.SIN_SECURE_STEPS_STEPS]
  | .SIN_LAST_SECURE => RegRow.mk 0x04000000 0x0 1 0x8 0 1 false RegDomain.fumarole [Fld.SIN_LAST_SECURE_STEP]
  | .SIN_SECURE_AT => RegRow.mk 0x04000000 0x0 1 0xC 0 1 false RegDomain.fumarole [Fld.SIN_SECURE_AT_STEP]
  | .SIN_EXPECTED => RegRow.mk 0x04000000 0x0 1 0x10 0 1 false RegDomain.fumarole [Fld.SIN_EXPECTED_COUNT]
  | .SIN_INFLIGHT => RegRow.mk 0x04000000 0x0 1 0x14 0 1 false RegDomain.fumarole [Fld.SIN_INFLIGHT_COUNT]
  | .SIN_HELD => RegRow.mk 0x04000000 0x0 1 0x18 0 1 false RegDomain.fumarole [Fld.SIN_HELD_COUNT]
  | .SIN_APPLIED => RegRow.mk 0x04000000 0x0 1 0x1C 0 1 false RegDomain.fumarole [Fld.SIN_APPLIED_COUNT]
  | .SIN_CANCELLED => RegRow.mk 0x04000000 0x0 1 0x20 0 1 false RegDomain.fumarole [Fld.SIN_CANCELLED_COUNT]
  | .SIN_SENT => RegRow.mk 0x04000000 0x0 1 0x24 0 1 false RegDomain.fumarole [Fld.SIN_SENT_COUNT]
  | .SIN_STALE => RegRow.mk 0x04000000 0x0 1 0x28 0 1 false RegDomain.fumarole [Fld.SIN_STALE_COUNT]
  | .SIN_DRIFT => RegRow.mk 0x04000000 0x0 1 0x2C 0 1 false RegDomain.fumarole [Fld.SIN_DRIFT_COUNT]
  | .SIN_APPLY_POS => RegRow.mk 0x04000000 0x0 1 0x30 0 1 false RegDomain.fumarole [Fld.SIN_APPLY_POS_GRANULE]
  | .SIN_REBUILT => RegRow.mk 0x04000000 0x0 1 0x38 0 1 true RegDomain.fumarole [Fld.SIN_REBUILT_BYTES]
  | .SIN_SECURINGS => RegRow.mk 0x04000000 0x0 1 0x40 0 1 true RegDomain.fumarole [Fld.SIN_SECURINGS_COUNT]
  | .STR_CTRL => RegRow.mk 0x05000000 0x0 1 0x0 0 1 false RegDomain.fumarole [Fld.STR_CTRL_ROT_EN, Fld.STR_CTRL_BIST_EN, Fld.STR_CTRL_MAINT]
  | .STR_STATUS => RegRow.mk 0x05000000 0x0 1 0x4 0 1 false RegDomain.fumarole [Fld.STR_STATUS_DEGRADED, Fld.STR_STATUS_SLICE_RUN]
  | .STR_SLICE => RegRow.mk 0x05000000 0x0 1 0x8 0 1 false RegDomain.fumarole [Fld.STR_SLICE_GO, Fld.STR_SLICE_PTILE, Fld.STR_SLICE_SLICE]
  | .STR_SLICE_RES => RegRow.mk 0x05000000 0x0 1 0xC 0 1 false RegDomain.fumarole [Fld.STR_SLICE_RES_RESULT, Fld.STR_SLICE_RES_PTILE, Fld.STR_SLICE_RES_SLICE]
  | .STR_PREFILL => RegRow.mk 0x05000000 0x0 1 0x10 0 1 false RegDomain.fumarole [Fld.STR_PREFILL_GO, Fld.STR_PREFILL_DONE, Fld.STR_PREFILL_PTILE, Fld.STR_PREFILL_POS]
  | .STR_ROWMAP_WR => RegRow.mk 0x05000000 0x0 1 0x18 0 1 true RegDomain.fumarole [Fld.STR_ROWMAP_WR_GO, Fld.STR_ROWMAP_WR_PTILE, Fld.STR_ROWMAP_WR_DLY, Fld.STR_ROWMAP_WR_ROWMAP]
  | .STR_REPAIR_SOFT => RegRow.mk 0x05000000 0x0 1 0x20 0 1 false RegDomain.fumarole [Fld.STR_REPAIR_SOFT_DIE_B, Fld.STR_REPAIR_SOFT_DIE_A]
  | .STR_FUSE_FREE => RegRow.mk 0x05000000 0x0 1 0x24 0 1 false RegDomain.fumarole [Fld.STR_FUSE_FREE_DIE_B, Fld.STR_FUSE_FREE_DIE_A]
  | .STR_SPARE_LANE => RegRow.mk 0x05000000 0x0 1 0x28 0 1 true RegDomain.fumarole [Fld.STR_SPARE_LANE_BAD, Fld.STR_SPARE_LANE_USED]
  | .STR_SLICES_RUN => RegRow.mk 0x05000000 0x0 1 0x30 0 1 true RegDomain.fumarole [Fld.STR_SLICES_RUN_COUNT]
  | .STR_ROTATIONS => RegRow.mk 0x05000000 0x0 1 0x38 0 1 true RegDomain.fumarole [Fld.STR_ROTATIONS_COUNT]
  | .STR_PTILE => RegRow.mk 0x05000000 0x0 1 0x1000 4 272 false RegDomain.fumarole [Fld.STR_PTILE_STATE, Fld.STR_PTILE_TESTED, Fld.STR_PTILE_REPAIRABLE, Fld.STR_PTILE_POS, Fld.STR_PTILE_LAST_FAIL, Fld.STR_PTILE_PASSED]
  | .STR_CLUSTER => RegRow.mk 0x05000000 0x0 1 0x2000 4 16 false RegDomain.fumarole [Fld.STR_CLUSTER_NEXT_POS, Fld.STR_CLUSTER_SPARE_PT, Fld.STR_CLUSTER_PREFILLED, Fld.STR_CLUSTER_DEGRADED]
  | .STR_REP_SEL => RegRow.mk 0x05000000 0x0 1 0x3000 0 1 false RegDomain.fumarole [Fld.STR_REP_SEL_DIE, Fld.STR_REP_SEL_INDEX]
  | .STR_REP_ENTRY => RegRow.mk 0x05000000 0x0 1 0x3004 0 1 false RegDomain.fumarole [Fld.STR_REP_ENTRY_ENTRY]
  | .STR_REP_FUSED => RegRow.mk 0x05000000 0x0 1 0x3008 0 1 false RegDomain.fumarole [Fld.STR_REP_FUSED_FUSED]
  | .PWR_STATUS => RegRow.mk 0x00200000 0x0 1 0x0 0 1 false RegDomain.fumarole [Fld.PWR_STATUS_DIL, Fld.PWR_STATUS_FREE_RUN, Fld.PWR_STATUS_CAP_FORCED, Fld.PWR_STATUS_ALERT, Fld.PWR_STATUS_OPPORTUNISTIC, Fld.PWR_STATUS_OP_AGREED, Fld.PWR_STATUS_OP_REQ, Fld.PWR_STATUS_OP_NOW]
  | .PWR_CAP_W => RegRow.mk 0x00200000 0x0 1 0x4 0 1 false RegDomain.fumarole [Fld.PWR_CAP_W_CAP]
  | .PWR_CAP_WINDOW_MS => RegRow.mk 0x00200000 0x0 1 0x8 0 1 false RegDomain.fumarole [Fld.PWR_CAP_WINDOW_MS_WINDOW]
  | .PWR_STATIC_W => RegRow.mk 0x00200000 0x0 1 0xC 0 1 false RegDomain.fumarole [Fld.PWR_STATIC_W_STATIC]
  | .PWR_IDLE_W => RegRow.mk 0x00200000 0x0 1 0x10 0 1 false RegDomain.fumarole [Fld.PWR_IDLE_W_IDLE]
  | .PWR_RUN_W => RegRow.mk 0x00200000 0x0 1 0x14 0 1 false RegDomain.fumarole [Fld.PWR_RUN_W_RUN]
  | .PWR_AVG_W => RegRow.mk 0x00200000 0x0 1 0x18 0 1 false RegDomain.fumarole [Fld.PWR_AVG_W_AVG]
  | .PWR_PACE_ROUND => RegRow.mk 0x00200000 0x0 1 0x1C 0 1 false RegDomain.fumarole [Fld.PWR_PACE_ROUND_ROUND]
  | .PWR_OP_CEIL => RegRow.mk 0x00200000 0x0 1 0x20 0 1 false RegDomain.fumarole [Fld.PWR_OP_CEIL_OP]
  | .PWR_THERM_CEIL => RegRow.mk 0x00200000 0x0 1 0x24 0 1 false RegDomain.fumarole [Fld.PWR_THERM_CEIL_OP]
  | .PWR_FIXED_OP => RegRow.mk 0x00200000 0x0 1 0x28 0 1 false RegDomain.fumarole [Fld.PWR_FIXED_OP_OP]
  | .PWR_BOOST_TJ => RegRow.mk 0x00200000 0x0 1 0x2C 0 1 false RegDomain.fumarole [Fld.PWR_BOOST_TJ_TEMP]
  | .PWR_ALERT => RegRow.mk 0x00200000 0x0 1 0x30 0 1 false RegDomain.fumarole [Fld.PWR_ALERT_LEVEL, Fld.PWR_ALERT_LATCH]
  | .PWR_ALERT_COUNT => RegRow.mk 0x00200000 0x0 1 0x34 0 1 false RegDomain.fumarole [Fld.PWR_ALERT_COUNT_COUNT]
  | .PWR_DROOP_MV => RegRow.mk 0x00200000 0x0 1 0x38 0 1 false RegDomain.fumarole [Fld.PWR_DROOP_MV_DIE_B, Fld.PWR_DROOP_MV_DIE_A]
  | .PWR_GB_MV => RegRow.mk 0x00200000 0x0 1 0x3C 0 1 false RegDomain.fumarole [Fld.PWR_GB_MV_GB_B, Fld.PWR_GB_MV_GB_A]
  | .PWR_GB_FLOOR => RegRow.mk 0x00200000 0x0 1 0x40 0 1 false RegDomain.fumarole [Fld.PWR_GB_FLOOR_FLOOR_B, Fld.PWR_GB_FLOOR_FLOOR_A]
  | .PWR_ENERGY_NJ => RegRow.mk 0x00200000 0x0 1 0x48 0 1 true RegDomain.fumarole [Fld.PWR_ENERGY_NJ_COUNT]
  | .PWR_FRAME_ENERGY_NJ => RegRow.mk 0x00200000 0x0 1 0x50 0 1 true RegDomain.fumarole [Fld.PWR_FRAME_ENERGY_NJ_ENERGY]
  | .PWR_FRAME_TAG => RegRow.mk 0x00200000 0x0 1 0x58 0 1 true RegDomain.fumarole [Fld.PWR_FRAME_TAG_FRAME]
  | .PWR_FRAME_CORE_UJ => RegRow.mk 0x00200000 0x0 1 0x60 0 1 true RegDomain.fumarole [Fld.PWR_FRAME_CORE_UJ_DIE_B, Fld.PWR_FRAME_CORE_UJ_DIE_A]
  | .PWR_DECL_W => RegRow.mk 0x00200000 0x0 1 0x68 0 1 false RegDomain.fumarole [Fld.PWR_DECL_W_DECL]
  | .PWR_VMIN => RegRow.mk 0x00200000 0x0 1 0x100 4 16 false RegDomain.fumarole [Fld.PWR_VMIN_V_SET, Fld.PWR_VMIN_VMIN]
  | .FUM_STATUS => RegRow.mk 0x00300000 0x0 1 0x0 0 1 false RegDomain.fumarole [Fld.FUM_STATUS_WAKE_CAUSE, Fld.FUM_STATUS_DOWN_CAUSE, Fld.FUM_STATUS_STATE]
  | .FUM_CTRL => RegRow.mk 0x00300000 0x0 1 0x4 0 1 false RegDomain.fumarole [Fld.FUM_CTRL_WAKE_EN]
  | .FUM_REC_CTRL => RegRow.mk 0x00300000 0x0 1 0x8 0 1 false RegDomain.fumarole [Fld.FUM_REC_CTRL_FRAME_DECIM, Fld.FUM_REC_CTRL_SENSOR_PERIOD]
  | .FUM_REC_SEQ => RegRow.mk 0x00300000 0x0 1 0xC 0 1 false RegDomain.fumarole [Fld.FUM_REC_SEQ_SEQ]
  | .FUM_REC_CONS => RegRow.mk 0x00300000 0x0 1 0x10 0 1 false RegDomain.fumarole [Fld.FUM_REC_CONS_CONS]
  | .FUM_REC_DROPPED => RegRow.mk 0x00300000 0x0 1 0x14 0 1 false RegDomain.fumarole [Fld.FUM_REC_DROPPED_COUNT]
  | .FUM_THERM => RegRow.mk 0x00300000 0x0 1 0x18 0 1 false RegDomain.fumarole [Fld.FUM_THERM_ASSERTED]
  | .FUM_SIGDET => RegRow.mk 0x00300000 0x0 1 0x1C 0 1 false RegDomain.fumarole [Fld.FUM_SIGDET_PORTS]
  | .FUM_VAL => RegRow.mk 0x00300000 0x0 1 0x100 4 49 false RegDomain.fumarole [Fld.FUM_VAL_RAW, Fld.FUM_VAL_FILT]
  | .FUM_FILT => RegRow.mk 0x00300000 0x0 1 0x200 4 49 false RegDomain.fumarole [Fld.FUM_FILT_K]
  | .FUM_RULE_CFG => RegRow.mk 0x00300000 0x0 1 0x400 16 32 false RegDomain.fumarole [Fld.FUM_RULE_CFG_EN, Fld.FUM_RULE_CFG_CMP, Fld.FUM_RULE_CFG_CH, Fld.FUM_RULE_CFG_HOLD, Fld.FUM_RULE_CFG_ACTIONS]
  | .FUM_RULE_LIM => RegRow.mk 0x00300000 0x0 1 0x404 16 32 false RegDomain.fumarole [Fld.FUM_RULE_LIM_HYST, Fld.FUM_RULE_LIM_THRESH]
  | .FUM_RULE_STAT => RegRow.mk 0x00300000 0x0 1 0x408 16 32 false RegDomain.fumarole [Fld.FUM_RULE_STAT_ACTIVE, Fld.FUM_RULE_STAT_HITS]
  | .CP_STATUS => RegRow.mk 0x00000000 0x0 1 0x1000 0 1 false RegDomain.fumarole [Fld.CP_STATUS_STATE_B, Fld.CP_STATUS_STATE_A, Fld.CP_STATUS_PRIMARY]
  | .CP_WDOG_MS => RegRow.mk 0x00000000 0x0 1 0x1004 0 1 false RegDomain.fumarole [Fld.CP_WDOG_MS_PERIOD]
  | .CP_KICK => RegRow.mk 0x00000000 0x0 1 0x1008 0 1 false RegDomain.fumarole [Fld.CP_KICK_KICK]
  | .CP_WDOG_EXPIRED => RegRow.mk 0x00000000 0x0 1 0x100C 0 1 false RegDomain.fumarole [Fld.CP_WDOG_EXPIRED_DIE_B, Fld.CP_WDOG_EXPIRED_DIE_A]
  | .CP_TAKEOVERS => RegRow.mk 0x00000000 0x0 1 0x1010 0 1 false RegDomain.fumarole [Fld.CP_TAKEOVERS_COUNT]
  | .CP_BOOT => RegRow.mk 0x00000000 0x0 1 0x1014 0 1 false RegDomain.fumarole [Fld.CP_BOOT_SVN_FUSED, Fld.CP_BOOT_FAILED, Fld.CP_BOOT_SLOT]
  | .MBX_STATUS => RegRow.mk 0x00400000 0x0 1 0x0 0 1 false RegDomain.hostAdapter [Fld.MBX_STATUS_MAJOR, Fld.MBX_STATUS_MINOR, Fld.MBX_STATUS_STATE]
  | .MBX_CTRL => RegRow.mk 0x00400000 0x0 1 0x4 0 1 false RegDomain.hostAdapter [Fld.MBX_CTRL_ENABLE]
  | .MBX_CMD_BASE => RegRow.mk 0x00400000 0x0 1 0x8 0 1 true RegDomain.hostAdapter [Fld.MBX_CMD_BASE_ADDR]
  | .MBX_CMD_SIZE => RegRow.mk 0x00400000 0x0 1 0x10 0 1 false RegDomain.hostAdapter [Fld.MBX_CMD_SIZE_LOG2]
  | .MBX_CMD_TAIL => RegRow.mk 0x00400000 0x0 1 0x14 0 1 false RegDomain.hostAdapter [Fld.MBX_CMD_TAIL_COUNT]
  | .MBX_CMD_HEAD => RegRow.mk 0x00400000 0x0 1 0x18 0 1 false RegDomain.hostAdapter [Fld.MBX_CMD_HEAD_COUNT]
  | .MBX_RSP_BASE => RegRow.mk 0x00400000 0x0 1 0x20 0 1 true RegDomain.hostAdapter [Fld.MBX_RSP_BASE_ADDR]
  | .MBX_RSP_SIZE => RegRow.mk 0x00400000 0x0 1 0x28 0 1 false RegDomain.hostAdapter [Fld.MBX_RSP_SIZE_LOG2]
  | .MBX_RSP_TAIL => RegRow.mk 0x00400000 0x0 1 0x2C 0 1 false RegDomain.hostAdapter [Fld.MBX_RSP_TAIL_COUNT]
  | .MBX_RSP_HEAD => RegRow.mk 0x00400000 0x0 1 0x30 0 1 false RegDomain.hostAdapter [Fld.MBX_RSP_HEAD_COUNT]
  | .MBX_PENDING => RegRow.mk 0x00400000 0x0 1 0x34 0 1 false RegDomain.hostAdapter [Fld.MBX_PENDING_COUNT]
  | .MBX_ERR => RegRow.mk 0x00400000 0x0 1 0x38 0 1 false RegDomain.hostAdapter [Fld.MBX_ERR_COUNT]
  | .MBX_RSP_LOST => RegRow.mk 0x00400000 0x0 1 0x3C 0 1 false RegDomain.hostAdapter [Fld.MBX_RSP_LOST_COUNT]
  | .MBX_IRQ => RegRow.mk 0x00400000 0x0 1 0x40 4 4 false RegDomain.hostAdapter [Fld.MBX_IRQ_EN, Fld.MBX_IRQ_MOD_US]
  | .ERRLOG_BASE => RegRow.mk 0x00500000 0x0 1 0x0 0 1 true RegDomain.fumarole [Fld.ERRLOG_BASE_ADDR]
  | .ERRLOG_SIZE => RegRow.mk 0x00500000 0x0 1 0x8 0 1 false RegDomain.fumarole [Fld.ERRLOG_SIZE_ENTRIES]
  | .ERRLOG_PROD => RegRow.mk 0x00500000 0x0 1 0x10 0 1 true RegDomain.fumarole [Fld.ERRLOG_PROD_COUNT]
  | .ERRLOG_CONS => RegRow.mk 0x00500000 0x0 1 0x18 0 1 true RegDomain.fumarole [Fld.ERRLOG_CONS_COUNT]
  | .ERRLOG_LOST => RegRow.mk 0x00500000 0x0 1 0x20 0 1 false RegDomain.fumarole [Fld.ERRLOG_LOST_COUNT]
  | .ERRLOG_DROPPED => RegRow.mk 0x00500000 0x0 1 0x24 0 1 false RegDomain.fumarole [Fld.ERRLOG_DROPPED_COUNT]
  | .ERRLOG_IRQ_MIN => RegRow.mk 0x00500000 0x0 1 0x28 0 1 false RegDomain.fumarole [Fld.ERRLOG_IRQ_MIN_SEVERITY]
  | .ERRLOG_WORST => RegRow.mk 0x00500000 0x0 1 0x2C 0 1 false RegDomain.fumarole [Fld.ERRLOG_WORST_SEVERITY]
  | .GLB_STRAPS => RegRow.mk 0x00000000 0x0 1 0x2000 0 1 false RegDomain.fumarole [Fld.GLB_STRAPS_CHANGED, Fld.GLB_STRAPS_SLOT_ID]
  | .GLB_SIDEBAND => RegRow.mk 0x00000000 0x0 1 0x2004 0 1 false RegDomain.fumarole [Fld.GLB_SIDEBAND_THERM_LOW, Fld.GLB_SIDEBAND_WAKE_LOW, Fld.GLB_SIDEBAND_ALERT_LOW, Fld.GLB_SIDEBAND_PPS_IN, Fld.GLB_SIDEBAND_PWR_ALERT_N, Fld.GLB_SIDEBAND_PERST_N]
  | .GLB_ALERT => RegRow.mk 0x00000000 0x0 1 0x2008 0 1 false RegDomain.fumarole [Fld.GLB_ALERT_PEND]
  | .GLB_ALERT_MASK => RegRow.mk 0x00000000 0x0 1 0x200C 0 1 false RegDomain.fumarole [Fld.GLB_ALERT_MASK_EN]
  | .GLB_STARTUP => RegRow.mk 0x00000000 0x0 1 0x2010 0 1 false RegDomain.fumarole [Fld.GLB_STARTUP_RESTARTS, Fld.GLB_STARTUP_STEP]
  | .GLB_STARTUP_MS => RegRow.mk 0x00000000 0x0 1 0x2014 0 1 false RegDomain.fumarole [Fld.GLB_STARTUP_MS_MS]
  | .HA_STATUS => RegRow.mk 0x06000000 0x0 1 0x0 0 1 false RegDomain.hostAdapter [Fld.HA_STATUS_SPEED, Fld.HA_STATUS_WIDTH, Fld.HA_STATUS_FLIT, Fld.HA_STATUS_L0P, Fld.HA_STATUS_LINK_UP]
  | .HA_BAR2_BASE => RegRow.mk 0x06000000 0x0 1 0x8 0 1 true RegDomain.hostAdapter [Fld.HA_BAR2_BASE_BASE]
  | .HA_BAR2_SIZE => RegRow.mk 0x06000000 0x0 1 0x10 0 1 false RegDomain.hostAdapter [Fld.HA_BAR2_SIZE_LOG2]
  | .HA_CPL_TMO_US => RegRow.mk 0x06000000 0x0 1 0x14 0 1 false RegDomain.hostAdapter [Fld.HA_CPL_TMO_US_TMO]
  | .HA_LINK_EVENTS => RegRow.mk 0x06000000 0x0 1 0x18 0 1 false RegDomain.hostAdapter [Fld.HA_LINK_EVENTS_CHANGES, Fld.HA_LINK_EVENTS_DOWNS]
  | .HA_WIN_ERR => RegRow.mk 0x06000000 0x0 1 0x1C 0 1 false RegDomain.hostAdapter [Fld.HA_WIN_ERR_COUNT]
  | .HA_ATU => RegRow.mk 0x06000000 0x0 1 0x10000 8 4096 true RegDomain.fumarole [Fld.HA_ATU_HOST_BASE, Fld.HA_ATU_VALID]

/-- The row of each field. -/
def fldRow : Fld → FldRow
  | .GEY_CTRL_ANCHOR_RANK => FldRow.mk 15 12 Access.rw 15 0 15 false
  | .GEY_CTRL_TIME_ROLE => FldRow.mk 11 10 Access.rw 0 0 3 false
  | .GEY_CTRL_PPS_OUT_EN => FldRow.mk 9 9 Access.rw 1 0 1 false
  | .GEY_CTRL_PPS_IN_EN => FldRow.mk 8 8 Access.rw 0 0 1 false
  | .GEY_STATUS_JOINED => FldRow.mk 12 12 Access.ro 0 0 1 false
  | .GEY_STATUS_NEXT_TICK => FldRow.mk 11 10 Access.ro 0 0 3 false
  | .GEY_STATUS_PPS_QUALIFIED => FldRow.mk 9 9 Access.ro 0 0 1 false
  | .GEY_STATUS_IN_GUARD => FldRow.mk 8 8 Access.ro 0 0 1 false
  | .GEY_STATUS_TB_STATE => FldRow.mk 6 4 Access.ro 0 0 7 false
  | .GEY_STATUS_SEQ_STATE => FldRow.mk 2 0 Access.ro 0 0 7 false
  | .GEY_FRAME_PERIOD_NS_PERIOD => FldRow.mk 22 0 Access.ro 0 0 8388607 false
  | .GEY_SLACK_BP_SLACK => FldRow.mk 10 0 Access.ro 200 0 2047 false
  | .GEY_CYC_PER_FRAME_N => FldRow.mk 23 0 Access.ro 0 0 16777215 false
  | .GEY_PROG_FRAME_INDEX => FldRow.mk 15 0 Access.ro 0 0 65535 false
  | .GEY_EPOCH_STAMP_LO => FldRow.mk 63 0 Access.ro 0 0 18446744073709551615 false
  | .GEY_EPOCH_HI_STAMP_HI => FldRow.mk 31 0 Access.ro 0 0 4294967295 false
  | .GEY_TB_NOW_STAMP_LO => FldRow.mk 63 0 Access.ro 0 0 18446744073709551615 false
  | .GEY_TB_NOW_HI_STAMP_HI => FldRow.mk 31 0 Access.ro 0 0 4294967295 false
  | .GEY_FRAME_COUNT_COUNT => FldRow.mk 63 0 Access.ro 0 0 18446744073709551615 false
  | .GEY_STEP_COUNT_STEP => FldRow.mk 31 0 Access.ro 0 0 4294967295 false
  | .GEY_START_LEAD_US_LEAD => FldRow.mk 15 0 Access.rw 2000 100 65535 false
  | .GEY_IDLE_TICKS_COUNT => FldRow.mk 63 0 Access.ro 0 0 18446744073709551615 false
  | .GEY_JOIN_TICKS_COUNT => FldRow.mk 63 0 Access.ro 0 0 18446744073709551615 false
  | .GEY_SKIP_TOTAL_COUNT => FldRow.mk 63 0 Access.ro 0 0 18446744073709551615 false
  | .GEY_SKIP_LAST_SKIP_B => FldRow.mk 31 16 Access.ro 0 0 65535 true
  | .GEY_SKIP_LAST_SKIP_A => FldRow.mk 15 0 Access.ro 0 0 65535 true
  | .GEY_MARGIN_MIN_MARGIN => FldRow.mk 23 0 Access.roc 16777215 0 16777215 false
  | .GEY_SLEW_PPB_SLEW => FldRow.mk 13 0 Access.rw 1000 0 10000 false
  | .GEY_ALIGN_LIMIT_PS_LIMIT => FldRow.mk 15 0 Access.rw 500 0 65535 false
  | .GEY_TIME_PARENT_HOPS => FldRow.mk 13 8 Access.ro 63 0 63 false
  | .GEY_TIME_PARENT_PORT => FldRow.mk 4 0 Access.ro 31 0 31 false
  | .GEY_PARENT_OFFSET_PS_OFFSET => FldRow.mk 31 0 Access.ro 0 0 4294967295 false
  | .GEY_PPS_OFFSET_PS_OFFSET => FldRow.mk 31 0 Access.ro 0 0 4294967295 false
  | .GEY_FREQ_ADJ_PPB_ADJ => FldRow.mk 31 0 Access.ro 0 0 4294967295 false
  | .GEY_HOLDOVER_S_SECONDS => FldRow.mk 15 0 Access.ro 0 0 65535 true
  | .GEY_PPS_WINDOW_NS_WINDOW => FldRow.mk 15 0 Access.rw 1000 0 65535 false
  | .CAL_STATUS_VENT_BUSY => FldRow.mk 17 17 Access.ro 0 0 1 false
  | .CAL_STATUS_ROW_SPARE_IN => FldRow.mk 16 16 Access.ro 0 0 1 false
  | .CAL_STATUS_BANK_INT => FldRow.mk 15 12 Access.ro 0 0 15 false
  | .CAL_STATUS_WSET1 => FldRow.mk 11 10 Access.ro 0 0 3 false
  | .CAL_STATUS_WSET0 => FldRow.mk 9 8 Access.ro 0 0 3 false
  | .CAL_STATUS_BANK3 => FldRow.mk 7 6 Access.ro 0 0 3 false
  | .CAL_STATUS_BANK2 => FldRow.mk 5 4 Access.ro 0 0 3 false
  | .CAL_STATUS_BANK1 => FldRow.mk 3 2 Access.ro 0 0 3 false
  | .CAL_STATUS_BANK0 => FldRow.mk 1 0 Access.ro 0 0 3 false
  | .CAL_FLAGS_FLAGS => FldRow.mk 31 0 Access.rw1c 0 0 4294967295 false
  | .CAL_ROWMAP_FAILED_ROW => FldRow.mk 14 12 Access.ro 7 0 7 false
  | .CAL_ROWMAP_LROW3 => FldRow.mk 11 9 Access.ro 3 0 7 false
  | .CAL_ROWMAP_LROW2 => FldRow.mk 8 6 Access.ro 2 0 7 false
  | .CAL_ROWMAP_LROW1 => FldRow.mk 5 3 Access.ro 1 0 7 false
  | .CAL_ROWMAP_LROW0 => FldRow.mk 2 0 Access.ro 0 0 7 false
  | .CAL_FEED_DLY_DLY4 => FldRow.mk 9 8 Access.ro 1 0 3 false
  | .CAL_FEED_DLY_DLY3 => FldRow.mk 7 6 Access.ro 2 0 3 false
  | .CAL_FEED_DLY_DLY2 => FldRow.mk 5 4 Access.ro 2 0 3 false
  | .CAL_FEED_DLY_DLY1 => FldRow.mk 3 2 Access.ro 2 0 3 false
  | .CAL_FEED_DLY_DLY0 => FldRow.mk 1 0 Access.ro 2 0 3 false
  | .CAL_FEED_ERR_SKEW => FldRow.mk 31 16 Access.roc 0 0 65535 true
  | .CAL_FEED_ERR_PARITY => FldRow.mk 15 0 Access.roc 0 0 65535 true
  | .CAL_STEPS_COUNT => FldRow.mk 63 0 Access.ro 0 0 18446744073709551615 false
  | .CAL_TRUNC_STEPS_COUNT => FldRow.mk 63 0 Access.ro 0 0 18446744073709551615 false
  | .VENT_STEPS_COUNT => FldRow.mk 63 0 Access.ro 0 0 18446744073709551615 false
  | .CAL_BUSY_CYC_COUNT => FldRow.mk 63 0 Access.ro 0 0 18446744073709551615 false
  | .VE_CTRL_ACC_WINDOW => FldRow.mk 0 0 Access.ro 0 0 1 false
  | .VE_STATUS_SLOT => FldRow.mk 24 16 Access.ro 0 0 511 false
  | .VE_STATUS_IN_SLOT => FldRow.mk 8 8 Access.ro 0 0 1 false
  | .VE_STATUS_STALL => FldRow.mk 3 0 Access.ro 0 0 15 false
  | .VE_FLAGS_FLAGS => FldRow.mk 31 0 Access.rw1c 0 0 4294967295 false
  | .VE_PC_BUNDLE => FldRow.mk 21 4 Access.ro 0 0 262143 false
  | .VE_RES_SIZE_SIZE => FldRow.mk 4 0 Access.rw 0 0 16 false
  | .VE_RES_SRC_ADDR => FldRow.mk 47 0 Access.rw 0 0 281474976710655 false
  | .FTQ_STATUS_POPPING => FldRow.mk 23 18 Access.ro 0 0 63 false
  | .FTQ_STATUS_POSTED => FldRow.mk 17 12 Access.ro 0 0 63 false
  | .FTQ_STATUS_RESERVED => FldRow.mk 11 6 Access.ro 0 0 63 false
  | .FTQ_STATUS_FREE => FldRow.mk 5 0 Access.ro 32 0 63 false
  | .FTQ_HEAD_BANK => FldRow.mk 19 18 Access.ro 0 0 3 false
  | .FTQ_HEAD_KIND => FldRow.mk 17 16 Access.ro 0 0 3 false
  | .FTQ_HEAD_SEQ => FldRow.mk 15 0 Access.ro 0 0 65535 false
  | .FTQ_RESIDUE_COUNT => FldRow.mk 15 0 Access.roc 0 0 65535 true
  | .VE_PARITY_ERR_FTQ => FldRow.mk 31 16 Access.roc 0 0 65535 true
  | .VE_PARITY_ERR_REG => FldRow.mk 15 0 Access.roc 0 0 65535 true
  | .VE_BUNDLES_COUNT => FldRow.mk 63 0 Access.ro 0 0 18446744073709551615 false
  | .VE_STALL_CYC_COUNT => FldRow.mk 63 0 Access.ro 0 0 18446744073709551615 false
  | .VE_SCANS_COUNT => FldRow.mk 63 0 Access.ro 0 0 18446744073709551615 false
  | .VE_SEEDS_COUNT => FldRow.mk 63 0 Access.ro 0 0 18446744073709551615 false
  | .SE_STATUS_OPS => FldRow.mk 26 16 Access.ro 0 0 2047 false
  | .SE_STATUS_ACTIVE => FldRow.mk 12 8 Access.ro 0 0 31 false
  | .SE_STATUS_STALL => FldRow.mk 7 4 Access.ro 0 0 15 false
  | .SE_STATUS_IN_SLOT => FldRow.mk 0 0 Access.ro 0 0 1 false
  | .SE_DESC_HEAD_SLOT => FldRow.mk 24 16 Access.ro 0 0 511 false
  | .SE_DESC_HEAD_RECORD => FldRow.mk 12 0 Access.ro 0 0 8191 false
  | .SE_OPS_PEAK_PEAK => FldRow.mk 10 0 Access.roc 0 0 2047 false
  | .SE_SB_STATUS_HELD => FldRow.mk 23 16 Access.ro 0 0 255 false
  | .SE_SB_STATUS_FILLING => FldRow.mk 15 8 Access.ro 0 0 255 false
  | .SE_SB_STATUS_FREE => FldRow.mk 7 0 Access.ro 64 0 255 false
  | .SE_BYTES_RD_COUNT => FldRow.mk 63 0 Access.ro 0 0 18446744073709551615 false
  | .SE_BYTES_WR_COUNT => FldRow.mk 63 0 Access.ro 0 0 18446744073709551615 false
  | .SE_TRANSFERS_COUNT => FldRow.mk 63 0 Access.ro 0 0 18446744073709551615 false
  | .SE_HBM_CE_COUNT => FldRow.mk 31 0 Access.roc 0 0 4294967295 false
  | .SE_HBM_UE_COUNT => FldRow.mk 31 0 Access.roc 0 0 4294967295 false
  | .SE_SCRUB_POS_OFFSET => FldRow.mk 35 0 Access.ro 0 0 68719476735 false
  | .SE_SCRUB_PASSES_COUNT => FldRow.mk 31 0 Access.ro 0 0 4294967295 false
  | .SE_PROT_ERR_CRC => FldRow.mk 31 16 Access.roc 0 0 65535 true
  | .SE_PROT_ERR_REPEAT => FldRow.mk 15 8 Access.roc 0 0 255 true
  | .SE_PROT_ERR_LOSS => FldRow.mk 7 0 Access.roc 0 0 255 true
  | .SE_FLAGS_FLAGS => FldRow.mk 31 0 Access.rw1c 0 0 4294967295 false
  | .SE_PCH_TX_TAG_ALIVE => FldRow.mk 47 32 Access.ro 0 0 65535 false
  | .SE_PCH_TX_TAG_CRC => FldRow.mk 31 0 Access.ro 0 0 4294967295 false
  | .SE_PCH_RX_TAG_ALIVE => FldRow.mk 47 32 Access.rw 0 0 65535 false
  | .SE_PCH_RX_TAG_CRC => FldRow.mk 31 0 Access.rw 0 0 4294967295 false
  | .SE_PCH_STATE_RX_ALIVE => FldRow.mk 31 16 Access.ro 0 0 65535 false
  | .SE_PCH_STATE_TX_ALIVE => FldRow.mk 15 0 Access.ro 0 0 65535 false
  | .RES_CTRL_BG_WINDOWS => FldRow.mk 12 8 Access.rw 6 3 20 false
  | .RES_CTRL_STARVE_N => FldRow.mk 7 0 Access.rw 8 2 255 false
  | .RES_SCRUB_HBM_S_PERIOD => FldRow.mk 31 0 Access.rw 3600 600 604800 false
  | .RES_SCRUB_SRAM_S_PERIOD => FldRow.mk 15 0 Access.rw 60 10 3600 false
  | .RES_SHARE_SE_SHARE => FldRow.mk 31 0 Access.rw 185273099 0 4294967295 false
  | .RES_SHARE_UE_SHARE => FldRow.mk 31 0 Access.rw 16843009 0 4294967295 false
  | .RES_INST_SEL_INST => FldRow.mk 5 0 Access.rw 0 0 34 false
  | .RES_GRANTS_COUNT => FldRow.mk 63 0 Access.ro 0 0 18446744073709551615 false
  | .RES_DONE_COUNT => FldRow.mk 63 0 Access.ro 0 0 18446744073709551615 false
  | .RES_INFLIGHT_COUNT => FldRow.mk 15 0 Access.ro 0 0 65535 false
  | .RES_LOCK_OWNER => FldRow.mk 14 11 Access.ro 0 0 15 false
  | .RES_LOCK_BEATS => FldRow.mk 6 0 Access.ro 0 0 127 false
  | .RES_TEAR_COUNT_LONG => FldRow.mk 31 16 Access.roc 0 0 65535 true
  | .RES_TEAR_COUNT_TORN => FldRow.mk 15 0 Access.roc 0 0 65535 true
  | .RES_STARVE_GRANTS_COUNT => FldRow.mk 31 0 Access.ro 0 0 4294967295 false
  | .SYNC_STATUS_ENTRIES => FldRow.mk 31 16 Access.ro 0 0 65535 false
  | .SYNC_STATUS_TABLE => FldRow.mk 0 0 Access.ro 0 0 1 false
  | .SYNC_WAITERS_COUNT => FldRow.mk 15 0 Access.ro 0 0 65535 false
  | .SYNC_TMO_COUNT_COUNT => FldRow.mk 31 0 Access.roc 0 0 4294967295 true
  | .SYNC_STALE_COUNT_COUNT => FldRow.mk 31 0 Access.roc 0 0 4294967295 true
  | .SYNC_ISSUED_COUNT => FldRow.mk 63 0 Access.ro 0 0 18446744073709551615 false
  | .SYNC_CONSUMED_COUNT => FldRow.mk 63 0 Access.ro 0 0 18446744073709551615 false
  | .SYNC_NET_COUNT => FldRow.mk 63 0 Access.ro 0 0 18446744073709551615 false
  | .SYNC_LOST_COUNT => FldRow.mk 63 0 Access.ro 0 0 18446744073709551615 false
  | .SYNC_CLEARED_COUNT => FldRow.mk 63 0 Access.ro 0 0 18446744073709551615 false
  | .SYNC_INFLIGHT_COUNT => FldRow.mk 15 0 Access.ro 0 0 65535 false
  | .SYNC_HOST_SIG_COUNT => FldRow.mk 63 32 Access.wo 0 0 4294967295 false
  | .SYNC_HOST_SIG_ID => FldRow.mk 23 0 Access.wo 0 0 16777215 false
  | .SYNC_BAR_PARENT_PORT => FldRow.mk 7 0 Access.ro 255 0 255 false
  | .SYNC_BAR_CHILDREN_PORTS => FldRow.mk 17 0 Access.ro 0 0 262143 false
  | .SYNC_BARRIER_COUNT => FldRow.mk 63 0 Access.ro 0 0 18446744073709551615 false
  | .SYNC_COUNT_COUNT => FldRow.mk 31 0 Access.ro 0 0 4294967295 false
  | .SYNC_BASE_BASE => FldRow.mk 31 0 Access.ro 0 0 4294967295 false
  | .SYNC_BAR_GEN => FldRow.mk 63 32 Access.ro 0 0 4294967295 false
  | .SYNC_BAR_KIND => FldRow.mk 29 28 Access.ro 0 0 3 false
  | .SYNC_BAR_MEMBERS => FldRow.mk 27 16 Access.ro 0 0 4095 false
  | .SYNC_BAR_REPORTED => FldRow.mk 12 12 Access.ro 0 0 1 false
  | .SYNC_BAR_ARRIVALS => FldRow.mk 11 0 Access.ro 0 0 4095 false
  | .SYNC_ATTR_DECLARED => FldRow.mk 31 31 Access.ro 0 0 1 false
  | .SYNC_ATTR_CONSUMER => FldRow.mk 9 0 Access.ro 1023 0 1023 false
  | .FAB_STATUS_LANE_MASK => FldRow.mk 11 8 Access.ro 0 0 15 false
  | .FAB_STATUS_STATE => FldRow.mk 2 0 Access.ro 0 0 7 false
  | .FAB_NEIGH_LEARNED => FldRow.mk 21 21 Access.ro 0 0 1 false
  | .FAB_NEIGH_PORT => FldRow.mk 20 16 Access.ro 31 0 31 false
  | .FAB_NEIGH_COORD => FldRow.mk 15 0 Access.ro 0 0 65535 false
  | .FAB_LANE_LIMIT_LIMIT => FldRow.mk 15 0 Access.rw 4096 0 65535 false
  | .FAB_LANE_ERR_FRAMES => FldRow.mk 31 0 Access.roc 0 0 4294967295 true
  | .FAB_CREDIT_VC_LIMIT => FldRow.mk 24 16 Access.rw 0 0 511 false
  | .FAB_CREDIT_VC_AVAIL => FldRow.mk 8 0 Access.ro 0 0 511 false
  | .FAB_TX_MSG_COUNT => FldRow.mk 31 0 Access.ro 0 0 4294967295 false
  | .FAB_RX_MSG_COUNT => FldRow.mk 31 0 Access.ro 0 0 4294967295 false
  | .FAB_CRET_TX_COUNT => FldRow.mk 31 0 Access.ro 0 0 4294967295 false
  | .FAB_CRET_RX_COUNT => FldRow.mk 31 0 Access.ro 0 0 4294967295 false
  | .FAB_OCCUPIED_ENTRIES => FldRow.mk 35 0 Access.ro 0 0 68719476735 false
  | .FAB_REPLAYS_COUNT => FldRow.mk 31 0 Access.roc 0 0 4294967295 true
  | .FAB_LINK_LOSS_COUNT => FldRow.mk 31 0 Access.roc 0 0 4294967295 true
  | .FAB_HCRC_ERR_COUNT => FldRow.mk 15 0 Access.roc 0 0 65535 true
  | .RED_HALF_SEL_HALF => FldRow.mk 0 0 Access.rw 0 0 1 false
  | .RED_STATUS_ACTIVE => FldRow.mk 20 16 Access.ro 0 0 31 false
  | .RED_STATUS_IN_SLOT => FldRow.mk 0 0 Access.ro 0 0 1 false
  | .RED_BUF_USED_UNITS => FldRow.mk 23 0 Access.ro 0 0 16777215 false
  | .RED_FLAGS_FLAGS => FldRow.mk 31 0 Access.rw1c 0 0 4294967295 false
  | .RED_EXPECTED_COUNT => FldRow.mk 31 0 Access.ro 0 0 4294967295 false
  | .RED_ABSENT_COUNT => FldRow.mk 31 0 Access.ro 0 0 4294967295 false
  | .RED_STAGED_COUNT => FldRow.mk 31 0 Access.ro 0 0 4294967295 false
  | .RED_FOLDED_COUNT => FldRow.mk 31 0 Access.ro 0 0 4294967295 false
  | .RED_DISCARDED_COUNT => FldRow.mk 31 0 Access.ro 0 0 4294967295 false
  | .RED_CANCELLED_COUNT => FldRow.mk 31 0 Access.ro 0 0 4294967295 false
  | .RED_LATE_COUNT => FldRow.mk 31 0 Access.roc 0 0 4294967295 true
  | .RED_RECORDS_COUNT => FldRow.mk 63 0 Access.ro 0 0 18446744073709551615 false
  | .FAB_COORD_VALID => FldRow.mk 16 16 Access.rw 0 0 1 false
  | .FAB_COORD_COORD => FldRow.mk 15 0 Access.rw 0 0 65535 false
  | .FAB_JOB_RANK_RANK => FldRow.mk 15 0 Access.ro 0 0 65535 false
  | .FAB_JOB_SIZE_SIZE => FldRow.mk 16 0 Access.ro 0 0 131071 false
  | .FAB_JOB_ID_ID => FldRow.mk 31 0 Access.ro 0 0 4294967295 false
  | .FAB_MESH_N_ODD => FldRow.mk 31 16 Access.ro 0 0 65535 false
  | .FAB_MESH_N_EVEN => FldRow.mk 15 0 Access.ro 0 0 65535 false
  | .LED_STATUS_FAILED => FldRow.mk 7 1 Access.ro 0 0 127 false
  | .LED_STATUS_DONE => FldRow.mk 0 0 Access.ro 0 0 1 false
  | .LED_AUDITS_COUNT => FldRow.mk 63 0 Access.ro 0 0 18446744073709551615 false
  | .LED_MISMATCHES_COUNT => FldRow.mk 63 0 Access.ro 0 0 18446744073709551615 false
  | .LED_LAST_DETAIL => FldRow.mk 63 0 Access.ro 0 0 18446744073709551615 false
  | .UE_STATUS_ACTIVE => FldRow.mk 10 8 Access.ro 0 0 7 false
  | .UE_STATUS_STALL => FldRow.mk 7 4 Access.ro 0 0 15 false
  | .UE_STATUS_PASS => FldRow.mk 2 1 Access.ro 0 0 3 false
  | .UE_STATUS_IN_SLOT => FldRow.mk 0 0 Access.ro 0 0 1 false
  | .UE_SHARD_UPROG => FldRow.mk 31 16 Access.ro 0 0 65535 false
  | .UE_SHARD_SHARD => FldRow.mk 15 0 Access.ro 0 0 65535 false
  | .UE_SEGMENT_INDEX => FldRow.mk 31 0 Access.ro 0 0 4294967295 false
  | .UE_FLAGS_FLAGS => FldRow.mk 31 0 Access.rw1c 0 0 4294967295 false
  | .UE_ELEMS_COUNT => FldRow.mk 63 0 Access.ro 0 0 18446744073709551615 false
  | .UE_DELTA_BYTES_COUNT => FldRow.mk 63 0 Access.ro 0 0 18446744073709551615 false
  | .UE_NONFINITE_COUNT => FldRow.mk 31 0 Access.roc 0 0 4294967295 true
  | .STEP_STATUS_CAUSE => FldRow.mk 11 8 Access.ro 0 0 15 false
  | .STEP_STATUS_RETAINED => FldRow.mk 4 4 Access.ro 0 0 1 false
  | .STEP_STATUS_RELEASED => FldRow.mk 3 3 Access.ro 0 0 1 false
  | .STEP_STATUS_ARRIVED => FldRow.mk 2 2 Access.ro 0 0 1 false
  | .STEP_STATUS_TRAIN => FldRow.mk 1 1 Access.ro 0 0 1 false
  | .STEP_STATUS_CUR_PAGE => FldRow.mk 0 0 Access.ro 0 0 1 false
  | .STEP_AUTH_QUEUED => FldRow.mk 4 0 Access.ro 0 0 31 false
  | .STEP_TOKEN_TOKEN => FldRow.mk 63 0 Access.ro 0 0 18446744073709551615 false
  | .STEP_LAST_COMMIT_FRAME => FldRow.mk 63 0 Access.ro 0 0 18446744073709551615 false
  | .STEP_COMMITS_COUNT => FldRow.mk 63 0 Access.ro 0 0 18446744073709551615 false
  | .STEP_NORM_VALUE => FldRow.mk 31 0 Access.ro 0 0 4294967295 false
  | .STEP_VOTE_MISS_COUNT => FldRow.mk 31 0 Access.roc 0 0 4294967295 true
  | .SIN_STATUS_RESTORING => FldRow.mk 5 5 Access.ro 0 0 1 false
  | .SIN_STATUS_PEND_SEL => FldRow.mk 4 4 Access.ro 0 0 1 false
  | .SIN_STATUS_APPLYING => FldRow.mk 3 3 Access.ro 0 0 1 false
  | .SIN_STATUS_SECURING => FldRow.mk 2 2 Access.ro 0 0 1 false
  | .SIN_STATUS_HOLDER => FldRow.mk 1 1 Access.ro 0 0 1 false
  | .SIN_STATUS_TABLE => FldRow.mk 0 0 Access.ro 0 0 1 false
  | .SIN_SECURE_STEPS_STEPS => FldRow.mk 15 0 Access.rw 400 1 65535 false
  | .SIN_LAST_SECURE_STEP => FldRow.mk 31 0 Access.ro 0 0 4294967295 false
  | .SIN_SECURE_AT_STEP => FldRow.mk 31 0 Access.ro 0 0 4294967295 false
  | .SIN_EXPECTED_COUNT => FldRow.mk 31 0 Access.ro 0 0 4294967295 false
  | .SIN_INFLIGHT_COUNT => FldRow.mk 31 0 Access.ro 0 0 4294967295 false
  | .SIN_HELD_COUNT => FldRow.mk 31 0 Access.ro 0 0 4294967295 false
  | .SIN_APPLIED_COUNT => FldRow.mk 31 0 Access.ro 0 0 4294967295 false
  | .SIN_CANCELLED_COUNT => FldRow.mk 31 0 Access.ro 0 0 4294967295 false
  | .SIN_SENT_COUNT => FldRow.mk 31 0 Access.ro 0 0 4294967295 false
  | .SIN_STALE_COUNT => FldRow.mk 31 0 Access.roc 0 0 4294967295 true
  | .SIN_DRIFT_COUNT => FldRow.mk 31 0 Access.roc 0 0 4294967295 true
  | .SIN_APPLY_POS_GRANULE => FldRow.mk 16 0 Access.ro 0 0 131071 false
  | .SIN_REBUILT_BYTES => FldRow.mk 63 0 Access.ro 0 0 18446744073709551615 false
  | .SIN_SECURINGS_COUNT => FldRow.mk 63 0 Access.ro 0 0 18446744073709551615 false
  | .STR_CTRL_ROT_EN => FldRow.mk 2 2 Access.rw 0 0 1 false
  | .STR_CTRL_BIST_EN => FldRow.mk 1 1 Access.rw 0 0 1 false
  | .STR_CTRL_MAINT => FldRow.mk 0 0 Access.rw 0 0 1 false
  | .STR_STATUS_DEGRADED => FldRow.mk 31 16 Access.ro 0 0 65535 false
  | .STR_STATUS_SLICE_RUN => FldRow.mk 0 0 Access.ro 0 0 1 false
  | .STR_SLICE_GO => FldRow.mk 31 31 Access.wo 0 0 1 false
  | .STR_SLICE_PTILE => FldRow.mk 24 16 Access.rw 0 0 511 false
  | .STR_SLICE_SLICE => FldRow.mk 3 0 Access.rw 0 0 15 false
  | .STR_SLICE_RES_RESULT => FldRow.mk 31 30 Access.ro 0 0 3 false
  | .STR_SLICE_RES_PTILE => FldRow.mk 24 16 Access.ro 0 0 511 false
  | .STR_SLICE_RES_SLICE => FldRow.mk 3 0 Access.ro 0 0 15 false
  | .STR_PREFILL_GO => FldRow.mk 31 31 Access.wo 0 0 1 false
  | .STR_PREFILL_DONE => FldRow.mk 30 30 Access.ro 0 0 1 false
  | .STR_PREFILL_PTILE => FldRow.mk 24 16 Access.rw 0 0 511 false
  | .STR_PREFILL_POS => FldRow.mk 3 0 Access.rw 0 0 15 false
  | .STR_ROWMAP_WR_GO => FldRow.mk 63 63 Access.wo 0 0 1 false
  | .STR_ROWMAP_WR_PTILE => FldRow.mk 56 48 Access.rw 0 0 511 false
  | .STR_ROWMAP_WR_DLY => FldRow.mk 41 32 Access.rw 0 0 1023 false
  | .STR_ROWMAP_WR_ROWMAP => FldRow.mk 14 0 Access.rw 0 0 32767 false
  | .STR_REPAIR_SOFT_DIE_B => FldRow.mk 31 16 Access.ro 0 0 65535 false
  | .STR_REPAIR_SOFT_DIE_A => FldRow.mk 15 0 Access.ro 0 0 65535 false
  | .STR_FUSE_FREE_DIE_B => FldRow.mk 31 16 Access.ro 0 0 65535 false
  | .STR_FUSE_FREE_DIE_A => FldRow.mk 15 0 Access.ro 0 0 65535 false
  | .STR_SPARE_LANE_BAD => FldRow.mk 49 32 Access.ro 0 0 262143 false
  | .STR_SPARE_LANE_USED => FldRow.mk 17 0 Access.ro 0 0 262143 false
  | .STR_SLICES_RUN_COUNT => FldRow.mk 63 0 Access.ro 0 0 18446744073709551615 false
  | .STR_ROTATIONS_COUNT => FldRow.mk 63 0 Access.ro 0 0 18446744073709551615 false
  | .STR_PTILE_STATE => FldRow.mk 31 30 Access.ro 0 0 3 false
  | .STR_PTILE_TESTED => FldRow.mk 29 29 Access.ro 0 0 1 false
  | .STR_PTILE_REPAIRABLE => FldRow.mk 28 28 Access.ro 0 0 1 false
  | .STR_PTILE_POS => FldRow.mk 27 24 Access.ro 0 0 15 false
  | .STR_PTILE_LAST_FAIL => FldRow.mk 23 20 Access.ro 0 0 15 false
  | .STR_PTILE_PASSED => FldRow.mk 15 0 Access.ro 0 0 65535 false
  | .STR_CLUSTER_NEXT_POS => FldRow.mk 23 20 Access.rw 0 0 15 false
  | .STR_CLUSTER_SPARE_PT => FldRow.mk 16 8 Access.ro 0 0 511 false
  | .STR_CLUSTER_PREFILLED => FldRow.mk 1 1 Access.ro 0 0 1 false
  | .STR_CLUSTER_DEGRADED => FldRow.mk 0 0 Access.ro 0 0 1 false
  | .STR_REP_SEL_DIE => FldRow.mk 11 11 Access.rw 0 0 1 false
  | .STR_REP_SEL_INDEX => FldRow.mk 10 0 Access.rw 0 0 2047 false
  | .STR_REP_ENTRY_ENTRY => FldRow.mk 31 0 Access.ro 0 0 4294967295 false
  | .STR_REP_FUSED_FUSED => FldRow.mk 0 0 Access.ro 0 0 1 false
  | .PWR_STATUS_DIL => FldRow.mk 23 20 Access.ro 0 0 15 false
  | .PWR_STATUS_FREE_RUN => FldRow.mk 19 19 Access.ro 0 0 1 false
  | .PWR_STATUS_CAP_FORCED => FldRow.mk 18 18 Access.ro 0 0 1 false
  | .PWR_STATUS_ALERT => FldRow.mk 17 17 Access.ro 0 0 1 false
  | .PWR_STATUS_OPPORTUNISTIC => FldRow.mk 16 16 Access.ro 0 0 1 false
  | .PWR_STATUS_OP_AGREED => FldRow.mk 10 8 Access.ro 5 0 7 false
  | .PWR_STATUS_OP_REQ => FldRow.mk 6 4 Access.ro 5 0 7 false
  | .PWR_STATUS_OP_NOW => FldRow.mk 2 0 Access.ro 5 0 7 false
  | .PWR_CAP_W_CAP => FldRow.mk 15 0 Access.rw 2800 600 3200 false
  | .PWR_CAP_WINDOW_MS_WINDOW => FldRow.mk 15 0 Access.rw 1000 10 10000 false
  | .PWR_STATIC_W_STATIC => FldRow.mk 15 0 Access.rw 450 0 3200 false
  | .PWR_IDLE_W_IDLE => FldRow.mk 15 0 Access.ro 0 0 65535 false
  | .PWR_RUN_W_RUN => FldRow.mk 15 0 Access.ro 0 0 65535 false
  | .PWR_AVG_W_AVG => FldRow.mk 15 0 Access.ro 0 0 65535 false
  | .PWR_PACE_ROUND_ROUND => FldRow.mk 15 0 Access.rw 512 16 65535 false
  | .PWR_OP_CEIL_OP => FldRow.mk 2 0 Access.rw 7 0 7 false
  | .PWR_THERM_CEIL_OP => FldRow.mk 2 0 Access.ro 7 0 7 false
  | .PWR_FIXED_OP_OP => FldRow.mk 2 0 Access.rw 5 0 6 false
  | .PWR_BOOST_TJ_TEMP => FldRow.mk 15 0 Access.rw 1440 0 65535 false
  | .PWR_ALERT_LEVEL => FldRow.mk 12 8 Access.ro 0 0 31 false
  | .PWR_ALERT_LATCH => FldRow.mk 4 0 Access.rw1c 0 0 31 false
  | .PWR_ALERT_COUNT_COUNT => FldRow.mk 31 0 Access.roc 0 0 4294967295 true
  | .PWR_DROOP_MV_DIE_B => FldRow.mk 15 8 Access.rw 25 15 60 false
  | .PWR_DROOP_MV_DIE_A => FldRow.mk 7 0 Access.rw 25 15 60 false
  | .PWR_GB_MV_GB_B => FldRow.mk 15 8 Access.rw 0 0 255 false
  | .PWR_GB_MV_GB_A => FldRow.mk 7 0 Access.rw 0 0 255 false
  | .PWR_GB_FLOOR_FLOOR_B => FldRow.mk 15 8 Access.ro 0 0 255 false
  | .PWR_GB_FLOOR_FLOOR_A => FldRow.mk 7 0 Access.ro 0 0 255 false
  | .PWR_ENERGY_NJ_COUNT => FldRow.mk 63 0 Access.ro 0 0 18446744073709551615 false
  | .PWR_FRAME_ENERGY_NJ_ENERGY => FldRow.mk 63 0 Access.ro 0 0 18446744073709551615 false
  | .PWR_FRAME_TAG_FRAME => FldRow.mk 63 0 Access.ro 0 0 18446744073709551615 false
  | .PWR_FRAME_CORE_UJ_DIE_B => FldRow.mk 63 32 Access.ro 0 0 4294967295 false
  | .PWR_FRAME_CORE_UJ_DIE_A => FldRow.mk 31 0 Access.ro 0 0 4294967295 false
  | .PWR_DECL_W_DECL => FldRow.mk 15 0 Access.ro 3200 0 65535 false
  | .PWR_VMIN_V_SET => FldRow.mk 31 16 Access.ro 0 0 65535 false
  | .PWR_VMIN_VMIN => FldRow.mk 15 0 Access.ro 0 0 65535 false
  | .FUM_STATUS_WAKE_CAUSE => FldRow.mk 27 24 Access.ro 0 0 15 false
  | .FUM_STATUS_DOWN_CAUSE => FldRow.mk 23 16 Access.ro 0 0 255 false
  | .FUM_STATUS_STATE => FldRow.mk 2 0 Access.ro 1 0 7 false
  | .FUM_CTRL_WAKE_EN => FldRow.mk 2 0 Access.rw 3 0 7 false
  | .FUM_REC_CTRL_FRAME_DECIM => FldRow.mk 31 16 Access.rw 1 1 65535 false
  | .FUM_REC_CTRL_SENSOR_PERIOD => FldRow.mk 7 0 Access.rw 10 0 255 false
  | .FUM_REC_SEQ_SEQ => FldRow.mk 31 0 Access.ro 0 0 4294967295 false
  | .FUM_REC_CONS_CONS => FldRow.mk 31 0 Access.rw 0 0 4294967295 false
  | .FUM_REC_DROPPED_COUNT => FldRow.mk 31 0 Access.roc 0 0 4294967295 true
  | .FUM_THERM_ASSERTED => FldRow.mk 0 0 Access.ro 0 0 1 false
  | .FUM_SIGDET_PORTS => FldRow.mk 17 0 Access.ro 0 0 262143 false
  | .FUM_VAL_RAW => FldRow.mk 31 16 Access.ro 0 0 65535 false
  | .FUM_VAL_FILT => FldRow.mk 15 0 Access.ro 0 0 65535 false
  | .FUM_FILT_K => FldRow.mk 3 0 Access.rw 4 0 15 false
  | .FUM_RULE_CFG_EN => FldRow.mk 31 31 Access.rw 0 0 1 false
  | .FUM_RULE_CFG_CMP => FldRow.mk 30 30 Access.rw 0 0 1 false
  | .FUM_RULE_CFG_CH => FldRow.mk 29 24 Access.rw 0 0 63 false
  | .FUM_RULE_CFG_HOLD => FldRow.mk 15 8 Access.rw 1 1 255 false
  | .FUM_RULE_CFG_ACTIONS => FldRow.mk 7 0 Access.rw 0 0 255 false
  | .FUM_RULE_LIM_HYST => FldRow.mk 31 16 Access.rw 0 0 65535 false
  | .FUM_RULE_LIM_THRESH => FldRow.mk 15 0 Access.rw 0 0 65535 false
  | .FUM_RULE_STAT_ACTIVE => FldRow.mk 31 31 Access.ro 0 0 1 true
  | .FUM_RULE_STAT_HITS => FldRow.mk 15 0 Access.roc 0 0 65535 true
  | .CP_STATUS_STATE_B => FldRow.mk 5 4 Access.ro 0 0 3 false
  | .CP_STATUS_STATE_A => FldRow.mk 3 2 Access.ro 0 0 3 false
  | .CP_STATUS_PRIMARY => FldRow.mk 0 0 Access.ro 0 0 1 false
  | .CP_WDOG_MS_PERIOD => FldRow.mk 15 0 Access.rw 200 10 1000 false
  | .CP_KICK_KICK => FldRow.mk 0 0 Access.wo 0 0 1 false
  | .CP_WDOG_EXPIRED_DIE_B => FldRow.mk 31 16 Access.roc 0 0 65535 true
  | .CP_WDOG_EXPIRED_DIE_A => FldRow.mk 15 0 Access.roc 0 0 65535 true
  | .CP_TAKEOVERS_COUNT => FldRow.mk 31 0 Access.ro 0 0 4294967295 false
  | .CP_BOOT_SVN_FUSED => FldRow.mk 23 16 Access.ro 0 0 255 false
  | .CP_BOOT_FAILED => FldRow.mk 3 2 Access.ro 0 0 3 false
  | .CP_BOOT_SLOT => FldRow.mk 1 0 Access.ro 3 0 3 false
  | .MBX_STATUS_MAJOR => FldRow.mk 31 24 Access.ro 0 0 255 false
  | .MBX_STATUS_MINOR => FldRow.mk 23 16 Access.ro 0 0 255 false
  | .MBX_STATUS_STATE => FldRow.mk 3 0 Access.ro 1 0 15 false
  | .MBX_CTRL_ENABLE => FldRow.mk 0 0 Access.rw 0 0 1 false
  | .MBX_CMD_BASE_ADDR => FldRow.mk 63 0 Access.rw 0 0 18446744073709551615 false
  | .MBX_CMD_SIZE_LOG2 => FldRow.mk 3 0 Access.rw 4 4 12 false
  | .MBX_CMD_TAIL_COUNT => FldRow.mk 31 0 Access.rw 0 0 4294967295 false
  | .MBX_CMD_HEAD_COUNT => FldRow.mk 31 0 Access.ro 0 0 4294967295 false
  | .MBX_RSP_BASE_ADDR => FldRow.mk 63 0 Access.rw 0 0 18446744073709551615 false
  | .MBX_RSP_SIZE_LOG2 => FldRow.mk 3 0 Access.rw 4 4 12 false
  | .MBX_RSP_TAIL_COUNT => FldRow.mk 31 0 Access.ro 0 0 4294967295 false
  | .MBX_RSP_HEAD_COUNT => FldRow.mk 31 0 Access.rw 0 0 4294967295 false
  | .MBX_PENDING_COUNT => FldRow.mk 15 0 Access.ro 0 0 65535 false
  | .MBX_ERR_COUNT => FldRow.mk 31 0 Access.roc 0 0 4294967295 true
  | .MBX_RSP_LOST_COUNT => FldRow.mk 31 0 Access.roc 0 0 4294967295 true
  | .MBX_IRQ_EN => FldRow.mk 31 31 Access.rw 1 0 1 false
  | .MBX_IRQ_MOD_US => FldRow.mk 15 0 Access.rw 0 0 1000 false
  | .ERRLOG_BASE_ADDR => FldRow.mk 63 0 Access.ro 820472971264 0 18446744073709551615 false
  | .ERRLOG_SIZE_ENTRIES => FldRow.mk 31 0 Access.ro 65536 0 4294967295 false
  | .ERRLOG_PROD_COUNT => FldRow.mk 63 0 Access.ro 0 0 18446744073709551615 false
  | .ERRLOG_CONS_COUNT => FldRow.mk 63 0 Access.rw 0 0 18446744073709551615 false
  | .ERRLOG_LOST_COUNT => FldRow.mk 31 0 Access.roc 0 0 4294967295 true
  | .ERRLOG_DROPPED_COUNT => FldRow.mk 31 0 Access.roc 0 0 4294967295 true
  | .ERRLOG_IRQ_MIN_SEVERITY => FldRow.mk 2 0 Access.rw 2 0 7 false
  | .ERRLOG_WORST_SEVERITY => FldRow.mk 2 0 Access.roc 0 0 7 false
  | .GLB_STRAPS_CHANGED => FldRow.mk 7 7 Access.rw1c 0 0 1 false
  | .GLB_STRAPS_SLOT_ID => FldRow.mk 5 0 Access.ro 0 0 63 false
  | .GLB_SIDEBAND_THERM_LOW => FldRow.mk 5 5 Access.ro 0 0 1 false
  | .GLB_SIDEBAND_WAKE_LOW => FldRow.mk 4 4 Access.ro 0 0 1 false
  | .GLB_SIDEBAND_ALERT_LOW => FldRow.mk 3 3 Access.ro 0 0 1 false
  | .GLB_SIDEBAND_PPS_IN => FldRow.mk 2 2 Access.ro 0 0 1 false
  | .GLB_SIDEBAND_PWR_ALERT_N => FldRow.mk 1 1 Access.ro 0 0 1 false
  | .GLB_SIDEBAND_PERST_N => FldRow.mk 0 0 Access.ro 0 0 1 false
  | .GLB_ALERT_PEND => FldRow.mk 3 0 Access.rw1c 0 0 15 false
  | .GLB_ALERT_MASK_EN => FldRow.mk 3 0 Access.rw 15 0 15 false
  | .GLB_STARTUP_RESTARTS => FldRow.mk 15 8 Access.ro 0 0 255 true
  | .GLB_STARTUP_STEP => FldRow.mk 2 0 Access.ro 1 0 7 true
  | .GLB_STARTUP_MS_MS => FldRow.mk 31 0 Access.ro 0 0 4294967295 false
  | .HA_STATUS_SPEED => FldRow.mk 14 12 Access.ro 0 0 7 false
  | .HA_STATUS_WIDTH => FldRow.mk 11 7 Access.ro 0 0 31 false
  | .HA_STATUS_FLIT => FldRow.mk 6 6 Access.ro 0 0 1 false
  | .HA_STATUS_L0P => FldRow.mk 5 5 Access.ro 0 0 1 false
  | .HA_STATUS_LINK_UP => FldRow.mk 0 0 Access.ro 0 0 1 false
  | .HA_BAR2_BASE_BASE => FldRow.mk 41 0 Access.rw 0 0 4398046511103 false
  | .HA_BAR2_SIZE_LOG2 => FldRow.mk 3 0 Access.ro 8 0 15 false
  | .HA_CPL_TMO_US_TMO => FldRow.mk 31 0 Access.rw 50000 1000 1000000 false
  | .HA_LINK_EVENTS_CHANGES => FldRow.mk 31 16 Access.roc 0 0 65535 true
  | .HA_LINK_EVENTS_DOWNS => FldRow.mk 15 0 Access.roc 0 0 65535 true
  | .HA_WIN_ERR_COUNT => FldRow.mk 31 0 Access.roc 0 0 4294967295 true
  | .HA_ATU_HOST_BASE => FldRow.mk 63 12 Access.rw 0 0 4503599627370495 false
  | .HA_ATU_VALID => FldRow.mk 0 0 Access.rw 0 0 1 false

/-- Every register, for the address decoder. -/
def allRegs : List Reg :=
  [Reg.GEY_CTRL, Reg.GEY_STATUS, Reg.GEY_FRAME_PERIOD_NS, Reg.GEY_SLACK_BP, Reg.GEY_CYC_PER_FRAME, Reg.GEY_PROG_FRAME, Reg.GEY_EPOCH, Reg.GEY_EPOCH_HI, Reg.GEY_TB_NOW, Reg.GEY_TB_NOW_HI, Reg.GEY_FRAME_COUNT, Reg.GEY_STEP_COUNT] ++
  [Reg.GEY_START_LEAD_US, Reg.GEY_IDLE_TICKS, Reg.GEY_JOIN_TICKS, Reg.GEY_SKIP_TOTAL, Reg.GEY_SKIP_LAST, Reg.GEY_MARGIN_MIN, Reg.GEY_SLEW_PPB, Reg.GEY_ALIGN_LIMIT_PS, Reg.GEY_TIME_PARENT, Reg.GEY_PARENT_OFFSET_PS, Reg.GEY_PPS_OFFSET_PS, Reg.GEY_FREQ_ADJ_PPB] ++
  [Reg.GEY_HOLDOVER_S, Reg.GEY_PPS_WINDOW_NS, Reg.CAL_STATUS, Reg.CAL_FLAGS, Reg.CAL_ROWMAP, Reg.CAL_FEED_DLY, Reg.CAL_FEED_ERR, Reg.CAL_STEPS, Reg.CAL_TRUNC_STEPS, Reg.VENT_STEPS, Reg.CAL_BUSY_CYC, Reg.VE_CTRL] ++
  [Reg.VE_STATUS, Reg.VE_FLAGS, Reg.VE_PC, Reg.VE_RES_SIZE, Reg.VE_RES_SRC, Reg.FTQ_STATUS, Reg.FTQ_HEAD, Reg.FTQ_RESIDUE, Reg.VE_PARITY_ERR, Reg.VE_BUNDLES, Reg.VE_STALL_CYC, Reg.VE_SCANS] ++
  [Reg.VE_SEEDS, Reg.SE_STATUS, Reg.SE_DESC_HEAD, Reg.SE_OPS_PEAK, Reg.SE_SB_STATUS, Reg.SE_BYTES_RD, Reg.SE_BYTES_WR, Reg.SE_TRANSFERS, Reg.SE_HBM_CE, Reg.SE_HBM_UE, Reg.SE_SCRUB_POS, Reg.SE_SCRUB_PASSES] ++
  [Reg.SE_PROT_ERR, Reg.SE_FLAGS, Reg.SE_PCH_TX_TAG, Reg.SE_PCH_RX_TAG, Reg.SE_PCH_STATE, Reg.RES_CTRL, Reg.RES_SCRUB_HBM_S, Reg.RES_SCRUB_SRAM_S, Reg.RES_SHARE_SE, Reg.RES_SHARE_UE, Reg.RES_INST_SEL, Reg.RES_GRANTS] ++
  [Reg.RES_DONE, Reg.RES_INFLIGHT, Reg.RES_LOCK, Reg.RES_TEAR_COUNT, Reg.RES_STARVE_GRANTS, Reg.SYNC_STATUS, Reg.SYNC_WAITERS, Reg.SYNC_TMO_COUNT, Reg.SYNC_STALE_COUNT, Reg.SYNC_ISSUED, Reg.SYNC_CONSUMED, Reg.SYNC_NET] ++
  [Reg.SYNC_LOST, Reg.SYNC_CLEARED, Reg.SYNC_INFLIGHT, Reg.SYNC_HOST_SIG, Reg.SYNC_BAR_PARENT, Reg.SYNC_BAR_CHILDREN, Reg.SYNC_BARRIER, Reg.SYNC_COUNT, Reg.SYNC_BASE, Reg.SYNC_BAR, Reg.SYNC_ATTR, Reg.FAB_STATUS] ++
  [Reg.FAB_NEIGH, Reg.FAB_LANE_LIMIT, Reg.FAB_LANE_ERR, Reg.FAB_CREDIT_VC, Reg.FAB_TX_MSG, Reg.FAB_RX_MSG, Reg.FAB_CRET_TX, Reg.FAB_CRET_RX, Reg.FAB_OCCUPIED, Reg.FAB_REPLAYS, Reg.FAB_LINK_LOSS, Reg.FAB_HCRC_ERR] ++
  [Reg.RED_HALF_SEL, Reg.RED_STATUS, Reg.RED_BUF_USED, Reg.RED_FLAGS, Reg.RED_EXPECTED, Reg.RED_ABSENT, Reg.RED_STAGED, Reg.RED_FOLDED, Reg.RED_DISCARDED, Reg.RED_CANCELLED, Reg.RED_LATE, Reg.RED_RECORDS] ++
  [Reg.FAB_COORD, Reg.FAB_JOB_RANK, Reg.FAB_JOB_SIZE, Reg.FAB_JOB_ID, Reg.FAB_MESH_N, Reg.LED_STATUS, Reg.LED_AUDITS, Reg.LED_MISMATCHES, Reg.LED_LAST, Reg.UE_STATUS, Reg.UE_SHARD, Reg.UE_SEGMENT] ++
  [Reg.UE_FLAGS, Reg.UE_ELEMS, Reg.UE_DELTA_BYTES, Reg.UE_NONFINITE, Reg.STEP_STATUS, Reg.STEP_AUTH, Reg.STEP_TOKEN, Reg.STEP_LAST_COMMIT, Reg.STEP_COMMITS, Reg.STEP_NORM, Reg.STEP_VOTE_MISS, Reg.SIN_STATUS] ++
  [Reg.SIN_SECURE_STEPS, Reg.SIN_LAST_SECURE, Reg.SIN_SECURE_AT, Reg.SIN_EXPECTED, Reg.SIN_INFLIGHT, Reg.SIN_HELD, Reg.SIN_APPLIED, Reg.SIN_CANCELLED, Reg.SIN_SENT, Reg.SIN_STALE, Reg.SIN_DRIFT, Reg.SIN_APPLY_POS] ++
  [Reg.SIN_REBUILT, Reg.SIN_SECURINGS, Reg.STR_CTRL, Reg.STR_STATUS, Reg.STR_SLICE, Reg.STR_SLICE_RES, Reg.STR_PREFILL, Reg.STR_ROWMAP_WR, Reg.STR_REPAIR_SOFT, Reg.STR_FUSE_FREE, Reg.STR_SPARE_LANE, Reg.STR_SLICES_RUN] ++
  [Reg.STR_ROTATIONS, Reg.STR_PTILE, Reg.STR_CLUSTER, Reg.STR_REP_SEL, Reg.STR_REP_ENTRY, Reg.STR_REP_FUSED, Reg.PWR_STATUS, Reg.PWR_CAP_W, Reg.PWR_CAP_WINDOW_MS, Reg.PWR_STATIC_W, Reg.PWR_IDLE_W, Reg.PWR_RUN_W] ++
  [Reg.PWR_AVG_W, Reg.PWR_PACE_ROUND, Reg.PWR_OP_CEIL, Reg.PWR_THERM_CEIL, Reg.PWR_FIXED_OP, Reg.PWR_BOOST_TJ, Reg.PWR_ALERT, Reg.PWR_ALERT_COUNT, Reg.PWR_DROOP_MV, Reg.PWR_GB_MV, Reg.PWR_GB_FLOOR, Reg.PWR_ENERGY_NJ] ++
  [Reg.PWR_FRAME_ENERGY_NJ, Reg.PWR_FRAME_TAG, Reg.PWR_FRAME_CORE_UJ, Reg.PWR_DECL_W, Reg.PWR_VMIN, Reg.FUM_STATUS, Reg.FUM_CTRL, Reg.FUM_REC_CTRL, Reg.FUM_REC_SEQ, Reg.FUM_REC_CONS, Reg.FUM_REC_DROPPED, Reg.FUM_THERM] ++
  [Reg.FUM_SIGDET, Reg.FUM_VAL, Reg.FUM_FILT, Reg.FUM_RULE_CFG, Reg.FUM_RULE_LIM, Reg.FUM_RULE_STAT, Reg.CP_STATUS, Reg.CP_WDOG_MS, Reg.CP_KICK, Reg.CP_WDOG_EXPIRED, Reg.CP_TAKEOVERS, Reg.CP_BOOT] ++
  [Reg.MBX_STATUS, Reg.MBX_CTRL, Reg.MBX_CMD_BASE, Reg.MBX_CMD_SIZE, Reg.MBX_CMD_TAIL, Reg.MBX_CMD_HEAD, Reg.MBX_RSP_BASE, Reg.MBX_RSP_SIZE, Reg.MBX_RSP_TAIL, Reg.MBX_RSP_HEAD, Reg.MBX_PENDING, Reg.MBX_ERR] ++
  [Reg.MBX_RSP_LOST, Reg.MBX_IRQ, Reg.ERRLOG_BASE, Reg.ERRLOG_SIZE, Reg.ERRLOG_PROD, Reg.ERRLOG_CONS, Reg.ERRLOG_LOST, Reg.ERRLOG_DROPPED, Reg.ERRLOG_IRQ_MIN, Reg.ERRLOG_WORST, Reg.GLB_STRAPS, Reg.GLB_SIDEBAND] ++
  [Reg.GLB_ALERT, Reg.GLB_ALERT_MASK, Reg.GLB_STARTUP, Reg.GLB_STARTUP_MS, Reg.HA_STATUS, Reg.HA_BAR2_BASE, Reg.HA_BAR2_SIZE, Reg.HA_CPL_TMO_US, Reg.HA_LINK_EVENTS, Reg.HA_WIN_ERR, Reg.HA_ATU]

/-- The value of a field at the release of the domain that owns it (R11): the Reset column, and for the fields with a
dash there, the fused and measured values of the configuration (log entry 4). -/
def fldReset (f : Fld) (i : Nat) : Nat :=
  match f with
  | .FAB_CREDIT_VC_LIMIT => [32, 128, 64, 32].getD (i % 4) 0
  | .FAB_CREDIT_VC_AVAIL => [32, 128, 64, 32].getD (i % 4) 0
  | .FUM_FILT_K => if 46 ≤ i then 0 else 4
  | .PWR_GB_MV_GB_A => Config.gbInit 0 % 2 ^ 8
  | .PWR_GB_MV_GB_B => Config.gbInit 1 % 2 ^ 8
  | .PWR_GB_FLOOR_FLOOR_A => Config.gbFloor 0 % 2 ^ 8
  | .PWR_GB_FLOOR_FLOOR_B => Config.gbFloor 1 % 2 ^ 8
  | .PWR_VMIN_VMIN => Config.vmin (i / 8) (i % 8) % 2 ^ 16
  | .PWR_VMIN_V_SET => (Config.vmin (i / 8) (i % 8) + 10 * Config.gbInit (i / 8)) % 2 ^ 16
  | .CP_BOOT_SVN_FUSED => Config.svnFused % 2 ^ 8
  | .GLB_STRAPS_SLOT_ID => 0x3F
  | .GLB_SIDEBAND_PWR_ALERT_N => 1
  | _ => (fldRow f).reset

end Sys2Proof.Machine
end

