-- ==== Sys2Proof/Machine/StateFabric.lean ====
section
/-! DEFINITION. The state of the fabric ports, the joined job and the ledger's latches (11). Port registers hold the
state, lanes, neighbour, credits and counters of each port. -/

set_option autoImplicit false

namespace Sys2Proof.Machine

open Sys2Proof

/-- An entry of a port's receive buffer (R540); `transit` when it waits to be forwarded (R535). -/
structure RxEntry where
  msg : Msg
  transit : Bool
deriving DecidableEq, Repr

/-- A message that waits to leave by a port: `transit` holds the port it came in on; an own message is stamped when it
launches (R94). -/
structure TxEntry where
  msg : Msg
  transit : Option Nat
deriving DecidableEq, Repr

/-- What a port puts on its link: messages, credit returns, lane-drop notices, audit exchanges (latched messages
received, credits returned and occupancy, by VC; R559), time-transfer probes with the module's hop count, whether it has a path to
an ANCHOR, and the lowest ANCHOR_RANK of a backup with qualified PPS that it knows (R54, R55, R66). -/
inductive LinkOut where
  | msg (m : Msg)
  | credit (vc : Nat)
  | laneDrop (lane : Nat)
  | audit (rx cret occ : List Nat)
  | probe (hops : Nat) (anchored : Bool) (backup : Nat)
deriving DecidableEq, Repr

/-- The job that PACE_GROUP_JOIN joined (R529): the allocation of its table, its rank map and route table, and FREE_RUN
(R690). -/
structure Job where
  handle : Nat
  rankMap : List Nat
  routes : Tab Nat
  freeRun : Bool
deriving DecidableEq, Repr

/-- Latched terms of a book (R558): book, instance, source kind and index, sum of the terms, reference. -/
structure BookLatch where
  book : Nat
  inst : Nat
  kind : Nat
  index : Nat
  sum : Nat
  ref : Nat
deriving DecidableEq, Repr

/-- Latched terms of book 1 for one port and VC (R559). -/
structure CreditLatch where
  avail : Nat
  tx : Nat
  rx : Nat
  cretTx : Nat
  cretRx : Nat
  occ : Nat
  limit : Nat
deriving DecidableEq, Repr

/-- A lane that a port will remove: port, lane, ticks to go (R524, R526). -/
structure LaneDrop where
  port : Nat
  lane : Nat
  ticks : Nat
deriving DecidableEq, Repr

/-- The fabric: receive buffers by port (18: messages to this module itself, R533), messages that wait to leave,
everything the ports have put on their links, lane drops, ports whose credit book restarts at the next tick and ports
whose book is audited (R561), the job, GEY_FRAME_COUNT at the last tick that started BODY_FIRST, stale messages
discarded in this frame (R95), the ledger's latches, and the books that failed the last audit. -/
structure FabUnit where
  rx : Tab (List RxEntry)
  txq : Tab (List TxEntry)
  out : List (Nat × LinkOut)
  drops : List LaneDrop
  restart : Tab Bool
  audited : Tab Bool
  job : Option Job
  bodyCount : Option Nat
  stale : Nat
  latch : List BookLatch
  credit : Tab (Option CreditLatch)
deriving DecidableEq, Repr

/-- The fabric with no job, nothing received and nothing sent. -/
def FabUnit.reset : FabUnit := ⟨[], [], [], [], [], [], none, none, 0, [], []⟩

end Sys2Proof.Machine
end

