-- ==== Sys2Proof/Machine/StateHost.lean ====
section
/-! DEFINITION. The state that mailbox commands set up: allocations (R391), the policy of the last POLICY_LOAD (R741). -/

set_option autoImplicit false

namespace Sys2Proof.Machine

open Sys2Proof

/-- A live allocation (R391, R392): handle, kind 0 to 4, placement, first byte address, bytes, SYMMETRIC, PAGED (R579). -/
structure Alloc where
  handle : Nat
  kind : Nat
  place : Nat
  base : Nat
  size : Nat
  symmetric : Bool
  paged : Bool
deriving DecidableEq, Repr

/-- What a read answers to its requester: data, the error response of a poisoned codeword (R449, R769), a Completer Abort, or
the error response to a locked sequence that is torn (R477). -/
inductive BusReply where
  | data (v : Nat) | poisoned | abort | torn
deriving DecidableEq, Repr

/-- An access held while its logical tile is remapped (R36): the requester's rank, the address, the bytes it writes (none for a read),
and the bytes that a read asks for. -/
structure HeldAccess where
  rank : Nat
  addr : Nat
  write : Option (List Byte)
  bytes : Nat
deriving DecidableEq, Repr

/-- Register accesses: the high words that 32-bit reads of low words have latched (R18), and the registers that the first register of a
book has latched (R50, R515), by requester and block offset; the last answer to a requester; the second of the last
ERR_HOST_ADDR (R769); the words of the MSI-X table (R768); the accesses held (R36), oldest first. -/
structure BusUnit where
  half : Tab (Option Nat)
  book : Tab (Option Nat)
  reply : Option (Nat × BusReply)
  addrNoted : Option Nat
  msix : Tab Nat
  held : List HeldAccess
deriving DecidableEq, Repr

/-- No access made. -/
def BusUnit.reset : BusUnit := ⟨[], [], none, none, [], []⟩

/-- What POLICY_LOAD sets outside registers (R741): the SR salt (R138), the statistics table (R163) as handle, first
byte address and slots, the secure interval in seconds, and the spacing of self-test slices in ms. -/
structure Policy where
  salt : Nat
  statHandle : Nat
  statBase : Nat
  statSlots : Nat
  secureS : Nat
  sliceGapMs : Nat
deriving DecidableEq, Repr

/-- Before any POLICY_LOAD: salt 0 (R138) and no statistics table. -/
def Policy.reset : Policy := ⟨0, 0, 0, 0, 0, 0⟩

end Sys2Proof.Machine
end

