-- ==== Sys2Proof/Machine/StateSeq.lean ====
section
/-! DEFINITION. The state of the time base and the frame sequencer (02), of error records in flight (16, R745-R749),
and of the slots each engine runs. -/

set_option autoImplicit false

namespace Sys2Proof.Machine

open Sys2Proof

/-- SEQ_STATE (R110). -/
inductive SeqState where
  | empty | loaded | armed | running | haltStep | stopped
deriving DecidableEq, Repr

/-- TB_STATE (R110). -/
inductive TbState where
  | freerun | locking | locked | holdover | holdoverExpired | isolated
deriving DecidableEq, Repr

/-- TIME_ROLE in force (R53). -/
inductive TimeRole where
  | follower | anchor | backupAnchor | reserved
deriving DecidableEq, Repr

/-- What a neighbour reported in its last probe (R54, R55): hops to the anchor, whether a path to an ANCHOR lies
behind it, the lowest ANCHOR_RANK of a backup with qualified PPS there (15 for none), the measured offset in ps; how many ticks running the offset exceeded the limit (R58); until when it takes
no part in the choice of a parent. -/
structure Neighbour where
  hops : Nat
  anchored : Bool
  backup : Nat
  offsetPs : Int
  isOver : Nat
  barredUntil : Nat
deriving DecidableEq, Repr

/-- The time base's discipline: role in force, the TIME_ROLE that the last tick took (R53), state, reports by port, PPS history, and the second of the last edge driven on
PPS_OUT (R52-R66). -/
structure TimeDisc where
  role : TimeRole
  taken : Nat
  state : TbState
  reports : Tab (Option Neighbour)
  accepted : Nat
  outside : List Int
  lastAccepted : Option Nat
  holdoverFrom : Nat
  ppsOut : Nat
deriving DecidableEq, Repr

/-- A slot of a slot list (R82). -/
structure Slot where
  payload : Nat
  budget : Nat
  xmod : Bool
  kind : Nat
  start : Nat
deriving DecidableEq, Repr

/-- How far a synchronisation wait of a held bundle or record has come (R493, R496). -/
inductive WaitPhase where
  | none | sent | registered | released
deriving DecidableEq, Repr

/-- The bytes of a slot's record list as they were fetched (R453, R543): from which address, and the addresses of theirs that lay in
a poisoned codeword. -/
structure RecordStore where
  base : Nat
  bytes : List Byte
  bad : List Nat
deriving DecidableEq, Repr

/-- An engine in the current program frame: its slot list, the slot it runs or runs next, whether that slot is
running, the frame cycle and frame count at which it began, the frame cycle its last slot ended, whether it overran
and is recorded, whether it may start no slot, whether no further bundle or record of the running slot issues (R498,
R791), the wait of its next record, and its record store in use. -/
structure EngineRun where
  slots : List Slot
  idx : Nat
  running : Bool
  startedFrame : Nat
  lastEnd : Nat
  overrun : Bool
  blocked : Bool
  isOver : Bool
  wait : WaitPhase
  store : List RecordStore
deriving DecidableEq, Repr

/-- An engine at reset. -/
def EngineRun.reset : EngineRun := ⟨[], 0, false, 0, 0, false, false, false, .none, []⟩

/-- Where the sequencer stands within a program (R74, R84-R89): a program frame runs, in its first or second interval; STEP_ABORTs
that wait for a tick, by tag and restart count; the restart that is scheduled. -/
structure SeqRun where
  live : Bool
  intervals : Nat
  aborts : List (Nat × Nat)
  restart : Option Nat
deriving DecidableEq, Repr

/-- No program frame runs. -/
def SeqRun.reset : SeqRun := ⟨false, 0, [], none⟩

/-- An error record (R745, R746): source kind and index, object and waiter where it carries them, the stamp as a time
in units of 2⁻¹⁶ ns, detail words, and the die whose collector queue it enters. -/
structure ErrRec where
  code : Nat
  severity : Nat
  kind : Nat
  index : Nat
  obj : Option Nat
  waiter : Option Nat
  stamp : Nat
  d0 : Nat
  d1 : Nat
  die : Nat
deriving DecidableEq, Repr

/-- A loaded program's header (R78), where its image lies, and the address of its power table (R678). -/
structure ProgHeader where
  handle : Nat
  base : Nat
  opportunistic : Bool
  period : Nat
  slack : Nat
  baseOp : Nat
  topOp : Nat
  frames : Nat
  bodyFirst : Nat
  bodyLast : Nat
  stepLimit : Nat
  tableOff : Nat
  bytes : Nat
  stepStart : Nat
  powerAddr : Option Nat
deriving DecidableEq, Repr

end Sys2Proof.Machine
end

