-- ==== Sys2Proof/Machine/StateMbx.lean ====
section
/-! DEFINITION. The state of the mailbox, MSI-X, the control processors and the flash (16). -/

set_option autoImplicit false

namespace Sys2Proof.Machine

open Sys2Proof

/-- A command that has been fetched and has not ended (R731, R732): tag, number, FENCE, whether it has started, whether it
came over SMBus (R736), whether a reset of the host adapter has taken its response away (R734). -/
structure MbxCmd where
  tag : Nat
  op : Nat
  fence : Bool
  started : Bool
  smbus : Bool
  lost : Bool
deriving DecidableEq, Repr

/-- A response that has not been posted (R730): RESULT as its 256 bits. -/
structure Response where
  op : Nat
  status : Nat
  tag : Nat
  err : Nat
  result : Nat
  stamp : Nat
  smbus : Bool
deriving DecidableEq, Repr

/-- The mailbox: commands under way in fetch order, finished responses in the order in which the commands ended, whether the
full response ring has been recorded (R733), responses sent over SMBus, tags of discarded responses (R734); for each MSI-X vector
the end of its moderation interval, whether an event waits for it (R743), and the raises made. -/
structure MbxUnit where
  cmds : List MbxCmd
  finished : List Response
  full : Bool
  smbusOut : List Response
  lostTags : List Nat
  irqUntil : Tab Nat
  irqHeld : Tab Bool
  raised : Tab Nat
deriving DecidableEq, Repr

/-- The mailbox with nothing fetched. -/
def MbxUnit.reset : MbxUnit := ⟨[], [], false, [], [], [], [], []⟩

/-- An image slot of the flash (R722) as boot ROM and FW_UPDATE judge it: the header's bytes and the body's. -/
structure FlashSlot where
  header : List Byte
  body : List Byte
deriving DecidableEq, Repr

/-- One core of the control processor (R42): the bytes that the boot ROM copied into its private SRAM from address 0 on, and the
body offset at which it entered them (R722, R723). -/
structure CpCore where
  sram : List Byte
  entry : Nat
deriving DecidableEq, Repr

/-- A core whose SRAM holds no image. -/
def CpCore.reset : CpCore := ⟨[], 0⟩

/-- Bytes of a core's private SRAM (R42): 4 MiB. -/
def cpSramBytes : Nat := 2 ^ 22

/-- The control processors and their flash: each core's SRAM and entry point, time of each core's last kick, expiries of each die's watchdog (R720), whether a
device identity and an attestation key are held (R738, R656), image slots 0 and 1, the slot that the directory names, the
fused security version's advances, the persistent error history as records of 32 bytes, the second in which ERR_LOG_LOST was last recorded (R747). -/
structure CpUnit where
  cores : Tab CpCore
  kicked : Tab Nat
  expiries : List (Nat × Nat)
  slots : Tab FlashSlot
  directory : Nat
  svnBurned : Nat
  history : List (List Byte)
  lostNoted : Option Nat
deriving DecidableEq, Repr

/-- A blank flash, no expiry. -/
def CpUnit.reset : CpUnit := ⟨[], [], [], [], 0, 0, [], none⟩

end Sys2Proof.Machine
end

