-- ==== Sys2Proof/Machine/StatePwr.lean ====
section
/-! DEFINITION. The state of the power controller and of the Fumarole island (15): energy, caps, rounds, alerts, droop;
sensors, rules, the record stream. -/

set_option autoImplicit false

namespace Sys2Proof.Machine

open Sys2Proof

/-- A frame that has ended: when, how long in units of 2⁻¹⁶ ns, its input energy in units of 40 fJ (1 mV × 1 mA × 40 ns),
whether it was IDLE. -/
structure FrameEnergy where
  stop : Nat
  dur : Nat
  energy : Nat
  idle : Bool
deriving DecidableEq, Repr

/-- A round in progress (R686): the round tick, the combined point and level so far, children that have reported as a bit
set, whether the report has been sent. -/
structure PaceRound where
  tick : Nat
  op : Nat
  level : Nat
  children : Nat
  reported : Bool
deriving DecidableEq, Repr

/-- A decision held (R688): its effective tick, point and level. -/
structure PaceDecision where
  tick : Nat
  op : Nat
  level : Nat
deriving DecidableEq, Repr

/-- The power controller: energy of the frame under way and core energy of each die in nJ, the time of the last sample and of the
last two ticks, frames of the window latest first, energy and time of the program frame so far, what is left of the last
nanojoule, the second of the last ERR_POWER_DECL; round ticks running above the cap, whether the last round tick was within it,
the number of the next boundary tick (R684), OP0 kept after an alert (R695), a fall to OP0 that waits for cycle 0 (R77), the
guardband in force by die in mV while it moves to PWR_GB_MV, the round, the decision, the agreed dilution level; heavy frames
running and whether recorded, skips of the frame by die (R97, R698). -/
structure PwrUnit where
  energy : Nat
  core : Tab Nat
  lastSample : Nat
  lastTick : Nat
  prevTick : Nat
  history : List FrameEnergy
  progEnergy : Nat
  progTime : Nat
  rest : Nat
  declNoted : Option Nat
  isOver : Nat
  within : Bool
  boundary : Nat
  hold0 : Bool
  fall : Bool
  gb : Tab (Option Nat)
  round : Option PaceRound
  decision : Option PaceDecision
  level : Nat
  heavy : Tab Nat
  heavyNoted : Tab Bool
  skips : Tab Nat
deriving DecidableEq, Repr

/-- The controller with nothing measured. -/
def PwrUnit.reset : PwrUnit := ⟨0, [], 0, 0, 0, [], 0, 0, 0, none, 0, true, 0, false, false, [], none, none, 0, [], [], []⟩

/-- A channel's filter (R706): the last samples, latest first, and y with 16 fraction bits. -/
structure Chan where
  samples : List Int
  y : Int
deriving DecidableEq, Repr

/-- A channel before its first sample. -/
def Chan.reset : Chan := ⟨[], 0⟩

/-- A rule's run-time state (R708): samples running that meet its condition, whether it is active. -/
structure RuleRun where
  count : Nat
  active : Bool
deriving DecidableEq, Repr

/-- A rule that has not fired. -/
def RuleRun.reset : RuleRun := ⟨0, false⟩

/-- A telemetry record (R710): type, SUB, rank, sequence number, stamp, body; whether it still goes to the ring and to the
fabric rank. -/
structure TeleRec where
  typ : Nat
  sub : Nat
  rank : Nat
  seq : Nat
  stamp : Nat
  body : List Byte
  toRing : Bool
  toRank : Bool
deriving DecidableEq, Repr

/-- A FRAME record being gathered (R710, R711): first tick count, energy in units of 40 fJ, frames, skips, IDLE and JOIN
ticks. -/
structure FrameAcc where
  first : Nat
  energy : Nat
  frames : Nat
  skipA : Nat
  skipB : Nat
  idle : Nat
  join : Nat
deriving DecidableEq, Repr

/-- Nothing gathered. -/
def FrameAcc.reset : FrameAcc := ⟨0, 0, 0, 0, 0, 0, 0⟩

/-- The island: channels, rules (0 to 31, and 0x80 to 0x85 for H0 to H5), the record buffer, the ring (first host-window address and
entries) and fabric rank that receive records, the FRAME record under way, the second of the last ERR_REC_DROP, since when
every rule with FORCE_DOWN has been inactive (R703), and the time of the last SENSOR snapshot (R711). -/
structure FumUnit where
  chans : Tab Chan
  rules : Tab RuleRun
  recs : List TeleRec
  ring : Option (Nat × Nat)
  rank : Option Nat
  acc : FrameAcc
  dropNoted : Option Nat
  calmSince : Option Nat
  snapLast : Nat
deriving DecidableEq, Repr

/-- The island with nothing sampled. -/
def FumUnit.reset : FumUnit := ⟨[], [], [], none, none, .reset, none, some 0, 0⟩

end Sys2Proof.Machine
end

