-- ==== Sys2Proof/Machine/StateRed.lean ====
section
/-! DEFINITION. The state of the two halves of the reduction engine (R543-R556). -/

set_option autoImplicit false

namespace Sys2Proof.Machine

open Sys2Proof

/-- How far a record has come: partials staged before it starts, active, waiting for the acknowledgement of what it sent,
complete, or cancelled by a step abort. -/
inductive RedPhase where
  | staging | active | sent | complete | cancelled
deriving DecidableEq, Repr

/-- A partial that arrives (R549): entry, backup or primary, segments, the last one's index and CRC. -/
structure RedSource where
  entry : Nat
  backup : Bool
  segs : Tab (List Byte)
  last : Option (Nat × Nat)
deriving DecidableEq, Repr

/-- A record of the current or the next program frame, or one still in progress: RID, phase, slot and record, where it
lies in the image, frame boundaries until its deadline frame has ended, whether they have passed, partials staged, the
choice for each remote entry (true for the backup), entries folded, accumulators with their lost mark, taken sources that
were not finite (entry and rank), entries whose absence is recorded, and whether a read failed. -/
structure RedRun where
  rid : Nat
  phase : RedPhase
  slot : Nat
  record : Nat
  addr : Nat
  left : Nat
  srcs : List RedSource
  taken : Tab Bool
  folded : Nat
  acc : List Acc
  lost : Bool
  nonfinite : List (Nat × Nat)
  missing : List Nat
  failed : Bool
deriving DecidableEq, Repr

/-- A half: the next record of its slot, and its records. -/
structure RedHalf where
  next : Nat
  runs : List RedRun
deriving DecidableEq, Repr

/-- A half with no record. -/
def RedHalf.reset : RedHalf := ⟨0, []⟩

end Sys2Proof.Machine
end

