-- ==== Sys2Proof/Machine/StateSinter.lean ====
section
/-! DEFINITION. The state of Sinter (13): the loaded table, valid maps, counts of the body, CAPTURE, and a RESTORE in
progress. -/

set_option autoImplicit false

namespace Sys2Proof.Machine

open Sys2Proof

/-- A range of a data position (R617): handle, blocks of 2,048 bytes, byte offset within the page. -/
structure SinRange where
  handle : Nat
  blocks : Nat
  offset : Nat
deriving DecidableEq, Repr

/-- A group entry (R617). -/
structure SinGroup where
  id : Nat
  pos : Nat
  ranges : List SinRange
  len : Nat
  deltas : Nat
  freshs : Nat
  area : Nat
  members : List Nat
deriving DecidableEq, Repr

/-- A loaded Sinter table (R616). -/
structure SinTable where
  holder0 : Nat
  holder1 : Nat
  ranks : List Nat
  alloc : Nat
  recBytes : Nat
  recArea : Nat
  groups : List SinGroup
deriving DecidableEq, Repr

/-- A RESTORE that runs on its target (R636): tag of its command, FULL, the GEY_STEP_COUNT of the sources, the epoch of the
job as a time, ranks that are lost, the CRCs of the co-owners' ranges (group entry, range, CRC), bytes of the own record
by offset and its length once known, ranks whose records are still to come, blocks still to be rebuilt and bytes still to
be copied, bytes written. -/
structure Restore where
  tag : Nat
  full : Bool
  step : Nat
  epoch : Nat
  lost : List Nat
  crcs : List (Nat × Nat × Nat)
  record : Tab (List Byte)
  recordLen : Option Nat
  needRecords : List Nat
  needRebuild : Nat
  needCopy : Nat
  written : Nat
deriving DecidableEq, Repr

/-- A source's place in a rebuild chain (R637): RID, group entry, own coefficient, the next source's rank (none: the
result goes to the target), the target's rank, first block, blocks, and blocks forwarded. -/
structure ChainRun where
  rid : Nat
  group : Nat
  coef : Nat
  next : Option Nat
  target : Nat
  first : Nat
  blocks : Nat
  done : Nat
deriving DecidableEq, Repr

/-- Sinter: the table; valid bits (R622) by group entry, buffer (1 fresh, 2 and 3 pending) and granule; which of the first two
buffers holds the parity (R623); which copy of each record slot is committed; messages accepted (DELTA and FRESH) and
sent to each holder in this body, by group entry; bytes and length of records that arrive, by rank; ranks whose record has come;
holders (bit set) that have acknowledged the CAPTURE of the running slot; whether CAPTURE has started in this body (R630);
whether the drift comparison of R624 is due, and has found a difference; the step that SECURE_NOW names; whether a stale
message has been recorded since the tick; RESTORE and its chains. -/
structure SinUnit where
  table : Option SinTable
  valid : Tab Bool
  paritySel : Nat
  recSel : Tab Nat
  gotDelta : Tab Nat
  gotFresh : Tab Nat
  sent : Tab Nat
  recParts : Tab (Nat × Option Nat)
  recGot : List Nat
  capture : Option Nat
  captured : Bool
  drift : Bool
  driftSeen : Bool
  secureAt : Option Nat
  staleNoted : Bool
  restore : Option Restore
  chains : List ChainRun
deriving DecidableEq, Repr

/-- Sinter with no table. -/
def SinUnit.reset : SinUnit :=
  ⟨none, [], 0, [], [], [], [], [], [], none, false, false, false, none, false, none, []⟩

end Sys2Proof.Machine
end

