-- ==== Sys2Proof/Machine/StateStart.lean ====
section
/-! DEFINITION. The state of start-up, power states, pins and the test port (15, R699-R703; 17). -/

set_option autoImplicit false

namespace Sys2Proof.Machine

open Sys2Proof

/-- Start-up and pins: the rail stage under way and when it began (R779); when step 2 and the step under way began (R778);
48 V has been applied and no start-up has begun; a wake from DORMANT is under way; the state that an
accepted SLEEP will enter (R701); the core domains and the host adapter domain
are released (R776); times of the restarts of R782; the last FORCE_DOWN came from H0 or H1 and a restart is due; STANDBY was
entered by a FORCE_DOWN (R703); ERR_FORCE_DOWN is due at the next boot; times at which MODULE_CORE and the host adapter are
reset (R777); levels on SLOT_ID; the endpoint's SMBus address (R762); ALERT_N is released by an alert response (R763); the
effective instruction of each TAP (R765); stacks that failed (R783); soft repairs in the flash by die (R663, R665); the bytes written to
the FRU EEPROM since manufacture (R28). -/
structure StartUnit where
  stage : Option Nat
  stageSince : Nat
  since : Nat
  stepSince : Nat
  fresh : Bool
  waking : Bool
  sleepDue : Option Nat
  coresUp : Bool
  haUp : Bool
  restarts : List Nat
  inputDown : Bool
  downHeld : Bool
  downDue : Bool
  coreDue : Option Nat
  haDue : Option Nat
  slotPins : Nat
  smbAddr : Nat
  alertQuiet : Bool
  jtag : Tab Nat
  hbmBad : List Nat
  store : Tab (List Nat)
  fru : List (Nat × Byte)
deriving DecidableEq, Repr

/-- IDCODE, which Test-Logic-Reset loads (R765). -/
def jtagIdcode : Nat := 0x01

/-- At the release of FUMAROLE: 48 V is applied, no rail is up, every strap open. -/
def StartUnit.reset : StartUnit :=
  ⟨none, 0, 0, 0, true, false, none, false, false, [], false, false, false, none, none, 0x3F, 0x62, false, [], [], [], []⟩

end Sys2Proof.Machine
end

