-- ==== Sys2Proof/Machine/StateStep.lean ====
section
/-! DEFINITION. The state of the step unit and the update engines (12): the loaded step table, microprograms,
authorisations, pending flags. -/

set_option autoImplicit false

namespace Sys2Proof.Machine

open Sys2Proof

/-- A shard entry (R585). -/
structure ShardEntry where
  streams : List Nat
  hyper : Nat
  normOut : Nat
  digLocal : Nat
  digPeer : Nat
  partner : Nat
  role : Nat
  group : Nat
deriving DecidableEq, Repr

/-- A checkpoint region (R569). -/
structure CkptRegion where
  base : Nat
  bytes : Nat
  tag : Nat
  openAt : Nat
  sealAt : Nat
  closeAt : Nat
deriving DecidableEq, Repr

/-- A loaded step table (R566): header, regions, shard entries, microprograms as their 64 words. -/
structure StepTable where
  train : Bool
  hostAuth : Bool
  reduceFirst : Nat
  bwdBar : Nat
  voteBar : Nat
  veto : Nat
  voteCycle : Nat
  descentNs : Nat
  treeDepth : Nat
  normDesc : Nat
  normLimit : Nat
  ckpts : List CkptRegion
  shards : List ShardEntry
  uprogs : List (List Nat)
deriving DecidableEq, Repr

/-- Where an update engine stands in a kind-2 slot (R591): its pass (1 NORM, 2 UPDATE; 0 none), microprogram and shard,
whether the PRE section has run, the next instruction of the section, the segment, vector registers (512 elements
each), scalar registers (FP64), the norm accumulator and its lost mark, the two CRCs of the digest (R594), and by ST instruction the elements
stored whose block or packing unit the next segment completes (R407, R416). -/
structure UeRun where
  pass : Nat
  uprog : Nat
  shard : Nat
  preDone : Bool
  pos : Nat
  seg : Nat
  v : Tab (List Nat)
  k : Tab Nat
  norm : Acc
  normLost : Bool
  crcA : Nat
  crcB : Nat
  tail : Tab (List Nat)
deriving DecidableEq, Repr

/-- An update engine that runs no microprogram. -/
def UeRun.reset : UeRun := ⟨0, 0, 0, false, 0, 0, [], [], 0, false, 0xFFFFFFFF, 0xFFFFFFFF, []⟩

/-- The step unit: the table, shards with COMPLETE and with NONFINITE (R593), queued authorisations (step and token;
R607), the frame count of the tick that began the COMMIT frame, whether the vote of this frame was taken, whether the
release of VOTE_BAR has reached the module since, whether the step under way counts as aborted (R510, R604), the steps
whose bodies SECURE_NOW names (R633). -/
structure StepUnit where
  table : Option StepTable
  complete : List Nat
  nonfinite : List Nat
  auth : List (Nat × Nat)
  commitStart : Option Nat
  voted : Bool
  released : Bool
  aborted : Bool
  ue : Tab UeRun
deriving DecidableEq, Repr

/-- No step table. -/
def StepUnit.reset : StepUnit := ⟨none, [], [], [], none, false, false, false, []⟩

end Sys2Proof.Machine
end

