-- ==== Sys2Proof/Machine/StateStr.lean ====
section
/-! DEFINITION. The state of the self-test and repair block (14): physical tiles, clusters, slices, prefill, repair
tables, fuses, spare lane circuits. -/

set_option autoImplicit false

namespace Sys2Proof.Machine

open Sys2Proof

/-- States of a physical tile (R37). -/
inductive PtState where
  | active | spare | spareTest | failed
deriving DecidableEq, Repr

/-- A physical tile (R642, R654, R669): state, TESTED, REPAIRABLE, position within the cluster while ACTIVE, slice of the
last failure, the slices passed and the slices failed since TESTED last cleared, as bit sets. -/
structure PTile where
  state : PtState
  tested : Bool
  repairable : Bool
  pos : Nat
  lastFail : Nat
  passed : Nat
  failed : Nat
deriving DecidableEq, Repr

/-- A physical tile as no repair leaves it: positions 0 to 15 ACTIVE, the last of the cluster SPARE (R33, R37). -/
def PTile.home (pt : Nat) : PTile :=
  ⟨if pt % 17 < 16 then .active else .spare, false, false, if pt % 17 < 16 then pt % 17 else 0, 0, 0, 0⟩

/-- A slice that runs on a physical tile (R653): tile, slice, when it started, and the row map and feed delays that
stood then. -/
structure SliceRun where
  pt : Nat
  slice : Nat
  since : Nat
  rowmap : Nat
  feedDly : Nat
deriving DecidableEq, Repr

/-- A takeover staged for a logical tile (R647); the remap waits for a spare's flush until a time (R648). -/
structure Takeover where
  tile : Nat
  notBefore : Nat
deriving DecidableEq, Repr

/-- An entry of a soft repair table (R663), and whether a fuse holds it. -/
structure SoftEntry where
  bits : Nat
  fused : Bool
deriving DecidableEq, Repr

/-- The self-test and repair block. -/
structure StrUnit where
  ptiles : Tab PTile
  /-- position for which a cluster's spare holds the resident image (R645) -/
  prefilled : Tab (Option Nat)
  degraded : Tab Bool
  slices : List SliceRun
  /-- result of the last completed slice: RESULT, PTILE, SLICE -/
  result : Nat × Nat × Nat
  /-- a prefill in progress: spare and position -/
  prefill : Option (Nat × Nat)
  prefillDone : Bool
  takeovers : List Takeover
  /-- soft tables by die -/
  soft : Tab (List SoftEntry)
  /-- fuse banks by die -/
  fuses : Tab (List Nat)
  /-- spare rows in use: repair entries without their row bits (R659), with the die -/
  rowsUsed : List Nat
  /-- spare lane circuits that are bad, and in use, as bit sets by port (R658, R662) -/
  spareBad : Nat
  spareUsed : Nat
  /-- dropped lane circuits under their loopback test, by 4 × port + lane (R658) -/
  laneTest : Tab Bool
  /-- a lane repair whose spare circuit trains, by port: the lane (R662) -/
  laneRepair : Tab (Option Nat)
  /-- lanes to be added at a coming tick (R662): port, lane, ticks to go -/
  laneAdd : List (Nat × Nat × Nat)
  /-- the keys of a die's control island are zeroed by scan (R655) -/
  keysCleared : Tab Bool
deriving DecidableEq, Repr

/-- The block with blank fuses and no repair. -/
def StrUnit.reset : StrUnit :=
  ⟨[], [], [], [], (0, 0, 0), none, false, [], [], [], [], 0, 0, [], [], [], []⟩

end Sys2Proof.Machine
end

