-- ==== Sys2Proof/Machine/StateSync.lean ====
section
/-! DEFINITION. The state of the synchronisation unit (10): the loaded table, counters, barriers, signals in flight,
waits, and the books (R514). -/

set_option autoImplicit false

namespace Sys2Proof.Machine

open Sys2Proof

/-- A declared object (R488): ID, kind 0 COUNTER, 1 MODULE_BARRIER, 2 JOB_BARRIER, consumer engine, members. -/
structure SyncDecl where
  id : Nat
  kind : Nat
  consumer : Nat
  members : Nat
deriving DecidableEq, Repr

/-- Who sends a signal or records an error of the unit: an engine, or the register-fabric arbiter (R517). -/
inductive SyncSrc where
  | engine (e : Nat) | host
deriving DecidableEq, Repr

/-- A signal issued and not yet applied; `fresh` when it was issued after the last tick. -/
structure SigMsg where
  obj : Nat
  count : Nat
  src : SyncSrc
  fresh : Bool
deriving DecidableEq, Repr

/-- How far a wait has come. -/
inductive WaitState where
  | sent | registered | satisfied | refused
deriving DecidableEq, Repr

/-- A wait (R493, R497): its engine, slot and record, object, threshold, whether it consumes, frame boundaries left. -/
structure SyncWait where
  engine : Nat
  slot : Nat
  record : Nat
  obj : Nat
  thr : Nat
  consume : Bool
  left : Nat
  state : WaitState
  fresh : Bool
deriving DecidableEq, Repr

/-- A barrier's run-time state (R501, R503): ARRIVALS, GEN, whether generation GEN + 1 has been reported up, and the
child ports, as a bit set, that have reported it. -/
structure Barrier where
  arrivals : Nat
  gen : Nat
  reported : Bool
  children : Nat
deriving DecidableEq, Repr

/-- A barrier with no arrivals. -/
def Barrier.reset : Barrier := ⟨0, 0, false, 0⟩

/-- The synchronisation unit. -/
structure SyncUnit where
  table : Bool
  decls : List SyncDecl
  barParent : Nat
  barChildren : Nat
  count : Tab Nat
  base : Tab Nat
  bars : Tab Barrier
  inflight : List SigMsg
  waits : List SyncWait
  issued : Nat
  consumed : Nat
  lost : Nat
  cleared : Int
  barrier : Nat
  staleNoted : Bool
  entryDue : Bool
  entryAfterAbort : Bool
  endCheckDue : Bool
deriving DecidableEq, Repr

/-- The unit after a clear (R513). -/
def SyncUnit.reset : SyncUnit :=
  ⟨false, [], 0xFF, 0, [], [], [], [], [], 0, 0, 0, 0, 0, false, false, false, false⟩

end Sys2Proof.Machine
end

