-- ==== Sys2Proof/Machine/StateTile.lean ====
section
/-! DEFINITION. The state of a tile: vector-engine registers (R238-R245), finished-tile queue (R268), Caldera banks,
weight sets, command units and the Vent path (R177-R235), and the bundle stream of its logical position. -/

set_option autoImplicit false

namespace Sys2Proof.Machine

open Sys2Proof

/-- KIND of an FTQ entry (R271). -/
inductive FtqKind where
  | float32 | int32 | fp64Low | fp64High
deriving DecidableEq, Repr

/-- A posted entry of the finished-tile queue (R271). -/
structure FtqEntry where
  kind : FtqKind
  seq : Nat
  bank : Nat
  data : TileReg
deriving DecidableEq, Repr

/-- State of an accumulator bank (R209). -/
inductive BankState where
  | empty | busy | held | draining
deriving DecidableEq, Repr

/-- An accumulator bank (R209-R212): its state, mode, valid region, the 1,024 accumulators (element (i, j) at bits
128·(32i + j)), the lost mark, and whether a step has run since the last ACC = 0 command or ACCLOAD (R219). -/
structure Bank where
  state : BankState
  int : Bool
  rows : Nat
  cols : Nat
  acc : BitVec 131072
  lost : Bool
  stepped : Bool
deriving DecidableEq, Repr

/-- A bank after reset. -/
def Bank.reset : Bank := ⟨.empty, false, 0, 0, 0, false, false⟩

/-- State of a weight set (R189). -/
inductive SetState where
  | empty | loading | loaded
deriving DecidableEq, Repr

/-- A weight set (R186, R187): B's element type code, valid columns, image steps, whether microscaled, its element
bits (row k, column c at element 32k + c) and its block scales (row q, column c at byte 32q + c). -/
structure WeightSet where
  state : SetState
  btype : Nat
  ncols : Nat
  klen : Nat
  scaled : Bool
  image : BitVec 524288
  scales : List Nat
deriving DecidableEq, Repr

/-- A weight set after reset. -/
def WeightSet.reset : WeightSet := ⟨.empty, 0, 0, 0, false, 0, []⟩

/-- The four command units (R199). -/
inductive CalUnit where
  | feed | weight | port | vent
deriving DecidableEq, Repr

/-- A Caldera or Vent command with its fields (R197) and the register values read at issue (R337). -/
inductive CalCmd where
  | wload (wset btype ncols : Nat) (scaled : Bool) (src scl : Nat) (k : Nat)
  | mm (bank wset atype rows : Nat) (acc scaled : Bool) (src scl : Nat) (k : Nat)
  | accload (bank fmt tsrc : Nat) (src : Nat)
  | drain (bank fmt rnd : Nat) (sat ovf : Bool) (dst tag px : Nat)
  | vent (bank vreg atype rows : Nat) (acc : Bool) (k : Nat)
deriving DecidableEq, Repr

/-- A command issued and not complete: whether it has started and when, the slot it was issued in; the flags of each of its steps
with whether the step dropped a non-zero bit (R216, R236); the bytes of a line and the passes of its pair, whether it issued
while the multiply before it still had lines to read (R193), the cycles in which it is the one that forms products, and for how
many cycles past KLEN × P cube-rows still work for it or its forerunners (R236); entries posted; whether the register it reads
has a parity mismatch (R296). -/
structure CalOp where
  cmd : CalCmd
  started : Bool
  slot : Nat
  since : Nat
  runs : List (BitVec 32 × Bool)
  line : Nat
  passes : Nat
  behind : Bool
  busy : Nat
  tail : Nat
  posted : Nat
  upset : Bool
deriving DecidableEq, Repr

/-- A command as it is issued. -/
def CalOp.issued (cmd : CalCmd) (slot : Nat) (behind upset : Bool) : CalOp :=
  ⟨cmd, false, slot, 0, [], 0, 0, behind, 0, 0, 0, upset⟩

/-- A signal whose fence is not yet met (R346), with the number of WIDE drains it still waits for. -/
structure FencedSig where
  obj : Nat
  count : Nat
  after : Nat
deriving DecidableEq, Repr

/-- The storage and units of one physical tile, with its copy of the SR salt (R655). -/
structure Tile where
  t : Tab TileReg
  s : Tab (BitVec 64)
  a : Tab (BitVec 48)
  p : Tab (BitVec 1024)
  w : Tab Acc
  wLost : Tab Bool
  c : Tab (BitVec 32)
  ftq : List FtqEntry
  ftqReserved : Nat
  ftqSeq : Nat
  banks : Tab Bank
  sets : Tab WeightSet
  cal : List CalOp
  rowmap : Nat
  feedDly : Nat
  salt : Nat
deriving DecidableEq, Repr

/-- A tile at the release of its domain: everything 0 and empty; the maps of R236. -/
def Tile.reset : Tile := ⟨[], [], [], [], [], [], [], [], 0, 0, [], [], [], 0x7688, 0x01AA, 0⟩

/-- A slot of a stream buffer that Vent weight chunks fill (R445, R462): the consuming tile, the transfer that
fills it (slot and record), none once that has completed, whether it is HELD, and its bytes not yet consumed. -/
structure VentSlot where
  tile : Nat
  owner : Option (Nat × Nat)
  held : Bool
  data : List Byte
deriving DecidableEq, Repr

/-- A bundle that waits at issue (R262, R345): its bits, and the slot whose command presented it with the upset it meets. -/
structure HeldBundle where
  bits : BitVec 128
  own : BundleSlot
  upset : VeUpset
deriving DecidableEq, Repr

/-- The bundle stream of a logical tile: number of the next bundle (R295), whether VE.END has issued in the slot (R261), whether
an error stopped it for the step (R349), the bundle that waits (R262) with its synchronisation wait, the stall cause (R263), the
fenced signals; bundles issued in cycles that the clock has not passed yet; the flags of operations whose results are not usable
yet, with the cycles to go (R291); and the busy cycles left of each FTQ pop under way, whose token is POPPING (R268). -/
structure VeRun where
  pc : Nat
  ended : Bool
  halted : Bool
  held : Option HeldBundle
  wait : WaitPhase
  stall : Nat
  fenced : List FencedSig
  issued : Nat
  late : List (Nat × BitVec 32)
  popping : List Nat
deriving DecidableEq, Repr

/-- The bundle stream at reset. -/
def VeRun.reset : VeRun := ⟨0, false, false, none, .none, 0, [], 0, [], []⟩

/-- The bundle stream holds nothing: no bundle, no wait, no stall. -/
def VeRun.dropped (v : VeRun) : VeRun := { v with held := none, wait := .none, stall := 0 }

/-- A bundle waits for a cause of R263; `released` where its synchronisation wait is over. -/
def VeRun.hold (v : VeRun) (h : HeldBundle) (wait : WaitPhase) (cause : Nat) : VeRun :=
  { v with held := some h, wait := wait, stall := cause }

/-- n executed cycles pass for the operations in flight (R266, R267). -/
def VeRun.age (v : VeRun) (n : Nat) : VeRun :=
  { v with
    late := (v.late.filter fun p => decide (n < p.1)).map fun p => (p.1 - n, p.2)
    popping := (v.popping.filter fun k => decide (n < k)).map fun k => k - n }

end Sys2Proof.Machine
end

