-- ==== Sys2Proof/Machine/StateXfer.lean ====
section
/-! DEFINITION. The state of the stream engines and the transfer side of the update engines (09): records in progress,
gathers, SENDs that arrive, and the residual arbiters. -/

set_option autoImplicit false

namespace Sys2Proof.Machine

open Sys2Proof

/-- The words of a transfer record (R454). -/
structure XWords where
  w0 : Nat
  w1 : Nat
  w2 : Nat
  w3 : Nat
deriving DecidableEq, Repr

/-- Bytes that a transfer can touch in one allocation (R404): handle, first and last byte. -/
structure Touch where
  handle : Nat
  lo : Nat
  hi : Nat
deriving DecidableEq, Repr

/-- A gather request (R398): its number, the owner's rank, handle, offset and length, and the answer: bytes, none for a
refusal (R428). -/
structure GatherReq where
  num : Nat
  rank : Nat
  handle : Nat
  off : Nat
  len : Nat
  answer : Option (Option (List Byte))
deriving DecidableEq, Repr

/-- An active transfer (R456): slot and record, its words, what it reads and writes, its gather requests, whether its
data have been formed, the bytes to be written in the order of R466 and the scale bytes after them, the codewords of HBM
that it reads, operations that have not left the table, those of them that have yet
to enter it (R457), bytes read, segments or chunks not yet in a stream-buffer slot,
segments presented, the CRC of what it writes or sends and the alive value of a protected SEND, whether the acknowledgement has come, whether a block exponent
was clamped (R160), and whether it fails. -/
structure Xfer where
  slot : Nat
  record : Nat
  words : XWords
  reads : List Touch
  writes : List Touch
  reqs : List GatherReq
  formed : Bool
  data : List (Nat × Byte)
  scaleData : List (Nat × Byte)
  src : List Nat
  opsLeft : Nat
  toIssue : Nat
  bytesRd : Nat
  rest : List (List Byte)
  sent : Nat
  crc : Nat
  alive : Nat
  acked : Bool
  clamp : Bool
  failed : Bool
deriving DecidableEq, Repr

/-- An engine's list (R456): the next record to start, active transfers in list order, the records of this frame that
ABORT_OP ended before they started (R508), by slot and record, and the operations of aborted transfers that are still in the table
(R463). -/
structure XferEng where
  next : Nat
  active : List Xfer
  skip : List (Nat × Nat)
  draining : Nat
deriving DecidableEq, Repr

/-- An engine with nothing started. -/
def XferEng.reset : XferEng := ⟨0, [], [], 0⟩

/-- A SEND that arrives (R459, R460, R542): receiving engine, sender's coordinate, descriptor ID, the extension and
sideband once known, segments by index, the last segment's index and AUX, and whether the pair failed. -/
structure Inbound where
  engine : Nat
  src : Nat
  obj : Nat
  ext : Option SendExt
  sig : Option SendSig
  segs : Tab (List Byte)
  last : Option (Nat × Nat)
  bad : Bool
deriving DecidableEq, Repr

/-- A write buffered in a locked sequence (R476). -/
structure LockWrite where
  addr : Nat
  bytes : List Byte
deriving DecidableEq, Repr

/-- A lock held on a residual arbiter (R476): the owner's rank, beats so far, address of the last beat, buffered
writes. -/
structure ResLock where
  owner : Nat
  beats : Nat
  addr : Nat
  writes : List LockWrite
deriving DecidableEq, Repr

/-- The residual arbiters: locks by instance, grants and completions by instance (R474), grants since the last one under
R473. -/
structure ResUnit where
  locks : Tab (Option ResLock)
  grants : Tab Nat
  done : Tab Nat
  count : Tab Nat
deriving DecidableEq, Repr

/-- No lock, nothing granted. -/
def ResUnit.reset : ResUnit := ⟨[], [], [], []⟩

end Sys2Proof.Machine
end

