-- ==== Sys2Proof/Machine/State.lean ====
section
/-! DEFINITION. The state of the module: plain data, holding every register, buffer, queue, counter, mode and pin that
the spec gives it, the queue of waiting commands, and the state after reset. -/

set_option autoImplicit false

namespace Sys2Proof.Machine

open Sys2Proof

/-- The module. -/
structure State where
  /-- register fields that differ from their reset values, by `fldKey` (register tables; R11) -/
  regs : Tab Nat
  /-- HBM, activation store and operand caches by cell (R430-R432, R246, R442) -/
  mem : Memory
  /-- host memory by host bus address: environment data of the rings and the host window (R727, R770) -/
  hostMem : Memory
  /-- poisoned codewords by their first cell (R449) -/
  poison : Tab Bool
  /-- ERR_MEM_CE records written in a second, by memory instance: the second and the number (R448) -/
  ceNoted : Tab (Nat × Nat)
  /-- the time base in units of 2⁻¹⁶ ns (R46) -/
  tb : Nat
  /-- where the last edge of the core clock lies from `tb`, in units of 2⁻¹⁶ ns times tenths of the operating frequency -/
  tbRem : Int
  /-- the frame cycle counter (R84) -/
  frameCycle : Nat
  time : TimeDisc
  seq : SeqState
  prog : Option ProgHeader
  engines : Tab EngineRun
  /-- physical tile of each logical tile (R33), where it is not the home tile; 272 for a position with none (R650) -/
  tileMap : Tab Nat
  tiles : Tab Tile
  ve : Tab VeRun
  /-- Vent chunks in the stream buffer of each stream engine, oldest first (R462) -/
  vent : Tab (List VentSlot)
  /-- error records delivered to the collectors and not yet written (R748, R749) -/
  errq : List ErrRec
  /-- live allocations (R391) -/
  allocs : List Alloc
  /-- IDs of the live descriptors, whose bytes stand in the table in HBM (R383, R385) -/
  descs : List Nat
  policy : Policy
  bus : BusUnit
  sync : SyncUnit
  str : StrUnit
  fab : FabUnit
  step : StepUnit
  sin : SinUnit
  mbx : MbxUnit
  cp : CpUnit
  seqRun : SeqRun
  pwr : PwrUnit
  fum : FumUnit
  start : StartUnit
  /-- transfer lists of the stream and update engines -/
  xfer : Tab XferEng
  /-- SENDs that are arriving (R459) -/
  inbound : List Inbound
  /-- number of the next gather request -/
  gatherNum : Nat
  red : Tab RedHalf
  /-- step bodies completed since PROGRAM_START (R86) -/
  bodies : Nat
  res : ResUnit
  /-- next codeword to scrub of each SRAM instance (R450) -/
  sramScrub : Tab Nat
  /-- FLAGS of the frame-table entry of the current program frame (R79): bit 0 COMMIT, bit 1 REPLAY_MARK -/
  frameFlags : Nat
  /-- logical tiles whose resident region is being filled (R254) -/
  fills : List Nat
  /-- a STEP_ABORT has been accepted since the step failed (R649) -/
  aborted : Bool
  /-- HBM has trained (R749) -/
  hbmReady : Bool
  /-- a record of severity STEP or worse has arisen in this step (R596) -/
  stepError : Bool
  /-- the model's own counter of free values; not of the spec -/
  free : Nat
  /-- the commands that are waiting, first in, first out -/
  pending : List Instr
deriving DecidableEq, Repr

/-- Reasons to stop with a fault. No command of this model stops: every effect the spec gives is taken. -/
inductive Fault where
  /-- never raised; kept so that the type has a name. Safe. -/
  | none
deriving DecidableEq, Repr

/-- Reasons to refuse a command. -/
inductive Refusal where
  /-- the command has no meaning yet; raised by the dispatcher only. Safe. -/
  | notModelled (mnemonic : String)
deriving DecidableEq, Repr

/-- The module at the release of the FUMAROLE domain (R776): every register at its reset value, memory with nothing
listed, no command waiting. -/
def State.reset : State where
  regs := []
  mem := []
  hostMem := []
  poison := []
  ceNoted := []
  tb := 0
  tbRem := 0
  frameCycle := 0
  time := ⟨.follower, 0, .freerun, [], 0, [], none, 0, 0⟩
  seq := .empty
  prog := none
  engines := []
  tileMap := []
  tiles := []
  ve := []
  vent := []
  errq := []
  allocs := []
  descs := []
  policy := Policy.reset
  bus := BusUnit.reset
  sync := SyncUnit.reset
  str := StrUnit.reset
  fab := FabUnit.reset
  step := StepUnit.reset
  sin := SinUnit.reset
  mbx := MbxUnit.reset
  cp := CpUnit.reset
  seqRun := SeqRun.reset
  pwr := PwrUnit.reset
  fum := FumUnit.reset
  start := StartUnit.reset
  xfer := []
  inbound := []
  gatherNum := 0
  red := []
  bodies := 0
  res := ResUnit.reset
  sramScrub := []
  frameFlags := 0
  fills := []
  aborted := false
  hbmReady := false
  stepError := false
  free := 0
  pending := []

end Sys2Proof.Machine
end

