-- ==== Sys2Proof/Machine/Ops.lean ====
section
/-! DEFINITION. The named operations over the state that every unit uses: register fields, time, memory cells and
bytes, tiles, error records. -/

set_option autoImplicit false

namespace Sys2Proof.Machine

open Sys2Proof

/-- A command that has completed its step. -/
abbrev Res := Host.Outcome State Fault Refusal

/-! ### Register fields -/

/-- The key of element i of a field in the register file. -/
def fldKey (f : Fld) (i : Nat) : Nat := i * 512 + f.ctorIdx

/-- Width of a field. -/
def fldWidth (f : Fld) : Nat := (fldRow f).hi + 1 - (fldRow f).lo

/-- The value a register field holds (R11, R14). -/
def State.rd (s : State) (f : Fld) (i : Nat := 0) : Nat := tabGet (fldReset f i) (fldKey f i) s.regs

/-- The state with a register field holding a value, cut to the field's width. -/
def State.wr (s : State) (f : Fld) (v : Nat) (i : Nat := 0) : State :=
  { s with regs := tabSet (fldReset f i) (fldKey f i) (v % 2 ^ fldWidth f) s.regs }

/-- A count in a field raised by n: it saturates or wraps as its register's table says. -/
def State.bump (s : State) (f : Fld) (n : Nat := 1) (i : Nat := 0) : State :=
  let v := s.rd f i + n
  s.wr f (if (fldRow f).sat then min v (2 ^ fldWidth f - 1) else v) i

/-- Flags ORed into a flag field (R173). -/
def State.orFlags (s : State) (f : Fld) (fl : FlagSet) (i : Nat := 0) : State :=
  s.wr f (s.rd f i ||| fl.toNat) i

/-! ### Time -/

/-- Units of the time base in a nanosecond (R46). -/
def tbPerNs : Nat := 65536

/-- Units of the time base in a second. -/
def tbPerSec : Nat := 1000000000 * tbPerNs

/-- The 96-bit stamp of a time (R46-R48): SEC saturates at 2⁴⁸ − 1. -/
def stampOf (t : Nat) : Nat :=
  min (t / tbPerSec) (2 ^ 48 - 1) * 2 ^ 46 + t % tbPerSec / tbPerNs * 2 ^ 16 + t % tbPerNs

/-- The time a stamp names. -/
def timeOfStamp (v : Nat) : Nat := bitsOf v 93 46 * tbPerSec + bitsOf v 45 16 * tbPerNs + bitsOf v 15 0

/-- Core frequency of an operating point in tenths of a gigahertz (R671). -/
def opFreq : Nat → Nat
  | 0 => 9 | 1 => 10 | 2 => 12 | 3 => 13 | 4 => 14 | 5 => 16 | 6 => 18 | _ => 19

/-- The operating point in force (PWR_STATUS.OP_NOW). -/
def State.opNow (s : State) : Nat := s.rd .PWR_STATUS_OP_NOW

/-- Cycles of a time of ns nanoseconds at an operating point, when whole (R52). -/
def cyclesOf (ns op : Nat) : Nat := ns * opFreq op / 10

/-- Whether a time of ns nanoseconds is a whole number of cycles at an operating point (R71). -/
def wholeCycles (ns op : Nat) : Bool := decide (ns * opFreq op % 10 = 0)

/-- Die of an engine (R29, R39, R41, R81): tiles, stream and update engines by halves, reduction halves by number,
Sinter on die A; the step unit raises its records as engine 0x110. -/
def engineDie (e : Nat) : Nat :=
  if e < 0x100 then e / 128
  else if e < 0x120 then e % 16 / 8
  else if e = 0x121 then 1 else 0

/-! ### Memory cells -/

/-- The cell of a byte of stack n at a stack offset: its stack-local address (R431, R432). -/
def hbmCell (n off : Nat) : Nat := 0x010000000000 + n * 0x000C00000000 + off

/-- The cell of offset x of a physical tile's operand cache: the storage belongs to the physical tile, its address to
the logical position (R35, R246). -/
def ocCell (pt x : Nat) : Nat := 0x031000000000 + pt * 0x400000 + x

/-- The physical tile of a position with no rotation or takeover (R31, R32). -/
def homeTile (t : Nat) : Nat := t / 128 * 136 + t % 128 / 16 * 17 + t % 16

/-- The physical tile that carries a logical tile (R33). -/
def State.physOf (s : State) (t : Nat) : Nat := tabGet (homeTile t) t s.tileMap

/-- The address of offset x of a logical tile's operand cache (R246). -/
def ocAddr (t x : Nat) : Nat := 0x030000000000 + t / 128 * 0x000100000000 + t % 128 * 0x400000 + x

/-- Address of the slice of a logical tile in the activation store (R442). -/
def sliceAddr (t x : Nat) : Nat := 0x020000000000 + t / 128 * 0x000100000000 + t % 128 * 0x01400000 + x

/-- Where a byte address leads: a cell of HBM or SRAM, a byte of the host window, or nothing that is backed. -/
inductive Place where
  | cell (c : Nat)
  | host (w : Nat)
  | none
deriving DecidableEq, Repr

/-- The size of a die's activation store: 128 slices of 20 MiB (R442). -/
def actBytes : Nat := 128 * 0x01400000

/-- Where a byte address leads (R430, R431, R442, R246, R770). -/
def State.placeOf (s : State) (a : Nat) : Place :=
  if a < 0x00C000000000 then
    .cell (hbmCell (a / 2048 % 16) (a / 2048 / 16 * 2048 + a % 2048))
  else if 0x010000000000 ≤ a ∧ a < 0x01C000000000 then .cell a
  else if 0x020000000000 ≤ a ∧ a < 0x020000000000 + actBytes then .cell a
  else if 0x020100000000 ≤ a ∧ a < 0x020100000000 + actBytes then .cell a
  else if 0x030000000000 ≤ a ∧ a < 0x030200000000 then
    let d := (a - 0x030000000000) / 0x000100000000
    let n := a % 0x000100000000 / 0x400000
    let x := a % 0x400000
    if n < 128 ∧ x < 0x300000 ∧ s.physOf (d * 128 + n) < 272 then .cell (ocCell (s.physOf (d * 128 + n)) x) else .none
  else if 0x050000000000 ≤ a ∧ a < 0x060000000000 then .host (a - 0x050000000000)
  else .none

/-- The host bus address behind a byte of the host window; `none` where the entry is not valid (R770). -/
def State.hostBus (s : State) (w : Nat) : Option Nat :=
  let i := w / 0x10000000
  if s.rd .HA_ATU_VALID i = 1 then some (s.rd .HA_ATU_HOST_BASE i * 4096 + w % 0x10000000) else none

/-- The byte at a byte address; 0 where nothing is backed. -/
def State.ld (s : State) (a : Nat) : Byte :=
  match s.placeOf a with
  | .cell c => memGet s.mem c
  | .host w => match s.hostBus w with | some h => memGet s.hostMem h | none => 0
  | .none => 0

/-- The state with a byte stored at a byte address; a store where nothing is backed is dropped. -/
def State.st (s : State) (a : Nat) (b : Byte) : State :=
  match s.placeOf a with
  | .cell c => { s with mem := memSet s.mem c b }
  | .host w => match s.hostBus w with | some h => { s with hostMem := memSet s.hostMem h b } | none => s
  | .none => s

/-- The n bytes from address a on. -/
def State.ldBytes (s : State) : Nat → Nat → List Byte
  | _, 0 => []
  | a, n + 1 => s.ld a :: s.ldBytes (a + 1) n

/-- The state with bytes stored from address a on. -/
def State.stBytes (s : State) (a : Nat) : List Byte → State
  | [] => s
  | b :: bs => (s.st a b).stBytes (a + 1) bs

/-- The little-endian value of n bytes at address a (R8). -/
def State.ldNat (s : State) (a n : Nat) : Nat := leNat (s.ldBytes a n)

/-- The state with an n-byte little-endian value stored at address a. -/
def State.stNat (s : State) (a n v : Nat) : State := s.stBytes a (leBytes n v)

/-! ### Tiles and engines -/

/-- A physical tile. -/
def State.ptile (s : State) (pt : Nat) : Tile := tabGet Tile.reset pt s.tiles

/-- The state with a physical tile replaced. -/
def State.setPtile (s : State) (pt : Nat) (v : Tile) : State :=
  { s with tiles := tabSet Tile.reset pt v s.tiles }

/-- The physical tile's storage that a logical tile now uses (R35). -/
def State.tile (s : State) (t : Nat) : Tile := s.ptile (s.physOf t)

/-- The state with the storage of a logical tile replaced. -/
def State.setTile (s : State) (t : Nat) (v : Tile) : State := s.setPtile (s.physOf t) v

/-- The bundle stream of a logical tile. -/
def State.veOf (s : State) (t : Nat) : VeRun := tabGet VeRun.reset t s.ve

/-- The state with a bundle stream replaced. -/
def State.setVe (s : State) (t : Nat) (v : VeRun) : State := { s with ve := tabSet VeRun.reset t v s.ve }

/-- An engine's progress through its slot list. -/
def State.engine (s : State) (e : Nat) : EngineRun := tabGet EngineRun.reset e s.engines

/-- The state with an engine's progress replaced. -/
def State.setEngine (s : State) (e : Nat) (v : EngineRun) : State :=
  { s with engines := tabSet EngineRun.reset e v s.engines }

/-- The slot an engine runs, where it runs one. -/
def State.slotNow (s : State) (e : Nat) : Option Slot :=
  let r := s.engine e
  if r.running then r.slots[r.idx]? else none

/-! ### Error records -/

/-- The source of an error record (R745). -/
inductive ErrSrc where
  | engine (id : Nat) | port (p : Nat) | ptile (pt : Nat) | arbiter (inst : Nat) | die (d : Nat) | channel (c : Nat)
  | cp (d : Nat)
deriving DecidableEq, Repr

/-- SRC_KIND (R745). -/
def ErrSrc.kind : ErrSrc → Nat
  | .engine _ => 0 | .port _ => 1 | .ptile _ => 2 | .arbiter _ => 3 | .die _ => 4 | .channel _ => 5 | .cp _ => 6

/-- SRC_INDEX (R745). -/
def ErrSrc.index : ErrSrc → Nat
  | .engine i => i | .port i => i | .ptile i => i | .arbiter i => i | .die i => i | .channel i => i | .cp i => i

/-- The die whose collector queue a record enters (R748, R749). -/
def ErrSrc.dieOf : ErrSrc → Nat
  | .engine e => engineDie e
  | .port p => if p < 9 then 0 else 1
  | .ptile pt => if pt < 136 then 0 else 1
  | .die d => d
  | .cp d => d
  | .arbiter i => if i < 16 then i / 8 else if i < 18 then i - 16 else if i < 34 then (i - 18) / 8 else 0
  | .channel _ => 0

/-- The waiter ID of an engine, slot and record (R498, R793). -/
def waiterId (engine slot record : Nat) : Nat := engine * 2 ^ 21 + slot % 512 * 2 ^ 12 + record % 4096

/-- A record enters its die's collector queue, or the early buffer before HBM has trained; a full queue drops it and
counts it (R749). A record of severity STEP or worse fails the step. -/
def State.enqueueErr (s : State) (r : ErrRec) : State :=
  let n := (s.errq.filter fun x => decide (x.die = r.die)).length
  let full := if s.hbmReady then decide (64 ≤ n) else decide (512 ≤ s.errq.length)
  let s := if 2 ≤ r.severity then { s with stepError := true } else s
  if full then s.bump .ERRLOG_DROPPED_COUNT else { s with errq := s.errq ++ [r] }

/-- An error with every part of its record given (R745, R746). -/
def State.raiseRec (s : State) (e : Err) (sev : Nat) (src : ErrSrc) (obj waiter : Option Nat) (d0 d1 : Nat) : State :=
  s.enqueueErr ⟨e.code, sev, src.kind, src.index, obj, waiter, s.tb, d0, d1, src.dieOf⟩

/-- An error with the severity of its table, naming neither object nor waiter. -/
def State.raise (s : State) (e : Err) (src : ErrSrc) (d0 : Nat := 0) (d1 : Nat := 0) : State :=
  s.raiseRec e e.severity src none none d0 d1

/-- An error recorded with severity INFO (R787, R99). -/
def State.raiseInfo (s : State) (e : Err) (src : ErrSrc) (d0 : Nat := 0) (d1 : Nat := 0) : State :=
  s.raiseRec e 0 src none none d0 d1

/-- An error that names an engine and the slot it runs (R793). -/
def State.raiseSlot (s : State) (e : Err) (engine slot : Nat) (rec : Nat := 0) (d0 : Nat := 0) (d1 : Nat := 0) : State :=
  s.raiseRec e e.severity (.engine engine) none (some (waiterId engine slot rec)) d0 d1

/-- The 32 bytes of an error record (R745, R746). -/
def ErrRec.bytes (r : ErrRec) : List Byte :=
  let d0 := match r.obj, r.waiter with
    | some o, none => r.d0 % 2 ^ 32 + o * 2 ^ 32
    | some o, some _ => r.d0 % 2 ^ 40 + o * 2 ^ 40
    | none, _ => r.d0
  let d1 := match r.waiter with | some w => r.d1 % 2 ^ 33 + w * 2 ^ 33 | none => r.d1
  let stamp := stampOf r.stamp % 2 ^ 94 + b2n r.obj.isSome * 2 ^ 94 + b2n r.waiter.isSome * 2 ^ 95
  leBytes 2 r.code ++ leBytes 2 (r.index * 64 + r.kind * 8 + r.severity) ++ leBytes 12 stamp ++ leBytes 8 d0 ++
    leBytes 8 d1

/-- A fresh free value's number; the counter moves on. -/
def State.takeFree (s : State) : Nat × State := (s.free, { s with free := s.free + 1 })

end Sys2Proof.Machine
end

