-- ==== Sys2Proof/Machine/Desc.lean ====
section
/-! DEFINITION. Tensor descriptors (08): the 128-byte layout, the table in HBM, sharding, windows, addresses and
reachable bytes. -/

set_option autoImplicit false

namespace Sys2Proof.Machine

open Sys2Proof

/-- A descriptor's fields (R386-R388). -/
structure Desc where
  id : Nat
  rank : Nat
  etype : Nat
  cls : Nat
  scaleMode : Nat
  role : Nat
  padWrite : Bool
  gather : Bool
  alloc : Nat
  base : Nat
  bi : Nat
  statSlot : Nat
  size : List Nat
  stride : List Int
  shard : List Nat
  scaleLink : Nat
  gsize : List Nat
  padValue : Nat
  rnd : Nat
  sat : Bool
  ceil : Bool
  ovf : Bool
  indexEn : Bool
  idx : Nat
  win : List Int
  indexLink : Nat
deriving DecidableEq, Repr

/-- The field of n bytes at an offset of a layout taken as one little-endian number. -/
def byteField (v off n : Nat) : Nat := v / 2 ^ (8 * off) % 2 ^ (8 * n)

/-- The descriptor that 128 bytes spell (R386). -/
def descOf (id v : Nat) : Desc :=
  let ctrl := byteField v 0 4
  let conv := byteField v 0x6C 1
  { id := id
    rank := bitsOf ctrl 2 0
    etype := bitsOf ctrl 7 4
    cls := bitsOf ctrl 11 10
    scaleMode := bitsOf ctrl 15 14
    role := bitsOf ctrl 17 16
    padWrite := bitOf ctrl 18
    gather := bitOf ctrl 19
    alloc := byteField v 4 4
    base := byteField v 8 5
    bi := byteField v 0x0D 1 % 8
    statSlot := byteField v 0x0E 2
    size := (List.range 6).map fun d => byteField v (0x10 + 4 * d) 4
    stride := (List.range 6).map fun d => toSigned 40 (byteField v (0x28 + 5 * d) 5)
    shard := (List.range 6).map fun d => byteField v (0x46 + d) 1
    scaleLink := byteField v 0x4C 4 % 2 ^ 20
    gsize := (List.range 6).map fun d => byteField v (0x50 + 4 * d) 4
    padValue := byteField v 0x68 4
    rnd := bitsOf conv 2 0
    sat := bitOf conv 3
    ceil := bitOf conv 4
    ovf := bitOf conv 5
    indexEn := bitOf (byteField v 0x6D 1) 7
    idx := bitsOf (byteField v 0x6D 1) 2 0
    win := (List.range 6).map fun d => toSigned 16 (byteField v (0x6E + 2 * d) 2)
    indexLink := byteField v 0x7C 4 % 2 ^ 20 }

/-- Address of the descriptor table (R385, R747). -/
def descTable : Nat := 0x00BF00000000

/-- The 128 bytes of a table entry as a number. -/
def State.descRaw (s : State) (id : Nat) : Nat := s.ldNat (descTable + id * 128) 128

/-- The entry of an ID. -/
def State.desc (s : State) (id : Nat) : Desc := descOf id (s.descRaw id)

/-- The descriptor of an ID is live (R383). -/
def State.descLive (s : State) (id : Nat) : Bool := s.descs.contains id

/-- One bit of the CRC-16 of R421. -/
def crc16Bit (c : Nat) : Nat := if 0x8000 ≤ c then (c * 2 % 65536) ^^^ 0x1021 else c * 2 % 65536

/-- One byte of the CRC-16 of R421. -/
def crc16Byte (c b : Nat) : Nat :=
  crc16Bit (crc16Bit (crc16Bit (crc16Bit (crc16Bit (crc16Bit (crc16Bit (crc16Bit (c ^^^ b * 256))))))))

/-- CHECK of a descriptor's bytes (R421). -/
def descCheck (v : Nat) : Nat :=
  (((List.range 0x7A) ++ [0x7C, 0x7D, 0x7E, 0x7F]).map fun o => byteField v o 1).foldl crc16Byte 0xFFFF

/-- A fetched entry's CHECK matches (R427). -/
def State.descOk (s : State) (id : Nat) : Bool :=
  let v := s.descRaw id
  s.descLive id && byteField v 0x7A 2 == descCheck v

/-! ### Types -/

/-- Element type; FP32 for a reserved code, which no live descriptor has (R420, check 3). -/
def Desc.ty (d : Desc) : ElemType := (ElemType.ofCode d.etype).getD .fp32

/-- Elements of a packing unit (R126, R127). -/
def ElemType.perUnit : ElemType → Nat
  | .e2m1 => 2 | .int4 => 2 | .e2m3 => 4 | _ => 1

/-- Bytes of an element or packing unit. -/
def ElemType.unitBytes (t : ElemType) : Nat := t.width * t.perUnit / 8

/-- A descriptor that transfers read. -/
def Desc.reads (d : Desc) : Bool := d.cls == 0 || d.cls == 2
/-- A descriptor that transfers write. -/
def Desc.writes (d : Desc) : Bool := d.cls == 1 || d.cls == 2

/-- The dimensions of a descriptor. -/
def Desc.dims (d : Desc) : List Nat := List.range d.rank
/-- Window size along a dimension. -/
def Desc.sz (d : Desc) (x : Nat) : Nat := d.size.getD x 0
/-- Stride along a dimension. -/
def Desc.sd (d : Desc) (x : Nat) : Int := d.stride.getD x 0
/-- Window start along a dimension. -/
def Desc.ws (d : Desc) (x : Nat) : Int := d.win.getD x 0
/-- Global size along a dimension. -/
def Desc.gs (d : Desc) (x : Nat) : Nat := d.gsize.getD x 0
/-- Mesh axis of a dimension, 0 for none. -/
def Desc.axis (d : Desc) (x : Nat) : Nat := d.shard.getD x 0 % 8
/-- CYCLIC sharding. -/
def Desc.cyclic (d : Desc) (x : Nat) : Bool := bitOf (d.shard.getD x 0) 3
/-- Extent of a block along a dimension (R415). -/
def Desc.block (d : Desc) (x : Nat) : Nat := if x = 0 then 2 ^ d.bi else if x = 1 then 32 / 2 ^ d.bi else 1
/-- A window with no position. -/
def Desc.empty (d : Desc) : Bool := d.dims.any fun x => d.sz x == 0
/-- The dimension is index-gathered. -/
def Desc.indexed (d : Desc) (x : Nat) : Bool := d.indexEn && d.idx == x
/-- The dimension is read over the whole global extent (R398). -/
def Desc.gathered (d : Desc) (x : Nat) : Bool := d.gather && d.axis x != 0

/-- Rounded-up quotient. -/
def ceilDiv (a b : Nat) : Nat := (a + b - 1) / b

/-! ### Sharding (R394, R532) -/

/-- Size of mesh axis a, from 1. -/
def State.meshSize (s : State) (a : Nat) : Nat :=
  (if a % 2 = 1 then s.rd .FAB_MESH_N_EVEN ((a - 1) / 2) else s.rd .FAB_MESH_N_ODD ((a - 1) / 2)) + 1

/-- Coordinate of a job rank on mesh axis a, from 1 (R532). -/
def State.meshCoord (s : State) (r a : Nat) : Nat :=
  r / ((List.range (a - 1)).map fun b => s.meshSize (b + 1)).foldl (· * ·) 1 % s.meshSize a

/-- This module's job rank. -/
def State.rank (s : State) : Nat := s.rd .FAB_JOB_RANK_RANK

/-- Extent of dimension x on the module with coordinate c of its axis. -/
def State.extentAt (s : State) (d : Desc) (x c : Nat) : Nat :=
  let g := d.gs x
  if d.axis x = 0 then g
  else
    let n := s.meshSize (d.axis x)
    if d.cyclic x then (g + n - 1 - c) / n
    else let l := ceilDiv g n; min g ((c + 1) * l) - c * l

/-- This module's extent of dimension x. -/
def State.extent (s : State) (d : Desc) (x : Nat) : Nat := s.extentAt d x (s.meshCoord s.rank (d.axis x))

/-- Global index of a local index of dimension x on this module (R394). -/
def State.globalOf (s : State) (d : Desc) (x j : Nat) : Nat :=
  if d.axis x = 0 then j
  else
    let n := s.meshSize (d.axis x)
    let c := s.meshCoord s.rank (d.axis x)
    if d.cyclic x then c + j * n else c * ceilDiv (d.gs x) n + j

/-- Coordinate that owns a global index, and its local index there. -/
def State.ownerOf (s : State) (d : Desc) (x j : Nat) : Nat × Nat :=
  let n := s.meshSize (d.axis x)
  if d.cyclic x then (j % n, j / n) else let l := ceilDiv (d.gs x) n; (j / l, j % l)

/-! ### Positions and addresses (R396-R398) -/

/-- All window positions, dimension 0 fastest. -/
def positions : List Nat → List (List Nat)
  | [] => [[]]
  | n :: r => (positions r).flatMap fun p => (List.range n).map fun i => i :: p

/-- The window positions of a descriptor. -/
def Desc.window (d : Desc) : List (List Nat) := positions (d.size.take d.rank)

/-- Local index of a window position along a dimension, before any index gather. -/
def Desc.local (d : Desc) (i : List Nat) (x : Nat) : Int := d.ws x + (i.getD x 0 : Nat)

/-- Extent against which validity is judged: the global size under GATHER. -/
def State.validExtent (s : State) (d : Desc) (x : Nat) : Nat := if d.gathered x then d.gs x else s.extent d x

/-- A local position is valid (R396, R398). -/
def State.validPos (s : State) (d : Desc) (j : List Int) : Bool :=
  d.dims.all fun x => decide (0 ≤ j.getD x 0 ∧ j.getD x 0 < (s.validExtent d x : Nat))

/-- Byte offset of a local position from the address of position 0 (R397). -/
def Desc.offset (d : Desc) (j : List Int) : Int :=
  (d.dims.map fun x =>
    let v := j.getD x 0
    (if x = 0 then v / (d.ty.perUnit : Nat) else v) * d.sd x).foldl (· + ·) 0

/-- Place of a local position within its packing unit. -/
def Desc.place (d : Desc) (j : List Int) : Nat := (j.getD 0 0 % (d.ty.perUnit : Nat)).toNat

/-- A live allocation. -/
def State.allocOf (s : State) (h : Nat) : Option Alloc := s.allocs.find? fun a => a.handle == h

/-- Start of the page that a descriptor addresses (R581); the start of an allocation that is not paged. -/
def State.pageBase (s : State) (a : Alloc) (write : Bool) : Nat :=
  if a.paged then
    let cur := s.rd .STEP_STATUS_CUR_PAGE
    a.base + (if write then 1 - cur else cur) * (a.size / 2)
  else a.base

/-- Byte size against which a descriptor is judged (R581). -/
def Alloc.span (a : Alloc) : Nat := if a.paged then a.size / 2 else a.size

/-- Address of local position (0, …, 0). -/
def State.descBase (s : State) (d : Desc) : Nat :=
  match s.allocOf d.alloc with
  | some a => s.pageBase a (d.cls == 1) + d.base
  | none => 0

/-- Address of a local position. -/
def State.addrOf (s : State) (d : Desc) (j : List Int) : Nat := ((s.descBase d : Nat) + d.offset j).toNat

/-- Row-major global index of a valid position (R395, R139). -/
def State.globalIndex (s : State) (d : Desc) (j : List Int) : Nat :=
  (d.dims.foldr (fun x (acc : Nat) =>
    acc * d.gs x + (if d.gathered x then (j.getD x 0).toNat else s.globalOf d x (j.getD x 0).toNat)) 0)

/-! ### Reachable bytes (R404) -/

/-- Local indices of the valid box along a dimension, when any. -/
def State.validRange (s : State) (d : Desc) (x : Nat) : Option (Int × Int) :=
  if d.gathered x then
    let e := s.extentAt d x 0
    if e = 0 ∨ d.sz x = 0 then none else some (0, (e : Int) - 1)
  else
    let lo := max (d.ws x) 0
    let hi := min (d.ws x + (d.sz x : Nat)) (s.extent d x : Nat) - 1
    if lo ≤ hi then some (lo, hi) else none

/-- Local indices that a descriptor can touch along a dimension, when any (R404). -/
def State.touchRange (s : State) (d : Desc) (x : Nat) : Option (Int × Int) :=
  if d.sz x = 0 then none
  else if d.indexed x then
    let e := s.extent d x
    if e = 0 then none else some (0, (e : Int) - 1)
  else if d.padWrite then some (d.ws x, d.ws x + (d.sz x : Nat) - 1)
  else s.validRange d x

/-- The bytes a dimension's indices add to the lowest and the highest address. -/
def Desc.dimSpan (d : Desc) (x : Nat) (r : Int × Int) : Int × Int :=
  let k : Int := if x = 0 then (d.ty.perUnit : Nat) else 1
  let a := r.1 / k * d.sd x
  let b := r.2 / k * d.sd x
  (min a b, max a b)

/-- Offsets of the first and last reachable byte from position (0, …, 0); `none` when nothing is touched (R404). -/
def State.reach (s : State) (d : Desc) : Option (Int × Int) :=
  d.dims.foldl (fun (acc : Option (Int × Int)) x =>
    match acc, s.touchRange d x with
    | some (lo, hi), some r => let (a, b) := d.dimSpan x r; some (lo + a, hi + b)
    | _, _ => none) (some (0, (d.ty.unitBytes : Nat) - 1))

/-- Reachable bytes as addresses. -/
def State.reachAddr (s : State) (d : Desc) : Option (Nat × Nat) :=
  (s.reach d).map fun (r : Int × Int) => ((Int.ofNat (s.descBase d) + r.1).toNat, (Int.ofNat (s.descBase d) + r.2).toNat)

end Sys2Proof.Machine
end

