-- ==== Sys2Proof/Machine/DescCheck.lean ====
section
/-! DEFINITION. The checks of DESC_CREATE in their order (R420), and the pair rules of transfers (R422-R424). -/

set_option autoImplicit false

namespace Sys2Proof.Machine

open Sys2Proof

/-- A failed check: error, offset of the failing field, dimension (7 for none). -/
abbrev DescFail := Err × Nat × Nat

/-- A failure when a condition does not hold. -/
def descFailIf (c : Bool) (e : Err) (off : Nat) (dim : Nat := 7) : Option DescFail := if c then some (e, off, dim) else none

/-- The first failure of a list of checks. -/
def firstDescFail : List (Option DescFail) → Option DescFail
  | [] => none
  | some f :: _ => some f
  | none :: r => firstDescFail r

/-- The first dimension of a list that a test fails, as a failure at a field array (base offset and spacing). -/
def failDim (l : List Nat) (bad : Nat → Bool) (e : Err) (off step : Nat) : Option DescFail :=
  (l.find? bad).map fun x => (e, off + step * x, x)

/-- Check 2 (R389): format and reserved bits. -/
def checkFormat (d : Desc) (v : Nat) : Option DescFail :=
  let ctrl := byteField v 0 4
  let up := (List.range 6).filter fun x => decide (d.rank ≤ x)
  let e := Err.ERR_DESC_FORMAT
  firstDescFail [
    descFailIf (decide (d.rank < 1 ∨ 6 < d.rank)) e 0,
    descFailIf (decide (bitsOf ctrl 31 20 ≠ 0 ∨ bitsOf ctrl 13 12 ≠ 0 ∨ bitsOf ctrl 9 8 ≠ 0 ∨ bitsOf ctrl 3 3 ≠ 0)) e 0,
    descFailIf (decide (bitsOf (byteField v 0x0D 1) 7 3 ≠ 0)) e 0x0D,
    failDim (List.range 6) (fun x => decide (bitsOf (d.shard.getD x 0) 7 4 ≠ 0)) e 0x46 1,
    descFailIf (decide (byteField v 0x4C 4 / 2 ^ 20 ≠ 0)) e 0x4C,
    descFailIf (decide (bitsOf (byteField v 0x6C 1) 7 6 ≠ 0)) e 0x6C,
    descFailIf (decide (bitsOf (byteField v 0x6D 1) 6 3 ≠ 0)) e 0x6D,
    descFailIf (decide (byteField v 0x7C 4 / 2 ^ 20 ≠ 0)) e 0x7C,
    descFailIf (decide (byteField v 0x7A 2 ≠ 0)) e 0x7A,
    failDim up (fun x => d.sz x != 0) e 0x10 4,
    failDim up (fun x => d.sd x != 0) e 0x28 5,
    failDim up (fun x => d.shard.getD x 0 != 0) e 0x46 1,
    failDim up (fun x => d.gs x != 0) e 0x50 4,
    failDim up (fun x => d.ws x != 0) e 0x6E 2,
    descFailIf (decide (d.scaleMode ≠ 2 ∧ byteField v 0x0D 1 ≠ 0)) e 0x0D,
    failDim (List.range 6) (fun x => d.axis x == 0 && d.cyclic x) e 0x46 1,
    descFailIf (decide (d.scaleMode = 0 ∧ d.scaleLink ≠ 0)) e 0x4C,
    descFailIf (!d.indexEn && decide (d.idx ≠ 0)) e 0x6D,
    descFailIf (!d.indexEn && decide (d.indexLink ≠ 0)) e 0x7C]

/-- Check 3 (R390): reserved codes; what a READ descriptor may hold. -/
def checkCode (d : Desc) (v : Nat) : Option DescFail :=
  let e := Err.ERR_DESC_CODE
  let narrow := match ElemType.ofCode d.etype with | some t => t.narrow | none => false
  firstDescFail [
    descFailIf (ElemType.ofCode d.etype).isNone e 0,
    descFailIf (decide (d.cls = 3)) e 0,
    descFailIf (decide (d.scaleMode = 3)) e 0,
    descFailIf (decide (d.role = 3)) e 0,
    descFailIf (Rnd.ofCode d.rnd).isNone e 0x6C,
    descFailIf (decide (5 < d.bi)) e 0x0D,
    failDim (List.range 6) (fun x => d.axis x == 7) e 0x46 1,
    descFailIf (decide (d.cls = 0 ∧ byteField v 0x6C 1 ≠ 0)) e 0x6C,
    descFailIf (decide (d.cls = 0 ∧ d.statSlot ≠ 0xFFFF)) e 0x0E,
    descFailIf (decide (d.cls = 0) && d.padWrite) e 0,
    descFailIf (!narrow && decide (d.statSlot ≠ 0xFFFF)) e 0x0E]

/-- Check 5: mesh axes and global sizes. -/
def State.checkShard (s : State) (d : Desc) : Option DescFail :=
  let e := Err.ERR_DESC_SHARD
  firstDescFail [
    failDim d.dims (fun x => d.axis x != 0 && s.rd .FAB_JOB_SIZE_SIZE == 0) e 0x46 1,
    failDim d.dims (fun x => d.axis x != 0 && d.dims.any fun y => decide (y < x) && d.axis y == d.axis x) e 0x46 1,
    failDim d.dims (fun x =>
      decide (d.gs x < (if d.axis x = 0 ∧ !d.indexed x then d.sz x else 1))) e 0x50 4,
    descFailIf (decide (2 ^ 48 ≤ (d.dims.map d.gs).foldl (· * ·) 1)) e 0x50]

/-- Check 6: shard gathers (R398) and the window start of packed types (R408). -/
def State.checkWindow (s : State) (d : Desc) : Option DescFail :=
  let e := Err.ERR_DESC_WINDOW
  let sym := match s.allocOf d.alloc with | some a => a.symmetric | none => false
  firstDescFail [
    failDim d.dims (fun x => d.gathered x && d.ws x != 0) e 0x6E 2,
    failDim d.dims (fun x => d.gathered x && d.sz x != d.gs x) e 0x10 4,
    descFailIf (d.gather && decide (d.cls ≠ 0)) e 0,
    descFailIf (d.gather && !sym) e 4,
    descFailIf (decide (d.ws 0 % (d.ty.perUnit : Nat) ≠ 0)) e 0x6E 0]

/-- Access width of an allocation kind (R391). -/
def accessWidth (kind : Nat) : Nat := if kind = 2 ∨ kind = 3 then 32 else 64

/-- A stride is admitted in a dimension (R399). -/
def strideOk (d : Desc) (w x : Nat) : Bool :=
  let st := d.sd x
  if x = 0 ∧ 1 < d.ty.perUnit then decide (st = (d.ty.unitBytes : Nat))
  else decide (st % (w : Int) = 0) || (x == 0 && decide (st.natAbs = d.ty.unitBytes))

/-- The stride of a dimension of SIZE 1 is admitted (R400). -/
def singleOk (d : Desc) (w x : Nat) : Bool :=
  let k : Int := if x = 0 then (d.ty.perUnit : Nat) else 1
  let term := d.ws x / k * d.sd x
  decide (term % (w : Int) = 0) || (x == 0 && decide (term % (d.ty.unitBytes : Int) = 0))

/-- Check 7 (R399, R400). -/
def State.checkAlign (s : State) (d : Desc) (a : Alloc) : Option DescFail :=
  let e := Err.ERR_DESC_ALIGN
  let w := accessWidth a.kind
  firstDescFail [
    descFailIf (decide ((a.base + d.base) % w ≠ 0)) e 8,
    failDim d.dims (fun x =>
      (decide (2 ≤ d.sz x) || (d.indexed x && decide (2 ≤ s.extent d x))) && !strideOk d w x) e 0x28 5,
    failDim d.dims (fun x => d.sz x == 1 && !d.indexed x && (s.reach d).isSome && !singleOk d w x) e 0x28 5]

/-- Check 8 (R404). -/
def State.checkBounds (s : State) (d : Desc) (a : Alloc) : Option DescFail :=
  match s.reach d with
  | none => none
  | some (lo, hi) => descFailIf (decide ((d.base : Int) + lo < 0 ∨ (a.span : Int) ≤ (d.base : Int) + hi)) .ERR_DESC_BOUNDS 8

/-- Number of write positions along a dimension, packing units in dimension 0 (R405). -/
def State.writeCount (s : State) (d : Desc) (x : Nat) : Nat :=
  let n : Nat := if d.padWrite then d.sz x else match s.validRange d x with | some (a, b) => (b - a + 1).toNat | none => 0
  let k := d.ty.perUnit
  if x = 0 ∧ 1 < k ∧ n ≠ 0 then
    let st : Int := if d.padWrite then d.ws 0 else max (d.ws 0) 0
    (((st + (n : Int) + ((k : Int) - 1)) / (k : Int)) - st / (k : Int)).toNat
  else n

/-- Insertion by stride magnitude, then dimension. -/
def insertDim (d : Desc) (x : Nat) : List Nat → List Nat
  | [] => [x]
  | y :: r => if (d.sd x).natAbs < (d.sd y).natAbs ∨ ((d.sd x).natAbs = (d.sd y).natAbs ∧ x < y) then x :: y :: r
    else y :: insertDim d x r

/-- The injectivity test (R405). -/
def State.injective (s : State) (d : Desc) : Bool :=
  if d.dims.any fun x => s.writeCount d x == 0 then true
  else
    let l := (d.dims.filter fun x => decide (2 ≤ s.writeCount d x)).foldr (insertDim d) []
    (l.foldl (fun (acc : Bool × Nat) x =>
      let st := (d.sd x).natAbs
      (acc.1 && decide (acc.2 ≤ st), acc.2 + st * (s.writeCount d x - 1))) (true, d.ty.unitBytes)).1

/-- Last local index plus 1 of the range written along a dimension (R408, R416). -/
def State.writeEnd (s : State) (d : Desc) (x : Nat) : Int :=
  if d.padWrite then d.ws x + (d.sz x : Nat)
  else match s.validRange d x with | some (_, b) => b + 1 | none => 0

/-- A written range ends at a multiple of k or at the extent. -/
def State.endsWhole (s : State) (d : Desc) (x k : Nat) : Bool :=
  decide (s.writeEnd d x % (k : Int) = 0 ∨ s.writeEnd d x = (s.extent d x : Nat))

/-- Check 12 (R413-R415). -/
def State.checkScale (s : State) (d : Desc) : Option DescFail :=
  let e := Err.ERR_DESC_SCALE
  let t := d.ty
  let c := s.desc d.scaleLink
  if d.scaleMode = 0 then none
  else if d.scaleMode = 1 then
    firstDescFail [
      descFailIf (!(t.narrow)) e 0,
      descFailIf (!s.descLive d.scaleLink) e 0x4C,
      descFailIf (!(decide (c.ty = .e8m0 ∧ c.rank = 1 ∧ c.sz 0 = 1 ∧ c.gs 0 = 1 ∧ c.axis 0 = 0) && !c.gather && !c.padWrite))
        e 0x4C]
  else
    firstDescFail [
      descFailIf (!t.micro) e 0,
      descFailIf (decide (1 < 32 / 2 ^ d.bi ∧ d.rank < 2)) e 0x0D,
      descFailIf (!s.descLive d.scaleLink) e 0x4C,
      descFailIf (!(decide (c.ty = .e8m0 ∧ c.scaleMode = 0 ∧ c.role = 0 ∧ c.gather = d.gather) && !c.padWrite)) e 0x4C,
      descFailIf (decide (c.rank ≠ d.rank)) e 0x4C,
      failDim d.dims (fun x => decide (c.shard.getD x 0 ≠ d.shard.getD x 0 ∨ c.gs x ≠ ceilDiv (d.gs x) (d.block x) ∨
        c.ws x ≠ d.ws x / (d.block x : Int) ∨
        ((c.sz x : Nat) : Int) ≠ (d.ws x + (d.sz x : Nat) + ((d.block x : Int) - 1)) / (d.block x : Int) -
          d.ws x / (d.block x : Int))) e 0x4C 0,
      descFailIf (decide (2 ≤ c.sz 0 ∧ c.sd 0 ≠ 1)) e 0x4C,
      descFailIf (!(if d.cls = 0 then c.reads else c.writes)) e 0x4C]

/-- Check 13 (R416, R417). -/
def State.checkBlock (s : State) (d : Desc) : Option DescFail :=
  let e := Err.ERR_DESC_BLOCK
  let micro := d.scaleMode == 2
  let big := d.dims.filter fun x => micro && decide (1 < d.block x)
  firstDescFail [
    failDim big (fun x => decide (d.ws x % (d.block x : Int) ≠ 0)) e 0x6E 2,
    failDim big (fun x => d.axis x != 0 && !d.cyclic x && decide (s.meshSize (d.axis x) ≠ 1) &&
      decide (ceilDiv (d.gs x) (s.meshSize (d.axis x)) % d.block x ≠ 0)) e 0x46 1,
    failDim big (fun x => d.axis x != 0 && d.cyclic x && decide (s.meshSize (d.axis x) ≠ 1)) e 0x46 1,
    failDim big (fun x => d.writes && !s.endsWhole d x (d.block x)) e 0x10 4,
    descFailIf (decide ((d.role = 1 ∨ d.role = 2) ∧ d.rank < 2)) e 0,
    descFailIf (micro && decide (d.role = 1 ∧ d.bi ≠ 5)) e 0x0D,
    descFailIf (micro && decide (d.role = 2 ∧ d.bi ≠ 0)) e 0x0D]

/-- Check 14 (R418). -/
def State.checkIndex (s : State) (d : Desc) : Option DescFail :=
  let e := Err.ERR_DESC_INDEX
  let c := s.desc d.indexLink
  if !d.indexEn then none
  else
    firstDescFail [
      descFailIf (decide (d.idx < 1 ∨ d.rank ≤ d.idx)) e 0x6D,
      descFailIf (decide (d.cls ≠ 0)) e 0,
      descFailIf d.gather e 0,
      descFailIf (decide (d.axis d.idx ≠ 0)) e (0x46 + d.idx) d.idx,
      descFailIf (decide (d.ws d.idx ≠ 0)) e (0x6E + 2 * d.idx) d.idx,
      descFailIf (!(s.descLive d.indexLink && decide (c.ty = .int32 ∧ c.rank = 1) && c.reads)) e 0x7C,
      descFailIf (decide (c.sz 0 ≠ d.sz d.idx) || c.indexEn || c.gather) e 0x7C]

/-- The checks of R420 on an ID and 128 bytes, in order, and that of R582 after them; the first that fails. -/
def State.descValidate (s : State) (id v : Nat) : Option DescFail :=
  let d := descOf id v
  let live := d.dims.all fun x => d.sz x != 0
  match firstDescFail [descFailIf (decide (id < 1 ∨ 0xFFFFF < id) || s.descLive id) .ERR_DESC_ID 0, checkFormat d v,
      checkCode d v] with
  | some f => some f
  | none =>
    match s.allocOf d.alloc with
    | none => some (.ERR_DESC_ALLOC, 4, 7)
    | some a =>
      firstDescFail [s.checkShard d, s.checkWindow d, s.checkAlign d a, s.checkBounds d a,
        if d.writes && live then failDim d.dims (fun x => decide (2 ≤ d.sz x ∧ d.sd x = 0)) .ERR_DESC_ZERO_STRIDE 0x28 5
        else none,
        descFailIf (d.writes && !s.injective d) .ERR_DESC_INJECTIVE 0x28,
        descFailIf (d.writes && decide (1 < d.ty.perUnit) && !s.endsWhole d 0 d.ty.perUnit) .ERR_DESC_PARTIAL 0x10 0,
        s.checkScale d, s.checkBlock d, s.checkIndex d,
        descFailIf (a.paged && decide (d.cls = 2)) .ERR_PAGED_CLASS 0]

/-! ### Pairs (R422-R425) -/

/-- PERM of a transfer record (R454). -/
def permOf (w0 d : Nat) : Nat := bitsOf w0 (40 + 3 * d + 2) (40 + 3 * d)

/-- PERM is a permutation that maps each dimension at or above a rank to itself (R422). -/
def permOk (w0 rank : Nat) : Bool :=
  let l := (List.range 6).map (permOf w0)
  ((List.range 6).all fun d => l.contains d) && (List.range 6).all fun d => decide (d < rank) || permOf w0 d == d

/-- PERM is the identity. -/
def permId (w0 : Nat) : Bool := (List.range 6).all fun d => permOf w0 d == d

/-- Conversion between the types of a pair is admitted (R148, R122, R423, R424): bit copies always. -/
def pairTypes (a d : Desc) (w0 : Nat) : Bool :=
  if a.scaleMode = 2 ∧ d.scaleMode = 2 then
    a.etype == d.etype && a.bi == d.bi && (decide (d.bi = 0) || permOf w0 0 == 0) &&
      (decide (d.bi = 5 ∨ d.rank < 2) || permOf w0 1 == 1)
  else if a.scaleMode = 2 then !d.ty.narrow && d.scaleMode == 0 && d.ty != .e8m0
  else if a.etype = d.etype ∧ a.scaleMode = 0 ∧ d.scaleMode = 0 then true
  else a.ty != .e8m0 && d.ty != .e8m0

/-- The pair rules of a transfer record (R422-R424, R461, R462). -/
def State.pairOk (s : State) (w0 : Nat) : Bool :=
  let mode := bitsOf w0 61 58
  let a := s.desc (bitsOf w0 19 0)
  let d := s.desc (bitsOf w0 39 20)
  let tileCache := match s.allocOf d.alloc with | some al => al.kind == 3 | none => false
  a.reads && permOk w0 a.rank &&
    match mode with
    | 0 => d.writes && a.rank == d.rank && (d.dims.all fun x => d.sz x == a.sz (permOf w0 x)) && pairTypes a d w0
    | 1 => d.writes && d.rank == 1 && tileCache && a.role == 1
    | 2 => d.writes && d.rank == 1 && tileCache && a.role == 2
    | _ => true

end Sys2Proof.Machine
end

