-- ==== Sys2Proof/Machine/Encoding.lean ====
section
/-! DEFINITION. The layouts of the four slots of a bundle and the checks that a bundle passes before it issues
(R299-R308, R319, R328, R331, R336, R348 checks 1 to 7). -/

set_option autoImplicit false

namespace Sys2Proof.Machine

open Sys2Proof

/-- A field of a slot: its highest and lowest bit. -/
abbrev BitRange := Nat × Nat

/-- The value of a field in a slot's word. -/
def fieldOf (v : Nat) (f : BitRange) : Nat := bitsOf v f.1 f.2

/-- The four slots' words of a bundle (R299). -/
structure BundleWord where
  a : Nat
  f : Nat
  m : Nat
  c : Nat
deriving DecidableEq, Repr

/-- A bundle's 128 bits divided into slots (R299). -/
def bundleOf (w : Nat) : BundleWord := ⟨bitsOf w 127 86, bitsOf w 85 62, bitsOf w 61 32, bitsOf w 31 0⟩

/-- The 128 bits of four slots. -/
def BundleWord.bits (b : BundleWord) : Nat := b.a * 2 ^ 86 + b.f * 2 ^ 62 + b.m * 2 ^ 32 + b.c

/-- Element-type classes of the A slot (R309). -/
inductive TyClass where
  | any | f | d | i | x
deriving DecidableEq, Repr

/-- A-slot instruction classes by the fields they give a meaning (R305, R309, R316-R318). -/
structure AInfo where
  types : TyClass
  used : List BitRange
deriving DecidableEq, Repr

def fTY : BitRange := (35, 32)
def fTD : BitRange := (31, 27)
def fTA : BitRange := (26, 22)
def fTB : BitRange := (21, 17)
def fBS : BitRange := (16, 15)
def fTC : BitRange := (14, 10)
def fPR : BitRange := (9, 7)
def fMM : BitRange := (6, 6)
def fRND : BitRange := (5, 3)
def fOVF : BitRange := (2, 2)

/-- The A-slot opcodes (R309), each with its types and used fields; `none` for a reserved opcode. -/
def aInfo : Nat → Option AInfo
  | 0x00 => some ⟨.any, []⟩
  | 0x01 | 0x02 | 0x03 => some ⟨.f, [fTY, fTD, fTA, fTB, fBS, fPR, fMM, fRND]⟩
  | 0x04 | 0x05 => some ⟨.f, [fTY, fTD, fTA, fTB, fBS, fTC, fPR, fMM, fRND]⟩
  | 0x06 | 0x07 | 0x0A => some ⟨.f, [fTY, fTD, fTA, fTB, fBS, fPR, fMM]⟩
  | 0x08 | 0x09 => some ⟨.f, [fTY, fTD, fTA, fPR, fMM]⟩
  | 0x0B | 0x0C => some ⟨.d, [fTY, fTD, fTA, fPR, fMM]⟩
  | 0x0D => some ⟨.f, [fTY, fTD, fTA, fPR, fMM, fRND]⟩
  | 0x0E => some ⟨.f, [fTY, fTD, fTA, fTB, fBS, fPR, fMM, fRND]⟩
  | 0x0F => some ⟨.d, [fTY, fTD, fTA, fTB, fBS, fTC, fPR, fMM, fRND]⟩
  | 0x10 => some ⟨.d, [fTY, fTD, fTA, fTB, fBS, fPR, fMM, fRND]⟩
  | 0x11 => some ⟨.x, [fTY, fTD, fTA, fPR, fMM]⟩
  | 0x12 => some ⟨.x, [fTY, fTD, fTA, fTB, fBS, fPR]⟩
  | 0x18 | 0x19 | 0x1A => some ⟨.i, [fTY, fTD, fTA, fTB, fBS, fPR, fMM, fOVF]⟩
  | 0x1B | 0x1C | 0x1D | 0x1E | 0x1F | 0x20 | 0x21 | 0x22 => some ⟨.i, [fTY, fTD, fTA, fTB, fBS, fPR, fMM]⟩
  | 0x28 | 0x29 | 0x2A | 0x2B => some ⟨.f, [fTY, fTD, fTA, fTB, fBS, fPR, fMM]⟩
  | 0x2C | 0x2D => some ⟨.i, [fTY, fTD, fTA, fTB, fBS, fPR, fMM]⟩
  | 0x30 | 0x31 => some ⟨.x, [fTY, fTD, fTA, fPR]⟩
  | 0x32 => some ⟨.x, [fTY, fTD, fTA, fTC, fPR, fMM]⟩
  | 0x34 | 0x35 => some ⟨.f, [fTY, fTA, fBS, fPR]⟩
  | 0x36 => some ⟨.f, [fTY, fTA, fTB, fBS, fPR]⟩
  | 0x37 => some ⟨.d, [fTY, fTD, fBS, fTC, fPR, fMM, fRND]⟩
  | 0x38 => some ⟨.any, [fBS]⟩
  | 0x3C => some ⟨.any, []⟩
  | _ => none

/-- Opcodes whose bits 16:15 are BS and not WD. -/
def aHasBS (op : Nat) : Bool := decide (op < 0x30)

/-- The fields of the common A-slot layout below OP, from the lowest (R308). -/
def aFields : List BitRange := [(1, 0), fOVF, fRND, fMM, fPR, fTC, fBS, fTB, fTA, fTD, fTY]

/-- Fields of a CVT word that its other fields give no meaning, from the lowest: OVF but into an integer format (R124), SAT but
into a format that R136 names, TS without block scales, SRULE but where a scale is chosen (R325), SN but where a draw or the
statistics take it (R319, R323, R324). -/
def cvtUnused (v : Nat) : List BitRange :=
  match ElemType.ofCode (bitsOf v 21 18) with
  | none => if bitOf v 12 then [] else [(10, 6), (11, 11)]
  | some d =>
    (if d.isInt then [] else [(1, 1)]) ++
      (if d = .bf16 ∨ d = .fp16 ∨ d = .e4m3 ∨ d = .e5m2 then [] else [(2, 2)]) ++
      (if bitOf v 12 then [] else [(10, 6)]) ++ (if bitOf v 12 && d.narrow then [] else [(11, 11)]) ++
      (if d.narrow ∨ fieldOf v fRND = 4 then [] else [(17, 13)])

/-- Fields of an A-slot word that its opcode gives no meaning, from the lowest (R301). -/
def aUnused (v : Nat) : List BitRange :=
  let op := bitsOf v 41 36
  if op = 0x3C then cvtUnused v
  else match aInfo op with
    | some i => aFields.filter fun f => !(i.used.contains f)
    | none => []

/-- Unused fields of an F-slot word (R328). -/
def fUnused (v : Nat) : List BitRange :=
  match bitsOf v 23 19 with
  | 0 => [(0, 0), (3, 1), (8, 4), (13, 9), (18, 14)]
  | 1 => [(0, 0), (3, 1)]
  | 2 => []
  | 3 => [(0, 0), (13, 9)]
  | 4 => [(0, 0), (18, 14)]
  | _ => []

/-- Unused fields of an M-slot word (R331). -/
def mUnused (v : Nat) : List BitRange :=
  match bitsOf v 29 26 with
  | 0 => [(5, 0), (6, 6), (11, 7), (16, 12), (20, 17), (25, 21)]
  | 1 | 2 => [(5, 0)]
  | 3 => [(5, 0), (6, 6), (11, 7), (16, 12), (17, 17)]
  | 4 => [(5, 0), (6, 6), (11, 7), (16, 12), (18, 17)]
  | 5 => [(5, 0), (6, 6), (11, 7), (16, 12), (18, 17), (25, 21)]
  | 6 | 7 => [(5, 0), (11, 7), (16, 12)]
  | _ => []

/-- Unused fields of a CAL.DRAIN by FMT and RND, from the lowest (R197, R213-R215): PX serves EXPADJ and the draw's index, TAG the
draw, DST a WIDE drain, OVF an INT32 one, SAT BF16 and FP16, RND every rounding. -/
def drainUnused (fmt rnd : Nat) : List BitRange :=
  let rounds := decide (fmt ≠ 4 ∧ fmt ≠ 5)
  [(2, 0)] ++ (if rounds then [] else [(7, 3)]) ++ (if rounds && decide (rnd = 4) then [] else [(12, 8)]) ++
    (if fmt = 5 then [] else [(16, 13)]) ++ (if fmt = 4 then [] else [(17, 17)]) ++
    (if fmt = 1 ∨ fmt = 2 then [] else [(18, 18)]) ++ (if rounds then [] else [(21, 19)])

/-- Unused fields of a C-slot word (R301, R336, R338-R342). -/
def cUnused (v : Nat) : List BitRange :=
  match bitsOf v 31 27 with
  | 0x00 | 0x01 => [(26, 0)]
  | 0x02 => [(19, 18)] ++ (if bitsOf v 26 25 = 0 then [(24, 20)] else [])
  | 0x03 =>
    let sop := bitsOf v 26 22
    [(5, 0)] ++ (if sop < 3 then [] else [(6, 6)]) ++ (if sop = 14 then [(11, 7)] else [])
  | 0x04 => []
  | 0x05 =>
    let pop := bitsOf v 26 24
    if pop = 5 then [(9, 0), (17, 15), (20, 18)]
    else if pop = 4 then [(9, 0), (14, 10), (17, 15)]
    else [(9, 0), (14, 10)]
  | 0x06 => [(20, 0)]
  | 0x07 => [(12, 0)]
  | 0x08 => [(21, 0)]
  | 0x09 => [(26, 9)]
  | 0x10 => [(2, 0)] ++ (if bitOf v 16 then [] else [(11, 8)])
  | 0x11 => if bitOf v 13 then [] else [(8, 5)]
  | 0x12 =>
    let fmt := bitsOf v 24 22
    [(12, 0)] ++ (if fmt = 3 ∨ fmt = 5 then [] else [(16, 13)]) ++ (if fmt = 0 ∨ fmt = 4 then [] else [(21, 17)])
  | 0x13 => drainUnused (bitsOf v 24 22) (bitsOf v 21 19)
  | 0x14 => [(4, 0)]
  | _ => []

/-- A failed check: the error, the slot (0 A, 1 F, 2 M, 3 C) and the lowest bit of the offending field (R349). -/
structure BundleFail where
  err : Err
  slot : Nat
  bit : Nat
deriving DecidableEq, Repr

/-- A fail when the condition holds. -/
def failIf (c : Bool) (e : Err) (slot bit : Nat) : Option BundleFail := if c then some ⟨e, slot, bit⟩ else none

/-- The first failure of a list of checks. -/
def firstFail : List (Option BundleFail) → Option BundleFail
  | [] => none
  | some f :: _ => some f
  | none :: r => firstFail r

/-- The lowest unused field that is not zero (check 2 of R348). -/
def unusedFail (v slot : Nat) (fs : List BitRange) : Option BundleFail :=
  firstFail (fs.map fun f => failIf (decide (fieldOf v f ≠ 0)) .ERR_VE_FIELD slot f.2)

/-- C-slot opcodes that are defined (R336). -/
def cOpDefined (op : Nat) : Bool := decide (op ≤ 0x09) || (decide (0x10 ≤ op) && decide (op ≤ 0x14))

/-- Check 1: every opcode, SOP, IOP, POP, FN and BS value is defined (R348). -/
def check1 (b : BundleWord) : Option BundleFail :=
  let aop := bitsOf b.a 41 36
  let usesBS := match aInfo aop with | some i => i.used.contains fBS && aHasBS aop | none => false
  firstFail [
    failIf (aInfo aop).isNone .ERR_VE_OPCODE 0 36,
    failIf (usesBS && decide (fieldOf b.a fBS = 3)) .ERR_VE_OPCODE 0 15,
    failIf (decide (4 < bitsOf b.f 23 19)) .ERR_VE_OPCODE 1 19,
    failIf (decide (bitsOf b.f 23 19 = 1 ∧ 8 < bitsOf b.f 8 4)) .ERR_VE_OPCODE 1 4,
    failIf (decide (7 < bitsOf b.m 29 26)) .ERR_VE_OPCODE 2 26,
    failIf (!cOpDefined (bitsOf b.c 31 27)) .ERR_VE_OPCODE 3 27,
    failIf (decide (bitsOf b.c 31 27 = 3 ∧ 16 ≤ bitsOf b.c 26 22)) .ERR_VE_OPCODE 3 22,
    failIf (decide (bitsOf b.c 31 27 = 5 ∧ 6 ≤ bitsOf b.c 26 24)) .ERR_VE_OPCODE 3 24]

/-- An A-slot word other than CVT that uses RND. -/
def aUsesRnd (v : Nat) : Bool :=
  match aInfo (bitsOf v 41 36) with | some i => i.used.contains fRND | none => false

/-- Check 2: reserved and unused fields are 0; R306, R340 and TMO of R344 (R348). -/
def check2 (b : BundleWord) : Option BundleFail :=
  let cop := bitsOf b.c 31 27
  firstFail [
    unusedFail b.a 0 (aUnused b.a),
    failIf (aUsesRnd b.a && decide (fieldOf b.a fRND = 4)) .ERR_VE_FIELD 0 3,
    unusedFail b.f 1 (fUnused b.f),
    unusedFail b.m 2 (mUnused b.m),
    unusedFail b.c 3 (cUnused b.c),
    failIf (decide (cop = 4 ∧ bitsOf b.c 26 25 = 2 ∧ bitsOf b.c 19 16 ≠ 0)) .ERR_VE_FIELD 3 16,
    failIf (decide (cop = 4 ∧ bitsOf b.c 26 25 = 3 ∧ bitsOf b.c 19 4 ≠ 0)) .ERR_VE_FIELD 3 4,
    failIf (decide (cop = 7 ∧ bitsOf b.c 20 13 = 0)) .ERR_VE_FIELD 3 13]

/-- The type code is one that R113 reserves. -/
def tyReserved (c : Nat) : Bool := (ElemType.ofCode c).isNone

/-- An A-slot word uses TY. -/
def aUsesTy (v : Nat) : Bool :=
  match aInfo (bitsOf v 41 36) with | some i => i.used.contains fTY | none => false

/-- Check 3: element-type and rounding codes are not reserved (R348). -/
def check3 (b : BundleWord) : Option BundleFail :=
  let cvt := decide (bitsOf b.a 41 36 = 0x3C)
  let cop := bitsOf b.c 31 27
  firstFail [
    failIf (aUsesTy b.a && tyReserved (fieldOf b.a fTY)) .ERR_TYPE_RESERVED 0 32,
    failIf (cvt && tyReserved (bitsOf b.a 35 32)) .ERR_TYPE_RESERVED 0 32,
    failIf (cvt && tyReserved (bitsOf b.a 21 18)) .ERR_TYPE_RESERVED 0 18,
    failIf ((cvt || aUsesRnd b.a) && decide (4 < fieldOf b.a fRND)) .ERR_RND_RESERVED 0 3,
    failIf (decide (cop = 0x10) && tyReserved (bitsOf b.c 25 22)) .ERR_TYPE_RESERVED 3 22,
    failIf (decide (cop = 0x11) && tyReserved (bitsOf b.c 23 20)) .ERR_TYPE_RESERVED 3 20,
    failIf (decide (cop = 0x13 ∧ 4 < bitsOf b.c 21 19)) .ERR_RND_RESERVED 3 19,
    failIf (decide (cop = 0x14) && tyReserved (bitsOf b.c 19 16)) .ERR_TYPE_RESERVED 3 16]

/-- TY accepted by a class of types (R309). -/
def TyClass.accepts (k : TyClass) (ty : ElemType) : Bool :=
  match k, ty with
  | .any, _ => true
  | .f, .fp64 => true | .f, .fp32 => true | .f, .bf16 => true | .f, .fp16 => true
  | .d, .fp64 => true | .d, .fp32 => true
  | .i, .int32 => true
  | .x, .fp64 => true | .x, .fp32 => true | .x, .bf16 => true | .x, .fp16 => true | .x, .int32 => true
  | _, _ => false

/-- The type code is accepted by the opcode. -/
def aTyOk (v : Nat) : Bool :=
  match aInfo (bitsOf v 41 36), ElemType.ofCode (fieldOf v fTY) with
  | some i, some ty => !(i.used.contains fTY) || i.types.accepts ty
  | _, _ => true

/-- Check 4: TY, STY and DTY are accepted by the opcode (R348). -/
def check4 (b : BundleWord) : Option BundleFail :=
  let cvt := decide (bitsOf b.a 41 36 = 0x3C)
  firstFail [
    failIf (!cvt && !aTyOk b.a) .ERR_VE_TYPE 0 32,
    failIf (cvt && decide (bitsOf b.a 35 32 = 12)) .ERR_CONV_PAIR 0 32,
    failIf (cvt && decide (bitsOf b.a 21 18 = 12)) .ERR_CONV_PAIR 0 18]

/-- Element views of a tile register (R239). -/
inductive View where
  | w32 | p16 | w64
deriving DecidableEq, Repr

/-- The view of a wide type (R239, R320); `none` for narrow types and E8M0. -/
def ElemType.view : ElemType → Option View
  | .fp64 => some .w64
  | .fp32 | .int32 => some .w32
  | .bf16 | .fp16 => some .p16
  | _ => none

/-- Check 5: CVT combinations (R320, R322, R325). -/
def check5 (b : BundleWord) : Option BundleFail :=
  let v := b.a
  if bitsOf v 41 36 ≠ 0x3C then none
  else
    match ElemType.ofCode (bitsOf v 35 32), ElemType.ofCode (bitsOf v 21 18) with
    | some s, some d =>
      let wide := if s.narrow then d.view else s.view
      let nar := if s.narrow then s else d
      firstFail [
        failIf (s.narrow && d.narrow) .ERR_VE_CVT 0 18,
        failIf (decide ((s.view = some .p16 ∧ d.view = some .w64) ∨ (s.view = some .w64 ∧ d.view = some .p16)))
          .ERR_VE_CVT 0 18,
        failIf ((s.narrow || d.narrow || decide (s.view = d.view)) && bitOf v 0) .ERR_VE_CVT 0 0,
        failIf (bitOf v 12 && (!(s.narrow || d.narrow) || decide (wide = some .w64) || !nar.micro)) .ERR_VE_CVT 0 12,
        failIf (bitOf v 12 && decide (bitsOf v 10 6 = bitsOf v 31 27)) .ERR_VE_CVT 0 6]
    | _, _ => none

/-- An A-slot comparison. -/
def aIsCompare (op : Nat) : Bool := decide (0x28 ≤ op ∧ op ≤ 0x2D)

/-- Check 6: register fields (R308, R317, R318, R332, R334, R335, R339; FSCALE has BS = 1). -/
def check6 (b : BundleWord) : Option BundleFail :=
  let aop := bitsOf b.a 41 36
  let mop := bitsOf b.m 29 26
  let sop := bitsOf b.c 26 22
  let salu := decide (bitsOf b.c 31 27 = 3)
  firstFail [
    failIf (aIsCompare aop && decide (bitsOf b.a 31 30 ≠ 0)) .ERR_VE_OPERAND 0 27,
    failIf (decide (aop = 0x0E ∧ fieldOf b.a fBS ≠ 1)) .ERR_VE_OPERAND 0 15,
    failIf (decide ((aop = 0x32 ∨ aop = 0x37) ∧ fieldOf b.a fTY = 0 ∧ 15 < fieldOf b.a fTC)) .ERR_VE_OPERAND 0 10,
    failIf (decide ((mop = 1 ∨ mop = 2) ∧ 31 < bitsOf b.m 16 12 + bitsOf b.m 11 7)) .ERR_VE_OPERAND 2 7,
    failIf (decide (mop = 3 ∧ 4 < bitsOf b.m 20 18)) .ERR_VE_OPERAND 2 18,
    failIf (decide ((mop = 6 ∨ mop = 7) ∧ bitsOf b.m 25 21 % 4 ≠ 0)) .ERR_VE_OPERAND 2 21,
    failIf (salu && decide (sop = 15 ∧ 16 ≤ bitsOf b.c 16 12)) .ERR_VE_OPERAND 3 12,
    failIf (salu && decide ((sop = 14 ∨ sop = 15) ∧ 16 ≤ bitsOf b.c 21 17)) .ERR_VE_OPERAND 3 17]

/-- A register that an instruction writes (R307). -/
inductive VeDest where
  | t (n : Nat) | s (n : Nat) | a (n : Nat) | p (n : Nat) | w (n : Nat) | c (n : Nat)
deriving DecidableEq, Repr

/-- Destinations of an A-slot word, each with the lowest bit of its field (R307). -/
def aDests (v : Nat) : List (VeDest × Nat) :=
  let op := bitsOf v 41 36
  if op = 0x3C then
    (VeDest.t (bitsOf v 31 27), 27) ::
      (match ElemType.ofCode (bitsOf v 21 18) with
       | some d => if bitOf v 12 && d.narrow then [(VeDest.t (bitsOf v 10 6), 6)] else []
       | none => [])
  else if aIsCompare op then
    let n := bitsOf v 29 27
    if n = 0 then [] else [(VeDest.p n, 27)]
  else if op = 0x34 ∨ op = 0x35 ∨ op = 0x36 ∨ op = 0x38 then [(VeDest.w (fieldOf v fBS), 15)]
  else if op = 0 then []
  else match aInfo op with
    | some i => if i.used.contains fTD then [(VeDest.t (fieldOf v fTD), 27)] else []
    | none => []

/-- Destinations of an F-slot word. -/
def fDests (v : Nat) : List (VeDest × Nat) :=
  let td := (VeDest.t (bitsOf v 18 14), 14)
  let cn := (VeDest.c (bitsOf v 3 1), 1)
  match bitsOf v 23 19 with
  | 1 => [td]
  | 2 => [td, cn]
  | 3 => [td]
  | 4 => [cn]
  | _ => []

/-- Destinations of an M-slot word. -/
def mDests (v : Nat) : List (VeDest × Nat) :=
  let t := bitsOf v 25 21
  let inc := if bitOf v 6 then [(VeDest.a (bitsOf v 20 17), 17)] else []
  match bitsOf v 29 26 with
  | 1 => (VeDest.t t, 21) :: inc
  | 2 => inc
  | 3 => [(VeDest.t t, 21)]
  | 4 => [(VeDest.t t, 21)]
  | 6 => [(VeDest.s t, 21), (VeDest.s (t + 1), 21), (VeDest.s (t + 2), 21), (VeDest.s (t + 3), 21)] ++ inc
  | 7 => inc
  | _ => []

/-- Destinations of a C-slot word. -/
def cDests (v : Nat) : List (VeDest × Nat) :=
  match bitsOf v 31 27 with
  | 0x03 =>
    if bitsOf v 26 22 < 14 then [(VeDest.s (bitsOf v 21 17), 17)] else [(VeDest.a (bitsOf v 21 17), 17)]
  | 0x04 => [(VeDest.s (bitsOf v 24 20), 20)]
  | 0x05 => if bitsOf v 23 21 = 0 then [] else [(VeDest.p (bitsOf v 23 21), 21)]
  | 0x08 => [(VeDest.s (bitsOf v 26 22), 22)]
  | _ => []

/-- The first destination already written by an earlier slot. -/
def dupFail (slot : Nat) (ds : List (VeDest × Nat)) (seen : List (VeDest × Nat)) : Option BundleFail :=
  firstFail (ds.map fun d => failIf (seen.any fun e => decide (e.1 = d.1)) .ERR_VE_DUP_DEST slot d.2)

/-- Check 7: no two slots write the same register (R307); the later slot of the pair fails (log entry 21). -/
def check7 (b : BundleWord) : Option BundleFail :=
  let a := aDests b.a
  let f := fDests b.f
  let m := mDests b.m
  firstFail [dupFail 1 f a, dupFail 2 m (a ++ f), dupFail 3 (cDests b.c) (a ++ f ++ m)]

/-- Checks 1 to 7 in order (R348). -/
def staticChecks (b : BundleWord) : Option BundleFail :=
  firstFail [check1 b, check2 b, check3 b, check4 b, check5 b, check6 b, check7 b]

/-- All destinations of a bundle. -/
def bundleDests (b : BundleWord) : List VeDest :=
  (aDests b.a ++ fDests b.f ++ mDests b.m ++ cDests b.c).map (·.1)

end Sys2Proof.Machine
end

