-- ==== Sys2Proof/Machine/Wide.lean ====
section
/-! DEFINITION. The wide accumulator of Caldera, the Vent path, the row reductions, the reduction engine and SQACC:
its 128-bit encoding (R200, R212), the cube step (R201-R203), and its rounding (R214). -/

set_option autoImplicit false

namespace Sys2Proof.Machine

open Sys2Proof

/-- The all-ones exponent field of R200. -/
def accExpMax : Nat := 0x1FFF

/-- The wide default NaN (R200): SIGN 0, EXP 0x1FFF, SIG bit 113 alone. -/
def accNan : Acc := BitVec.ofNat 128 (accExpMax * 2 ^ 114 + 2 ^ 113)

/-- The value an accumulator word holds; any word is readable, as R212 states for WIDE words. -/
def accDecode (a : Acc) : Num :=
  let v := a.toNat
  let neg := bitOf v 127
  let e := bitsOf v 126 114
  let sig := v % 2 ^ 114
  if e = 0 then .fin (exZero neg)
  else if e = accExpMax then (if sig = 0 then .inf neg else nanRes)
  else .fin ⟨neg, sig, (e : Int) - 4208, false⟩

/-- The canonical word of a value (R200); a magnitude below 2⁻⁴⁰⁹⁴ becomes zero and is lost (R212), bits below the
114th are truncated and lost (R202), a magnitude of 2⁴⁰⁹⁶ or more is an infinity. Second: lost; third: overflowed. -/
def accEncode (n : Num) : Acc × Bool × Bool :=
  match n with
  | .nan _ _ _ => (accNan, false, false)
  | .inf s => (BitVec.ofNat 128 (b2n s * 2 ^ 127 + accExpMax * 2 ^ 114), false, false)
  | .fin x =>
    if x.man = 0 then (BitVec.ofNat 128 (b2n x.neg * 2 ^ 127), x.rest, false)
    else
      let top := Nat.log2 x.man
      let (sig, lost) :=
        if top ≤ 113 then (x.man * 2 ^ (113 - top), x.rest)
        else (x.man / 2 ^ (top - 113), decide (x.man % 2 ^ (top - 113) ≠ 0) || x.rest)
      let e : Int := x.exp + (top : Int) - 113 + 4208
      if e < 1 then (BitVec.ofNat 128 (b2n x.neg * 2 ^ 127), true, false)
      else if (accExpMax : Int) ≤ e then
        (BitVec.ofNat 128 (b2n x.neg * 2 ^ 127 + accExpMax * 2 ^ 114), lost, true)
      else (BitVec.ofNat 128 (b2n x.neg * 2 ^ 127 + e.toNat * 2 ^ 114 + sig), lost, false)

/-- Outcome of one update of an accumulator: the word, its flags, whether the update marks the bank or row lost (R202), and
whether any non-zero bit was dropped, as CAL_TRUNC_STEPS counts (R236). -/
structure StepOut where
  acc : Acc
  flags : FlagSet
  lost : Bool
  cut : Bool
deriving DecidableEq, Repr

/-- Some term is an infinity of the sign. -/
def anyInf (s : Bool) (l : List Num) : Bool := l.any fun n => match n with | .inf t => t == s | _ => false

/-- The finite values among terms. -/
def finTerms (l : List Num) : List Ex := l.filterMap fun n => match n with | .fin x => some x | _ => none

/-- One term against the unit u = 2^k of the step: signed whole multiple, truncated; whether bits were dropped. -/
def alignTerm (k : Int) (x : Ex) : Int × Bool :=
  if k ≤ x.exp then
    let m : Int := (x.man * 2 ^ (x.exp - k).toNat : Nat)
    (if x.neg then -m else m, x.rest)
  else
    let sh := min (k - x.exp).toNat (Nat.log2 x.man + 1)
    let m : Int := (x.man / 2 ^ sh : Nat)
    (if x.neg then -m else m, decide (x.man % 2 ^ sh ≠ 0) || x.rest)

/-- The finite part of the cube step (R202): the sum of the non-zero terms in the window, whether it marks the bank lost, and
whether bits were dropped. A sum of zero returns before the mark. -/
def windowSum (nz : List Ex) : Ex × Bool × Bool :=
  let e := nz.foldl (fun a x => if a < exLog2 x then exLog2 x else a) (nz.headD (exZero false) |> exLog2)
  let k : Int := e - 116
  let ts := nz.map (alignTerm k)
  let w : Int := ts.foldl (fun a t => a + t.1) 0
  let lost := ts.any (·.2)
  if w = 0 then (exZero false, false, lost)
  else
    let top := Nat.log2 w.natAbs
    if 113 < top then
      let sh := top - 113
      let lost := lost || decide (w.natAbs % 2 ^ sh ≠ 0)
      (⟨decide (w < 0), w.natAbs / 2 ^ sh, k + sh, false⟩, lost, lost)
    else (⟨decide (w < 0), w.natAbs, k, false⟩, lost, lost)

/-- The cube step of R202 on an accumulator with the given terms (products, elements, squares). NV for a NaN term is
set by the former of the term (R201); here only for infinities of both signs. -/
def cubeStep (v : Acc) (ps : List Num) : StepOut :=
  let terms := accDecode v :: ps
  if anyNan terms then ⟨accNan, fNone, false, false⟩
  else if anyInf false terms && anyInf true terms then ⟨accNan, fNV, false, false⟩
  else if anyInf false terms then ⟨(accEncode (.inf false)).1, fNone, false, false⟩
  else if anyInf true terms then ⟨(accEncode (.inf true)).1, fNone, false, false⟩
  else
    let fs := finTerms terms
    let nz := fs.filter fun x => decide (x.man ≠ 0)
    match nz with
    | [] => ⟨(accEncode (.fin (exZero (fs.all (·.neg))))).1, fNone, false, false⟩
    | nz =>
      let (x, lost, cut) := windowSum nz
      let (a, _, ovf) := accEncode (.fin x)
      ⟨a, flagIf ovf fOF, lost, cut⟩

/-- A product formed exactly (R201): NaN and NV for a signalling NaN or 0 × infinity. -/
def exactProduct (a b : Num) : Num × FlagSet := numMul a b

/-- An element as a term (R201): a signalling NaN sets NV. -/
def elemTerm (a : Num) : Num × FlagSet := (a, sigFlags [a])

/-- A square as a term. -/
def squareTerm (a : Num) : Num × FlagSet := numMul a a

/-- A squared difference as a term; both operations exact (R318). -/
def csqTerm (a b : Num) : Num × FlagSet :=
  let (d, f) := numAdd .rne a (numNeg b)
  let (q, g) := numMul d d
  (q, f ||| g)

/-- An accumulator multiplied by 2^adj and rounded once (R214): an infinity delivers the infinity of the format, or
±MAXFIN with OF under SAT for BF16 and FP16; a NaN the default NaN. -/
def accRound (f : Fmt) (rnd : Rnd) (draw : Nat) (sat : Bool) (adj : Int) (a : Acc) : Nat × FlagSet :=
  match accDecode a with
  | .nan _ _ _ => (f.defaultNan, fNone)
  | .inf s =>
    if sat && (f == fmtBf || f == fmt16) then (f.signed s f.maxFin, fOF)
    else (f.signed s (f.inf.getD f.maxFin), fNone)
  | .fin x => f.deliver rnd draw (sat && (f == fmtBf || f == fmt16)) (exShift x adj)

/-- An integer accumulator's value (R205). -/
def accInt (a : Acc) : Int := a.toInt

/-- An integer accumulator from a value. -/
def accOfInt (v : Int) : Acc := BitVec.ofInt 128 v

end Sys2Proof.Machine
end

