-- ==== Sys2Proof/Machine/Operands.lean ====
section
/-! DEFINITION. Operand forms of the vector engine: elements of tile registers under the three views (R238-R240),
predicates (R242, R243), scalar broadcasts (R303), and the tile's registers with what is hard-wired (R241). -/

set_option autoImplicit false

namespace Sys2Proof.Machine

open Sys2Proof

/-- Bits of an element under a view (R239). -/
def View.width : View → Nat
  | .w32 => 32 | .p16 => 16 | .w64 => 64

/-- Elements of a register row under a view (R239). -/
def View.cols : View → Nat
  | .w32 => 32 | .p16 => 64 | .w64 => 16

/-- Elements of a register under a view (R239). -/
def View.count (v : View) : Nat := 32 * v.cols

/-- The first n fields of w bits of a number, lowest first. -/
def splitBits (w : Nat) : Nat → Nat → List Nat
  | 0, _ => []
  | n + 1, v => v % 2 ^ w :: splitBits w n (v / 2 ^ w)

/-- Fields of w bits joined, lowest first. -/
def joinBits (w : Nat) : List Nat → Nat
  | [] => 0
  | x :: r => x % 2 ^ w + joinBits w r * 2 ^ w

/-- A tile register's elements under a view, in row-major order (R239). -/
def View.elems (v : View) (r : TileReg) : List Nat := splitBits v.width v.count r.toNat

/-- The register with the given elements under a view. -/
def View.reg (v : View) (l : List Nat) : TileReg := BitVec.ofNat 32768 (joinBits v.width l)

/-- The first n packed elements of w bits, from byte 0 upwards (R126, R127, R240). -/
def packedElems (w n : Nat) (r : TileReg) : List Nat := splitBits w n r.toNat

/-- A register holding packed elements from byte 0 upwards and 0 beyond them (R240). -/
def packedReg (w : Nat) (l : List Nat) : TileReg := BitVec.ofNat 32768 (joinBits w l)

/-- A list divided into runs of k. -/
def chunksOf {α : Type} (k : Nat) : Nat → List α → List (List α)
  | 0, _ => []
  | n + 1, l => l.take k :: chunksOf k n (l.drop k)

/-- Whether the predicate governs element e in, under a view (R242). -/
def View.governed (v : View) (p : BitVec 1024) (e : Nat) : Bool :=
  match v with
  | .w32 => p.getLsbD e
  | .p16 => p.getLsbD (e / 2)
  | .w64 => p.getLsbD (2 * e)

/-- Tile register n. -/
def Tile.tr (x : Tile) (n : Nat) : TileReg := tabGet 0 n x.t
/-- Scalar register n. -/
def Tile.sr (x : Tile) (n : Nat) : BitVec 64 := tabGet 0 n x.s
/-- Address register n. -/
def Tile.ar (x : Tile) (n : Nat) : BitVec 48 := tabGet 0 n x.a
/-- Predicate register n; p0 reads as all ones (R241). -/
def Tile.pr (x : Tile) (n : Nat) : BitVec 1024 := if n = 0 then BitVec.allOnes 1024 else tabGet 0 n x.p
/-- Row i of wide row accumulator n. -/
def Tile.wr (x : Tile) (n i : Nat) : Acc := tabGet 0 (n * 32 + i) x.w
/-- Lost mark of row i of wide row accumulator n (R318). -/
def Tile.wLostAt (x : Tile) (n i : Nat) : Bool := tabGet false (n * 32 + i) x.wLost
/-- Row i of scan carry register n. -/
def Tile.cr (x : Tile) (n i : Nat) : BitVec 32 := tabGet 0 (n * 32 + i) x.c
/-- Accumulator bank b. -/
def Tile.bank (x : Tile) (b : Nat) : Bank := tabGet Bank.reset b x.banks
/-- Weight set w. -/
def Tile.wset (x : Tile) (w : Nat) : WeightSet := tabGet WeightSet.reset w x.sets

/-- Tile register n written. -/
def Tile.setTr (x : Tile) (n : Nat) (v : TileReg) : Tile := { x with t := tabSet 0 n v x.t }
/-- Scalar register n written. -/
def Tile.setSr (x : Tile) (n : Nat) (v : BitVec 64) : Tile := { x with s := tabSet 0 n v x.s }
/-- Address register n written (R241 keeps bits 47:0). -/
def Tile.setAr (x : Tile) (n : Nat) (v : BitVec 48) : Tile := { x with a := tabSet 0 n v x.a }
/-- Predicate register n written; a write to p0 has no effect (R241). -/
def Tile.setPr (x : Tile) (n : Nat) (v : BitVec 1024) : Tile :=
  if n = 0 then x else { x with p := tabSet 0 n v x.p }
/-- Row i of wide row accumulator n written, with its lost mark. -/
def Tile.setWr (x : Tile) (n i : Nat) (v : Acc) (lost : Bool) : Tile :=
  { x with w := tabSet 0 (n * 32 + i) v x.w, wLost := tabSet false (n * 32 + i) lost x.wLost }
/-- Row i of scan carry register n written. -/
def Tile.setCr (x : Tile) (n i : Nat) (v : BitVec 32) : Tile := { x with c := tabSet 0 (n * 32 + i) v x.c }
/-- Bank b written. -/
def Tile.setBank (x : Tile) (b : Nat) (v : Bank) : Tile := { x with banks := tabSet Bank.reset b v x.banks }
/-- Weight set w written. -/
def Tile.setWset (x : Tile) (w : Nat) (v : WeightSet) : Tile := { x with sets := tabSet WeightSet.reset w v x.sets }

/-- A value for every row of a group of 32, written in order. -/
def foldRows {α : Type} (f : Tile → Nat → α → Tile) : Tile → Nat → List α → Tile
  | x, _, [] => x
  | x, i, v :: r => foldRows f (f x i v) (i + 1) r

/-- The view of an A-slot word's TY; W32 where it has none. -/
def aView (v : Nat) : View := ((ElemType.ofCode (fieldOf v fTY)).bind ElemType.view).getD .w32

/-- The type of an A-slot word. -/
def aType (v : Nat) : ElemType := (ElemType.ofCode (fieldOf v fTY)).getD .fp32

/-- An operand's elements: those of a tile register, or a scalar register's low bits for every element (R303). -/
def operandElems (x : Tile) (v : View) (scalar : Bool) (n : Nat) : List Nat :=
  if scalar then List.replicate v.count ((x.sr n).toNat % 2 ^ v.width) else v.elems (x.tr n)

/-- Operand b of an A-slot word. -/
def operandB (x : Tile) (w : Nat) : List Nat :=
  operandElems x (aView w) (aHasBS (bitsOf w 41 36) && decide (fieldOf w fBS = 1)) (fieldOf w fTB)

/-- Operand c of an A-slot word. -/
def operandC (x : Tile) (w : Nat) : List Nat :=
  operandElems x (aView w) (decide (fieldOf w fBS = 2)) (fieldOf w fTC)

/-- Operand a of an A-slot word. -/
def operandA (x : Tile) (w : Nat) : List Nat := (aView w).elems (x.tr (fieldOf w fTA))

/-- Results of a vector-engine operation: the registers it writes, and its flags. -/
structure VeOut where
  t : List (Nat × TileReg)
  s : List (Nat × BitVec 64)
  a : List (Nat × BitVec 48)
  p : List (Nat × BitVec 1024)
  w : List (Nat × List (Acc × Bool))
  c : List (Nat × List (BitVec 32))
  flags : FlagSet
deriving DecidableEq, Repr

/-- No result. -/
def VeOut.none : VeOut := ⟨[], [], [], [], [], [], fNone⟩

/-- The registers of an operation written. -/
def Tile.apply (x : Tile) (o : VeOut) : Tile :=
  let x := o.t.foldl (fun x p => x.setTr p.1 p.2) x
  let x := o.s.foldl (fun x p => x.setSr p.1 p.2) x
  let x := o.a.foldl (fun x p => x.setAr p.1 p.2) x
  let x := o.p.foldl (fun x p => x.setPr p.1 p.2) x
  let x := o.w.foldl (fun x p => foldRows (fun x i v => x.setWr p.1 i v.1 v.2) x 0 p.2) x
  o.c.foldl (fun x p => foldRows (fun x i v => x.setCr p.1 i v) x 0 p.2) x

/-- An operation's registers written in a logical tile, and its flags ORed into VE_FLAGS (R291). -/
def State.applyVe (s : State) (t : Nat) (o : VeOut) : State :=
  (s.setTile t ((s.tile t).apply o)).orFlags .VE_FLAGS_FLAGS o.flags t

/-- Elements of a result under predicate and mask mode (R243, R304): result, kept or zero; flags of governed elements
only. `es` pairs each element's result with its flags. -/
def maskElems (v : View) (p : BitVec 1024) (zero : Bool) (old : List Nat) (es : List (Nat × FlagSet)) :
    List Nat × FlagSet :=
  let rs := (es.zip old).zipIdx.map fun q =>
    if v.governed p q.2 then q.1.1 else ((if zero then 0 else q.1.2), fNone)
  (rs.map (·.1), flagsOr (rs.map (·.2)))

end Sys2Proof.Machine
end

