-- ==== Sys2Proof/Machine/Stats.lean ====
section
/-! DEFINITION. The statistics table (R163-R171): recording conversions, promotion, clearing; and the inputs of the
draw of stochastic rounding (R138). -/

set_option autoImplicit false

namespace Sys2Proof.Machine

open Sys2Proof

/-- A program runs: the sequencer is RUNNING or in HALT_STEP. -/
def State.inStep (s : State) : Bool := s.seq == .running || s.seq == .haltStep

/-- The step of a draw: GEY_STEP_COUNT, 0 when no program is running (R138). -/
def State.drawStep (s : State) : Nat := if s.inStep then s.rd .GEY_STEP_COUNT_STEP else 0

/-- Address of a statistics slot's record that updates go to: shadow while a program runs, else live (R163, R167). -/
def State.statAddr (s : State) (slot : Nat) : Nat :=
  s.policy.statBase + slot * 32 + (if s.inStep then 16 else 0)

/-- A 16-byte statistics record (R164): AMAX, NAN_COUNT, CLAMP_COUNT and the word at 0x0C. -/
structure StatRec where
  amax : Nat
  nans : Nat
  clamps : Nat
  word : Nat
deriving DecidableEq, Repr

/-- The record at an address. -/
def State.statRead (s : State) (a : Nat) : StatRec :=
  ⟨s.ldNat a 4, s.ldNat (a + 4) 4, s.ldNat (a + 8) 4, s.ldNat (a + 12) 4⟩

/-- A record stored at an address. -/
def State.statWrite (s : State) (a : Nat) (r : StatRec) : State :=
  (((s.stNat a 4 r.amax).stNat (a + 4) 4 r.nans).stNat (a + 8) 4 r.clamps).stNat (a + 12) 4 r.word

/-- A source element is finite and not zero. -/
def finNonZero (x : Num) : Bool := match x with | .fin v => !exIsZero v | _ => false

/-- One source element folded into a record, with whether it was saturated (R165). -/
def statFold1 (r : StatRec) (x : Num) (clamped : Bool) : StatRec :=
  { amax := foldAmax r.amax x
    nans := satAdd32 r.nans (b2n (anyNan [x]))
    clamps := satAdd32 r.clamps (b2n clamped)
    word := if finNonZero x then setBits r.word 0 0 1 else r.word }

/-- Source elements folded into a record (R165, R166). -/
def statFold (r : StatRec) (l : List (Num × Bool)) : StatRec := l.foldl (fun r p => statFold1 r p.1 p.2) r

/-- The slot lies beyond the table's end; 0xFFFF records nothing (R163). -/
def State.statBad (s : State) (slot : Nat) : Bool := decide (slot ≠ 0xFFFF ∧ s.policy.statSlots ≤ slot)

/-- A recompute frame: no conversion records statistics (R573). -/
def State.replayFrame (s : State) : Bool := s.inStep && bitOf s.frameFlags 1

/-- An update that reaches a shadow record once CAPTURE has started (R630). -/
def State.statLate (s : State) (slot : Nat) : State :=
  if s.inStep && s.sin.captured then s.raise .ERR_SINTER_LATE_STAT (.engine 0x122) slot else s

/-- A conversion's elements recorded into its statistics slot (R165, R167, R573). -/
def State.statRecord (s : State) (slot : Nat) (l : List (Num × Bool)) : State :=
  if slot = 0xFFFF ∨ s.policy.statSlots ≤ slot ∨ s.replayFrame = true then s
  else (s.statWrite (s.statAddr slot) (statFold (s.statRead (s.statAddr slot)) l)).statLate slot

/-- Saturation that the clamp count counts: OF with a finite result (R135), or CLAMP (R162). -/
def countsClamp (dst : ElemType) (b : Nat) (fl : FlagSet) : Bool :=
  decide (fl &&& fCLAMP ≠ 0) ||
    (decide (fl &&& fOF ≠ 0) && match dst.decode b with | .fin _ => true | _ => false)

/-- A slot's shadow record set to empty (R168): AMAX, counts and VALID, and nothing else of it. -/
def State.statClearSlot (s : State) (slot : Nat) : State :=
  let a := s.policy.statBase + slot * 32 + 16
  s.statWrite a ⟨0, 0, 0, setBits (s.statRead a).word 0 0 0⟩

/-- The step unit's engine ID, the source of a promotion's errors (R175). -/
def stepUnitSrc : ErrSrc := .engine 0x110

/-- A slot promoted (R169): live takes the shadow's values, NEXT_SCALE is chosen under R170 and R171. An infinite AMAX is
recorded whatever VALID and ELEM_TYPE say. -/
def State.statPromoteSlot (s : State) (slot : Nat) : State :=
  let live := s.policy.statBase + slot * 32
  let sh := s.statRead (live + 16)
  let old := (s.statRead live).word
  let word := setBits old 0 0 (bitsOf sh.word 0 0)
  let code := bitsOf old 23 20
  let margin := bitsOf old 19 16
  let put := fun (s : State) (w : Nat) => s.statWrite live ⟨sh.amax, sh.nans, sh.clamps, w⟩
  let infinite := decide (sh.amax = 0x7F800000)
  let keep := fun (s : State) =>
    if infinite then (put s word).raise .ERR_SCALE_INF stepUnitSrc slot else put s word
  match (ElemType.ofCode code).filter ElemType.narrow with
  | some ty =>
    if infinite || decide (bitsOf sh.word 0 0 = 0) then keep s
    else
      let (e, cl) := nextScale ty sh.amax margin
      let s := put s (setBits word 31 24 e)
      if cl then s.raise .ERR_SCALE_CLAMP stepUnitSrc slot else s
  | none => (keep s).raise .ERR_STAT_TYPE stepUnitSrc slot code

/-- Every slot's shadow cleared (R168). -/
def State.statClearAll (s : State) : State := (List.range s.policy.statSlots).foldl State.statClearSlot s

/-- Every slot promoted (R169). -/
def State.statPromoteAll (s : State) : State := (List.range s.policy.statSlots).foldl State.statPromoteSlot s

end Sys2Proof.Machine
end

