-- ==== Sys2Proof/Machine/Cvt.lean ====
section
/-! DEFINITION. CVT (R319-R325): conversions between views, with block scales, stochastic rounding and statistics. -/

set_option autoImplicit false

namespace Sys2Proof.Machine

open Sys2Proof

/-- What a draw takes from the module (R138). -/
structure DrawCtx where
  salt : Nat
  step : Nat
  engine : Nat
deriving DecidableEq, Repr

/-- The draw context of an engine; a tile draws with its own copy of the salt (R655). -/
def State.drawCtx (s : State) (engine : Nat) : DrawCtx :=
  ⟨if engine < 256 then (s.tile engine).salt else s.policy.salt, s.drawStep, engine⟩

/-- A CVT's outcome: its registers and flags, the source elements it records with whether each was saturated, the
statistics slot, and whether a block's exponent was clamped (R160). -/
structure CvtOut where
  out : VeOut
  stats : List (Num × Bool)
  slot : Nat
  scaleClamp : Bool
deriving DecidableEq, Repr

/-- Index of element e of a tile-register conversion under the wide view (R139, R323). -/
def cvtIndex (v : View) (p e : Nat) : Nat :=
  let r := e / v.cols
  let c := e % v.cols
  match v with
  | .p16 => (if c % 2 = 1 then p ^^^ 0x8000 else p) * 1024 + r * 32 + c / 2
  | _ => p * 1024 + r * 32 + c

/-- The draw of element e; 0 where the mode takes none (R137, R323). -/
def cvtDraw (d : DrawCtx) (m : Rnd) (v : View) (sn : Nat) (e : Nat) : Nat :=
  if m = .sr then srDraw d.salt d.step (bitsOf sn 31 0) d.engine (cvtIndex v (bitsOf sn 47 32) e) else 0

/-- Each element with its place. -/
def indexed {α : Type} (l : List α) : List (α × Nat) := l.zipIdx

/-- One element without block scale (R148-R152). -/
def cvtPlain (src dst : ElemType) (c : CvtCtl) (b : Nat) : Nat × FlagSet :=
  convertNum src dst c (src.decodeForCvt b)

/-- One element of a microscaled source into a wide type (R156-R158). -/
def cvtFromBlock (src dst : ElemType) (c : CvtCtl) (scale b : Nat) : Nat × FlagSet :=
  let (n, fl) := decodeMicro src scale b
  let (r, g) := dst.decodeInto c n
  (r, fl ||| g)

/-- A block-scaled narrowing of a whole register: blocks of 32 along the rows (R325). -/
def cvtToBlocks (dst : ElemType) (ceil : Bool) (m : Rnd) (draw : Nat → Nat) (xs : List Num) : List BlockOut :=
  (chunksOf 32 (xs.length / 32) xs).zipIdx.map fun q =>
    encodeBlock dst ceil m ((List.range 32).map fun k => draw (q.2 * 32 + k)) q.1

/-- The CVT of a word, with its statistics. -/
def cvtResult (d : DrawCtx) (x : Tile) (w : Nat) : CvtOut :=
  let src := (ElemType.ofCode (bitsOf w 35 32)).getD .fp32
  let dst := (ElemType.ofCode (bitsOf w 21 18)).getD .fp32
  let td := bitsOf w 31 27
  let ta := x.tr (bitsOf w 26 22)
  let sn := (x.sr (bitsOf w 17 13)).toNat
  let scl := bitOf w 12
  let ts := bitsOf w 10 6
  let m := (Rnd.ofCode (fieldOf w fRND)).getD .rne
  let half := bitsOf w 0 0
  let ctl := fun (v : View) (e : Nat) => CvtCtl.mk m (cvtDraw d m v sn e) (bitOf w 2) (bitOf w 1)
  let slot := if dst.narrow then bitsOf sn 63 48 else 0xFFFF
  match src.view, dst.view with
  | some v, none =>
    let bs := v.elems ta
    let xs := bs.map src.decodeForCvt
    if scl then
      let blocks := cvtToBlocks dst (bitOf w 11) m (cvtDraw d m v sn) xs
      let es := blocks.flatMap (·.elems)
      ⟨{ VeOut.none with
          t := [(td, packedReg dst.width es), (ts, packedReg 8 (blocks.map (·.scale)))]
          flags := flagsOr (blocks.map (·.flags)) },
        xs.zip (blocks.flatMap (·.clamps)), slot, blocks.any (·.clamped)⟩
    else
      let rs := (indexed bs).map fun q => cvtPlain src dst (ctl v q.2) q.1
      ⟨{ VeOut.none with t := [(td, packedReg dst.width (rs.map (·.1)))], flags := flagsOr (rs.map (·.2)) },
        xs.zip (rs.map fun r => countsClamp dst r.1 r.2), slot, false⟩
  | none, some v =>
    let bs := packedElems src.width v.count ta
    let scales := packedElems 8 64 (x.tr ts)
    let rs := (indexed bs).map fun q =>
      if scl then cvtFromBlock src dst (ctl v q.2) (scales.getD (q.2 / 32) 0) q.1
      else cvtPlain src dst (ctl v q.2) q.1
    ⟨{ VeOut.none with t := [(td, v.reg (rs.map (·.1)))], flags := flagsOr (rs.map (·.2)) }, [], 0xFFFF, false⟩
  | some v, some u =>
    let bs := v.elems ta
    if v.count = u.count then
      let rs := (indexed bs).map fun q => cvtPlain src dst (ctl u q.2) q.1
      ⟨{ VeOut.none with t := [(td, u.reg (rs.map (·.1)))], flags := flagsOr (rs.map (·.2)) }, [], 0xFFFF, false⟩
    else if v.count < u.count then
      let off := half * v.count
      let rs := (indexed bs).map fun q => cvtPlain src dst (ctl u (off + q.2)) q.1
      let old := u.elems (x.tr td)
      let l := old.take off ++ rs.map (·.1) ++ old.drop (off + v.count)
      ⟨{ VeOut.none with t := [(td, u.reg l)], flags := flagsOr (rs.map (·.2)) }, [], 0xFFFF, false⟩
    else
      let rs := (indexed ((bs.drop (half * u.count)).take u.count)).map fun q => cvtPlain src dst (ctl u q.2) q.1
      ⟨{ VeOut.none with t := [(td, u.reg (rs.map (·.1)))], flags := flagsOr (rs.map (·.2)) }, [], 0xFFFF, false⟩
  | none, none => ⟨VeOut.none, [], 0xFFFF, false⟩

end Sys2Proof.Machine
end

