-- ==== Sys2Proof/Machine/MemErr.lean ====
section
/-! DEFINITION. Memory errors (R446-R449): codewords, poison, corrected and uncorrectable events. -/

set_option autoImplicit false

namespace Sys2Proof.Machine

open Sys2Proof

/-- First cell past HBM (R431). -/
def hbmEnd : Nat := 0x01C000000000

/-- Bytes of a codeword at a cell: 32 in HBM (R446), 8 in SRAM (R447). -/
def codewordBytes (c : Nat) : Nat := if c < hbmEnd then 32 else 8

/-- First cell of a cell's codeword. -/
def codewordOf (c : Nat) : Nat := c / codewordBytes c * codewordBytes c

/-- The memory instance of a cell: stack n, activation store 16 + die, operand caches of a cluster 18 + 8d + k (as the
residual arbiters of R470). -/
def memInstance (c : Nat) : Nat :=
  if c < hbmEnd then (c - 0x010000000000) / 0x000C00000000
  else if c < 0x030000000000 then 16 + (c - 0x020000000000) / 0x000100000000
  else let pt := (c - 0x031000000000) / 0x400000; 18 + pt / 17

/-- The codeword of a cell poisoned (R449). -/
def State.poisonCell (s : State) (c : Nat) : State := { s with poison := tabSet false (codewordOf c) true s.poison }

/-- The first poisoned codeword that meets the cells c to c + n - 1. -/
def State.poisonedIn (s : State) (c n : Nat) : Option Nat :=
  (s.poison.find? fun p => decide (p.1 < c + n ∧ c < p.1 + codewordBytes p.1)).map (·.1)

/-- Poison cleared from every codeword that lies whole in the cells c to c + n - 1 (R449). -/
def State.clearPoison (s : State) (c n : Nat) : State :=
  { s with poison := s.poison.filter fun p => !(decide (c ≤ p.1 ∧ p.1 + codewordBytes p.1 ≤ c + n)) }

/-- The address of a cell: a cell of HBM and of the activation store is its own address, one of an operand cache has the address of
the position that the tile carries (R35, R246); a tile that carries none is named by its cell (log entry 92). -/
def State.cellAddr (s : State) (c : Nat) : Nat :=
  if c < 0x031000000000 then c
  else
    match (List.range 256).find? fun t => s.physOf t == (c - 0x031000000000) / 0x400000 with
    | some t => ocAddr t (c % 0x400000)
    | none => c

/-- A corrected event at a cell (R448, R483): counted for HBM, recorded at most 16 times a second and instance; engines name their
slot, the scrubber its rank, as the waiter. -/
def State.memCe (s : State) (src : ErrSrc) (c : Nat) (waiter : Option Nat) : State :=
  let i := memInstance c
  let s := if i < 16 then s.bump .SE_HBM_CE_COUNT 1 i else s
  let sec := s.tb / tbPerSec
  let (t, n) := tabGet (0, 0) i s.ceNoted
  let n := if t = sec then n else 0
  if n < 16 then
    { s with ceNoted := tabPut i (sec, n + 1) s.ceNoted }.raiseRec .ERR_MEM_CE Err.ERR_MEM_CE.severity src none waiter (s.cellAddr (codewordOf c)) 0
  else s

/-- An uncorrectable event at a cell: counted for HBM, the codeword poisoned (R449). -/
def State.memUe (s : State) (c : Nat) : State :=
  let i := memInstance c
  let s := if i < 16 then s.bump .SE_HBM_UE_COUNT 1 i else s
  s.poisonCell c

end Sys2Proof.Machine
end

