-- ==== Sys2Proof/Machine/Slots.lean ====
section
/-! DEFINITION. The end of a slot (R84, R98, R261) on any engine. -/

set_option autoImplicit false

namespace Sys2Proof.Machine

open Sys2Proof

/-- Cycles of a frame at an operating point (R52). -/
def State.frameCycles (s : State) (op : Nat) : Nat := cyclesOf (s.rd .GEY_FRAME_PERIOD_NS_PERIOD) op

/-- Units of 2⁻¹⁶ ns in a cycle, times the frequency in tenths of a gigahertz. -/
def cycleUnits : Nat := 655360

/-- A bundle-stream slot of the tile is running (VE_STATUS.IN_SLOT). -/
def State.inBundleSlot (s : State) (t : Nat) : Bool :=
  match s.slotNow t with | some sl => decide (sl.kind = 0) | none => false

/-- n cycles of the clock pass for a tile's vector engine: the bundles that issued take one each; in the others a running slot
issued none (R295). -/
def State.passTile (n : Nat) (s : State) (t : Nat) : State :=
  let v := s.veOf t
  let m := n - v.issued
  let s := s.setVe t { v.age m with issued := v.issued - n }
  if s.inBundleSlot t then s.bump .VE_STALL_CYC_COUNT m t else s

/-- The tiles whose vector engines have something in hand: a slot, an operation in flight, a cycle. -/
def State.busyTiles (s : State) : List Nat :=
  let es := (s.engines.map (·.1)).filter fun e => decide (e < 256)
  es ++ (s.ve.map (·.1)).filter fun t => !es.contains t

/-- n core cycles pass for the vector engines. -/
def State.passCycles (s : State) (n : Nat) : State := s.busyTiles.foldl (State.passTile n) s

/-- Core cycles of time: the frame cycle counter and the time base advance (R84). The last edge of the core clock lies
tbRem ÷ (frequency in tenths of a gigahertz) units of 2⁻¹⁶ ns after the time base's value, before it where tbRem is negative. -/
def State.advanceCycles (s : State) (n : Nat) : State :=
  let f := opFreq s.opNow
  let u := ((cycleUnits * n : Nat) : Int) + s.tbRem
  let d := u.toNat / f
  { s with frameCycle := s.frameCycle + n, tb := s.tb + d, tbRem := u - (d * f : Nat) }.passCycles n

/-- Time moves on to a cycle of the frame, where it has not passed. -/
def State.advanceTo (s : State) (c : Nat) : State := s.advanceCycles (c - s.frameCycle)

/-- Edges of the core clock after now, up to a time of the time base. -/
def State.edgesBefore (s : State) (t : Nat) : Nat :=
  ((((t - s.tb) * opFreq s.opNow : Nat) - s.tbRem) / (cycleUnits : Nat) : Int).toNat

/-- Time moves on to a time of the time base, where it has not passed; the frame cycle counter counts the cycles (R84). -/
def State.advanceTime (s : State) (t : Nat) : State :=
  if s.tb < t then
    let k := s.edgesBefore t
    { s with
      frameCycle := s.frameCycle + k, tb := t
      tbRem := s.tbRem + (k * cycleUnits : Nat) - ((t - s.tb) * opFreq s.opNow : Nat) }.passCycles k
  else s

/-- The program epoch, as a time (R102). -/
def State.epoch (s : State) : Nat := timeOfStamp (s.rd .GEY_EPOCH_STAMP_LO + s.rd .GEY_EPOCH_HI_STAMP_HI * 2 ^ 64)

/-- The frame period. -/
def State.period (s : State) : Nat := s.rd .GEY_FRAME_PERIOD_NS_PERIOD * tbPerNs

/-- The time of the tick with frame count n (R68). -/
def State.tickTime (s : State) (n : Nat) : Nat := s.epoch + n * s.period

/-- The idle grid's spacing (R70). -/
def idlePeriod : Nat := 10000 * tbPerNs

/-- The time of the next tick: on the program's grid while a program runs, else on the idle grid, or the epoch where that comes
first (R68, R70). -/
def State.nextTick (s : State) : Nat :=
  let idle := (s.tb / idlePeriod + 1) * idlePeriod
  match s.seq with
  | .running | .haltStep => s.tickTime (s.rd .GEY_FRAME_COUNT_COUNT + 1)
  | .armed => min idle s.epoch
  | _ => idle

/-- Whole cycles left before the next tick at the point in force. -/
def State.cyclesLeft (s : State) : Nat := s.edgesBefore s.nextTick

/-- Cycles that have passed since a time of the time base, at the point in force. -/
def State.cyclesSince (s : State) (t : Nat) : Nat := ((s.tb - t) * opFreq s.opNow + cycleUnits / 2) / cycleUnits

/-- The slot an engine runs ends in this cycle; after the last one its margin is taken (R98). -/
def State.endSlot (s : State) (e : Nat) : State :=
  let r := s.engine e
  if !r.running then s
  else
    let s := s.setEngine e { r with running := false, idx := r.idx + 1, lastEnd := s.frameCycle, isOver := false }
    if r.idx + 1 = r.slots.length then
      s.wr .GEY_MARGIN_MIN_MARGIN (min (s.rd .GEY_MARGIN_MIN_MARGIN) (s.frameCycles s.opNow - s.frameCycle))
    else s

/-- No further bundle or record of the slot that an engine runs issues (R498, R791). -/
def State.stopSlot (s : State) (e : Nat) : State := s.setEngine e { s.engine e with isOver := true }

/-- Index of the slot an engine runs. -/
def State.slotIdx (s : State) (e : Nat) : Nat := (s.engine e).idx

/-- A tile's slot ends when no further bundle issues and every operation issued in it has completed (R261). -/
def State.settleTile (s : State) (t : Nat) : State :=
  let v := s.veOf t
  let r := s.engine t
  if r.running && (v.ended || v.halted || r.isOver) && v.held.isNone && v.fenced.isEmpty && (s.tile t).cal.isEmpty then
    (s.endSlot t).setVe t { v with ended := false, stall := 0 }
  else s

/-! ### Lists of transfer records (R452, R458, R792) -/

/-- The transfer list of an engine. -/
def State.xeng (s : State) (e : Nat) : XferEng := tabGet XferEng.reset e s.xfer

/-- The transfer list of an engine replaced. -/
def State.setXeng (s : State) (e : Nat) (x : XferEng) : State := { s with xfer := tabSet XferEng.reset e x s.xfer }

/-- COUNT of a kind-1 slot (R452). -/
def Slot.records (sl : Slot) : Nat := bitsOf sl.payload 63 48

/-- Every record of a slot has started; a COUNT of 0 is refused at fetch (R455). -/
def Slot.allStarted (sl : Slot) (next : Nat) : Bool := decide (sl.records ≠ 0 ∧ sl.records ≤ next)

/-- A kind-1 slot ends when no further record starts and no transfer is active (R458, R792). -/
def State.settleXfer (s : State) (e : Nat) : State :=
  match s.slotNow e with
  | none => s
  | some sl =>
    let x := s.xeng e
    if decide (sl.kind = 1) && ((s.engine e).isOver || sl.allStarted x.next) && x.active.isEmpty then
      (s.setXeng e { x with next := 0 }).endSlot e
    else s

/-! ### Lists of reduction records (R543, R548) -/

/-- A half's state. -/
def State.redHalf (s : State) (h : Nat) : RedHalf := tabGet RedHalf.reset h s.red
/-- A half's state replaced. -/
def State.setRed (s : State) (h : Nat) (v : RedHalf) : State := { s with red := tabSet RedHalf.reset h v s.red }
/-- Engine ID of a half. -/
def redEngine (h : Nat) : Nat := 0x120 + h

/-- Active records of a half (R548). -/
def RedHalf.actives (g : RedHalf) : List RedRun := g.runs.filter fun r => r.phase == .active || r.phase == .sent

/-- A kind-3 slot ends when no further record starts and none of it is active (R458, R792). -/
def State.settleRed (s : State) (h : Nat) : State :=
  let e := redEngine h
  match s.slotNow e with
  | none => s
  | some sl =>
    let g := s.redHalf h
    if decide (sl.kind = 3) && ((s.engine e).isOver || sl.allStarted g.next) && g.actives.isEmpty then
      (s.setRed h { g with next := 0 }).endSlot e
    else s

/-- The slot of an engine of records ends when nothing of it is left. -/
def State.settleList (s : State) (e : Nat) : State :=
  if e = 0x120 ∨ e = 0x121 then s.settleRed (e - 0x120) else s.settleXfer e

end Sys2Proof.Machine
end

