-- ==== Sys2Proof/Machine/Program.lean ====
section
/-! DEFINITION. The image of a frame program (R78-R82): header fields, frame table, engine directories, slot lists, and
the order of program frames (R86). -/

set_option autoImplicit false

namespace Sys2Proof.Machine

open Sys2Proof

/-- A frame-table entry (R79): offset and length of its directory, flags, and the reserved field. -/
structure FrameEntry where
  dirOff : Nat
  dirLen : Nat
  flags : Nat
  reserved : Nat
deriving DecidableEq, Repr

/-- A directory entry (R80). -/
structure DirEntry where
  engine : Nat
  slots : Nat
  reserved : Nat
  slotOff : Nat
deriving DecidableEq, Repr

/-- The frame-table entry of a program frame. -/
def State.frameEntry (s : State) (p : ProgHeader) (f : Nat) : FrameEntry :=
  let a := p.base + p.tableOff + 16 * f
  ⟨s.ldNat a 8, s.ldNat (a + 8) 2, s.ldNat (a + 10) 2, s.ldNat (a + 12) 4⟩

/-- The i-th entry of a directory. -/
def State.dirEntry (s : State) (p : ProgHeader) (fe : FrameEntry) (i : Nat) : DirEntry :=
  let a := p.base + fe.dirOff + 16 * i
  ⟨s.ldNat a 2, s.ldNat (a + 2) 2, s.ldNat (a + 4) 4, s.ldNat (a + 8) 8⟩

/-- The directory of a program frame. -/
def State.directory (s : State) (p : ProgHeader) (f : Nat) : List DirEntry :=
  let fe := s.frameEntry p f
  (List.range fe.dirLen).map (s.dirEntry p fe)

/-- A slot from its 16 bytes (R82). -/
def slotOf (v : Nat) : Slot := ⟨bitsOf v 127 64, bitsOf v 55 32, bitOf v 28, bitsOf v 27 24, bitsOf v 23 0⟩

/-- The 16 bytes of the i-th slot of a directory entry. -/
def State.slotRaw (s : State) (p : ProgHeader) (d : DirEntry) (i : Nat) : Nat := s.ldNat (p.base + d.slotOff + 16 * i) 16

/-- The slot list of a directory entry. -/
def State.slotList (s : State) (p : ProgHeader) (d : DirEntry) : List Slot :=
  (List.range d.slots).map fun i => slotOf (s.slotRaw p d i)

/-- The slot list of an engine in a program frame. -/
def State.frameSlots (s : State) (p : ProgHeader) (f e : Nat) : List Slot :=
  match (s.directory p f).find? fun d => d.engine == e with
  | some d => s.slotList p d
  | none => []

/-- Step bodies that have completed once program frame f ends: one that did not commit does not count (R86, R604). -/
def State.bodiesAfter (s : State) (p : ProgHeader) (f : Nat) : Nat :=
  s.bodies + b2n (f == p.bodyLast && !s.step.aborted)

/-- The program frame after frame f, when any (R86). -/
def State.nextFrame (s : State) (p : ProgHeader) (f : Nat) : Option Nat :=
  if f = p.bodyLast ∧ (p.stepLimit = 0 ∨ s.bodiesAfter p f < p.stepLimit) then some p.bodyFirst
  else if f + 1 < p.frames then some (f + 1) else none

end Sys2Proof.Machine
end

