-- ==== Sys2Proof/Machine/SlotWrites.lean ====
section
/-! DEFINITION. The records of slots (09, R452-R455; 11, R543-R546), as the sequencer fetched them, and what a slot of any kind reads
and writes: touched bytes, padded footprints (R404, R411, R412). -/

set_option autoImplicit false

namespace Sys2Proof.Machine

open Sys2Proof

/-! ### Record stores (R453, R543) -/

/-- Where the record list of a slot begins: 32 × LIST from the image's start (R452, R543). -/
def State.listBase (s : State) (sl : Slot) : Nat :=
  (match s.prog with | some p => p.base | none => 0) + bitsOf sl.payload 47 5 * 32

/-- Bytes of a record list that stand in a store in use; such a store holds while a program runs. -/
def State.stored (s : State) (a n : Nat) : Option (List Byte) :=
  if s.inStep then
    s.engines.findSome? fun (p : Nat × EngineRun) => p.2.store.findSome? fun r =>
      if r.base ≤ a ∧ a + n ≤ r.base + r.bytes.length then some ((r.bytes.drop (a - r.base)).take n) else none
  else none

/-- n bytes of a record list: from the store in use, else from the image (R453). -/
def State.imgNat (s : State) (a n : Nat) : Nat := match s.stored a n with | some b => leNat b | none => s.ldNat a n

/-- The first of n bytes of a record list that lay in a poisoned codeword when they were fetched (R449). -/
def State.badRecord (s : State) (e a n : Nat) : Option Nat :=
  (s.engine e).store.findSome? fun r => r.bad.find? fun x => decide (a ≤ x ∧ x < a + n)

/-- The first address of a list in a poisoned codeword (R449). -/
def State.firstPoisoned (s : State) (l : List Nat) : Option Nat :=
  l.find? fun a => match s.placeOf a with | .cell c => tabGet false (codewordOf c) s.poison | _ => false

/-! ### Records (R454, R455) -/

/-- MODE. -/
def XWords.mode (r : XWords) : Nat := bitsOf r.w0 61 58
/-- SRC. -/
def XWords.src (r : XWords) : Nat := bitsOf r.w0 19 0
/-- DST. -/
def XWords.dst (r : XWords) : Nat := bitsOf r.w0 39 20
/-- WAIT_TMO. -/
def XWords.tmo (r : XWords) : Nat := bitsOf r.w1 63 56
/-- WAIT_OBJ. -/
def XWords.waitObj (r : XWords) : Nat := bitsOf r.w1 55 32
/-- SIG_COUNT. -/
def XWords.sigCount (r : XWords) : Nat := bitsOf r.w1 31 24
/-- SIG_OBJ. -/
def XWords.sigObj (r : XWords) : Nat := bitsOf r.w1 23 0
/-- PEER. -/
def XWords.peer (r : XWords) : Nat := bitsOf r.w2 63 48
/-- PCH. -/
def XWords.pch (r : XWords) : Nat := bitsOf r.w2 42 37
/-- PROTECT. -/
def XWords.protect (r : XWords) : Bool := bitOf r.w2 36
/-- CRC_POLY. -/
def XWords.poly (r : XWords) : Nat := bitsOf r.w2 35 34
/-- WAIT_CONSUME. -/
def XWords.consume (r : XWords) : Bool := bitOf r.w2 32
/-- WAIT_THRESH. -/
def XWords.thresh (r : XWords) : Nat := bitsOf r.w2 31 0
/-- LINE0. -/
def XWords.line0 (r : XWords) : Nat := bitsOf r.w3 31 12
/-- KS16. -/
def XWords.ks16 (r : XWords) : Bool := bitOf r.w3 8
/-- TILE. -/
def XWords.tile (r : XWords) : Nat := bitsOf r.w3 7 0

/-- Engine IDs of the stream engines. -/
def isStream (e : Nat) : Bool := decide (0x100 ≤ e ∧ e < 0x110)
/-- Engine IDs of the update engines. -/
def isUpdate (e : Nat) : Bool := decide (0x110 ≤ e ∧ e < 0x120)
/-- Number of a stream or update engine. -/
def engNum (e : Nat) : Nat := e % 16

/-- The address in the image of a record of a kind-1 slot (R452). -/
def State.recordAddr (s : State) (sl : Slot) (i : Nat) : Nat := s.listBase sl + 32 * i

/-- The words of a record of the loaded program (R452-R454). -/
def State.recordAt (s : State) (sl : Slot) (i : Nat) : XWords :=
  let a := s.recordAddr sl i
  ⟨s.imgNat a 8, s.imgNat (a + 8) 8, s.imgNat (a + 16) 8, s.imgNat (a + 24) 8⟩

/-! ### Records (R544-R546) -/

/-- A reduction record at an address of the image: its words and where its entries begin. -/
structure RedRec where
  w0 : Nat
  w1 : Nat
  w2 : Nat
  w3 : Nat
  entries : Nat
deriving DecidableEq, Repr

/-- The record at an address. -/
def State.redRecAt (s : State) (a : Nat) : RedRec :=
  ⟨s.imgNat a 8, s.imgNat (a + 8) 8, s.imgNat (a + 16) 8, s.imgNat (a + 24) 8, a + 32⟩

/-- OP is GF_MAC. -/
def RedRec.gf (r : RedRec) : Bool := bitsOf r.w0 63 60 == 1
/-- OUT_WIDE. -/
def RedRec.outWide (r : RedRec) : Bool := bitOf r.w0 59
/-- SUBST. -/
def RedRec.subst (r : RedRec) : Bool := bitOf r.w0 58
/-- NCON. -/
def RedRec.ncon (r : RedRec) : Nat := bitsOf r.w0 55 46
/-- LEN. -/
def RedRec.len (r : RedRec) : Nat := bitsOf r.w0 45 24
/-- REGION. -/
def RedRec.region (r : RedRec) : Nat := bitsOf r.w0 23 0
/-- WAIT_OBJ. -/
def RedRec.waitObj (r : RedRec) : Nat := bitsOf r.w1 55 32
/-- SIG_COUNT. -/
def RedRec.sigCount (r : RedRec) : Nat := bitsOf r.w1 31 24
/-- SIG_OBJ. -/
def RedRec.sigObj (r : RedRec) : Nat := bitsOf r.w1 23 0
/-- OUT_DESC. -/
def RedRec.outDesc (r : RedRec) : Nat := bitsOf r.w2 19 0
/-- OUT_RANK. -/
def RedRec.outRank (r : RedRec) : Nat := bitsOf r.w3 63 48
/-- OUT_HALF. -/
def RedRec.outHalf (r : RedRec) : Nat := bitsOf r.w3 47 47
/-- OUT_RID and OUT_INDEX as the OBJ of a RED_PART (R537). -/
def RedRec.outObj (r : RedRec) : Nat := bitsOf r.w3 45 32 + bitsOf r.w3 31 22 * 2 ^ 14
/-- DEADLINE. -/
def RedRec.deadline (r : RedRec) : Nat := bitsOf r.w3 21 14
/-- RID. -/
def RedRec.rid (r : RedRec) : Nat := bitsOf r.w3 13 0
/-- Bytes of a record with its entries (R543). -/
def RedRec.bytes (r : RedRec) : Nat := 32 + ceilDiv (8 * r.ncon) 32 * 32
/-- The result stays in this module. -/
def RedRec.isLocal (r : RedRec) : Bool := r.outRank == 0xFFFF

/-- The i-th entry of a record (R545). -/
def State.redEntry (s : State) (r : RedRec) (i : Nat) : Nat := s.imgNat (r.entries + 8 * i) 8
/-- PRIMARY. -/
def entPrimary (v : Nat) : Nat := bitsOf v 63 48
/-- BACKUP. -/
def entBackup (v : Nat) : Nat := bitsOf v 47 32
/-- WIDE. -/
def entWide (v : Nat) : Bool := bitOf v 28
/-- COEF. -/
def entCoef (v : Nat) : Nat := bitsOf v 27 20
/-- DESC. -/
def entDesc (v : Nat) : Nat := bitsOf v 19 0
/-- A local source. -/
def entLocal (v : Nat) : Bool := entPrimary v == 0xFFFE
/-- An entry has a backup. -/
def entHasBackup (v : Nat) : Bool := !entLocal v && entBackup v != 0xFFFF

/-- The entries of a record. -/
def State.redEntries (s : State) (r : RedRec) : List Nat := (List.range r.ncon).map (s.redEntry r)

/-- Sources of a record, primary and backup counted separately (R546). -/
def redSources (es : List Nat) : Nat := (es.map fun v => if entHasBackup v then 2 else 1).foldl (· + ·) 0

/-- 64-byte units of a record's region (R546). -/
def redUnits (r : RedRec) (es : List Nat) : Nat :=
  let remote := es.filter fun v => !entLocal v
  let per := if r.gf then r.len * (1 + redSources remote)
    else 16 * r.len + (remote.map fun v => (if entHasBackup v then 2 else 1) * (if entWide v then 16 else 4) * r.len).foldl (· + ·) 0
  ceilDiv per 64

/-- Addresses of the records of a list, in order, from an address. -/
def State.redWalk (s : State) : Nat → Nat → List Nat
  | 0, _ => []
  | n + 1, a => a :: s.redWalk n (a + (s.redRecAt a).bytes)

/-- Addresses of the records of a kind-3 slot (R543). -/
def State.redAddrs (s : State) (sl : Slot) : List Nat :=
  s.redWalk sl.records (s.listBase sl)

/-! ### Microprograms (R587, R588) -/

/-- PRE_LEN. -/
def preLen (h : Nat) : Nat := bitsOf h 11 6
/-- NORM_LEN. -/
def normLen (h : Nat) : Nat := bitsOf h 23 18
/-- UPD_LEN. -/
def updLen (h : Nat) : Nat := bitsOf h 35 30

/-- UPD_START. -/
def updStart (h : Nat) : Nat := bitsOf h 29 24

/-- OP of a microprogram word. -/
def ueOp (w : Nat) : Nat := bitsOf w 63 58
/-- S. -/
def ueS (w : Nat) : Nat := bitsOf w 37 35

/-- Descriptor ID of a stream of a shard; 0 for none. -/
def ShardEntry.stream (e : ShardEntry) (k : Nat) : Nat := e.streams.getD k 0 % 2 ^ 20

/-- The scale tensor that a MICRO descriptor's writes also write. -/
def State.scaleOf (s : State) (i : Nat) : List Nat := let d := s.desc i; if d.scaleMode = 2 then [d.scaleLink] else []

/-- Descriptors of this module that an update pass writes (R588, R591): NORM_OUT, or the digest, the streams of ST with their block
scales, the scale bytes of SCALEW. -/
def State.ueWrites (s : State) (sl : Slot) : List Nat :=
  match s.step.table with
  | none => []
  | some t =>
    match t.shards[bitsOf sl.payload 47 32]? with
    | none => []
    | some e =>
      if bitsOf sl.payload 31 30 = 0 then (if e.normOut % 2 ^ 20 = 0 then [] else [e.normOut % 2 ^ 20])
      else
        let u := t.uprogs.getD (bitsOf sl.payload 63 48) []
        let h := u.headD 0
        (e.digLocal % 2 ^ 20) :: ((u.drop (updStart h)).take (updLen h)).flatMap fun w =>
          let i := e.stream (ueS w)
          if ueOp w = 0x02 then i :: s.scaleOf i
          else if ueOp w = 0x03 then [(s.desc i).scaleLink] else []

/-! ### What a slot writes (R411, R412) -/

/-- Descriptors of this module that a slot writes, by its kind. -/
def State.slotWrites (s : State) (sl : Slot) : List Nat :=
  if sl.kind = 1 then (List.range sl.records).flatMap fun i =>
    let r := s.recordAt sl i
    if 3 ≤ r.mode then [] else r.dst :: (if r.mode = 0 then s.scaleOf r.dst else [])
  else if sl.kind = 2 then s.ueWrites sl
  else if sl.kind = 3 then (s.redAddrs sl).flatMap fun a =>
    let r := s.redRecAt a
    if r.isLocal then [r.outDesc] else []
  else []

/-! ### What a record touches (R404, R456) -/

/-- The bytes a descriptor can touch. -/
def State.touch (s : State) (d : Desc) : List Touch :=
  match s.reachAddr d with
  | some (lo, hi) => [⟨d.alloc, lo, hi⟩]
  | none => []

/-- The bytes a record reads. -/
def State.xReads (s : State) (r : XWords) : List Touch :=
  let a := s.desc r.src
  let d := s.desc r.dst
  s.touch a ++ (if a.scaleMode ≠ 0 then s.touch (s.desc a.scaleLink) else []) ++
    (if a.indexEn then s.touch (s.desc a.indexLink) else []) ++
    (if r.mode = 0 ∧ d.scaleMode = 1 then s.touch (s.desc d.scaleLink) else [])

/-- The bytes a record writes in this module. -/
def State.xWrites (s : State) (r : XWords) : List Touch :=
  let d := s.desc r.dst
  if r.mode < 3 then
    s.touch d ++ (if r.mode = 0 ∧ d.scaleMode = 2 then s.touch (s.desc d.scaleLink) else [])
  else []

/-- Two touched ranges share a byte. -/
def Touch.meets (a b : Touch) : Bool := a.handle == b.handle && decide (a.lo ≤ b.hi ∧ b.lo ≤ a.hi)

/-- Some ranges share a byte. -/
def anyMeets (a b : List Touch) : Bool := a.any fun x => b.any fun y => x.meets y

/-- Condition 4 of R456 against one active transfer. -/
def Xfer.blocks (x : Xfer) (reads writes : List Touch) : Bool :=
  anyMeets x.writes reads || anyMeets x.writes writes || anyMeets x.reads writes

/-- Slot a comes before slot b in slot order (R412): START, engine ID, slot index. -/
def slotBefore (a b : Nat × Nat × Nat) : Bool :=
  decide (a.1 < b.1 ∨ (a.1 = b.1 ∧ (a.2.1 < b.2.1 ∨ (a.2.1 = b.2.1 ∧ a.2.2 < b.2.2))))

/-- The padded footprints of a slot (R412). -/
def State.padTouch (s : State) (sl : Slot) : List Touch :=
  (s.slotWrites sl).flatMap fun i => let d := s.desc i; if d.padWrite then s.touch d else []

/-- The touched bytes of a run of addresses, by allocation. -/
def State.rangeTouch (s : State) (a n : Nat) : List Touch :=
  s.allocs.filterMap fun l => if l.base < a + n ∧ a < l.base + l.size then some ⟨l.handle, a, a + n - 1⟩ else none

/-- A write waits for an earlier slot whose padded footprint it enters (R412). -/
def State.padWaits (s : State) (e i : Nat) (writes : List Touch) : Bool :=
  match (s.engine e).slots[i]? with
  | none => false
  | some me =>
    s.engines.any fun (p : Nat × EngineRun) =>
      (p.2.slots.zipIdx).any fun q =>
        decide (p.2.idx ≤ q.2) && slotBefore (q.1.start, p.1, q.2) (me.start, e, i) && anyMeets (s.padTouch q.1) writes

end Sys2Proof.Machine
end

