-- ==== Sys2Proof/Machine/Sync.lean ====
section
/-! DEFINITION. Synchronisation objects (10, R484-R517): signals, waits, barriers, body entry, clears. -/

set_option autoImplicit false

namespace Sys2Proof.Machine

open Sys2Proof

/-- An ID names an event counter (R484). -/
def isCounter (id : Nat) : Bool := decide (1 ≤ id ∧ id ≤ 0x3FFF)

/-- An ID names a barrier (R484). -/
def isBarrier (id : Nat) : Bool := decide (0x010000 ≤ id ∧ id ≤ 0x0100FF)

/-- An ID that R484 reserves; 0 names none and is not reserved. -/
def idReserved (id : Nat) : Bool := decide (id ≠ 0) && !isCounter id && !isBarrier id

/-- Home die of an object (R484). -/
def syncHome (id : Nat) : Nat := if isBarrier id then id % 256 / 128 else id / 0x2000

/-- The declaration of an object in the loaded table (R489). -/
def SyncUnit.decl (u : SyncUnit) (id : Nat) : Option SyncDecl := u.decls.find? fun d => d.id == id

/-- A counter's count. -/
def SyncUnit.cnt (u : SyncUnit) (id : Nat) : Nat := tabGet 0 id u.count
/-- A counter's BASE. -/
def SyncUnit.bas (u : SyncUnit) (id : Nat) : Nat := tabGet 0 id u.base
/-- A barrier. -/
def SyncUnit.bar (u : SyncUnit) (id : Nat) : Barrier := tabGet Barrier.reset id u.bars
/-- A counter's count set. -/
def SyncUnit.setCnt (u : SyncUnit) (id v : Nat) : SyncUnit := { u with count := tabSet 0 id v u.count }
/-- A counter's BASE set. -/
def SyncUnit.setBas (u : SyncUnit) (id v : Nat) : SyncUnit := { u with base := tabSet 0 id v u.base }
/-- A barrier set. -/
def SyncUnit.setBar (u : SyncUnit) (id : Nat) (v : Barrier) : SyncUnit :=
  { u with bars := tabSet Barrier.reset id v u.bars }

/-- SYNC_NET: the sum of the counts of every counter (R514). -/
def SyncUnit.net (u : SyncUnit) : Nat := (u.count.map (·.2)).foldl (· + ·) 0

/-- SYNC_INFLIGHT: counts issued and not applied (R514). -/
def SyncUnit.inflightSum (u : SyncUnit) : Nat := (u.inflight.map (·.count)).foldl (· + ·) 0

/-- The source of an error of the unit (R517). -/
def SyncSrc.err : SyncSrc → ErrSrc
  | .engine e => .engine e
  | .host => .arbiter 34

/-- An error of the unit that names an object (R517). -/
def State.raiseObj (s : State) (e : Err) (src : ErrSrc) (obj : Nat) (d0 : Nat := 0) (d1 : Nat := 0) : State :=
  s.raiseRec e e.severity src (some obj) none d0 d1

/-- A signal issued: it is presented to the unit and in flight (R496, R514). -/
def State.sendSignal (s : State) (src : SyncSrc) (obj count : Nat) : State :=
  { s with sync := { s.sync with
      issued := s.sync.issued + count, inflight := s.sync.inflight ++ [⟨obj, count, src, true⟩] } }

/-- Counts lost (R514). -/
def State.syncLose (s : State) (n : Nat) : State := { s with sync := { s.sync with lost := s.sync.lost + n } }

/-- Value a wait is tested against: a counter's count or a barrier's GEN (R493, R501). -/
def SyncUnit.level (u : SyncUnit) (id : Nat) : Nat := if isBarrier id then (u.bar id).gen else u.cnt id

/-- A registered wait on an object whose threshold is met. -/
def waitMet (level obj : Nat) (w : SyncWait) : Bool :=
  w.state == .registered && decide (w.obj = obj) && decide (w.thr ≤ level)

/-- The waits of an object tested in a cycle (R494): the consuming wait first, then the others against the count before
the consumption. -/
def SyncUnit.test (u : SyncUnit) (obj : Nat) : SyncUnit :=
  let lv := u.level obj
  let took := u.waits.find? fun w => waitMet lv obj w && w.consume
  let u := { u with waits := u.waits.map fun w => if waitMet lv obj w then { w with state := .satisfied } else w }
  match took with
  | some w => { u.setCnt obj (u.cnt obj - w.thr) with consumed := u.consumed + w.thr }
  | none => u

/-- The largest ARRIVALS (R501). -/
def maxArrivals : Nat := 4095
/-- The largest count and GEN (R492, R501). -/
def maxCount : Nat := 0xFFFFFFFF

/-- The conditions under which the module reports generation GEN + 1 of a job barrier (R503). -/
def SyncUnit.reportReady (u : SyncUnit) (d : SyncDecl) : Bool :=
  let b := u.bar d.id
  d.kind == 2 && decide (d.members ≤ b.arrivals) && decide (b.children &&& u.barChildren = u.barChildren) && !b.reported

/-- A release of generation g sets GEN; reports for the next one start afresh (R503). -/
def Barrier.release (b : Barrier) (g : Nat) : Barrier := { b with gen := min g maxCount, reported := false, children := 0 }

/-- Module barriers release as often as ARRIVALS allows (R502). -/
def Barrier.moduleRelease (b : Barrier) (members : Nat) : Barrier :=
  let n := b.arrivals / members
  { b with arrivals := b.arrivals - members * n, gen := min (b.gen + n) maxCount }

/-- An arrival counted; second: whether ARRIVALS saturated (R501). -/
def SyncUnit.arrive (u : SyncUnit) (id : Nat) : SyncUnit × Bool :=
  let b := u.bar id
  ({ u.setBar id { b with arrivals := min (b.arrivals + 1) maxArrivals } with barrier := u.barrier + 1 },
    decide (maxArrivals < b.arrivals + 1))

/-- Counts added to a counter in one cycle: the excess over the maximum is lost and recorded once (R491, R492). `src` sent the last
of them. -/
def State.addCounter (s : State) (src : ErrSrc) (obj n : Nat) : State :=
  let v := s.sync.cnt obj + n
  let s := { s with sync := s.sync.setCnt obj (min v maxCount) }
  let s := if maxCount < v then (s.syncLose (v - maxCount)).raiseObj .ERR_SYNC_SATURATE src obj (v - maxCount) else s
  { s with sync := s.sync.test obj }

/-- One arrival at a barrier; a signal of another count changes nothing (R501). -/
def State.arriveOne (s : State) (m : SigMsg) : State :=
  if m.count ≠ 1 then (s.syncLose m.count).raiseObj .ERR_SYNC_BAR_ARRIVE m.src.err m.obj
  else
    let (u, sat) := s.sync.arrive m.obj
    let s := { s with sync := u }
    if sat then s.raiseObj .ERR_SYNC_SATURATE m.src.err m.obj else s

/-- A module barrier after the arrivals of a cycle: it releases as often as they allow, and its waits are tested (R501, R502). -/
def State.barrierCycle (s : State) (src : ErrSrc) (d : SyncDecl) : State :=
  let b := s.sync.bar d.id
  let s' := { s with sync := (s.sync.setBar d.id (b.moduleRelease d.members)).test d.id }
  if maxCount < b.gen + b.arrivals / d.members then s'.raiseObj .ERR_SYNC_SATURATE src d.id else s'

/-- Signals that the unit refuses: each is lost and recorded (R485, R489). -/
def State.refuseSignals (s : State) (e : Err) (obj : Nat) (ms : List SigMsg) : State :=
  ms.foldl (fun (s : State) (m : SigMsg) => (s.syncLose m.count).raiseObj e m.src.err obj) s

/-- Who sent the last of a cycle's signals: the source of the one record of a saturation (R492). -/
def lastSource (obj : Nat) (ms : List SigMsg) : ErrSrc :=
  match ms.getLast? with
  | some m => m.src.err
  | none => .die (syncHome obj)

/-- The signals of one cycle reach their one object (R485, R489, R491, R492, R494, R501, R502); with the job barrier at which they
arrived. -/
def State.applyCycle (s : State) (obj : Nat) (ms : List SigMsg) : State × Option SyncDecl :=
  if idReserved obj then (s.refuseSignals .ERR_SYNC_ID obj ms, none)
  else
    match s.sync.decl obj with
    | none => (s.refuseSignals .ERR_SYNC_UNDECLARED obj ms, none)
    | some d =>
      if d.kind = 0 then (s.addCounter (lastSource obj ms) obj ((ms.map (·.count)).foldl (· + ·) 0), none)
      else
        let s' := ms.foldl State.arriveOne s
        if d.kind = 1 then (s'.barrierCycle (lastSource obj ms) d, none) else (s', some d)

/-- A wait sent toward its object (R493, R497). -/
def State.sendWait (s : State) (engine slot record obj thr : Nat) (consume : Bool) (tmo : Nat) : State :=
  { s with sync := { s.sync with
      waits := s.sync.waits ++ [⟨engine, slot, record, obj, thr, consume, tmo, .sent, true⟩] } }

/-- The error with which the unit refuses a wait (R485, R489, R495, R501). -/
def SyncUnit.waitRefusal (u : SyncUnit) (w : SyncWait) : Option Err :=
  if idReserved w.obj then some .ERR_SYNC_ID
  else
    match u.decl w.obj with
    | none => some .ERR_SYNC_UNDECLARED
    | some d => if w.consume && (d.kind ≠ 0 || d.consumer ≠ w.engine) then some .ERR_SYNC_CONSUMER else none

/-- The wait of an engine. -/
def SyncUnit.waitOf (u : SyncUnit) (e : Nat) : Option SyncWait := u.waits.find? fun w => w.engine == e

/-- The unit without an engine's wait. -/
def SyncUnit.dropWait (u : SyncUnit) (e : Nat) : SyncUnit := { u with waits := dropFirst (fun w => w.engine == e) u.waits }

/-- An engine's wait in another state. -/
def SyncUnit.setWaitState (u : SyncUnit) (e : Nat) (st : WaitState) : SyncUnit :=
  { u with waits := u.waits.map fun w => if w.engine == e then { w with state := st } else w }

/-- A clear of the unit (R513). -/
def State.syncClear (s : State) : State := { s with sync := SyncUnit.reset }

/-- One object out of balance recorded (R510). -/
def State.unbalanced (s : State) (sev id v : Nat) : State :=
  s.raiseRec .ERR_SYNC_UNBALANCED sev (.die (syncHome id)) (some id) none v 0

/-- The comparison of R510 and R511: each declared counter against its BASE, every barrier's ARRIVALS against 0, by ID. -/
def State.syncCheckBalance (s : State) (sev : Nat) : State :=
  let s := s.sync.decls.foldl (fun (s : State) (d : SyncDecl) =>
    if d.kind = 0 ∧ s.sync.cnt d.id ≠ s.sync.bas d.id then s.unbalanced sev d.id (s.sync.cnt d.id) else s) s
  s.sync.bars.foldl (fun (s : State) (q : Nat × Barrier) => if q.2.arrivals ≠ 0 then s.unbalanced sev q.1 q.2.arrivals else s) s

/-- One declared counter restored (R510). -/
def SyncUnit.restore (u : SyncUnit) (d : SyncDecl) : SyncUnit :=
  if d.kind = 0 then
    { u.setCnt d.id (u.bas d.id) with cleared := u.cleared + ((u.cnt d.id : Int) - (u.bas d.id : Int)) }
  else u

/-- Every declared counter at its BASE, every barrier's ARRIVALS and GEN at 0 (R510). -/
def SyncUnit.restoreAll (u : SyncUnit) : SyncUnit := { u.decls.foldl SyncUnit.restore u with bars := [] }

end Sys2Proof.Machine
end

