-- ==== Sys2Proof/Machine/VectorA.lean ====
section
/-! DEFINITION. The A slot (R308-R318, R326): what each instruction delivers per element, per row and per register. -/

set_option autoImplicit false

namespace Sys2Proof.Machine

open Sys2Proof

/-! ### Floating-point elements -/

/-- Addition (R309). -/
def elFadd (f : Fmt) (m : Rnd) (a b : Nat) : Nat × FlagSet := f.finish m 0 (numAdd m (f.decode a) (f.decode b))
/-- Subtraction (R309); the sign of a NaN operand is not looked at. -/
def elFsub (f : Fmt) (m : Rnd) (a b : Nat) : Nat × FlagSet :=
  f.finish m 0 (numAdd m (f.decode a) (numNeg (f.decode b)))
/-- Multiplication (R309). -/
def elFmul (f : Fmt) (m : Rnd) (a b : Nat) : Nat × FlagSet := f.finish m 0 (numMul (f.decode a) (f.decode b))
/-- a × b + c, one rounding (R309). -/
def elFma (f : Fmt) (m : Rnd) (a b c : Nat) : Nat × FlagSet :=
  f.finish m 0 (numFma m (f.decode a) (f.decode b) (f.decode c))
/-- −(a × b) + c, one rounding (R309). -/
def elFnma (f : Fmt) (m : Rnd) (a b c : Nat) : Nat × FlagSet :=
  f.finish m 0 (numFma m (numNeg (f.decode a)) (f.decode b) (f.decode c))

/-- Sign bit of an element. -/
def Fmt.signOf (f : Fmt) (a : Nat) : Bool := bitOf a (f.t + f.w)
/-- Magnitude bits of an element. -/
def Fmt.magOf (f : Fmt) (a : Nat) : Nat := a % 2 ^ (f.t + f.w)

/-- a below b with −0 below +0 (R311); operands not NaN. -/
def belowSigned (f : Fmt) (a b : Nat) : Bool :=
  numLt (f.decode a) (f.decode b) || (numEq (f.decode a) (f.decode b) && f.signOf a && !f.signOf b)

/-- IEEE 754-2019 minimum (R311). -/
def elFmin (f : Fmt) (a b : Nat) : Nat × FlagSet :=
  let l := [f.decode a, f.decode b]
  if anyNan l then (f.defaultNan, sigFlags l) else (if belowSigned f b a then b else a, fNone)
/-- IEEE 754-2019 maximum (R311). -/
def elFmax (f : Fmt) (a b : Nat) : Nat × FlagSet :=
  let l := [f.decode a, f.decode b]
  if anyNan l then (f.defaultNan, sigFlags l) else (if belowSigned f a b then b else a, fNone)

/-- |a| (R144). -/
def elFabs (f : Fmt) (a : Nat) : Nat × FlagSet := (f.magOf a, fNone)
/-- −a (R144). -/
def elFneg (f : Fmt) (a : Nat) : Nat × FlagSet := (f.signed (!f.signOf a) (f.magOf a), fNone)
/-- |a| with the sign of b (R144). -/
def elFcpys (f : Fmt) (a b : Nat) : Nat × FlagSet := (f.signed (f.signOf b) (f.magOf a), fNone)

/-- 1.0 as an exact value. -/
def exOne : Ex := ⟨false, 1, 0, false⟩

/-- |a| × 2^(−⌊log2 |a|⌋); 1.0 for zero, infinity and NaN (R312). -/
def mantOf (x : Num) : Ex :=
  match x with
  | .fin v => if exIsZero v then exOne else exShift { v with neg := false } (-(exLog2 v))
  | _ => exOne
/-- |a| × 2^(−2k) in [1, 4); 1.0 for zero, infinity and NaN (R312). -/
def mant2Of (x : Num) : Ex :=
  match x with
  | .fin v => if exIsZero v then exOne else exShift { v with neg := false } (-(exLog2 v - exLog2 v % 2))
  | _ => exOne
/-- FMANT (R312). -/
def elFmant (f : Fmt) (a : Nat) : Nat × FlagSet := ((f.deliver .rne 0 false (mantOf (f.decode a))).1, fNone)
/-- FMANT2 (R312). -/
def elFmant2 (f : Fmt) (a : Nat) : Nat × FlagSet := ((f.deliver .rne 0 false (mant2Of (f.decode a))).1, fNone)

/-- roundToIntegralExact in a mode (R313). -/
def elFrnd (f : Fmt) (m : Rnd) (a : Nat) : Nat × FlagSet :=
  match f.decode a with
  | .nan s p g => (f.defaultNan, sigFlags [.nan s p g])
  | .inf _ => (a, fNone)
  | .fin x =>
    let (n, ix) := roundAt m 0 x 0
    ((f.deliver .rne 0 false ⟨x.neg, n, 0, false⟩).1, flagIf ix fIX)

/-- a × 2ⁿ rounded once (R313). -/
def elFscale (f : Fmt) (m : Rnd) (a : Nat) (n : Int) : Nat × FlagSet :=
  let x := f.decode a
  match x with
  | .fin v => f.finish m 0 (.fin (exShift v n), fNone)
  | y => f.finish m 0 (y, sigFlags [x])

/-- |v − 1| ≥ 2^(−k), v exact (R326). -/
def farFromOne (v : Ex) (k : Int) : Bool :=
  let d := exAdd .rne v (exNeg exOne)
  !exLt { d with neg := false } (exShift exOne (-k))

/-- The exponent of the bound of R326: 20 for FP32, 48 for FP64. -/
def finBound (f : Fmt) : Int := if f.t = 23 then 20 else 48

/-- FDIV.FIN: x ÷ y with estimate r (R326); an infinity over zero sets DZ, the zero divisor being judged first. -/
def elFdivFin (f : Fmt) (m : Rnd) (x y r : Nat) : Nat × FlagSet :=
  let nx := f.decode x
  let ny := f.decode y
  match nx, ny with
  | .fin vx, .fin vy =>
    if exIsZero vx || exIsZero vy then f.finish m 0 (numDiv nx ny)
    else
      match f.decode r with
      | .fin vr =>
        if farFromOne (exMul vr (mantOf ny)) (finBound f) then (f.defaultNan, fNV)
        else f.finish m 0 (numDiv nx ny)
      | _ => (f.defaultNan, fNV)
  | .inf _, .fin vy =>
    let (b, fl) := f.finish m 0 (numDiv nx ny)
    (b, fl ||| flagIf (exIsZero vy) fDZ)
  | _, _ => f.finish m 0 (numDiv nx ny)

/-- FSQRT.FIN: √x with estimate r (R326). -/
def elFsqrtFin (f : Fmt) (m : Rnd) (x r : Nat) : Nat × FlagSet :=
  let nx := f.decode x
  match nx with
  | .fin vx =>
    if exIsZero vx || vx.neg then f.finish m 0 (numSqrt nx)
    else
      match f.decode r with
      | .fin vr =>
        if farFromOne (exMul (exMul vr vr) (mant2Of nx)) (finBound f) then (f.defaultNan, fNV)
        else f.finish m 0 (numSqrt nx)
      | _ => (f.defaultNan, fNV)
  | _ => f.finish m 0 (numSqrt nx)

/-! ### Integer elements -/

/-- Signed value of an INT32 element. -/
def i32 (a : Nat) : Int := toSigned 32 a
/-- IADD (R314). -/
def elIadd (sat : Bool) (a b : Nat) : Nat × FlagSet := fitInt 32 sat (i32 a + i32 b)
/-- ISUB (R314). -/
def elIsub (sat : Bool) (a b : Nat) : Nat × FlagSet := fitInt 32 sat (i32 a - i32 b)
/-- IMUL (R314). -/
def elImul (sat : Bool) (a b : Nat) : Nat × FlagSet := fitInt 32 sat (i32 a * i32 b)
/-- IMIN (R309). -/
def elImin (a b : Nat) : Nat × FlagSet := (if i32 b < i32 a then b else a, fNone)
/-- IMAX (R309). -/
def elImax (a b : Nat) : Nat × FlagSet := (if i32 a < i32 b then b else a, fNone)
/-- SHL by b mod 32 (R309). -/
def elShl (a b : Nat) : Nat × FlagSet := (a * 2 ^ (b % 32) % 2 ^ 32, fNone)
/-- SHR by b mod 32, logical (R309). -/
def elShr (a b : Nat) : Nat × FlagSet := (a / 2 ^ (b % 32), fNone)
/-- SRA by b mod 32, arithmetic (R309). -/
def elSra (a b : Nat) : Nat × FlagSet := (ofSigned 32 (i32 a / 2 ^ (b % 32)), fNone)

/-! ### Element operations by opcode -/

/-- Rounding mode of an A-slot word. -/
def aRnd (w : Nat) : Rnd := (Rnd.ofCode (fieldOf w fRND)).getD .rne

/-- Format of an A-slot word's type. -/
def aFmt (w : Nat) : Fmt := (aType w).fmt.getD fmt32

/-- One element of an element-wise A-slot instruction (R309): operands a, b, c and the scale n of FSCALE. -/
def aElement (w a b c : Nat) (n : Int) : Nat × FlagSet :=
  let f := aFmt w
  let m := aRnd w
  let ovf := bitOf w 2
  match bitsOf w 41 36 with
  | 0x01 => elFadd f m a b
  | 0x02 => elFsub f m a b
  | 0x03 => elFmul f m a b
  | 0x04 => elFma f m a b c
  | 0x05 => elFnma f m a b c
  | 0x06 => elFmin f a b
  | 0x07 => elFmax f a b
  | 0x08 => elFabs f a
  | 0x09 => elFneg f a
  | 0x0A => elFcpys f a b
  | 0x0B => elFmant f a
  | 0x0C => elFmant2 f a
  | 0x0D => elFrnd f m a
  | 0x0E => elFscale f m a n
  | 0x0F => elFdivFin f m a b c
  | 0x10 => elFsqrtFin f m a b
  | 0x11 => (a, fNone)
  | 0x18 => elIadd ovf a b
  | 0x19 => elIsub ovf a b
  | 0x1A => elImul ovf a b
  | 0x1B => elImin a b
  | 0x1C => elImax a b
  | 0x1D => (a &&& b, fNone)
  | 0x1E => (a ||| b, fNone)
  | 0x1F => (a ^^^ b, fNone)
  | 0x20 => elShl a b
  | 0x21 => elShr a b
  | 0x22 => elSra a b
  | _ => (0, fNone)

/-- Three operand lists side by side. -/
def zip3 (a b c : List Nat) : List (Nat × Nat × Nat) := a.zip (b.zip c)

/-- An element-wise instruction on whole registers under its predicate and mask mode (R243, R304). -/
def aElementwise (x : Tile) (w : Nat) : VeOut :=
  let v := aView w
  let n := toSigned 32 (x.sr (fieldOf w fTB)).toNat
  let es := (zip3 (operandA x w) (operandB x w) (operandC x w)).map fun q => aElement w q.1 q.2.1 q.2.2 n
  let td := fieldOf w fTD
  let (r, fl) := maskElems v (x.pr (fieldOf w fPR)) (bitOf w 6) (v.elems (x.tr td)) es
  { VeOut.none with t := [(td, v.reg r)], flags := fl }

/-- SEL: a where PR is 1, b where PR is 0 (R316). -/
def aSelect (x : Tile) (w : Nat) : VeOut :=
  let v := aView w
  let p := x.pr (fieldOf w fPR)
  let r := ((operandA x w).zip (operandB x w)).zipIdx.map fun q => if v.governed p q.2 then q.1.1 else q.1.2
  { VeOut.none with t := [(fieldOf w fTD, v.reg r)] }

/-! ### Comparisons -/

/-- One comparison: whether it holds, and its flags (R315). -/
def aCompareElem (w a b : Nat) : Bool × FlagSet :=
  let f := aFmt w
  let x := f.decode a
  let y := f.decode b
  let nan := anyNan [x, y]
  match bitsOf w 41 36 with
  | 0x28 => (numEq x y, sigFlags [x, y])
  | 0x29 => (numLt x y, flagIf nan fNV)
  | 0x2A => (numLt x y || numEq x y, flagIf nan fNV)
  | 0x2B => (nan, sigFlags [x, y])
  | 0x2C => (decide (a = b), fNone)
  | 0x2D => (decide (i32 a < i32 b), fNone)
  | _ => (false, fNone)

/-- Elements whose predicate bit is 1 that stand in word e (R242, R315). -/
def wordElems (v : View) (e : Nat) : List Nat :=
  match v with
  | .w32 => [e]
  | .p16 => [2 * e, 2 * e + 1]
  | .w64 => [e / 2]

/-- A comparison into a predicate (R315): bit e holds for word e; under P16 for both halves, under W64 both bits of an
element; governed by PR and MM like any element (R243, R304). -/
def aCompare (x : Tile) (w : Nat) : VeOut :=
  let v := aView w
  let p := x.pr (fieldOf w fPR)
  let pd := bitsOf w 29 27
  let old := x.pr pd
  let rs := ((operandA x w).zip (operandB x w)).map fun q => aCompareElem w q.1 q.2
  let fl := flagsOr (rs.zipIdx.map fun q => if v.governed p q.2 then q.1.2 else fNone)
  let bit := fun e =>
    let gov := match v with | .w64 => p.getLsbD (e - e % 2) | _ => p.getLsbD e
    if gov then (wordElems v e).all fun i => (rs.getD i (false, fNone)).1
    else if bitOf w 6 then false else old.getLsbD e
  let r := (List.range 1024).map fun e => b2n (bit e)
  { VeOut.none with p := [(pd, BitVec.ofNat 1024 (joinBits 1 r))], flags := fl }

/-! ### Row operations -/

/-- The rows of a register's elements under a view. -/
def View.rows (v : View) (l : List Nat) : List (List Nat) := chunksOf v.cols 32 l

/-- Elements of a row with whether the predicate governs each. -/
def governedRows (v : View) (p : BitVec 1024) (l : List Nat) : List (List Nat) :=
  (v.rows l).zipIdx.map fun r =>
    (r.1.zipIdx.filter fun e => v.governed p (r.2 * v.cols + e.2)).map (·.1)

/-- Maximum or minimum of the governed elements of a row (R311, R317). -/
def rowExtreme (ty : ElemType) (mx : Bool) (l : List Nat) : Nat × FlagSet :=
  match ty.fmt with
  | some f =>
    let unit := f.signed mx (f.inf.getD f.maxFin)
    l.foldl (fun acc e =>
      let (r, g) := if mx then elFmax f acc.1 e else elFmin f acc.1 e
      (r, acc.2 ||| g)) (unit, fNone)
  | none =>
    let unit := ofSigned 32 (if mx then intMin 32 else intMax 32)
    (l.foldl (fun acc e => if mx then (elImax acc e).1 else (elImin acc e).1) unit, fNone)

/-- A row in which some element is governed in and every such element is −infinity (R372). -/
def rowAllMinusInf (f : Fmt) (l : List Nat) : Bool :=
  !l.isEmpty && l.all fun e => match f.decode e with | .inf s => s | _ => false

/-- RMAX and RMIN (R317, R372): every element of every row. -/
def aRowExtreme (x : Tile) (w : Nat) : VeOut :=
  let v := aView w
  let ty := aType w
  let mx := decide (bitsOf w 41 36 = 0x30)
  let rows := governedRows v (x.pr (fieldOf w fPR)) (operandA x w)
  let rs := rows.map (rowExtreme ty mx)
  let empty := mx && match ty.fmt with | some f => rows.any (rowAllMinusInf f) | none => false
  { VeOut.none with
    t := [(fieldOf w fTD, v.reg (rs.flatMap fun r => List.replicate v.cols r.1))]
    flags := flagsOr (rs.map (·.2)) ||| flagIf empty fEMPTY }

/-- BCOL (R317): a column, or under P16 a word, across each row; governed by PR and MM. -/
def aBroadcastCol (x : Tile) (w : Nat) : VeOut :=
  let v := aView w
  let col := fieldOf w fTC
  let td := fieldOf w fTD
  let es := (v.rows (operandA x w)).flatMap fun r =>
    (List.range v.cols).map fun c =>
      (r.getD (match v with | .p16 => 2 * col + c % 2 | _ => col) 0, fNone)
  let (r, fl) := maskElems v (x.pr (fieldOf w fPR)) (bitOf w 6) (v.elems (x.tr td)) es
  { VeOut.none with t := [(td, v.reg r)], flags := fl }

/-- The term an element contributes to a row reduction (R318). -/
def redTerm (op : Nat) (a b : Num) : Num × FlagSet :=
  match op with
  | 0x35 => squareTerm a
  | 0x36 => csqTerm a b
  | _ => elemTerm a

/-- One row's update or updates of its wide accumulator (R244): 32 elements at a time. -/
def redRow (v : Acc) (lost : Bool) (updates : List (List (Num × FlagSet))) : Acc × Bool × FlagSet :=
  updates.foldl (fun st u =>
    let o := cubeStep st.1 (u.map (·.1))
    (o.acc, st.2.1 || o.lost, st.2.2 ||| flagsOr (u.map (·.2)) ||| o.flags)) (v, lost, fNone)

/-- RED.ADD, RED.SQ, RED.CSQ (R318): governed elements contribute; B is a tile register (WD stands in place of BS). -/
def aReduce (x : Tile) (w : Nat) : VeOut :=
  let v := aView w
  let f := aFmt w
  let op := bitsOf w 41 36
  let wd := fieldOf w fBS
  let p := x.pr (fieldOf w fPR)
  let bs := if op = 0x36 then v.elems (x.tr (fieldOf w fTB)) else List.replicate v.count 0
  let pairs := ((operandA x w).zip bs).zipIdx
  let rows := chunksOf v.cols 32 pairs
  let rs := rows.zipIdx.map fun r =>
    let ups := (chunksOf 32 (if v.cols = 64 then 2 else 1) r.1).map fun u =>
      (u.filter fun e => v.governed p e.2).map fun e => redTerm op (f.decode e.1.1) (f.decode e.1.2)
    redRow (x.wr wd r.2) (x.wLostAt wd r.2) ups
  { VeOut.none with
    w := [(wd, rs.map fun r => (r.1, r.2.1))]
    flags := flagsOr (rs.map fun r => r.2.2) }

/-- RED.GET (R318): one column from the rounded rows, governed by PR and MM. -/
def aRedGet (x : Tile) (w : Nat) : VeOut :=
  let v := aView w
  let f := aFmt w
  let col := fieldOf w fTC
  let td := fieldOf w fTD
  let wd := fieldOf w fBS
  let p := x.pr (fieldOf w fPR)
  let old := v.rows (v.elems (x.tr td))
  let rs := old.zipIdx.map fun r =>
    if v.governed p (r.2 * v.cols + col) then
      let (b, fl) := accRound f (aRnd w) 0 false 0 (x.wr wd r.2)
      (setAt r.1 col b, fl ||| flagIf (x.wLostAt wd r.2) fIX)
    else (if bitOf w 6 then setAt r.1 col 0 else r.1, fNone)
  { VeOut.none with t := [(td, v.reg (rs.flatMap (·.1)))], flags := flagsOr (rs.map (·.2)) }

/-- RED.CLR: wD = +0, lost marks cleared (R309, R318). -/
def aRedClr (w : Nat) : VeOut :=
  { VeOut.none with w := [(fieldOf w fBS, List.replicate 32 (0, false))] }

/-- What an A-slot word other than CVT delivers (R309). -/
def aResult (x : Tile) (w : Nat) : VeOut :=
  match bitsOf w 41 36 with
  | 0x00 => VeOut.none
  | 0x12 => aSelect x w
  | 0x28 | 0x29 | 0x2A | 0x2B | 0x2C | 0x2D => aCompare x w
  | 0x30 | 0x31 => aRowExtreme x w
  | 0x32 => aBroadcastCol x w
  | 0x34 | 0x35 | 0x36 => aReduce x w
  | 0x37 => aRedGet x w
  | 0x38 => aRedClr w
  | _ => aElementwise x w

end Sys2Proof.Machine
end

