-- ==== Sys2Proof/Machine/VectorC.lean ====
section
/-! DEFINITION. The C slot's scalar, address and predicate operations, branches, and the fields of its commands
(R336-R342). -/

set_option autoImplicit false

namespace Sys2Proof.Machine

open Sys2Proof

/-- Signed value of 64 bits. -/
def i64 (a : Nat) : Int := toSigned 64 a

/-- SALU's 64-bit result for SOP 0 to 13, with flags (R338, R339). -/
def saluOp (sop : Nat) (sat : Bool) (a b : Nat) : Nat × FlagSet :=
  match sop with
  | 0 => fitInt 64 sat (i64 a + i64 b)
  | 1 => fitInt 64 sat (i64 a - i64 b)
  | 2 => fitInt 64 sat (i64 a * i64 b)
  | 3 => (a &&& b, fNone)
  | 4 => (a ||| b, fNone)
  | 5 => (a ^^^ b, fNone)
  | 6 => (a * 2 ^ (b % 64) % 2 ^ 64, fNone)
  | 7 => (a / 2 ^ (b % 64), fNone)
  | 8 => (ofSigned 64 (i64 a / 2 ^ (b % 64)), fNone)
  | 9 => (if i64 b < i64 a then b else a, fNone)
  | 10 => (if i64 a < i64 b then b else a, fNone)
  | 11 => (b2n (decide (a = b)), fNone)
  | 12 => (b2n (decide (i64 a < i64 b)), fNone)
  | 13 => (b2n (decide (a < b)), fNone)
  | _ => (0, fNone)

/-- SALU (R338): a scalar result, or an address register for SOP 14 and 15. -/
def cSalu (x : Tile) (w : Nat) : VeOut :=
  let sop := bitsOf w 26 22
  let d := bitsOf w 21 17
  let a := (x.sr (bitsOf w 16 12)).toNat
  let b := (x.sr (bitsOf w 11 7)).toNat
  match sop with
  | 14 => { VeOut.none with a := [(d, BitVec.ofNat 48 a)] }
  | 15 => { VeOut.none with a := [(d, BitVec.ofNat 48 ((x.ar (bitsOf w 16 12)).toNat + b))] }
  | _ => let (r, f) := saluOp sop (bitOf w 6) a b
         { VeOut.none with s := [(d, BitVec.ofNat 64 r)], flags := f }

/-- SIMM (R340); ADDI wraps and sets IOV where the exact sum does not fit (R124). -/
def cSimm (x : Tile) (w : Nat) : VeOut :=
  let d := bitsOf w 24 20
  let imm := bitsOf w 19 0
  let s := (x.sr d).toNat
  let (r, f) := match bitsOf w 26 25 with
    | 0 => (ofSigned 64 (toSigned 20 imm), fNone)
    | 1 => fitInt 64 false (i64 s + toSigned 20 imm)
    | 2 => (s * 2 ^ 16 % 2 ^ 64 + imm % 2 ^ 16, fNone)
    | _ => ((x.ar (imm % 16)).toNat, fNone)
  { VeOut.none with s := [(d, BitVec.ofNat 64 r)], flags := f }

/-- The mask of POP 5: bit 32i + j for i below R and j below C, each clamped to 32 (R341). -/
def maskPred (r c : Nat) : BitVec 1024 :=
  let c := min c 32
  let row := 2 ^ c - 1
  BitVec.ofNat 1024 (joinBits 32 (List.replicate (min r 32) row))

/-- PRED (R341). -/
def cPred (x : Tile) (w : Nat) : VeOut :=
  let a := x.pr (bitsOf w 20 18)
  let b := x.pr (bitsOf w 17 15)
  let s := (x.sr (bitsOf w 14 10)).toNat
  let r := match bitsOf w 26 24 with
    | 0 => a &&& b
    | 1 => a ||| b
    | 2 => a ^^^ b
    | 3 => a &&& ~~~b
    | 4 => ~~~a
    | _ => maskPred (bitsOf s 5 0) (bitsOf s 13 8)
  { VeOut.none with p := [(bitsOf w 23 21, r)] }

/-- The condition of BR holds (R342). -/
def branchTaken (x : Tile) (w : Nat) : Bool :=
  let a := (x.sr (bitsOf w 24 20)).toNat
  match bitsOf w 26 25 with
  | 0 => true
  | 1 => decide (a = 0)
  | 2 => decide (a ≠ 0)
  | _ => decide (i64 a < 0)

/-- The object operand of SYNC.SIG and SYNC.WAIT (R344). -/
def soOf (x : Tile) (w : Nat) : Nat := (x.sr (bitsOf w 26 22)).toNat

/-- The Caldera or Vent command of a C-slot word, with the registers it reads in its issue cycle (R197, R336, R337). -/
def calOf (x : Tile) (w : Nat) : Option CalCmd :=
  let sreg := fun n => (x.sr n).toNat
  let areg := fun n => (x.ar n).toNat
  match bitsOf w 31 27 with
  | 0x10 =>
    some (CalCmd.wload (bitsOf w 26 26) (bitsOf w 25 22) (bitsOf w 21 17) (bitOf w 16) (areg (bitsOf w 15 12))
      (areg (bitsOf w 11 8)) (sreg (bitsOf w 7 3)))
  | 0x11 =>
    some (CalCmd.mm (bitsOf w 26 25) (bitsOf w 24 24) (bitsOf w 23 20) (bitsOf w 19 15) (bitOf w 14) (bitOf w 13)
      (areg (bitsOf w 12 9)) (areg (bitsOf w 8 5)) (sreg (bitsOf w 4 0)))
  | 0x12 =>
    some (CalCmd.accload (bitsOf w 26 25) (bitsOf w 24 22) (bitsOf w 21 17) (areg (bitsOf w 16 13)))
  | 0x13 =>
    some (CalCmd.drain (bitsOf w 26 25) (bitsOf w 24 22) (bitsOf w 21 19) (bitOf w 18) (bitOf w 17)
      (areg (bitsOf w 16 13)) (sreg (bitsOf w 12 8)) (sreg (bitsOf w 7 3)))
  | 0x14 =>
    some (CalCmd.vent (bitsOf w 26 25) (bitsOf w 24 20) (bitsOf w 19 16) (bitsOf w 15 11) (bitOf w 10)
      (sreg (bitsOf w 9 5)))
  | _ => none

/-- The unit that executes a command (R199). -/
def CalCmd.unit : CalCmd → CalUnit
  | .wload .. => .weight
  | .mm .. => .feed
  | .accload .. => .port
  | .drain .. => .port
  | .vent .. => .vent

/-- The bank a command names. -/
def CalCmd.bank : CalCmd → Option Nat
  | .wload .. => none
  | .mm b .. => some b
  | .accload b .. => some b
  | .drain b .. => some b
  | .vent b .. => some b

/-- The tile register a command reads after it issues (R265). -/
def CalCmd.reads : CalCmd → Option Nat
  | .accload _ f t _ => if f = 0 ∨ f = 4 then some t else none
  | .vent _ v .. => some v
  | _ => none

/-- What a C-slot word delivers into registers, FLAGS.RD apart. -/
def cResult (x : Tile) (w : Nat) : VeOut :=
  match bitsOf w 31 27 with
  | 0x03 => cSalu x w
  | 0x04 => cSimm x w
  | 0x05 => cPred x w
  | _ => VeOut.none

end Sys2Proof.Machine
end

