-- ==== Sys2Proof/Machine/Seed.lean ====
section
/-! DEFINITION. The seed unit (R351-R358): its tables, formed from the functions they tabulate in fixed point with 200
fraction bits, far beyond the 32 significant bits of an entry, and the seed of an argument. -/

set_option autoImplicit false

namespace Sys2Proof.Machine

open Sys2Proof

/-! ### Fixed-point values of the functions -/

/-- Fraction bits of the fixed-point values from which table entries are rounded. -/
def fxBits : Nat := 200

/-- 1 in fixed point. -/
def fxOne : Int := 2 ^ fxBits

/-- Product in fixed point. -/
def fxMul (a b : Int) : Int := a * b / 2 ^ fxBits

/-- Quotient in fixed point. -/
def fxDiv (a b : Int) : Int := a * 2 ^ fxBits / b

/-- Σ xᵏ/k! from term k on; `term` is the term before it. -/
def fxExpSum (x : Int) : Nat → Int → Int → Int
  | 0, _, _ => 0
  | n + 1, k, term => let t := fxMul term x / k; t + fxExpSum x n (k + 1) t

/-- e^x for |x| ≤ 1. -/
def fxExpSmall (x : Int) : Int := fxOne + fxExpSum x 60 1 fxOne

/-- Σ z^(2k+1)/(2k+1) from power z^j on. -/
def fxAtanhSum (z2 : Int) : Nat → Int → Int → Int
  | 0, _, _ => 0
  | n + 1, j, p => p / j + fxAtanhSum z2 n (j + 2) (fxMul p z2)

/-- ln v for v in [1, 2]: 2·artanh((v − 1)/(v + 1)). -/
def fxLn (v : Int) : Int :=
  let z := fxDiv (v - fxOne) (v + fxOne)
  2 * fxAtanhSum (fxMul z z) 90 1 z

/-- ln 2. -/
def fxLn2 : Int := fxLn (2 * fxOne)

/-- arctan(1/q) by its series. -/
def fxAtanInv (q : Int) : Nat → Int → Int → Int
  | 0, _, _ => 0
  | n + 1, j, p => p / j - fxAtanInv q n (j + 2) (p / (q * q))

/-- π = 16·arctan(1/5) − 4·arctan(1/239). -/
def fxPi : Int := 16 * fxAtanInv 5 100 1 (fxOne / 5) - 4 * fxAtanInv 239 60 1 (fxOne / 239)

/-- e^x for |x| up to 64. -/
def fxExp (x : Int) : Int :=
  let n := x / fxLn2
  let r := fxExpSmall (x - n * fxLn2)
  if 0 ≤ n then r * 2 ^ n.toNat else r / 2 ^ (-n).toNat

/-- tanh x = (e^(2x) − 1) ÷ (e^(2x) + 1). -/
def fxTanh (x : Int) : Int := let e := fxExp (2 * x); fxDiv (e - fxOne) (e + fxOne)

/-- σ(x) = 1 ÷ (1 + e^(−x)). -/
def fxSigmoid (x : Int) : Int := fxDiv fxOne (fxOne + fxExp (-x))

/-- 2/√π. -/
def fxTwoOverRootPi : Int := fxDiv (2 * fxOne) (isqrt (fxPi.toNat * 2 ^ fxBits) : Nat)

/-- Σ (−1)ᵏ x^(2k+1)/(k! (2k+1)) from term k on; `p` holds x^(2k+1)/k!. -/
def fxErfSum (x2 : Int) : Nat → Int → Int → Int
  | 0, _, _ => 0
  | n + 1, k, p => p / (2 * k + 1) - fxErfSum x2 n (k + 1) (fxMul p x2 / (k + 1))

/-- erf x for 0 ≤ x ≤ 4. -/
def fxErf (x : Int) : Int := fxMul fxTwoOverRootPi (fxErfSum (fxMul x x) 150 0 x)

/-- Σ (−1)ᵏ x^(2k+1)/(2k+1)! from term k on. -/
def fxSinSum (x2 : Int) : Nat → Int → Int → Int
  | 0, _, _ => 0
  | n + 1, k, p => p - fxSinSum x2 n (k + 1) (fxMul p x2 / ((2 * k + 2) * (2 * k + 3)))

/-- sin(πu/2) for 0 ≤ u ≤ 1. -/
def fxSinQuarter (u : Int) : Int := let x := fxMul fxPi u / 2; fxSinSum (fxMul x x) 50 0 x

/-! ### Table entries -/

/-- The tables of the seed unit (R356); SIGMOID has one for each sign. -/
inductive SeedTable where
  | rcp | rsq | exp2 | log2 | tanh | sigPos | sigNeg | erf | sin
deriving DecidableEq, Repr

/-- Whether a table's argument is a fraction of [0, 1), not of binades (R351). -/
def SeedTable.unit : SeedTable → Bool
  | .exp2 => true | .sin => true | _ => false

/-- The tabulated function at a fixed-point argument. -/
def SeedTable.value (k : SeedTable) (u : Int) : Int :=
  match k with
  | .rcp => fxDiv fxOne u
  | .rsq => fxDiv fxOne (isqrt (u.toNat * 2 ^ fxBits) : Nat)
  | .exp2 => fxExpSmall (fxMul u fxLn2)
  | .log2 => fxDiv (fxLn u) fxLn2
  | .tanh => fxTanh u
  | .sigPos => fxSigmoid u
  | .sigNeg => fxSigmoid (-u)
  | .erf => fxErf u
  | .sin => fxSinQuarter u

/-- The node at the start of segment i of the octave at 2^oct; i = 256 is its end (R351). -/
def SeedTable.node (k : SeedTable) (oct : Int) (i : Nat) : Int :=
  if k.unit then (i : Int) * 2 ^ (fxBits - 8)
  else ((256 + i : Nat) : Int) * 2 ^ ((fxBits : Int) - 8 + oct).toNat

/-- An exact value rounded to n significant bits. -/
def sigRound (m : Rnd) (n : Nat) (x : Ex) : Ex :=
  if x.man = 0 then x
  else
    let qe := exLog2 x - (n - 1 : Nat)
    ⟨x.neg, (roundAt m 0 x qe).1, qe, false⟩

/-- A fixed-point value as an exact one. -/
def fxToEx (v : Int) : Ex := ⟨decide (v < 0), v.natAbs, -(fxBits : Int), false⟩

/-- F_i: the function at the node, rounded under RNE to 32 significant bits (R352). -/
def SeedTable.entryF (k : SeedTable) (oct : Int) (i : Nat) : Ex := sigRound .rne 32 (fxToEx (k.value (k.node oct i)))

/-- D_i: F_(i+1) − F_i rounded toward zero to 18 significant bits (R352). -/
def SeedTable.entryD (k : SeedTable) (oct : Int) (i : Nat) : Ex :=
  sigRound .rtz 18 (exAdd .rne (k.entryF oct (i + 1)) (exNeg (k.entryF oct i)))

/-- F_i + D_i × t, exact, for segment i and t in units of 2⁻¹⁵ (R353); the end of the octave has no D. -/
def SeedTable.at (k : SeedTable) (oct : Int) (i t : Nat) : Ex :=
  if t = 0 then k.entryF oct i
  else exAdd .rne (k.entryF oct i) (exMul (k.entryD oct i) ⟨false, t, -15, false⟩)

/-- A fraction of [0, 1) in units of 2⁻²³: segment and t, truncated to 15 bits (R353). -/
def fracUnits (x : Ex) : Nat := (roundAt .rtz 0 x (-23)).1

/-- A table over [0, 1) at a fraction. -/
def SeedTable.atUnit (k : SeedTable) (u : Ex) : Ex := let n := fracUnits u; k.at 0 (n / 2 ^ 15) (n % 2 ^ 15)

/-- A binade table at a positive value: the octave is the value's own (R351). -/
def SeedTable.atBinade (k : SeedTable) (u : Ex) : Ex :=
  let e := exLog2 u
  let n := (roundAt .rtz 0 u (e - 23)).1 - 2 ^ 23
  k.at e (n / 2 ^ 15) (n % 2 ^ 15)

/-! ### Seeds -/

/-- A seed before its rounding: exact, an infinity, or the default NaN, with NV where it is invalid. -/
inductive SeedVal where
  | ex (v : Ex)
  | inf (neg : Bool)
  | nan (nv : Bool)
deriving DecidableEq, Repr

/-- ⌊x⌋. -/
def exFloor (x : Ex) : Int := (exToInt .rdn 0 x).1

/-- x − ⌊x⌋. -/
def exFrac (x : Ex) : Ex := exAdd .rne x (exInt (-(exFloor x)))

/-- EXP2 of a finite value: 2^u × 2ⁿ (R356). -/
def seedExp2 (x : Ex) : Ex := exShift (SeedTable.exp2.atUnit (exFrac x)) (exFloor x)

/-- 2/π to 96 bits (R358). -/
def twoOverPi96 : Ex :=
  let v := (fxDiv (2 * fxOne) fxPi).toNat / 2 ^ (fxBits - 96)
  ⟨false, if Config.twoOverPiUp then v + 1 else v, -96, false⟩

/-- |a|. -/
def exAbs (x : Ex) : Ex := { x with neg := false }

/-- 1 − u for u in [0, 1). -/
def oneMinus (u : Ex) : Ex := exAdd .rne exUnit (exNeg u)
where
  /-- 1 -/
  exUnit : Ex := ⟨false, 1, 0, false⟩

/-- sin |x| or cos |x| by quadrant (R358). -/
def seedQuadrant (cos : Bool) (x : Ex) : Ex :=
  let p := exMul (exAbs x) twoOverPi96
  let u := exFrac p
  let q := ((exFloor p + (if cos then 1 else 0)) % 4).toNat
  let s := SeedTable.sin
  let v := if q % 2 = 0 then s.atUnit u else s.atUnit (oneMinus u)
  if q < 2 then v else exNeg v

/-- The SIGMOID seed for |x| ≥ 4, from E (R357). -/
def sigmoidTail (neg : Bool) (e : Ex) : Ex :=
  let one : Ex := ⟨false, 1, 0, false⟩
  let v := exMul e (exAdd .rne (exAdd .rne one (exNeg e)) (exMul e e))
  if neg then v else exAdd .rne one (exNeg v)

/-- E of R357 for a finite argument: the EXP2 seed, an FP32 value, of −|x| × log2 e to 32 significant bits. -/
def sigmoidTailE (x : Ex) : Ex :=
  let p := sigRound (if Config.tailNearest then .rne else .rtz) 32 (exMul (exAbs x) (fxToEx (fxDiv fxOne fxLn2)))
  match fmt32.decode (fmt32.deliver .rne 0 false (seedExp2 (exNeg p))).1 with
  | .fin v => v
  | _ => exZero false

/-- |x| below 2^k. -/
def magBelow (x : Ex) (k : Int) : Bool := x.man = 0 || decide (exLog2 x < k)

/-- The sign of x on a value. -/
def withSign (x v : Ex) : Ex := { v with neg := x.neg }

/-- 1 with a sign. -/
def exOneSigned (neg : Bool) : Ex := ⟨neg, 1, 0, false⟩

/-- The significand of R312 or 1 for zero. -/
def seedMant (two : Bool) (x : Ex) : Ex :=
  if x.man = 0 then exOneSigned false
  else
    let e := exLog2 x
    exShift (exAbs x) (-(if two then e - e % 2 else e))

/-- The seed of a finite argument (R356). -/
def seedFin (fn : Nat) (x : Ex) : SeedVal :=
  match fn with
  | 0 => .ex (SeedTable.rcp.atBinade (seedMant false x))
  | 1 => .ex (SeedTable.rsq.atBinade (seedMant true x))
  | 2 => .ex (seedExp2 x)
  | 3 =>
    if x.man = 0 then .inf true
    else if x.neg then .nan true
    else .ex (exAdd .rne (SeedTable.log2.atBinade (seedMant false x)) (exInt (exLog2 x)))
  | 4 =>
    if magBelow x (-12) then .ex x
    else if magBelow x 4 then .ex (withSign x (SeedTable.tanh.atBinade (exAbs x)))
    else .ex (exOneSigned x.neg)
  | 5 =>
    if magBelow x (-12) then .ex (exAdd .rne ⟨false, 1, -1, false⟩ (exShift x (-2)))
    else if magBelow x 2 then .ex ((if x.neg then SeedTable.sigNeg else SeedTable.sigPos).atBinade (exAbs x))
    else .ex (sigmoidTail x.neg (sigmoidTailE x))
  | 6 =>
    if magBelow x (-12) then .ex (if x.man = 0 then x else exMul x (fxToEx fxTwoOverRootPi))
    else if magBelow x 2 then .ex (withSign x (SeedTable.erf.atBinade (exAbs x)))
    else .ex (exOneSigned x.neg)
  | 7 => let v := seedQuadrant false x; .ex (if x.neg then exNeg v else v)
  | _ => .ex (seedQuadrant true x)

/-- The seed of an infinite argument (R356). -/
def seedInf (fn : Nat) (neg : Bool) : SeedVal :=
  match fn with
  | 0 | 1 => seedFin fn (exZero false)
  | 2 => if neg then .ex (exZero false) else .inf false
  | 3 => if neg then .nan true else .inf false
  | 4 | 6 => .ex (exOneSigned neg)
  | 5 => .ex (sigmoidTail neg (exZero false))
  | _ => .nan true

/-- The seed of an argument, unrounded. A NaN gives the default NaN (R354), but u = 1 for RCPM and RSQM (R356). -/
def seedVal (fn : Nat) (x : Num) : SeedVal × FlagSet :=
  match x with
  | .nan _ _ g => (if fn < 2 then seedFin fn (exZero false) else .nan false, flagIf g fNV)
  | .inf s => (seedInf fn s, fNone)
  | .fin v => (seedFin fn v, fNone)

/-- One seed: FP32 bits and flags (R353, R354). -/
def seedElem (fn a : Nat) : Nat × FlagSet :=
  match seedVal fn (fmt32.decode a) with
  | (.ex v, fl) => let (b, g) := fmt32.deliver .rne 0 false v; (b, fl ||| g)
  | (.inf s, fl) => (fmt32.signed s 0x7F800000, fl)
  | (.nan nv, fl) => (fmt32.defaultNan, fl ||| flagIf nv fNV)

end Sys2Proof.Machine
end

