-- ==== Sys2Proof/Machine/VectorF.lean ====
section
/-! DEFINITION. The F slot (R328-R330): seeds, the recurrence scan (R278-R282, R379, R380), carry moves. -/

set_option autoImplicit false

namespace Sys2Proof.Machine

open Sys2Proof

/-- Flags of governed nothing: an FP32 product (R379). -/
def scanMul (a b : Nat) : Nat × FlagSet := elMul fmt32 a b
where
  /-- a × b rounded under RNE -/
  elMul (f : Fmt) (a b : Nat) : Nat × FlagSet := f.finish .rne 0 (numMul (f.decode a) (f.decode b))

/-- An FP32 a × b + c with one rounding under RNE (R379). -/
def scanFma (a b c : Nat) : Nat × FlagSet :=
  fmt32.finish .rne 0 (numFma .rne (fmt32.decode a) (fmt32.decode b) (fmt32.decode c))

/-- One level of the tree of R379 with distance w: pairs (ak, bk). -/
def scanLevel (w : Nat) (ab : List (Nat × Nat)) : List (Nat × Nat) × FlagSet :=
  let rs := ab.zipIdx.map fun q =>
    if q.2 < w then (q.1, fNone)
    else
      let p := ab.getD (q.2 - w) (0, 0)
      let (b, f) := scanFma q.1.1 p.2 q.1.2
      let (a, g) := scanMul q.1.1 p.1
      ((a, b), f ||| g)
  (rs.map (·.1), flagsOr (rs.map (·.2)))

/-- The levels of R379 for l counted down from n, distance doubling. -/
def scanLevels : Nat → Nat → List (Nat × Nat) → List (Nat × Nat) × FlagSet
  | 0, _, ab => (ab, fNone)
  | n + 1, w, ab =>
    let (x, f) := scanLevel w ab
    let (y, g) := scanLevels n (2 * w) x
    (y, f ||| g)

/-- One row of SCAN.LR in the order of its columns: h, and the flags (R379). -/
def scanRow (as bs : List Nat) (c : Nat) : List Nat × FlagSet :=
  let (ab, f) := scanLevels 5 1 (as.zip bs)
  let hs := ab.map fun p => scanFma p.1 c p.2
  (hs.map (·.1), f ||| flagsOr (hs.map (·.2)))

/-- SCAN.LR on registers (R278, R379): h, carry-out and flags. -/
def fScan (x : Tile) (w : Nat) : VeOut :=
  let rev := bitOf w 0
  let cn := bitsOf w 3 1
  let rowsOf := fun n => chunksOf 32 32 (View.w32.elems (x.tr n))
  let rs := ((rowsOf (bitsOf w 13 9)).zip (rowsOf (bitsOf w 8 4))).zipIdx.map fun q =>
    let flip := fun l : List Nat => if rev then l.reverse else l
    let (h, f) := scanRow (flip q.1.1) (flip q.1.2) (x.cr cn q.2).toNat
    (flip h, BitVec.ofNat 32 (h.getD 31 0), f)
  { VeOut.none with
    t := [(bitsOf w 18 14, View.w32.reg (rs.flatMap (·.1)))]
    c := [(cn, rs.map fun r => r.2.1)]
    flags := flagsOr (rs.map fun r => r.2.2) }

/-- SEED (R283, R353). -/
def fSeed (x : Tile) (w : Nat) : VeOut :=
  let rs := (View.w32.elems (x.tr (bitsOf w 13 9))).map (seedElem (bitsOf w 8 4))
  { VeOut.none with t := [(bitsOf w 18 14, View.w32.reg (rs.map (·.1)))], flags := flagsOr (rs.map (·.2)) }

/-- SCAN.CGET (R282, R330): one column of TD from cN. -/
def fCget (x : Tile) (w : Nat) : VeOut :=
  let td := bitsOf w 18 14
  let col := bitsOf w 8 4
  let cn := bitsOf w 3 1
  let rows := (chunksOf 32 32 (View.w32.elems (x.tr td))).zipIdx.map fun r => setAt r.1 col (x.cr cn r.2).toNat
  { VeOut.none with t := [(td, View.w32.reg rows.flatten)] }

/-- SCAN.CPUT (R282, R330): cN from one column of TA. -/
def fCput (x : Tile) (w : Nat) : VeOut :=
  let col := bitsOf w 8 4
  let rows := chunksOf 32 32 (View.w32.elems (x.tr (bitsOf w 13 9)))
  { VeOut.none with c := [(bitsOf w 3 1, rows.map fun r => BitVec.ofNat 32 (r.getD col 0))] }

/-- What an F-slot word delivers (R328). -/
def fResult (x : Tile) (w : Nat) : VeOut :=
  match bitsOf w 23 19 with
  | 1 => fSeed x w
  | 2 => fScan x w
  | 3 => fCget x w
  | 4 => fCput x w
  | _ => VeOut.none

end Sys2Proof.Machine
end

