-- ==== Sys2Proof/Machine/Bundle.lean ====
section
/-! DEFINITION. The issue of a bundle (R262-R265, R348, R349): checks, waits, and what its four slots do. -/

set_option autoImplicit false

namespace Sys2Proof.Machine

open Sys2Proof

/-- The tile can take a bundle: a slot runs, VE.END has not issued, no error has stopped it, none is held. -/
def State.canIssue (s : State) (t : Nat) : Bool :=
  s.inBundleSlot t && !(s.veOf t).ended && !(s.veOf t).halted && !(s.engine t).isOver && (s.veOf t).held.isNone

/-- Offset of an address in a logical tile's operand cache when an access of n bytes meets R247. -/
def tileOffset (t a n : Nat) : Option Nat :=
  let base := ocAddr t 0
  if base ≤ a ∧ a + n ≤ 0x300000 + base ∧ a % 32 = 0 then some (a - base) else none

/-- Bytes of an M-slot access to the operand cache. -/
def mBytes (w : Nat) : Nat :=
  match bitsOf w 29 26 with
  | 1 | 2 => (bitsOf w 11 7 + 1) * 128
  | 6 | 7 => 32
  | _ => 0

/-- Check 8 of R348: M-slot addresses meet R247; SO bits 31:24 are 0. -/
def check8 (x : Tile) (t : Nat) (b : BundleWord) : Option BundleFail :=
  let mem := decide (mBytes b.m ≠ 0) && (tileOffset t (x.ar (bitsOf b.m 20 17)).toNat (mBytes b.m)).isNone
  let cop := bitsOf b.c 31 27
  firstFail [
    failIf mem .ERR_VE_ADDR 2 17,
    failIf (decide ((cop = 6 ∨ cop = 7) ∧ bitsOf (soOf x b.c) 31 24 ≠ 0)) .ERR_VE_OPERAND 3 22]

/-- The tile issues no further bundle in the step (R349). -/
def State.haltTile (s : State) (t : Nat) : State :=
  (s.setVe t { (s.veOf t).dropped with halted := true }).settleTile t

/-- A bundle that fails a check: the first detail word is the bundle's, as R349 says of every check, also for the codes of R175
(log entry 81). -/
def State.failBundle (s : State) (t : Nat) (f : BundleFail) : State :=
  (s.raiseSlot f.err t (s.slotIdx t) 0 (s.veOf t).pc (f.slot + f.bit * 256)).haltTile t

/-- Commands that a unit can hold (R199). -/
def calQueueMax : Nat := 4

/-- The queue of the unit that a command needs is full: commands issued and not started (R199). -/
def Tile.queueFull (x : Tile) (c : CalCmd) : Bool :=
  decide (calQueueMax ≤ (x.cal.filter fun o => !o.started && o.cmd.unit == c.unit).length)

/-- A destination register is still to be read by a queued or running command (R263 cause 6, R265). -/
def Tile.destPending (x : Tile) (b : BundleWord) : Bool :=
  (bundleDests b).any fun d => match d with
    | .t n => x.cal.any fun o => o.cmd.reads == some n
    | _ => false

/-- A drain to WIDE. -/
def CalCmd.isWide (c : CalCmd) : Bool := match c with | .drain _ 5 _ _ _ _ _ _ => true | _ => false

/-- The operand-cache offset that a drain writes from. -/
def CalCmd.wideAt (t : Nat) (c : CalCmd) : Nat := match c with | .drain _ _ _ _ _ dst _ _ => dst - ocAddr t 0 | _ => 0

/-- A WIDE drain that is being written touches a granule of n bytes from an offset of tile t's cache on, so that a read of it
waits (R252). -/
def Tile.wideMeets (x : Tile) (t off n : Nat) : Bool :=
  x.cal.any fun o => o.started && o.cmd.isWide &&
    decide (n ≠ 0 ∧ off / 32 * 32 < o.cmd.wideAt t + 16384 ∧ o.cmd.wideAt t < (off + n + 31) / 32 * 32)

/-- The M-slot load of a bundle reads what a WIDE drain is still writing (R252). -/
def Tile.loadWaits (x : Tile) (t : Nat) (b : BundleWord) : Bool :=
  let op := bitsOf b.m 29 26
  decide (op = 1 ∨ op = 6) && x.wideMeets t ((x.ar (bitsOf b.m 20 17)).toNat - ocAddr t 0) (mBytes b.m)

/-- The M-slot store of a bundle enters the padded footprint of an earlier slot (R412). -/
def State.storeWaits (s : State) (t : Nat) (b : BundleWord) : Bool :=
  let op := bitsOf b.m 29 26
  decide (op = 2 ∨ op = 7) &&
    s.padWaits t (s.slotIdx t) (s.rangeTouch ((s.tile t).ar (bitsOf b.m 20 17)).toNat (mBytes b.m))

/-- The cause for which a bundle waits, 0 for none, of those that the model tells apart (R263): 2 a load behind a WIDE drain
(R252) or a store behind a padded write (R412; R263 names no cause of its own for them: log entry 82), 3 an empty queue, 5 a full command queue, 6 a register still to be
read. -/
def State.waitCause (s : State) (t : Nat) (b : BundleWord) : Nat :=
  let x := s.tile t
  if x.loadWaits t b || s.storeWaits t b then 2
  else if bitsOf b.m 29 26 = 3 ∧ x.ftq.isEmpty then 3
  else
    match calOf x b.c with
    | some c => if x.queueFull c then 5 else if x.destPending b then 6 else 0
    | none => if x.destPending b then 6 else 0

/-! ### What a slot does: `x` is the tile before the bundle -/

/-- Flags of an operation of tile t that are set in VE_FLAGS n cycles after it issued, so that a FLAGS.CLR before then leaves them
(R291, R347). -/
def State.lateFlags (s : State) (t n : Nat) (fl : FlagSet) : State :=
  let v := s.veOf t
  if fl = 0 then s else s.setVe t { v with late := v.late ++ [(n, fl)] }

/-- An operation's registers and flags, its result usable in cycle n (R266, R291). -/
def State.deliverVe (s : State) (t n : Nat) (o : VeOut) : State := (s.applyVe t o).lateFlags t n o.flags

/-- A-slot opcodes of timing class BIT (R309). -/
def isBitOp (op : Nat) : Bool :=
  [0x08, 0x09, 0x0A, 0x11, 0x12, 0x32, 0x38].contains op || decide (0x18 ≤ op ∧ op ≤ 0x2D)

/-- Some type of a CVT has the W64 view (R310). -/
def cvtWide (w : Nat) : Bool :=
  [bitsOf w 35 32, bitsOf w 21 18].any fun c => (ElemType.ofCode c).bind ElemType.view == some .w64

/-- The cycle in which the result of an A-slot operation is usable (R266, R309, R310). -/
def usableA (w : Nat) : Nat :=
  let op := bitsOf w 41 36
  let wide := if op = 0x3C then cvtWide w else aView w == .w64
  if op = 0x0F ∨ op = 0x10 then (if wide then 16 else 10)
  else if op = 0x34 ∨ op = 0x35 ∨ op = 0x36 then 10
  else if isBitOp op then (if wide then 6 else 4)
  else if wide then 10 else 6

/-- The cycle in which the result of an F-slot operation is usable (R266). -/
def usableF (w : Nat) : Nat := match bitsOf w 23 19 with | 1 => 8 | 2 => 12 | _ => 2

/-- The slot of a STEP error of an operation (R297, R298): the operation has no other effect. -/
def State.opError (s : State) (t : Nat) (e : Err) (d0 : Nat) (d1 : Nat := 0) : State :=
  s.raiseSlot e t (s.slotIdx t) 0 d0 d1

/-- The A slot. -/
def State.issueA (s : State) (t : Nat) (x : Tile) (w : Nat) : State :=
  if bitsOf w 41 36 = 0x3C then
    let c := cvtResult (s.drawCtx t) x w
    if s.statBad c.slot then s.opError t .ERR_STAT_SLOT c.slot
    else
      let s := (s.deliverVe t (usableA w) c.out).statRecord c.slot c.stats
      if c.scaleClamp then s.raiseSlot .ERR_SCALE_CLAMP t (s.slotIdx t) 0 c.slot else s
  else s.deliverVe t (usableA w) (aResult x w)

/-- The F slot, with its counters (R295). -/
def State.issueF (s : State) (t : Nat) (x : Tile) (w : Nat) : State :=
  let s := s.deliverVe t (usableF w) (fResult x w)
  match bitsOf w 23 19 with
  | 1 => s.bump .VE_SEEDS_COUNT 1 t
  | 2 => s.bump .VE_SCANS_COUNT 1 t
  | _ => s

/-- A load or store's address register after the increment (R333). -/
def mInc (x : Tile) (w n : Nat) : List (Nat × BitVec 48) :=
  if bitOf w 6 then
    let r := bitsOf w 20 17
    [(r, x.ar r + BitVec.ofNat 48 n)]
  else []

/-- The resident region of a tile, which no VE store may touch while a program runs or is armed (R253, R256). -/
def State.residentWrite (s : State) (t off : Nat) : Bool :=
  (s.seq == .armed || s.inStep) && decide (off < s.rd .VE_RES_SIZE_SIZE t * 0x10000)

/-- Codes of the operand cache's ports in the second detail word of ERR_OC_CLASH: their order in R248, which names no codes
(log entry 83). -/
def portVe : Nat := 2
/-- The FILL port. -/
def portFill : Nat := 3
/-- The RES port. -/
def portRes : Nat := 5

/-- Bytes of a write through the VE port land in tile t's cache at an offset. -/
def State.vePut (s : State) (t off : Nat) (bytes : List Byte) : State :=
  let c := ocCell (s.physOf t) off
  ({ s with mem := memWrite s.mem c bytes }).clearPoison c bytes.length

/-- A write through the VE port that another port's write meets at byte `o` of it, in the granule at the same cycle: the later
port's data stays there, and the clash is recorded with the granule's offset and both ports (R251). -/
def State.vePutClash (s : State) (t slot off o : Nat) (res : Bool) (bytes : List Byte) : State :=
  if bytes.length ≤ o then s.vePut t off bytes
  else
    let g := o / 32 * 32
    let s := (s.vePut t off (bytes.take g)).vePut t (off + g + 32) (bytes.drop (g + 32))
    s.raiseSlot .ERR_OC_CLASH t slot 0 (off + g) (portVe + (if res then portRes else portFill) * 256)

/-- A store of the VE port at an offset (R250-R256), or the discard of R256. -/
def State.veStore (s : State) (t off : Nat) (bytes : List Byte) (inc : List (Nat × BitVec 48)) (up : VeUpset) : State :=
  if s.residentWrite t off then s.opError t .ERR_RES_WRITE (ocAddr t off)
  else
    let s := match up with
      | .clash o res => s.vePutClash t (s.slotIdx t) off o res bytes
      | _ => s.vePut t off bytes
    s.applyVe t { VeOut.none with a := inc }

/-- A load of n bytes of the VE port at an offset: an uncorrectable word gives ERR_MEM_UE and loads nothing (R449). -/
def State.veLoad (s : State) (t off n : Nat) (up : VeUpset) (out : Nat → VeOut) : State :=
  let c := ocCell (s.physOf t) off
  let s := match up with
    | .memory o ue =>
      if o < n then (if ue then s.memUe (c + o) else s.memCe (.engine t) (c + o) (some (waiterId t (s.slotIdx t) 0))) else s
    | _ => s
  match s.poisonedIn c n with
  | some p => s.opError t .ERR_MEM_UE (ocAddr t (off + (p - c)))
  | none => s.applyVe t (out (memNat s.mem c n))

/-- An access at an offset of the operand cache, where there is one. -/
def State.atOffset (s : State) (o : Option Nat) (f : Nat → State) : State :=
  match o with | none => s | some off => f off

/-- LD (R332, R333): rows ROW0 to ROW0 + NROW of T. -/
def State.mLd (s : State) (t : Nat) (x : Tile) (w : Nat) (up : VeUpset) : State :=
  let n := mBytes w
  s.atOffset (tileOffset t (x.ar (bitsOf w 20 17)).toNat n) fun off =>
    let r := bitsOf w 25 21
    let lo := bitsOf w 16 12 * 1024
    s.veLoad t off n up fun v =>
      { VeOut.none with
        t := [(r, BitVec.ofNat 32768 (setBits (x.tr r).toNat (lo + n * 8 - 1) lo v))], a := mInc x w n }

/-- ST (R332, R333). -/
def State.mSt (s : State) (t : Nat) (x : Tile) (w : Nat) (up : VeUpset) : State :=
  let n := mBytes w
  s.atOffset (tileOffset t (x.ar (bitsOf w 20 17)).toNat n) fun off =>
    s.veStore t off (leBytes n ((x.tr (bitsOf w 25 21)).toNat / 2 ^ (bitsOf w 16 12 * 1024))) (mInc x w n) up

/-- LDS (R335). -/
def State.mLds (s : State) (t : Nat) (x : Tile) (w : Nat) (up : VeUpset) : State :=
  s.atOffset (tileOffset t (x.ar (bitsOf w 20 17)).toNat 32) fun off =>
    let r := bitsOf w 25 21
    s.veLoad t off 32 up fun v =>
      { VeOut.none with
        s := (splitBits 64 4 v).zipIdx.map fun q => (r + q.2, BitVec.ofNat 64 q.1), a := mInc x w 32 }

/-- STS (R335). -/
def State.mSts (s : State) (t : Nat) (x : Tile) (w : Nat) (up : VeUpset) : State :=
  s.atOffset (tileOffset t (x.ar (bitsOf w 20 17)).toNat 32) fun off =>
    let r := bitsOf w 25 21
    s.veStore t off ((List.range 4).flatMap fun i => leBytes 8 (x.sr (r + i)).toNat) (mInc x w 32) up

/-- KIND of an FTQ entry as a number (R271). -/
def FtqKind.code : FtqKind → Nat
  | .float32 => 0 | .int32 => 1 | .fp64Low => 2 | .fp64High => 3

/-- Busy cycles of FTQ.POP, for which its token is POPPING (R266, R268). -/
def popCycles : Nat := 8

/-- FTQ.POP (R268, R270, R272, R296). -/
def State.mPop (s : State) (t : Nat) (x : Tile) (w : Nat) (up : VeUpset) : State :=
  let td := bitsOf w 25 21
  let k := bitsOf w 20 18
  match x.ftq with
  | [] => s
  | e :: rest =>
    if up = .ftq then (s.bump .VE_PARITY_ERR_FTQ 1 t).opError t .ERR_FTQ_PARITY td
    else if k < 4 ∧ k ≠ e.kind.code then s.opError t .ERR_FTQ_KIND td
    else
      let y := s.tile t
      let v := s.veOf t
      ((s.setTile t { y with ftq := rest }).setVe t { v with popping := v.popping ++ [popCycles] }).applyVe t
        { VeOut.none with t := [(td, e.data)] }

/-- BANKn of CAL_STATUS. -/
def BankState.code : BankState → Nat
  | .empty => 0 | .busy => 1 | .held => 2 | .draining => 3

/-- The window may not touch a bank now (R288). -/
def Tile.windowBusy (x : Tile) (b : Nat) : Bool :=
  (x.bank b).state == .busy || (x.bank b).state == .draining || x.cal.any fun o => o.cmd.bank == some b

/-- What AWIN.RD delivers from a bank (R286, R289). -/
def awinOut (td : Nat) (k : Bank) : VeOut :=
  if k.state = .empty then { VeOut.none with t := [(td, 0)] }
  else
    let accs := splitBits 128 1024 k.acc.toNat
    let rs := accs.map fun v =>
      if k.int then fitInt 32 true (accInt (BitVec.ofNat 128 v))
      else accRound fmt32 .rne 0 false 0 (BitVec.ofNat 128 v)
    { VeOut.none with
      t := [(td, View.w32.reg (rs.map (·.1)))]
      flags := flagsOr (rs.map (·.2)) ||| flagIf k.lost fIX }

/-- AWIN.RD and AWIN.CLR (R285-R289); a bank whose parity fails as it is read is left EMPTY (R225, R237). -/
def State.mAwin (s : State) (t : Nat) (x : Tile) (w : Nat) (clear : Bool) (up : VeUpset) : State :=
  let b := bitsOf w 20 19
  if s.rd .VE_CTRL_ACC_WINDOW t = 0 then s.opError t .ERR_AWIN_MODE b
  else if x.windowBusy b then s.opError t .ERR_AWIN_BUSY b (x.bank b).state.code
  else if clear then let y := s.tile t; s.setTile t (y.setBank b Bank.reset)
  else if up = .bank then
    let y := s.tile t
    (s.setTile t (y.setBank b Bank.reset)).opError t .ERR_ACC_PARITY b
  else s.deliverVe t 18 (awinOut (bitsOf w 25 21) (x.bank b))

/-- The M slot. -/
def State.issueM (s : State) (t : Nat) (x : Tile) (w : Nat) (up : VeUpset) : State :=
  match bitsOf w 29 26 with
  | 1 => s.mLd t x w up
  | 2 => s.mSt t x w up
  | 3 => s.mPop t x w up
  | 4 => s.mAwin t x w false up
  | 5 => s.mAwin t x w true .none
  | 6 => s.mLds t x w up
  | 7 => s.mSts t x w up
  | _ => s

/-- WIDE drains issued and not complete (R346). -/
def Tile.wideDrains (x : Tile) : Nat :=
  (x.cal.filter fun o => o.cmd.isWide).length

/-- SYNC.SIG (R344, R346): sent at once, or when the WIDE drains before it have completed. -/
def State.cSig (s : State) (t : Nat) (x : Tile) (w : Nat) : State :=
  let so := soOf x w
  let obj := bitsOf so 23 0
  let n := bitsOf so 63 32
  if bitOf w 21 && decide (x.wideDrains ≠ 0) then
    let v := s.veOf t
    s.setVe t { v with fenced := v.fenced ++ [⟨obj, n, x.wideDrains⟩] }
  else s.sendSignal (.engine t) obj n

/-- The last multiply issued on the tile before now still has lines to read (R193). -/
def State.feedBusy (s : State) (x : Tile) : Bool :=
  match (x.cal.filter fun o => o.cmd.unit == .feed).getLast? with
  | some o =>
    match o.cmd with
    | .mm _ _ _ _ _ _ _ _ k =>
      let n := bitsOf k 24 16
      !o.started || (decide (n ≠ 0) && decide (s.cyclesSince o.since < (n + 3) * o.passes))
    | _ => false
  | none => false

/-- The C slot; `flags` is VE_FLAGS before the bundle (R347); `up` is the upset of a register that a command reads later. -/
def State.issueC (s : State) (t : Nat) (x : Tile) (w flags : Nat) (up : Bool) : State :=
  match bitsOf w 31 27 with
  | 0x01 => s.setVe t { s.veOf t with ended := true }
  | 0x02 => if branchTaken x w then s.setVe t { s.veOf t with pc := bitsOf w 17 0 } else s
  | 0x06 => s.cSig t x w
  | 0x08 => s.applyVe t { VeOut.none with s := [(bitsOf w 26 22, BitVec.ofNat 64 flags)] }
  | _ =>
    match calOf x w with
    | some c =>
      let y := s.tile t
      s.setTile t { y with cal := y.cal ++ [CalOp.issued c (s.slotIdx t) (s.feedBusy y) (up && c.reads.isSome)] }
    | none => s.deliverVe t 1 (cResult x w)

/-- The upset is a mismatch in a tile register. -/
def isRegUpset (u : VeUpset) : Bool := match u with | .register _ => true | _ => false

/-- The upset reaches the slot's operation: a tile register that an A, F or ST operation reads. -/
def upsetHits (u : VeUpset) (slot : BundleSlot) (b : BundleWord) : Bool :=
  match u, slot with
  | .register _, .a => decide (bitsOf b.a 41 36 ≠ 0 ∧ bitsOf b.a 41 36 ≠ 0x38 ∧ bitsOf b.a 41 36 ≠ 0x37)
  | .register _, .f => decide (1 ≤ bitsOf b.f 23 19 ∧ bitsOf b.f 23 19 ≠ 3)
  | .register _, .m => decide (bitsOf b.m 29 26 = 2)
  | _, _ => false

/-- A slot whose operation met a parity mismatch writes nothing (R296); else its effect. -/
def State.orParity (s : State) (t : Nat) (u : VeUpset) (hit : Bool) (eff : State → State) : State :=
  match hit, u with
  | true, .register r => (s.bump .VE_PARITY_ERR_REG 1 t).opError t .ERR_REG_PARITY r
  | _, _ => eff s

/-- Flags that the operations in flight have yet to set. -/
def VeRun.lateSet (v : VeRun) : FlagSet := flagsOr (v.late.map (·.2))

/-- A bundle issues: its four slots read the tile before any of them writes (R264), VE_PC moves on, a taken branch sets
it; flags that FLAGS.CLR clears are set again by the operations in flight and by the same bundle (R347). `own` is the slot that
meets the upset. -/
def State.fireBundle (s : State) (t : Nat) (b : BundleWord) (own : BundleSlot) (u : VeUpset) : State :=
  let x := s.tile t
  let flags := s.rd .VE_FLAGS_FLAGS t
  let mask := if bitsOf b.c 31 27 = 9 then bitsOf b.c 8 0 else 0
  let v := (s.veOf t).age 1
  let s := s.setVe t { v.dropped with pc := v.pc + 1, issued := v.issued + 1 }
  let s := ((s.bump .VE_BUNDLES_COUNT 1 t).wr .VE_FLAGS_FLAGS (flags - (flags &&& mask)) t).orFlags .VE_FLAGS_FLAGS
    (v.lateSet &&& BitVec.ofNat 32 mask) t
  let s := s.orParity t u (own == .a && upsetHits u .a b) fun s => s.issueA t x b.a
  let s := s.orParity t u (own == .f && upsetHits u .f b) fun s => s.issueF t x b.f
  let s := s.orParity t u (own == .m && upsetHits u .m b) fun s => s.issueM t x b.m (if own = .m then u else .none)
  (s.issueC t x b.c flags (own == .c && isRegUpset u)).settleTile t

/-- A bundle waits at issue; no later one passes it (R262). -/
def State.keepBundle (s : State) (t : Nat) (b : BundleWord) (own : BundleSlot) (u : VeUpset) (wait : WaitPhase) (cause : Nat) :
    State :=
  s.setVe t ((s.veOf t).hold ⟨BitVec.ofNat 128 b.bits, own, u⟩ wait cause)

/-- A bundle whose synchronisation wait begins is held (R345, R493). -/
def State.holdBundle (s : State) (t : Nat) (x : Tile) (b : BundleWord) (own : BundleSlot) (u : VeUpset) : State :=
  let so := soOf x b.c
  (s.keepBundle t b own u .sent 4).sendWait t (s.slotIdx t) 0 (bitsOf so 23 0) (bitsOf so 63 32) (bitOf b.c 21) (bitsOf b.c 20 13)

/-- A checked bundle issues, or waits for the first cause of R263 that holds; `waited` once its synchronisation wait is over. -/
def State.tryBundle (s : State) (t : Nat) (b : BundleWord) (own : BundleSlot) (u : VeUpset) (waited : Bool) : State :=
  let x := s.tile t
  let cause := s.waitCause t b
  let w : WaitPhase := if waited then .released else .none
  if cause = 2 ∨ cause = 3 then s.keepBundle t b own u w cause
  else if bitsOf b.c 31 27 = 7 ∧ waited = false then s.holdBundle t x b own u
  else if cause ≠ 0 then s.keepBundle t b own u w cause
  else s.fireBundle t b own u

/-- A bundle presented to a tile for issue: nothing where the tile takes none; an error where a check fails; a wait;
or its issue (R262, R263, R348). -/
def State.issueBundle (s : State) (t : Nat) (b : BundleWord) (own : BundleSlot) (u : VeUpset) : State :=
  if !s.canIssue t then s
  else
    let v := s.veOf t
    if 0x300000 ≤ v.pc * 16 then (s.opError t .ERR_VE_ADDR (ocAddr t (v.pc * 16))).haltTile t
    else
      match firstFail [staticChecks b, check8 (s.tile t) t b] with
      | some f => s.failBundle t f
      | none => s.tryBundle t b own u false

/-- The bundle that a tile holds, once no synchronisation wait holds it, tries to issue again (R262). -/
def State.retryTile (s : State) (t : Nat) : State :=
  let v := s.veOf t
  match v.held with
  | none => s
  | some h =>
    if v.wait = .sent then s
    else (s.setVe t v.dropped).tryBundle t (bundleOf h.bits.toNat) h.own h.upset (v.wait == .released)

/-- The four words of a bundle, the own slot's from opcode and operands. -/
def besideWord (b : Beside) (slot : BundleSlot) (w : Nat) : BundleWord :=
  let o : BundleWord := ⟨b.a.toNat, b.f.toNat, b.m.toNat, b.c.toNat⟩
  match slot with
  | .a => { o with a := w }
  | .f => { o with f := w }
  | .m => { o with m := w }
  | .c => { o with c := w }

/-- The bundle of an A-slot instruction. -/
def State.issueOfA (s : State) (t op : Nat) (w : BitVec 36) (b : Beside) : Res :=
  .next (s.issueBundle t (besideWord b .a (op * 2 ^ 36 + w.toNat)) .a b.upset)
/-- The bundle of an F-slot instruction. -/
def State.issueOfF (s : State) (t op : Nat) (w : BitVec 19) (b : Beside) : Res :=
  .next (s.issueBundle t (besideWord b .f (op * 2 ^ 19 + w.toNat)) .f b.upset)
/-- The bundle of an M-slot instruction. -/
def State.issueOfM (s : State) (t op : Nat) (w : BitVec 26) (b : Beside) : Res :=
  .next (s.issueBundle t (besideWord b .m (op * 2 ^ 26 + w.toNat)) .m b.upset)
/-- The bundle of a C-slot instruction. -/
def State.issueOfC (s : State) (t op : Nat) (w : BitVec 27) (b : Beside) : Res :=
  .next (s.issueBundle t (besideWord b .c (op * 2 ^ 27 + w.toNat)) .c b.upset)
/-- The bundle of a SIMM instruction with its IOP (R340). -/
def State.issueOfI (s : State) (t iop : Nat) (w : BitVec 25) (b : Beside) : Res :=
  .next (s.issueBundle t (besideWord b .c (4 * 2 ^ 27 + iop * 2 ^ 25 + w.toNat)) .c b.upset)

end Sys2Proof.Machine
end

