-- ==== Sys2Proof/Machine/Caldera.lean ====
section
/-! DEFINITION. Caldera and the Vent path (04): operand layouts, cube steps over a bank, the checks of R794, and the
start and end of each command in its unit. -/

set_option autoImplicit false

namespace Sys2Proof.Machine

open Sys2Proof

/-! ### Operand types (R181-R186) -/

/-- Types accepted as matrix operands (R181). -/
def ElemType.matrix : ElemType → Bool
  | .int32 => false | .e8m0 => false | _ => true

/-- Packable types (R181). -/
def ElemType.packable : ElemType → Bool
  | .e2m3 => true | .e2m1 => true | .int4 => true | _ => false

/-- Digits of a type (R181). -/
def ElemType.digits : ElemType → Nat
  | .fp64 => 7 | .fp32 => 3 | .fp16 => 2 | _ => 1

/-- An operand counts as floating-point (R182, R184). -/
def operandFloat (ty : ElemType) (scaled : Bool) : Bool := !ty.isInt || scaled

/-- K per cube step of a pair (R183). -/
def pairKs (a b : ElemType) : Nat := if a.packable && b.packable && (a.isInt == b.isInt) then 16 else 8

/-- Passes of a pair (R183). -/
def pairPasses (a b : ElemType) : Nat := if pairKs a b = 16 then 1 else a.digits * b.digits

/-- Rows of k in an image step (R187). -/
def imageKw (b : ElemType) : Nat := if b.packable then 16 else 8

/-- Largest K of a weight set (R186). -/
def setMaxK (b : ElemType) : Nat := if b.width = 64 then 256 else if b.width = 32 then 512 else if b.width = 16 then 1024 else 2048

/-! ### Reads of the operand cache, with the ring of R795 -/

/-- A ring: start and length in bytes; length 0 for none. -/
structure Ring where
  base : Nat
  len : Nat
deriving DecidableEq, Repr

/-- The ring that a scalar register names (R795). -/
def ringOf (k : Nat) : Ring := ⟨bitsOf k 57 48 * 4096, bitsOf k 41 32 * 4096⟩

/-- Cache offset of byte x of the consecutive layout (R795). -/
def Ring.place (g : Ring) (x : Nat) : Nat :=
  if g.len = 0 then x else g.base + (((x : Int) - g.base) % g.len).toNat

/-- The little-endian value of n bytes from a cache offset on, through a ring. -/
def State.calNat (s : State) (t : Nat) (g : Ring) (x n : Nat) : Nat :=
  leNat ((List.range n).map fun i => memGet s.mem (ocCell (s.physOf t) (g.place (x + i))))

/-- The first poisoned granule among n bytes from a cache offset on (R449). -/
def State.calPoison (s : State) (t : Nat) (g : Ring) (x n : Nat) : Option Nat :=
  if s.poison.isEmpty then none
  else
    ((List.range ((n + 31) / 32)).find? fun i =>
      (s.poisonedIn (ocCell (s.physOf t) (g.place (x + 32 * i))) 32).isSome).map fun i => g.place (x + 32 * i)

/-- Cache offset of a byte address of tile t's operand cache with n bytes from it inside (R196). -/
def calOffset (t a n : Nat) : Option Nat :=
  let base := ocAddr t 0
  if base ≤ a ∧ a + n ≤ 0x300000 + base ∧ a % 32 = 0 then some (a - base) else none

/-- The cache offset a stream starts at: inside the ring where there is one (R196, R795). -/
def streamStart (t a n : Nat) (g : Ring) : Option Nat :=
  if g.len = 0 then calOffset t a n
  else
    match calOffset t a 0 with
    | some x => if g.base + g.len ≤ 0x300000 ∧ g.len ≤ 768 * 4096 ∧ g.base ≤ x ∧ x < g.base + g.len then some x else none
    | none => none

/-! ### Banks -/

/-- Accumulators of a bank in order (i, j). -/
def Bank.accs (b : Bank) : List Acc := (splitBits 128 1024 b.acc.toNat).map (BitVec.ofNat 128)

/-- A bank with the given accumulators. -/
def Bank.withAccs (b : Bank) (l : List Acc) : Bank := { b with acc := BitVec.ofNat 131072 (joinBits 128 (l.map (·.toNat))) }

/-- The element (row, k) of A for step j, with its scale applied. -/
abbrev AElem := Nat → Nat → Nat → Num × FlagSet

/-- The products of one accumulator in one step, with their flags. -/
def stepProducts (ks : Nat) (a b : Nat → Num × FlagSet) : List Num × FlagSet :=
  let ps := (List.range ks).map fun k =>
    let (x, f) := a k
    let (y, g) := b k
    let (p, h) := exactProduct x y
    (p, f ||| g ||| h)
  (ps.map (·.1), flagsOr (ps.map (·.2)))

/-- Outcome of steps on a bank: accumulators, whether a step marked the bank lost (R202), and of each step its flags and whether
it dropped a non-zero bit (R216, R236). -/
structure BankRun where
  accs : List Acc
  lost : Bool
  runs : List (FlagSet × Bool)

/-- One cube step over the accumulators of rows lo to hi − 1, below cols (R202, R211). -/
def cubeBank (int : Bool) (lo hi cols ks : Nat) (a : Nat → Nat → Num × FlagSet) (b : Nat → Nat → Num × FlagSet)
    (r : BankRun) : BankRun :=
  let rs := r.accs.zipIdx.map fun q =>
    let i := q.2 / 32
    let j := q.2 % 32
    if lo ≤ i ∧ i < hi ∧ j < cols then
      let (ps, f) := stepProducts ks (a i) (fun k => b k j)
      if int then
        let v : Int := ps.foldl (fun (acc : Int) p => match p with | .fin x => acc + (exToInt .rtz 0 x).1 | _ => acc)
          (accInt q.1)
        (accOfInt v, f, false, false)
      else
        let o := cubeStep q.1 ps
        (o.acc, f ||| o.flags, o.lost, o.cut)
    else (q.1, fNone, false, false)
  ⟨rs.map (·.1), r.lost || rs.any (fun x => x.2.2.1), r.runs ++ [(flagsOr (rs.map fun x => x.2.1), rs.any fun x => x.2.2.2)]⟩

/-- The steps (j, lo, hi) of an operation in order: step j over rows lo to hi − 1 (R204). -/
def cubeSteps (int : Bool) (cols ks : Nat) (a : Nat → Nat → Nat → Num × FlagSet) (b : Nat → Nat → Nat → Num × FlagSet)
    (ops : List (Nat × Nat × Nat)) (accs : List Acc) : BankRun :=
  ops.foldl (fun r o => cubeBank int o.2.1 o.2.2 cols ks (a o.1) (b o.1) r) ⟨accs, false, []⟩

/-- A multiply's steps: each over every valid row (R204). -/
def mmOrder (klen rows : Nat) : List (Nat × Nat × Nat) := (List.range klen).map fun j => (j, 0, rows)

/-- A Vent multiply's steps: two of a chunk to a row, row after row, chunk after chunk (R231, R233). -/
def ventOrder (klen rows : Nat) : List (Nat × Nat × Nat) :=
  (List.range ((klen + 1) / 2)).flatMap fun m => (List.range rows).flatMap fun r =>
    ([2 * m, 2 * m + 1].filter fun j => decide (j < klen)).map fun j => (j, r, r + 1)

/-- An element of w bits at index i of packed bits. -/
def packedAt (w v i : Nat) : Nat := v / 2 ^ (w * i) % 2 ^ w

/-- An operand's value: with its block scale where it is microscaled (R184). -/
def operandNum (ty : ElemType) (scale : Option Nat) (b : Nat) : Num × FlagSet :=
  match scale with
  | some e => decodeMicro ty e b
  | none => (ty.decode b, fNone)

/-- Column c of row k of a weight set, with its scale (R187, R195). -/
def WeightSet.elem (w : WeightSet) (k c : Nat) : Num × FlagSet :=
  let ty := (ElemType.ofCode w.btype).getD .fp32
  operandNum ty (if w.scaled then some (w.scales.getD (k / 32 * 32 + c) 0) else none)
    (packedAt ty.width w.image.toNat (32 * k + c))

/-! ### Which command a unit may take next -/

/-- The commands of a tile before the first that satisfies p. -/
def Tile.before (x : Tile) (p : CalOp → Bool) : List CalOp := x.cal.takeWhile fun o => !p o

/-- The next command of a unit: the first of it that has not started. -/
def Tile.nextOf (x : Tile) (u : CalUnit) : Option CalOp := x.cal.find? fun o => o.cmd.unit == u && !o.started

/-- Commands issued before the next one of a unit. -/
def Tile.earlier (x : Tile) (u : CalUnit) : List CalOp := x.before fun o => o.cmd.unit == u && !o.started

/-- A command touches a bank. -/
def CalCmd.onBank (c : CalCmd) (b : Nat) : Bool := c.bank == some b

/-- The unit is free for its next command (R199): the feed sequencer takes an MM behind started ones, the bank port a
command behind started drains; the others one at a time. -/
def unitFree (u : CalUnit) (es : List CalOp) : Bool :=
  es.all fun o => o.cmd.unit != u || (o.started && match u, o.cmd with
    | .feed, _ => true
    | .port, .drain .. => true
    | _, _ => false)

/-- Cycles from a multiply's first step until it no longer reads its weight set (R190). -/
def readsSetFor (k passes : Nat) : Nat := 3 + (bitsOf k 24 16 + 3) * passes

/-- The waits of a command are over (R189, R190, R213, R222, R223), seen from the commands issued before it. -/
def State.waitsOver (s : State) (c : CalCmd) (es : List CalOp) : Bool :=
  match c with
  | .wload w .. => es.all fun o => match o.cmd with
    | .mm _ v _ _ _ _ _ _ k => v != w || (o.started && decide (readsSetFor k o.passes < s.cyclesSince o.since))
    | _ => true
  | .mm b w _ _ acc .. =>
    (es.all fun o => match o.cmd with
      | .wload v .. => v != w
      | .mm b' .. => b' != b || (acc && o.started)
      | d => !d.onBank b)
  | .accload b .. => es.all fun o => !o.cmd.onBank b
  | .drain b .. => es.all fun o => !o.cmd.onBank b
  | .vent b .. => es.all fun o => !o.cmd.onBank b

/-! ### Checks of R794 -/

/-- A failed check of a command: error and first detail word (R237). -/
abbrev CalFail := Err × Nat

/-- The first failure of a list. -/
def calFirst : List (Option CalFail) → Option CalFail
  | [] => none
  | some f :: _ => some f
  | none :: r => calFirst r

/-- A failure under a condition. -/
def calIf (c : Bool) (e : Err) (d : Nat) : Option CalFail := if c then some (e, d) else none

/-- Type of a code; FP32 for a reserved one, which check 1 has refused. -/
def tyOf (c : Nat) : ElemType := (ElemType.ofCode c).getD .fp32

/-- Checks of CAL.WLOAD (R794). KLEN 0 is outside the 1 to 256 that R197 gives; the spec names no error for it, and the model takes
that of the K range (log entry 84). -/
def checkWload (t btype : Nat) (scaled : Bool) (src scl k : Nat) : Option CalFail :=
  let ty := tyOf btype
  let klen := bitsOf k 24 16
  let g := ringOf k
  let bytes := klen * imageKw ty * 4 * ty.width
  let sbytes := (klen * imageKw ty + 31) / 32 * 32
  calFirst [
    calIf (tyReserved btype) .ERR_TYPE_RESERVED btype,
    calIf (!ty.matrix) .ERR_CAL_TYPE btype,
    calIf (scaled && !ty.micro) .ERR_CAL_SCALE_TYPE btype,
    calIf (decide (klen = 0 ∨ 256 < klen ∨ setMaxK ty < klen * imageKw ty)) .ERR_CAL_KRANGE klen,
    calIf (streamStart t src bytes g).isNone .ERR_CAL_ADDR src,
    calIf (scaled && (streamStart t scl sbytes g).isNone) .ERR_CAL_ADDR scl]

/-- Bytes of an A line (R191). -/
def lineBytes (a : ElemType) (ks : Nat) : Nat := 4 * ks * a.width

/-- Checks of CAL.MM (R794). With KLEN 0 no line is read (R218), and the addresses are checked for an extent of no lines (log entry
84). A K range's detail word is KLEN, or KOFF where that is not a multiple of a scale block. -/
def checkMm (x : Tile) (t bank wset atype : Nat) (acc scaled : Bool) (src scl k : Nat) : Option CalFail :=
  let ty := tyOf atype
  let w := x.wset wset
  let bt := tyOf w.btype
  let ks := pairKs ty bt
  let koff := bitsOf k 7 0
  let klen := bitsOf k 24 16
  let g := ringOf k
  let float := operandFloat ty scaled
  let b := x.bank bank
  let lines := if klen = 0 then 0 else (klen + 3) * lineBytes ty ks
  calFirst [
    calIf (tyReserved atype) .ERR_TYPE_RESERVED atype,
    calIf (!ty.matrix) .ERR_CAL_TYPE atype,
    calIf (scaled && !ty.micro) .ERR_CAL_SCALE_TYPE atype,
    calIf (w.state == .empty) .ERR_CAL_SET_EMPTY wset,
    calIf (float != operandFloat bt w.scaled) .ERR_CAL_TYPE atype,
    calIf (decide (w.klen * imageKw bt < (koff + klen) * ks)) .ERR_CAL_KRANGE klen,
    calIf (scaled && decide (koff * ks % 32 ≠ 0)) .ERR_CAL_KRANGE koff,
    calIf (streamStart t src lines g).isNone .ERR_CAL_ADDR src,
    calIf (scaled && (streamStart t scl ((klen * ks + 31) / 32 * 32) g).isNone) .ERR_CAL_ADDR scl,
    calIf (acc && b.state == .empty) .ERR_CAL_BANK_EMPTY bank,
    calIf (acc && (b.int == float)) .ERR_CAL_BANK_MODE bank]

/-- Checks of CAL.ACCLOAD (R794). -/
def checkAccload (t fmt src : Nat) : Option CalFail :=
  calFirst [
    calIf (decide (fmt ≠ 0 ∧ fmt ≠ 3 ∧ fmt ≠ 4 ∧ fmt ≠ 5)) .ERR_CAL_FMT fmt,
    calIf (decide (fmt = 3) && (calOffset t src 8192).isNone) .ERR_CAL_ADDR src,
    calIf (decide (fmt = 5) && (calOffset t src 16384).isNone) .ERR_CAL_ADDR src]

/-- The bank's mode admits a drain format (R213). -/
def drainFits (int : Bool) (fmt : Nat) : Bool := if int then decide (fmt = 0 ∨ fmt = 4 ∨ fmt = 5) else decide (fmt ≠ 4)

/-- Checks of CAL.DRAIN (R794). -/
def checkDrain (x : Tile) (t bank fmt rnd dst : Nat) : Option CalFail :=
  let b := x.bank bank
  calFirst [
    calIf (decide (4 < rnd)) .ERR_RND_RESERVED rnd,
    calIf (decide (5 < fmt)) .ERR_CAL_FMT fmt,
    calIf (decide (fmt = 5) && (calOffset t dst 16384).isNone) .ERR_CAL_ADDR dst,
    calIf (b.state == .empty) .ERR_CAL_BANK_EMPTY bank,
    calIf (!drainFits b.int fmt) .ERR_CAL_FMT fmt]

/-- Fields of VENT.MV's register (R197). -/
structure VentK where
  klen : Nat
  ncols : Nat
  btype : Nat
  engine : Nat
  scaled : Bool

/-- Fields of VENT.MV's register (R197). -/
def ventK (k : Nat) : VentK := ⟨bitsOf k 5 0, bitsOf k 12 8 + 1, bitsOf k 19 16, bitsOf k 27 24, bitOf k 28⟩

/-- Checks of VENT.MV (R794, R232); the Vent path accepts no packable A type (R235). -/
def checkVent (x : Tile) (bank atype : Nat) (acc : Bool) (k : Nat) : Option CalFail :=
  let ty := tyOf atype
  let v := ventK k
  let bt := tyOf v.btype
  let float := operandFloat ty false
  let b := x.bank bank
  calFirst [
    calIf (tyReserved atype) .ERR_TYPE_RESERVED atype,
    calIf (tyReserved v.btype) .ERR_TYPE_RESERVED v.btype,
    calIf (!ty.matrix || ty.packable) .ERR_CAL_TYPE atype,
    calIf (!bt.matrix) .ERR_CAL_TYPE v.btype,
    calIf (v.scaled && !bt.micro) .ERR_CAL_SCALE_TYPE v.btype,
    calIf (float != operandFloat bt v.scaled) .ERR_CAL_TYPE atype,
    calIf (decide (1024 / ty.width < v.klen * 8)) .ERR_CAL_KRANGE v.klen,
    calIf (acc && b.state == .empty) .ERR_CAL_BANK_EMPTY bank,
    calIf (acc && (b.int == float)) .ERR_CAL_BANK_MODE bank]

/-! ### Starting and ending -/

/-- The first command that satisfies p changed. -/
def updFirst {α : Type} (p : α → Bool) (f : α → α) : List α → List α
  | [] => []
  | x :: r => if p x then f x :: r else x :: updFirst p f r

/-- The next command of a unit, started now with its outcome. -/
def Tile.startOp (x : Tile) (u : CalUnit) (now : Nat) (f : CalOp → CalOp) : Tile :=
  { x with cal := updFirst (fun o => o.cmd.unit == u && !o.started) (fun o => f { o with started := true, since := now }) x.cal }

/-- The WIDE drain with `rank` others issued before it leaves the tile: a fenced signal waits for those issued before it, and is due
when none of them is left (R346). -/
def State.releaseFenced (s : State) (t rank : Nat) : State :=
  let v := s.veOf t
  let fs := v.fenced.map fun f => { f with after := if rank < f.after then f.after - 1 else f.after }
  let due := fs.filter fun f => decide (f.after = 0)
  let s := s.setVe t { v with fenced := fs.filter fun f => decide (f.after ≠ 0) }
  due.foldl (fun s f => s.sendSignal (.engine t) f.obj f.count) s

/-- The first command of the tile that satisfies p leaves it: a WIDE drain releases fenced signals, and the slot may
end (R261, R346). -/
def State.endOp (s : State) (t : Nat) (p : CalOp → Bool) : State :=
  let x := s.tile t
  match x.cal.find? p with
  | none => s
  | some o =>
    let s := s.setTile t { x with cal := dropFirst p x.cal }
    let s := if o.cmd.isWide then s.releaseFenced t ({ x with cal := x.before p }.wideDrains) else s
    s.settleTile t

/-- The next command of a unit fails a check: its error, and nothing further (R225, R794). -/
def State.failOp (s : State) (t : Nat) (u : CalUnit) (o : CalOp) (e : Err) (d : Nat) : State :=
  (s.raiseSlot e t o.slot 0 d).endOp t fun o => o.cmd.unit == u && !o.started

/-- The next command of a unit finds a parity mismatch in the tile register it reads: it does nothing (R296). -/
def State.failParity (s : State) (t : Nat) (u : CalUnit) (o : CalOp) (reg : Nat) : State :=
  (s.bump .VE_PARITY_ERR_REG 1 t).failOp t u o .ERR_REG_PARITY reg

/-- The bank that an ACC = 0 command starts from (R210). -/
def freshBank (int : Bool) (rows cols : Nat) : Bank := ⟨.busy, int, rows, cols, 0, false, false⟩

/-- A bank after steps: BUSY until the command completes. -/
def Bank.afterRun (b : Bank) (r : BankRun) : Bank :=
  { b.withAccs r.accs with state := .busy, lost := b.lost || r.lost, stepped := b.stepped || !r.runs.isEmpty }

/-- n bytes from a cache offset on, through a ring, hold a granule that a WIDE drain is writing: a read of them waits (R252). -/
def Tile.wideMeetsRing (x : Tile) (t : Nat) (g : Ring) (off n : Nat) : Bool :=
  (x.cal.any fun o => o.started && o.cmd.isWide) &&
    (List.range ((n + 31) / 32)).any fun i => x.wideMeets t (g.place (off + 32 * i)) 32

/-- A WLOAD starts: the set is LOADING with the new contents (R187, R189). -/
def State.wloadStart (s : State) (t : Nat) (o : CalOp) : State :=
  match o.cmd with
  | .wload w btype ncols scaled src scl k =>
    let x := s.tile t
    match checkWload t btype scaled src scl k with
    | some (e, d) => s.failOp t .weight o e d
    | none =>
      let ty := tyOf btype
      let klen := bitsOf k 24 16
      let g := ringOf k
      let base := ocAddr t 0
      let bytes := klen * imageKw ty * 4 * ty.width
      let sb := if scaled then (klen * imageKw ty + 31) / 32 * 32 else 0
      if x.wideMeetsRing t g (src - base) bytes || x.wideMeetsRing t g (scl - base) sb then s
      else match s.calPoison t g (src - base) bytes with
      | some p => s.failOp t .weight o .ERR_MEM_UE (base + p)
      | none =>
        let set : WeightSet := ⟨.loading, btype, ncols + 1, klen, scaled,
          BitVec.ofNat 524288 (s.calNat t g (src - base) bytes), splitBits 8 sb (s.calNat t g (scl - base) sb)⟩
        s.setTile t ((x.setWset w set).startOp .weight s.tb id)
  | _ => s

/-- The cycles in which a multiply forms products that no forerunner's cube-row formed any in, and for how many cycles past KLEN × P
cube-rows work on: cube-row r, of those that hold valid rows, works (KLEN × P) cycles from r × P on; a contiguous multiply starts
KLEN × P cycles after the one before it (R191, R193, R194, R220, R236). -/
def busyCycles (prev : Option CalOp) (rows klen p : Nat) : Nat × Nat :=
  let span := if klen = 0 then 0 else (klen + (rows + 7) / 8 - 1) * p
  let before := match prev with | some o => o.tail | none => 0
  (max before span - before, max before span - klen * p)

/-- The multiply that this one is contiguous with (R193): the last issued before it, where it still had lines to read, has the same
line size, passes and ring, and this one's lines go on where its KLEN lines end. -/
def Tile.contiguousWith (x : Tile) (t : Nat) (o : CalOp) (line p src : Nat) (g : Ring) : Option CalOp :=
  match ((x.earlier .feed).filter fun e => e.cmd.unit == .feed).getLast? with
  | some e =>
    match e.cmd with
    | .mm _ _ _ _ _ _ src' _ k' =>
      let from' := src' - ocAddr t 0 + bitsOf k' 24 16 * line
      if o.behind && e.line == line && e.passes == p && decide (ringOf k' = g) &&
          g.place from' == g.place (src - ocAddr t 0) then some e else none
    | _ => none
  | none => none

/-- An MM starts: its sums are formed from the lines as they stand, and reported when it completes (R192, R204, R216). -/
def State.mmStart (s : State) (t : Nat) (o : CalOp) : State :=
  match o.cmd with
  | .mm bank wset atype rows acc scaled src scl k =>
    let x := s.tile t
    match checkMm x t bank wset atype acc scaled src scl k with
    | some (e, d) => s.failOp t .feed o e d
    | none =>
      let ty := tyOf atype
      let w := x.wset wset
      let bt := tyOf w.btype
      let ks := pairKs ty bt
      let p := pairPasses ty bt
      let koff := bitsOf k 7 0
      let klen := bitsOf k 24 16
      let g := ringOf k
      let base := ocAddr t 0
      let lb := lineBytes ty ks
      let int := !operandFloat ty scaled
      let bytes := if klen = 0 then 0 else (klen + 3) * lb
      let sb := if scaled then (klen * ks + 31) / 32 * 32 else 0
      if x.wideMeetsRing t g (src - base) bytes || x.wideMeetsRing t g (scl - base) sb then s
      else match s.calPoison t g (src - base) bytes with
      | some q => s.failOp t .feed o .ERR_MEM_UE (base + q)
      | none =>
        let seg := fun j r => s.calNat t g (src - base + (j + r) * lb + r * (lb / 4)) (lb / 4)
        let segs := (List.range klen).map fun j => (List.range 4).map (seg j)
        let aE := fun j i kk =>
          operandNum ty (if scaled then some (s.calNat t g (scl - base + j * ks / 32 * 32 + i) 1) else none)
            (packedAt ty.width ((segs.getD j []).getD (i / 8) 0) (i % 8 * ks + kk))
        let bE := fun j kk c => w.elem ((koff + j) * ks + kk) c
        let b := if acc then x.bank bank else freshBank int (rows + 1) w.ncols
        let r := cubeSteps int w.ncols ks aE bE (mmOrder klen (rows + 1)) b.accs
        let (busy, tail) := busyCycles (x.contiguousWith t o lb p src g) (rows + 1) klen p
        s.setTile t ((x.setBank bank (b.afterRun r)).startOp .feed s.tb fun o =>
          { o with runs := r.runs, line := lb, passes := p, busy := busy, tail := tail })
  | _ => s

/-- Bytes of one image of B on the Vent path: pairs of steps of 8 rows, and scale rows (R233). -/
def ventBytes (v : VentK) : Nat :=
  let bt := tyOf v.btype
  v.klen * 32 * bt.width + (if v.scaled then (v.klen * 8 + 31) / 32 * 32 else 0)

/-- n bytes taken from the chunks for a tile, with the slots left: a slot goes when its last byte is taken. -/
def takeChunks (t : Nat) : Nat → List VentSlot → List Byte × List VentSlot
  | _, [] => ([], [])
  | n, sl :: r =>
    if sl.tile = t ∧ sl.held ∧ n ≠ 0 then
      let got := sl.data.take n
      let rest := sl.data.drop n
      let (bs, r') := takeChunks t (n - got.length) r
      (got ++ bs, if rest.isEmpty then r' else { sl with data := rest } :: r')
    else
      let (bs, r') := takeChunks t n r
      (bs, sl :: r')

/-- The chunks of a stream engine's buffer. -/
def State.ventOf (s : State) (n : Nat) : List VentSlot := tabGet [] n s.vent

/-- Bytes that stand HELD for a tile. -/
def ventReady (t : Nat) (l : List VentSlot) : Nat :=
  (l.map fun sl => if sl.tile = t ∧ sl.held then sl.data.length else 0).foldl (· + ·) 0

/-- The bytes of B divided into scale rows and rows of k: a scale row stands before every 32 rows of k (R233). -/
def ventSplit (scaled : Bool) (rowBytes : Nat) : Nat → Nat → List Byte → List Byte × List Byte
  | 0, _, _ => ([], [])
  | n + 1, k, bs =>
    let (sc, bs) := if scaled && decide (k % 32 = 0) then (bs.take 32, bs.drop 32) else ([], bs)
    let (e, c) := ventSplit scaled rowBytes n (k + 1) (bs.drop rowBytes)
    (bs.take rowBytes ++ e, sc ++ c)

/-- A VENT.MV starts with the chunks it consumes (R231-R234). -/
def State.ventStart (s : State) (t : Nat) (o : CalOp) : State :=
  match o.cmd with
  | .vent bank vreg atype rows acc k =>
    let x := s.tile t
    match checkVent x bank atype acc k with
    | some (e, d) => s.failOp t .vent o e d
    | none => if o.upset then s.failParity t .vent o vreg else
      let ty := tyOf atype
      let v := ventK k
      let bt := tyOf v.btype
      let (bs, left) := takeChunks t (ventBytes v) (s.ventOf v.engine)
      let (es, cs) := ventSplit v.scaled (4 * bt.width) (v.klen * 8) 0 bs
      let img := leNat es
      let int := !operandFloat ty false
      let a := (x.tr vreg).toNat
      let aE := fun j i kk => (ty.decode (packedAt ty.width (a / 2 ^ (1024 * i) % 2 ^ 1024) (8 * j + kk)), fNone)
      let bE := fun j kk c =>
        operandNum bt (if v.scaled then some ((cs.getD ((8 * j + kk) / 32 * 32 + c) 0).toNat) else none)
          (packedAt bt.width img (32 * (8 * j + kk) + c))
      let b := if acc then x.bank bank else freshBank int (rows + 1) v.ncols
      let r := cubeSteps int v.ncols 8 aE bE (ventOrder v.klen (rows + 1)) b.accs
      { s with vent := tabSet [] v.engine left s.vent }.setTile t
        ((x.setBank bank (b.afterRun r)).startOp .vent s.tb fun o =>
          { o with runs := r.runs, passes := pairPasses ty bt })
  | _ => s

/-- What an ACCLOAD writes (R212). -/
def accloadBank (s : State) (x : Tile) (t fmt tsrc src : Nat) : Bank :=
  let off := src - ocAddr t 0
  let none : Ring := ⟨0, 0⟩
  let full := fun (int : Bool) (l : List (Acc × Bool)) =>
    Bank.withAccs { freshBank int 32 32 with lost := l.any fun q => q.2 } (l.map fun q => q.1)
  match fmt with
  | 0 => full false ((View.w32.elems (x.tr tsrc)).map fun e => ((accEncode (fmt32.decode e)).1, false))
  | 4 => full true ((View.w32.elems (x.tr tsrc)).map fun e => (accOfInt (i32 e), false))
  | 3 =>
    full false ((splitBits 64 1024 (s.calNat t none off 8192)).map fun e => ((accEncode (fmt64.decode e)).1, false))
  | _ =>
    let ws := splitBits 128 1024 (s.calNat t none off 16384)
    if bitOf (ws.headD 0) 0 then full true (ws.map fun (w : Nat) => (BitVec.ofNat 128 w, false))
    else full false (ws.map fun (w : Nat) =>
      let e := accEncode (accDecode (BitVec.ofNat 128 w))
      (e.1, e.2.1))

/-- An ACCLOAD starts: it reads its source now (R212). -/
def State.accloadStart (s : State) (t : Nat) (o : CalOp) : State :=
  match o.cmd with
  | .accload bank fmt tsrc src =>
    let x := s.tile t
    match checkAccload t fmt src with
    | some (e, d) => s.failOp t .port o e d
    | none =>
      let n := if fmt = 3 then 8192 else if fmt = 5 then 16384 else 0
      if o.upset then s.failParity t .port o tsrc
      else if x.wideMeets t (src - ocAddr t 0) n then s
      else match s.calPoison t ⟨0, 0⟩ (src - ocAddr t 0) n with
      | some p => s.failOp t .port o .ERR_MEM_UE (ocAddr t p)
      | none => s.setTile t ((x.setBank bank (accloadBank s x t fmt tsrc src)).startOp .port s.tb id)
  | _ => s

/-- FTQ entries that a drain format takes (R213, R217). -/
def drainEntries (fmt : Nat) : Nat := if fmt = 5 then 0 else if fmt = 3 then 2 else 1

/-- Tokens of the queue that are FREE (R268). -/
def State.ftqFree (s : State) (t : Nat) : Nat :=
  32 - (s.tile t).ftq.length - (s.tile t).ftqReserved - (s.veOf t).popping.length

/-- A WIDE drain enters the padded footprint of an earlier slot (R412). -/
def State.drainPads (s : State) (t : Nat) (o : CalOp) : Bool :=
  o.cmd.isWide && s.padWaits t o.slot (s.rangeTouch (ocAddr t 0 + o.cmd.wideAt t) 16384)

/-- A drain starts once its entries are free, which R217 makes it wait for after its checks, and nothing of R412 holds it: its bank
is DRAINING and its tokens are RESERVED (R213, R217, R268). -/
def State.drainStart (s : State) (t : Nat) (o : CalOp) : State :=
  match o.cmd with
  | .drain bank fmt rnd _ _ dst _ _ =>
    let x := s.tile t
    match checkDrain x t bank fmt rnd dst with
    | some (e, d) => s.failOp t .port o e d
    | none =>
      if decide (s.ftqFree t < drainEntries fmt) || s.drainPads t o then s
      else
        let x := x.setBank bank { x.bank bank with state := .draining }
        s.setTile t ({ x with ftqReserved := x.ftqReserved + drainEntries fmt }.startOp .port s.tb id)
  | _ => s

/-- One drained value as bits of its FTQ word or pair of words (R213, R214). -/
def drainElem (int : Bool) (fmt : Nat) (rnd : Rnd) (sat ovf : Bool) (adj : Int) (draw : Nat) (a : Acc) : Nat × FlagSet :=
  if int then
    if fmt = 4 then fitInt 32 ovf (accInt a)
    else fmt32.deliver rnd draw false (exInt (accInt a))
  else
    match fmt with
    | 0 => accRound fmt32 rnd draw sat adj a
    | 3 => accRound fmt64 rnd draw sat adj a
    | 1 =>
      let (b, f) := accRound fmtBf rnd draw sat adj a
      ((fmt32.convert ⟨.rne, 0, false, false⟩ (fmtBf.decode b)).1, f)
    | _ =>
      let (b, f) := accRound fmt16 rnd draw sat adj a
      ((fmt32.convert ⟨.rne, 0, false, false⟩ (fmt16.decode b)).1, f)

/-- The elements of a drain over rows from `lo` on, `n` rows; positions outside the valid region are 0 (R213, R215). -/
def drainRows (d : DrawCtx) (k : Bank) (fmt rnd : Nat) (sat ovf : Bool) (tag px lo n : Nat) : List Nat × FlagSet :=
  let m := (Rnd.ofCode rnd).getD .rne
  let adj := toSigned 16 (bitsOf px 31 16)
  let rs := ((k.accs.zipIdx.drop (lo * 32)).take (n * 32)).map fun (q : Acc × Nat) =>
    let i := q.2 / 32
    let j := q.2 % 32
    if i < k.rows ∧ j < k.cols then
      let draw := if m = .sr then srDraw d.salt d.step (bitsOf tag 31 0) d.engine (bitsOf px 15 0 * 1024 + i * 32 + j) else 0
      drainElem k.int fmt m sat ovf adj draw q.1
    else (0, fNone)
  (rs.map (·.1), if k.stepped then flagsOr (rs.map (·.2)) ||| flagIf k.lost fIX else fNone)

/-- An entry posts with the next sequence number (R268, R271). -/
def Tile.post (x : Tile) (kind : FtqKind) (bank : Nat) (data : TileReg) : Tile :=
  { x with ftq := x.ftq ++ [⟨kind, x.ftqSeq, bank, data⟩], ftqSeq := (x.ftqSeq + 1) % 65536, ftqReserved := x.ftqReserved - 1 }

/-- A started drain that is the oldest of its unit. -/
def isPortStarted (o : CalOp) : Bool := o.started && match o.cmd with | .drain .. => true | _ => false

/-- A WIDE drain's write is complete (R213, R252); into the resident region it is discarded, and the bank keeps its value (R225,
R256). -/
def State.wideDone (s : State) (t : Nat) (o : CalOp) (bank dst : Nat) (ev : DrainEvent) : State :=
  let x := s.tile t
  let k := x.bank bank
  let off := dst - ocAddr t 0
  let s :=
    if s.residentWrite t off then
      (s.setTile t (x.setBank bank { k with state := .held })).raiseSlot .ERR_RES_WRITE t o.slot 0 dst
    else
      let bytes := k.accs.zipIdx.flatMap fun (q : Acc × Nat) =>
        leBytes 16 (if q.2 / 32 < k.rows ∧ q.2 % 32 < k.cols then q.1.toNat else 0)
      let s := s.setTile t (x.setBank bank Bank.reset)
      let s := s.orFlags .CAL_FLAGS_FLAGS (flagIf (k.stepped && k.lost) fIX) t
      match ev with
      | .clash o' res => s.vePutClash t o.slot off o' res bytes
      | _ => s.vePut t off bytes
  s.endOp t isPortStarted

/-- A drain that finds a parity error in its bank never posts: the bank is EMPTY and its tokens are FREE (R225, R237). -/
def State.drainParity (s : State) (t : Nat) (o : CalOp) (bank fmt : Nat) : State :=
  let x := s.tile t
  let x := { x.setBank bank Bank.reset with ftqReserved := x.ftqReserved - (drainEntries fmt - o.posted) }
  ((s.setTile t x).raiseSlot .ERR_ACC_PARITY t o.slot 0 bank).endOp t isPortStarted

/-- A drain posts an entry, or finishes its WIDE write (R213-R216, R256); an FP64 drain posts twice. -/
def State.drainPost (s : State) (t : Nat) (o : CalOp) (ev : DrainEvent) : State :=
  match o.cmd with
  | .drain bank fmt rnd sat ovf dst tag px =>
    let x := s.tile t
    let k := x.bank bank
    if ev = .accParity then s.drainParity t o bank fmt
    else if fmt = 5 then s.wideDone t o bank dst ev
    else if fmt = 3 then
      let lo := if o.posted = 0 then 0 else 16
      let (es, f) := drainRows (s.drawCtx t) k fmt rnd sat ovf tag px lo 16
      let x := x.post (if o.posted = 0 then .fp64Low else .fp64High) bank (View.w64.reg es)
      let s := s.orFlags .CAL_FLAGS_FLAGS f t
      if o.posted = 0 then s.setTile t { x with cal := updFirst isPortStarted (fun o => { o with posted := 1 }) x.cal }
      else (s.setTile t (x.setBank bank Bank.reset)).endOp t isPortStarted
    else
      let (es, f) := drainRows (s.drawCtx t) k fmt rnd sat ovf tag px 0 32
      let x := x.post (if fmt = 4 then .int32 else .float32) bank (View.w32.reg es)
      ((s.orFlags .CAL_FLAGS_FLAGS f t).setTile t (x.setBank bank Bank.reset)).endOp t isPortStarted
  | _ => s

/-- No command left on a bank makes it HELD (R209). -/
def Tile.settleBank (x : Tile) (b : Nat) : Tile :=
  let busy := x.cal.any fun o => o.started && o.cmd.onBank b
  if !busy && (x.bank b).state == .busy then x.setBank b { x.bank b with state := .held } else x

/-- Steps of a started command that have completed by now (R220, R234). -/
def State.stepsDone (s : State) (o : CalOp) : Nat :=
  let el := s.cyclesSince o.since
  match o.cmd with
  | .mm .. => (el - 6 - 3 * o.passes) / o.passes
  | .vent _ _ _ rows _ k =>
    let groups := (el - 4) / o.passes
    let whole := (rows + 1) * (bitsOf k 5 0 / 2)
    groups + min groups whole
  | _ => 0

/-- Of a multiply's busy cycles, those that have passed by now. -/
def State.busyDone (s : State) (o : CalOp) : Nat :=
  let klen := match o.cmd with | .mm _ _ _ _ _ _ _ _ k => bitsOf k 24 16 | _ => 0
  min o.busy (s.cyclesSince o.since - 4 - (o.tail + klen * o.passes - o.busy))

/-- The first n steps of a command reach CAL_FLAGS and the counters (R216, R236). -/
def State.creditOp (s : State) (t : Nat) (o : CalOp) (n busy : Nat) : State :=
  let r := o.runs.take n
  let f : Fld := if o.cmd.unit = .vent then .VENT_STEPS_COUNT else .CAL_STEPS_COUNT
  let s := s.orFlags .CAL_FLAGS_FLAGS (flagsOr (r.map (·.1))) t
  ((s.bump f r.length t).bump .CAL_TRUNC_STEPS_COUNT ((r.filter (·.2)).length) t).bump .CAL_BUSY_CYC_COUNT busy t

/-- A started command ends early: what it has done so far counts. -/
def State.creditNow (s : State) (t : Nat) (o : CalOp) : State :=
  if o.started then s.creditOp t o (s.stepsDone o) (s.busyDone o) else s

/-- Every command of a tile ends early (R224, R647). -/
def State.creditAll (s : State) (t : Nat) : State := (s.tile t).cal.foldl (fun s o => s.creditNow t o) s

/-- A bank-filling command completes: flags and counters, and the bank is HELD when nothing else works on it. -/
def State.completeFill (s : State) (t bank : Nat) (o : CalOp) (p : CalOp → Bool) : State :=
  let s := s.creditOp t o o.runs.length o.busy
  let x := s.tile t
  let x' := { x with cal := dropFirst p x.cal }
  (s.setTile t (x'.settleBank bank)).settleTile t

/-- A command on a bank ends with a parity error in the bank, which is left EMPTY (R225, R237). -/
def State.fillParity (s : State) (t bank : Nat) (o : CalOp) (p : CalOp → Bool) : State :=
  let s := s.creditNow t o
  let x := s.tile t
  ((s.setTile t { x.setBank bank Bank.reset with cal := dropFirst p x.cal }).raiseSlot .ERR_ACC_PARITY t o.slot 0 bank).settleTile t

end Sys2Proof.Machine
end

