-- ==== Sys2Proof/Machine/Arbiter.lean ====
section
/-! DEFINITION. The residual arbiters' books and locks (09, R470-R476): the arbiter of an address, beats, grants. -/

set_option autoImplicit false

namespace Sys2Proof.Machine

open Sys2Proof

/-- The arbiters replaced. -/
def State.setRes (s : State) (u : ResUnit) : State := { s with res := u }

/-- The register fabric's instance (R470). -/
def regFabric : Nat := 34

/-- First register address (R9). -/
def regBase : Nat := 0x040000000000

/-- A register access. -/
def isRegAddr (a : Nat) : Bool := decide (regBase ≤ a ∧ a < 0x050000000000)

/-- The arbiter of an address (R470). -/
def State.arbiterOf (s : State) (a : Nat) : Nat :=
  match s.placeOf a with
  | .cell c => memInstance c
  | _ => regFabric

/-- The lock that holds an arbiter. -/
def State.lockOf (s : State) (inst : Nat) : Option ResLock := tabGet none inst s.res.locks

/-- The lock of an arbiter replaced. -/
def State.setLock (s : State) (inst : Nat) (l : Option ResLock) : State :=
  s.setRes { s.res with locks := tabSet none inst l s.res.locks }

/-- The grant goes under R473. -/
def State.starved (s : State) (inst : Nat) : Bool :=
  decide ((tabGet 0 inst s.res.count + 1) % s.rd .RES_CTRL_STARVE_N = 0)

/-- A beat is granted and completes in it: the book of R474, and the count of R473, which a lock pauses. -/
def State.countGrant (s : State) (inst : Nat) : State :=
  let u := s.res
  let g := (tabGet 0 inst u.grants + 1) % 2 ^ 64
  let d := (tabGet 0 inst u.done + 1) % 2 ^ 64
  let u := { u with grants := tabSet 0 inst g u.grants, done := tabSet 0 inst d u.done }
  if (s.lockOf inst).isSome then s.setRes u
  else
    let n := if s.starved inst then 0 else tabGet 0 inst u.count + 1
    let s' := s.setRes { u with count := tabSet 0 inst n u.count }
    if s.starved inst then s'.bump .RES_STARVE_GRANTS_COUNT else s'

/-- Bytes of a beat of an arbiter (R470). -/
def beatBytes (inst : Nat) : Nat := if inst < 16 then 64 else if inst < regFabric then 32 else 4

/-- The beats of an access of n bytes at an address: address and bytes of each (R470). -/
def State.beatsOf (s : State) : Nat → Nat → Nat → List (Nat × Nat)
  | 0, _, _ => []
  | fuel + 1, a, n =>
    if n = 0 then []
    else
      let b := beatBytes (s.arbiterOf a)
      let k := min n (b - a % b)
      (a, k) :: s.beatsOf fuel (a + k) (n - k)

/-- A requester of a rank finds an arbiter on the way of its beats locked by another (R476). -/
def State.heldUp (s : State) (rank : Nat) (l : List (Nat × Nat)) : Bool :=
  l.any fun q => match s.lockOf (s.arbiterOf q.1) with | some k => k.owner != rank | none => false

/-- The beats of an access counted (R474). -/
def State.countBeats (s : State) (l : List (Nat × Nat)) : State :=
  l.foldl (fun (s : State) (q : Nat × Nat) => s.countGrant (s.arbiterOf q.1)) s

/-- An access of n bytes at an address by a unit of the module, with its grants: nothing where another holds an arbiter. -/
def State.throughArbiters (s : State) (rank a n : Nat) (f : State → State) : State :=
  let l := s.beatsOf n a n
  if s.heldUp rank l then s else f (s.countBeats l)

end Sys2Proof.Machine
end

