-- ==== Sys2Proof/Machine/Fabric.lean ====
section
/-! DEFINITION. The fabric (11): port states, credits, presenting, launching, accepting and delivering messages. -/

set_option autoImplicit false

namespace Sys2Proof.Machine

open Sys2Proof

/-! ### Port states (R521) -/

/-- STATE of a port (R562): 0 DOWN, 1 ABSENT, 2 TRAINING, 3 UP, 4 DEGRADED, 5 HELD. -/
def State.portState (s : State) (p : Nat) : Nat := s.rd .FAB_STATUS_STATE p

/-- A port that passes messages: UP or DEGRADED (R521). -/
def State.portLive (s : State) (p : Nat) : Bool := s.portState p == 3 || s.portState p == 4

/-- A port enters a state; the ledger stops or restarts its book (R561). -/
def State.setPort (s : State) (p st : Nat) : State :=
  let s := s.wr .FAB_STATUS_STATE st p
  if st = 3 ∨ st = 4 then
    if tabGet false p s.fab.audited then s
    else { s with fab := { s.fab with restart := tabSet false p true s.fab.restart } }
  else s

/-- Number of lanes in a mask. -/
def laneCount (m : Nat) : Nat := m % 2 + m / 2 % 2 + m / 4 % 2 + m / 8 % 2

/-- The tick guard: cycles 0 to 255 of a frame (R91). -/
def State.inGuard (s : State) : Bool := decide (s.frameCycle < 256)

/-- The module's coordinate (R528). -/
def State.coord (s : State) : Nat := s.rd .FAB_COORD_COORD

/-- Whether the coordinate is assigned. -/
def State.coordValid (s : State) : Bool := s.rd .FAB_COORD_VALID == 1

/-- GEY_FRAME_COUNT. -/
def State.frameCount (s : State) : Nat := s.rd .GEY_FRAME_COUNT_COUNT

/-! ### Queues of a port -/

/-- A receive buffer. -/
def State.rxOf (s : State) (p : Nat) : List RxEntry := tabGet [] p s.fab.rx
/-- A receive buffer replaced. -/
def State.setRx (s : State) (p : Nat) (l : List RxEntry) : State :=
  { s with fab := { s.fab with rx := tabSet [] p l s.fab.rx } }
/-- The messages waiting to leave by a port. -/
def State.txOf (s : State) (p : Nat) : List TxEntry := tabGet [] p s.fab.txq
/-- The messages waiting to leave by a port replaced. -/
def State.setTx (s : State) (p : Nat) (l : List TxEntry) : State :=
  { s with fab := { s.fab with txq := tabSet [] p l s.fab.txq } }
/-- A port puts something on its link. -/
def State.emitLink (s : State) (p : Nat) (o : LinkOut) : State :=
  { s with fab := { s.fab with out := s.fab.out ++ [(p, o)] } }

/-- Receive-buffer entries of a VC (FAB_OCCUPIED). -/
def State.occupied (s : State) (p v : Nat) : Nat := ((s.rxOf p).filter fun e => e.msg.vc == v).length

/-- An entry of a receive buffer frees and its credit is returned (R541). The buffer of messages to the module itself
has no credits. -/
def State.returnCredit (s : State) (p v : Nat) : State :=
  if 18 ≤ p then s else (s.bump .FAB_CRET_TX_COUNT 1 (p * 4 + v)).emitLink p (.credit v)

/-- The first entry that satisfies a test leaves the receive buffer. -/
def State.freeRx (s : State) (p : Nat) (f : RxEntry → Bool) : State :=
  match (s.rxOf p).find? f with
  | some e => (s.setRx p (dropFirst f (s.rxOf p))).returnCredit p e.msg.vc
  | none => s

/-! ### Launching -/

/-- An own message stamped at launch: frame tag and HCRC (R94, R537). -/
def State.stampMsg (s : State) (m : Msg) : Msg :=
  let m := { m with tag := s.frameCount % 65536, src := s.coord, hcrc := 0 }
  { m with hcrc := msgCrc m }

/-- A waiting message leaves by its port (R535, R541). -/
def State.launchOne (s : State) (p : Nat) (e : TxEntry) : State :=
  let k := p * 4 + e.msg.vc
  let s := s.wr .FAB_CREDIT_VC_AVAIL (s.rd .FAB_CREDIT_VC_AVAIL k - 1) k
  let s := s.bump .FAB_TX_MSG_COUNT 1 k
  match e.transit with
  | some q => (s.emitLink p (.msg e.msg)).freeRx q fun r => r.transit && decide (r.msg = e.msg)
  | none => s.emitLink p (.msg (s.stampMsg e.msg))

/-- Whether a port may launch on a VC: gate open, port live, coordinate valid, a credit held (R92, R521, R528, R541). -/
def State.mayLaunch (s : State) (p v : Nat) : Bool :=
  !s.inGuard && s.portLive p && s.coordValid && decide (0 < s.rd .FAB_CREDIT_VC_AVAIL (p * 4 + v))

/-- The module's frame-program messages (R106): SEND segments, gather requests, partials, Sinter's. -/
def frameKind (k : Nat) : Bool := k == 1 || k == 3 || k == 5 || k == 9

/-- After an overrun, and what counts as one (R90, R103, R255), the gate stays closed to frame-program messages until a STEP_ABORT is
accepted (R106). -/
def State.gateShut (s : State) : Bool := s.seq == .haltStep && !s.aborted

/-- A port launches what waits, in order on each VC, as far as its credits go. -/
def State.flushPort (s : State) (p : Nat) : State :=
  (s.txOf p).foldl (fun (s : State) (e : TxEntry) =>
    if s.mayLaunch p e.msg.vc && !(e.transit.isNone && frameKind e.msg.kind && s.gateShut) then (s.setTx p (dropFirst (fun x => decide (x = e)) (s.txOf p))).launchOne p e else s) s

/-- Every port launches what waits. -/
def State.flushAll (s : State) : State := (List.range 18).foldl State.flushPort s

/-! ### Presenting -/

/-- How a message finds its port (R533, R534): segment k of a SEND or partial, the first port of the route, or a
given port (the barrier tree). -/
inductive PortChoice where
  | seg (k : Nat) | first | port (p : Nat)
deriving DecidableEq, Repr

/-- A port given, not routed. -/
def PortChoice.fixed : PortChoice → Bool
  | .port _ => true
  | _ => false

/-- The ports of a mask, rising. -/
def maskPorts (m : Nat) : List Nat := (List.range 18).filter fun p => bitOf m p

/-- The port a message leaves by; `none` with no route. -/
def State.routePort (s : State) (dst : Nat) (c : PortChoice) : Option Nat :=
  match c with
  | .port p => some p
  | _ =>
    match s.fab.job with
    | none => none
    | some j =>
      let l := maskPorts (tabGet 0 dst j.routes)
      match c with
      | .seg k => l[k % l.length]?
      | _ => l[0]?

/-- An engine or unit presents a message (R93, R533, R539). `eng`: the frame-program engine and slot that present it. -/
def State.present (s : State) (m : Msg) (c : PortChoice) (eng : Option (Nat × Nat)) : State :=
  if m.dst == s.coord && !c.fixed then
    s.setRx 18 (s.rxOf 18 ++ [⟨s.stampMsg m, false⟩])
  else
    match s.routePort m.dst c with
    | none =>
      let src := match eng with | some (e, _) => ErrSrc.engine e | none => ErrSrc.die 0
      s.raise .ERR_FAB_NO_ROUTE src m.dst
    | some p =>
      let s := match eng with
        | some (e, k) => if s.inGuard then s.raiseSlot .ERR_GUARD_LAUNCH e k else s
        | none => s
      (s.setTx p (s.txOf p ++ [⟨m, none⟩])).flushPort p

/-- A message with the fields that most kinds leave 0. -/
def msgPlain (kind vc dst obj index aux : Nat) (payload : List Byte) : Msg :=
  ⟨kind, vc, false, false, 0, dst, 0, 0, obj, index, aux, none, none, payload, 0⟩

/-- Fabric coordinate of a job rank (R529). -/
def State.coordOfRank (s : State) (r : Nat) : Nat :=
  match s.fab.job with | some j => j.rankMap.getD r 0 | none => s.coord

/-- Job rank of a fabric coordinate. -/
def State.rankOfCoord (s : State) (c : Nat) : Nat :=
  match s.fab.job with | some j => j.rankMap.findIdx (fun x => x == c) | none => 0

/-! ### Arrival -/

/-- A tag is earlier than a frame count's low 16 bits (R512). -/
def tagEarlier (tag count : Nat) : Bool := decide (32768 ≤ (tag + 65536 - count % 65536) % 65536)

/-- A message's tag is earlier than the last tick that started BODY_FIRST. -/
def State.staleTag (s : State) (tag : Nat) : Bool :=
  match s.fab.bodyCount with | some c => tagEarlier tag c | none => false

/-- The sequencer is RUNNING or in HALT_STEP. -/
def State.inBody (s : State) : Bool := s.seq == .running || s.seq == .haltStep

/-- The sequencer is EMPTY, LOADED or STOPPED. -/
def State.seqFree (s : State) : Bool := s.seq == .empty || s.seq == .loaded || s.seq == .stopped

/-- Kinds whose stale messages are discarded and counted (R95): SEND segments and acknowledgements, gather requests and responses,
reduction partials; acknowledgements of partials, kind 6, which the rule does not list, go with them (log entry 85). -/
def staleKind (k : Nat) : Bool := decide (k ≤ 6)

/-- A message reaches its destination: kind, VC and HCRC, then frame tag, then staleness (R94, R95, R538, R539). -/
def State.deliver (s : State) (p : Nat) (m : Msg) : State :=
  if kindVc m.kind ≠ some m.vc ∨ m.hcrc ≠ msgCrc m then
    ((s.bump .FAB_HCRC_ERR_COUNT 1 p).raise .ERR_FAB_HCRC (.port p)).returnCredit p m.vc
  else
    let d := (m.tag + 65536 - s.frameCount % 65536) % 65536
    let s := if 1 ≤ d ∧ d < 32768 then s.raise .ERR_FRAME_AHEAD (.port p) m.tag else s
    if staleKind m.kind = true ∧ s.inBody ∧ s.staleTag m.tag then
      { s with fab := { s.fab with stale := s.fab.stale + 1 } }.returnCredit p m.vc
    else s.setRx p (s.rxOf p ++ [⟨m, false⟩])

/-- A delivered message that waits in a receive buffer is stale. -/
def State.staleEntry (s : State) (e : RxEntry) : Bool := !e.transit && staleKind e.msg.kind && s.staleTag e.msg.tag

/-- At a tick that starts BODY_FIRST, what waits in a receive buffer and has become stale is discarded (R95, R542). -/
def State.purgeStale (s : State) (p : Nat) : State :=
  let l := (s.rxOf p).filter s.staleEntry
  let s := s.setRx p ((s.rxOf p).filter fun e => !s.staleEntry e)
  l.foldl (fun (s : State) (e : RxEntry) =>
    { s with fab := { s.fab with stale := s.fab.stale + 1 } }.returnCredit p e.msg.vc) s

/-- A message in transit waits for its next port (R535); with no route it is not sent (R533). -/
def State.forward (s : State) (p : Nat) (m : Msg) : State :=
  match s.routePort m.dst (if (m.kind = 1 ∨ m.kind = 5) then .seg m.index else .first) with
  | none => (s.raise .ERR_FAB_NO_ROUTE (.port p) m.dst).returnCredit p m.vc
  | some q => ((s.setRx p (s.rxOf p ++ [⟨m, true⟩])).setTx q (s.txOf q ++ [⟨m, some p⟩])).flushPort q

/-- A message arrives at a port that can take it (R535, R540): counted, then delivered or forwarded. -/
def State.arriveMsg (s : State) (p : Nat) (m : Msg) : State :=
  if !(s.portLive p && s.coordValid) || decide (s.rd .FAB_CREDIT_VC_LIMIT (p * 4 + m.vc) ≤ s.occupied p m.vc) then s
  else
    let s := s.bump .FAB_RX_MSG_COUNT 1 (p * 4 + m.vc)
    if m.dst = s.coord then s.deliver p m else s.forward p m

/-- The oldest delivered message of a kind in a receive buffer that satisfies a test. -/
def State.peekRx (s : State) (p : Nat) (f : Msg → Bool) : Option Msg :=
  ((s.rxOf p).find? fun e => !e.transit && f e.msg).map (·.msg)

/-- That message leaves the buffer and its credit is returned. -/
def State.popRx (s : State) (p : Nat) (f : Msg → Bool) : State := s.freeRx p fun e => !e.transit && f e.msg

/-! ### Lanes (R524-R527) -/

/-- A port loses too many lanes (R527): DOWN, its receive and replay buffers discarded and counted, then it retrains. -/
def State.portDown (s : State) (p replay : Nat) : State :=
  let n := (s.rxOf p).length + replay
  let s := { s with fab := { s.fab with
      drops := s.fab.drops.filter fun d => d.port != p
      audited := tabSet false p false s.fab.audited
      txq := (s.fab.txq.map fun (q : Nat × List TxEntry) => (q.1, q.2.filter fun (e : TxEntry) => e.transit != some p)).filter
        fun q => !q.2.isEmpty } }
  let s := (s.setRx p []).bump .FAB_LINK_LOSS_COUNT n p
  ((s.setPort p 0).wr .FAB_STATUS_LANE_MASK 0 p).raise .ERR_FAB_PORT_DOWN (.port p)

/-- A lane is to be removed at the next tick, or the second one when fewer than 512 cycles are left (R524, R526). -/
def State.dropLane (s : State) (p lane replay : Nat) : State :=
  let mask := s.rd .FAB_STATUS_LANE_MASK p
  let gone := (s.fab.drops.filter fun d => d.port == p).length
  if laneCount mask < gone + 3 then s.portDown p replay
  else
    let n := if s.cyclesLeft < 512 then 2 else 1
    { s with fab := { s.fab with drops := s.fab.drops ++ [LaneDrop.mk p lane n] } }.raise .ERR_FAB_LANE (.port p) lane

/-- A lane in use that is not already to be removed. -/
def State.laneUsed (s : State) (p lane : Nat) : Bool :=
  s.portLive p && bitOf (s.rd .FAB_STATUS_LANE_MASK p) lane && decide (lane < 4) &&
    !s.fab.drops.any fun d => d.port == p && d.lane == lane

/-- Lanes removed at a tick (R524). -/
def State.removeLanes (s : State) : State :=
  let due := s.fab.drops.filter fun d => decide (d.ticks ≤ 1)
  let s := { s with fab := { s.fab with
      drops := (s.fab.drops.filter fun d => decide (1 < d.ticks)).map fun d => { d with ticks := d.ticks - 1 } } }
  due.foldl (fun (s : State) (d : LaneDrop) =>
    let m := s.rd .FAB_STATUS_LANE_MASK d.port
    let s := s.wr .FAB_STATUS_LANE_MASK (setBits m d.lane d.lane 0) d.port
    let s := { s with str := { s.str with laneTest := tabSet false (d.port * 4 + d.lane) true s.str.laneTest } }
    if s.portLive d.port then s.wr .FAB_STATUS_STATE 4 d.port else s) s

/-- Repaired lanes added at a tick (R662). -/
def State.addLanes (s : State) : State :=
  let due := s.str.laneAdd.filter fun a => decide (a.2.2 ≤ 1)
  let s := { s with str := { s.str with
      laneAdd := (s.str.laneAdd.filter fun a => decide (1 < a.2.2)).map fun a => (a.1, a.2.1, a.2.2 - 1) } }
  due.foldl (fun (s : State) (a : Nat × Nat × Nat) =>
    let m := setBits (s.rd .FAB_STATUS_LANE_MASK a.1) a.2.1 a.2.1 1
    let s := s.wr .FAB_STATUS_LANE_MASK m a.1
    if s.portLive a.1 then s.wr .FAB_STATUS_STATE (if m = 15 then 3 else 4) a.1 else s) s

end Sys2Proof.Machine
end

