-- ==== Sys2Proof/Machine/Barrier.lean ====
section
/-! DEFINITION. Job barriers across the barrier tree (R503, R504), the vote's withholding at the root (R598), and
signals that arrive at their objects. -/

set_option autoImplicit false

namespace Sys2Proof.Machine

open Sys2Proof

/-- A message of the barrier tree leaves by a port, to the neighbour learned there. -/
def State.sendTree (s : State) (kind obj gen p : Nat) : State :=
  s.present (msgPlain kind 0 (s.rd .FAB_NEIGH_COORD p) obj 0 gen []) (.port p) none

/-- A release goes to every child (R503). -/
def State.sendReleases (s : State) (obj gen : Nat) : State :=
  (maskPorts s.sync.barChildren).foldl (fun (s : State) (p : Nat) => s.sendTree 8 obj gen p) s

/-- The release of the vote has reached this module (R599). -/
def State.noteVote (s : State) (obj : Nat) : State :=
  match s.step.table with
  | some t =>
    if t.voteBar = obj ∧ s.step.commitStart.isSome then
      { s with step := { s.step with released := true } }.wr .STEP_STATUS_RELEASED 1
    else s
  | none => s

/-- At the root the vote may not be released any more: fewer than DESCENT_NS remain before the commit tick (R598). -/
def State.voteLate (s : State) (obj : Nat) : Bool :=
  match s.step.table with
  | some t =>
    t.voteBar == obj && match s.step.commitStart with
      | some f => decide (s.tickTime (f + 1) < s.tb + t.descentNs * tbPerNs)
      | none => true
  | none => false

/-- GEN of a job barrier would pass its maximum (R501). -/
def State.genSaturates (s : State) (obj g : Nat) : State :=
  if maxCount < g then s.raiseObj .ERR_SYNC_SATURATE (.die (syncHome obj)) obj else s

/-- One round of R503: report to the parent, or release at the root. -/
def State.jobStep (s : State) (d : SyncDecl) : State :=
  if s.sync.reportReady d then
    let b := s.sync.bar d.id
    let b := { b with arrivals := b.arrivals - d.members }
    let g := b.gen + 1
    if s.sync.barParent ≠ 0xFF then
      { s with sync := s.sync.setBar d.id { b with reported := true } }.sendTree 7 d.id g s.sync.barParent
    else if s.voteLate d.id then
      { s with sync := s.sync.setBar d.id { b with reported := true } }.raise .ERR_COMMIT_LATE (.engine 0x110)
    else
      (({ s with sync := (s.sync.setBar d.id (b.release g)).test d.id }.genSaturates d.id g).noteVote d.id).sendReleases d.id g
  else s

/-- The signals of one cycle reach one object and every consequence follows. -/
def State.objectCycle (s : State) (ms : List SigMsg) (obj : Nat) : State :=
  match s.applyCycle obj (ms.filter fun m => m.obj == obj) with
  | (s, some d) => s.jobStep d
  | (s, none) => s

/-- The signals of one cycle reach their objects (R494). -/
def State.signalsArrive (s : State) (ms : List SigMsg) : State :=
  ((ms.map (·.obj)).foldl (fun (l : List Nat) (x : Nat) => if l.contains x then l else l ++ [x]) []).foldl (State.objectCycle · ms ·) s

/-- A barrier message or SEND signal of an earlier body is discarded and noted once a tick (R512). -/
def State.noteStale (s : State) (obj : Nat) : State :=
  let s := s.bump .SYNC_STALE_COUNT_COUNT
  if s.sync.staleNoted then s
  else { s with sync := { s.sync with staleNoted := true } }.raiseObj .ERR_SYNC_STALE (.die (syncHome obj)) obj

/-- A message of the tree that does not fit it (R504). -/
def State.treeError (s : State) (p obj gen : Nat) : State :=
  s.raiseObj .ERR_SYNC_TREE (.die (syncHome obj)) obj (p + gen % 2 ^ 24 * 256)

/-- The declaration of a job barrier. -/
def State.jobBarrier (s : State) (obj : Nat) : Option SyncDecl :=
  match s.sync.decl obj with
  | some d => if d.kind = 2 then some d else none
  | none => none

/-- A report from a child port (R503, R504). -/
def State.takeReport (s : State) (p obj gen : Nat) : State :=
  match s.jobBarrier obj with
  | none => s.treeError p obj gen
  | some d =>
    let b := s.sync.bar obj
    if bitOf s.sync.barChildren p && gen == b.gen + 1 && !bitOf b.children p then
      { s with sync := s.sync.setBar obj { b with children := b.children ||| 2 ^ p } }.jobStep d
    else s.treeError p obj gen

/-- A release from the parent (R503, R504): GEN rises, the release goes on to the children, waits are tested, and
arrivals that gathered may be reported. -/
def State.takeRelease (s : State) (p obj gen : Nat) : State :=
  match s.jobBarrier obj with
  | none => s.treeError p obj gen
  | some d =>
    let b := s.sync.bar obj
    if p == s.sync.barParent && gen == b.gen + 1 && b.reported then
      let s := (({ s with sync := (s.sync.setBar obj (b.release gen)).test obj }.genSaturates obj gen).noteVote obj).sendReleases obj gen
      s.jobStep d
    else s.treeError p obj gen

end Sys2Proof.Machine
end

