-- ==== Sys2Proof/Machine/SyncRows.lean ====
section
/-! DEFINITION. The commands of the synchronisation unit (10). -/

set_option autoImplicit false

namespace Sys2Proof.Machine

open Sys2Proof

/-- Engines of an ID: tiles hold bundles, the others records. -/
def isTile (e : Nat) : Bool := decide (e < 256)

/-- An engine's wait ends without being satisfied: no further bundle or record of the slot issues (R498, R791). -/
def State.waitFails (s : State) (e : Nat) : State :=
  let s := { s with sync := s.sync.dropWait e }
  if isTile e then
    let s := s.setVe e (s.veOf e).dropped
    (s.stopSlot e).settleTile e
  else (s.setEngine e { s.engine e with wait := .none, isOver := true }).settleList e

/-- A signal issued after a body-entry tick is held until the unit has acted (R510). -/
def State.signalHeld (s : State) (m : SigMsg) : Bool := s.sync.entryDue && m.fresh

/-- SYNC_SIGNAL_APPLY (R491, R494, R496): the signals in flight at the places named reach their objects in one cycle. -/
def execSyncSignalApply (sigs : SigCycle) (s : State) : Res :=
  let l := s.sync.inflight.zipIdx
  let goes := fun (q : SigMsg × Nat) => (q.2 == sigs.first || sigs.more.contains q.2) && !s.signalHeld q.1
  let stay := (l.filter fun (q : SigMsg × Nat) => !goes q).map Prod.fst
  .next ({ s with sync := { s.sync with inflight := stay } }.signalsArrive ((l.filter goes).map Prod.fst))

/-- SYNC_WAIT_REGISTER (R493, R791): an engine's wait reaches its object: refused, or registered and tested. -/
def execSyncWaitRegister (e : Nat) (s : State) : Res :=
  match s.sync.waitOf e with
  | none => .next s
  | some w =>
    if w.state ≠ .sent ∨ (s.sync.entryDue = true ∧ w.fresh = true) then .next s
    else
      match s.sync.waitRefusal w with
      | some r => .next ((s.raiseObj r (.engine e) w.obj).waitFails e)
      | none => .next { s with sync := (s.sync.setWaitState e .registered).test w.obj }

/-- SYNC_WAIT_RELEASE (R496): the release of a satisfied wait reaches the waiter: a tile's held bundle may issue, an
engine may start its record. -/
def execSyncWaitRelease (e : Nat) (s : State) : Res :=
  match s.sync.waitOf e with
  | none => .next s
  | some w =>
    if w.state ≠ .satisfied then .next s
    else
      let s' := { s with sync := s.sync.dropWait e }
      if isTile e then
        match (s.veOf e).held with
        | none => .next s'
        | some h => .next ((s'.setVe e (s'.veOf e).dropped).tryBundle e (bundleOf h.bits.toNat) h.own h.upset true)
      else .next (s'.setEngine e { s'.engine e with wait := .released })

/-- The record of an expired wait (R498). -/
def State.raiseTimeout (s : State) (w : SyncWait) : State :=
  (s.raiseRec .ERR_SYNC_TIMEOUT Err.ERR_SYNC_TIMEOUT.severity (.engine w.engine) (some w.obj)
    (some (waiterId w.engine w.slot w.record)) (w.thr + b2n w.consume * 2 ^ 32) (s.sync.level w.obj)).bump
    .SYNC_TMO_COUNT_COUNT

/-- A wait not yet satisfied at its last frame boundary (R497). -/
def SyncWait.expired (w : SyncWait) : Bool := (w.state == .sent || w.state == .registered) && w.left == 0

/-- Waiter ID of a wait (R793). -/
def SyncWait.waiter (w : SyncWait) : Nat := waiterId w.engine w.slot w.record

/-- A wait put into a list in ascending waiter ID. -/
def insertWait (w : SyncWait) : List SyncWait → List SyncWait
  | [] => [w]
  | x :: l => if w.waiter ≤ x.waiter then w :: x :: l else x :: insertWait w l

/-- The waits that have expired, in ascending waiter ID (R499). -/
def SyncUnit.expiredWaits (u : SyncUnit) : List SyncWait := (u.waits.filter SyncWait.expired).foldr insertWait []

/-- A wait that has expired ends (R498). -/
def State.waitExpires (s : State) (w : SyncWait) : State := (s.raiseTimeout w).waitFails w.engine

/-- SYNC_WAIT_TIMEOUT (R498, R499): an engine's wait expires, after those with a lower waiter ID that have expired with it. -/
def execSyncWaitTimeout (e : Nat) (s : State) : Res :=
  match s.sync.waitOf e with
  | none => .next s
  | some w =>
    if w.expired then
      let before := s.sync.expiredWaits.filter fun x => decide (x.waiter < w.waiter)
      .next ((before.foldl State.waitExpires s).waitExpires w)
    else .next s

/-- BARRIER_REPORT (R503): the oldest report in a port's receive buffer. -/
def execBarrierReport (p : Nat) (s : State) : Res :=
  match s.peekRx p fun m => m.kind == 7 with
  | none => .next s
  | some m =>
    let s := s.popRx p fun m => m.kind == 7
    .next (if s.staleTag m.tag then s.noteStale m.obj else s.takeReport p m.obj m.aux)

/-- BARRIER_RELEASE (R503): the oldest release in a port's receive buffer. -/
def execBarrierRelease (p : Nat) (s : State) : Res :=
  match s.peekRx p fun m => m.kind == 8 with
  | none => .next s
  | some m =>
    let s := s.popRx p fun m => m.kind == 8
    .next (if s.staleTag m.tag then s.noteStale m.obj else s.takeRelease p m.obj m.aux)

/-- Every signal issued before the last tick is applied (R510). -/
def State.applyOld (s : State) : State :=
  let old := s.sync.inflight.filter fun m => !m.fresh
  let s := { s with sync := { s.sync with inflight := s.sync.inflight.filter fun m => m.fresh } }
  old.foldl (fun (s : State) (m : SigMsg) => s.signalsArrive [m]) s

/-- SYNC_BODY_ENTRY (R510): in cycle 20 of a BODY_FIRST frame the objects are compared and restored, and the waits of
the body before end. -/
def execSyncBodyEntry (s : State) : Res :=
  if !s.sync.entryDue then .next s
  else
    let s := (s.advanceTo 20).applyOld
    let s := if s.sync.entryAfterAbort then s else s.syncCheckBalance Err.ERR_SYNC_UNBALANCED.severity
    let u := s.sync.restoreAll
    .next { s with sync := { u with
        waits := u.waits.filter (fun w => w.fresh), entryDue := false, entryAfterAbort := false } }

/-- SYNC_PROGRAM_END_CHECK (R511): in cycle 20 after the program stopped, imbalances are recorded. -/
def execSyncProgramEndCheck (s : State) : Res :=
  if s.sync.endCheckDue then
    let s := (s.advanceTo 20).applyOld.syncCheckBalance 0
    .next { s with sync := { s.sync with endCheckDue := false } }
  else .next s

/-- SYNC_HOST_SIG_WRITE (R496): a 64-bit write of the host or of firmware signals an object. -/
def execSyncHostSigWrite (id count : Nat) (s : State) : Res := .next (s.sendSignal .host id count)

end Sys2Proof.Machine
end

