-- ==== Sys2Proof/Machine/Element.lean ====
section
/-! DEFINITION. What a transfer reads and writes (R396-R401, R407-R410, R418-R424): source elements with their scale,
conversion into the destination, packing units, CRC order. -/

set_option autoImplicit false

namespace Sys2Proof.Machine

open Sys2Proof

/-! ### Reading -/

/-- Where a byte of a tensor stands: an address of this module, or a byte of an allocation of another job rank, by
offset from its current page (R398). -/
inductive Loc where
  | here (a : Nat)
  | there (rank handle off : Nat)
deriving DecidableEq, Repr

/-- Bytes that answered a gather: rank, handle, offset, and the byte; none for a refusal (R428). -/
abbrev Fetched := List ((Nat × Nat × Nat) × Option Byte)

/-- The byte at a place; none where the owner refused. -/
def State.byteAt (s : State) (f : Fetched) : Loc → Option Byte
  | .here a => some (s.ld a)
  | .there r h o => match f.find? fun p => p.1 == (r, h, o) with | some p => p.2 | none => none

/-- Job rank with the given coordinates on some mesh axes, and this module's on the others. -/
def State.gatherRank (s : State) (coords : List (Nat × Nat)) : Nat :=
  let c := fun a => match coords.find? fun p => p.1 == a with | some p => p.2 | none => s.meshCoord s.rank a
  ((List.range 6).foldr (fun b (acc : Nat) => acc * s.meshSize (b + 1) + c (b + 1)) 0)

/-- The place of the element or packing unit at a local position (R397, R398). -/
def State.locOf (s : State) (d : Desc) (j : List Int) : Loc :=
  let g := d.dims.filter d.gathered
  let own := g.map fun x => (x, s.ownerOf d x (j.getD x 0).toNat)
  let r := s.gatherRank (own.map fun p => (d.axis p.1, p.2.1))
  if g.isEmpty ∨ r = s.rank then
    let j' := d.dims.map fun x => match own.find? fun p => p.1 == x with | some p => (p.2.2 : Int) | none => j.getD x 0
    .here (s.addrOf d j')
  else
    let j' := d.dims.map fun x => match own.find? fun p => p.1 == x with | some p => (p.2.2 : Int) | none => j.getD x 0
    .there r d.alloc ((d.base : Int) + d.offset j').toNat

/-- The n places from a place on. -/
def locRun (n : Nat) : Loc → List Loc
  | .here a => (List.range n).map fun i => .here (a + i)
  | .there r h o => (List.range n).map fun i => .there r h (o + i)

/-- The bits of an element at a local position; none where the owner refused. -/
def State.elemBits (s : State) (f : Fetched) (d : Desc) (j : List Int) : Option Nat :=
  let bs := (locRun d.ty.unitBytes (s.locOf d j)).map (s.byteAt f)
  if bs.any (·.isNone) then none
  else some (leNat (bs.map (·.getD 0)) / 2 ^ (d.ty.width * d.place j) % 2 ^ d.ty.width)

/-- Local position in the scale tensor of the block that holds a local position (R415). -/
def blockPos (d : Desc) (j : List Int) : List Int := d.dims.map fun x => j.getD x 0 / (d.block x : Int)

/-- The scale byte that applies to a local position; none without scale or where the owner refused. -/
def State.scaleByte (s : State) (f : Fetched) (d : Desc) (j : List Int) : Option Nat :=
  let c := s.desc d.scaleLink
  if d.scaleMode = 1 then s.elemBits f c [0]
  else if d.scaleMode = 2 then s.elemBits f c (blockPos d j)
  else none

/-- A source position (R396, R409, R419): padded, with what made it so, or valid at its local position. -/
inductive SrcPos where
  | pad
  | badIndex
  | at (j : List Int)
deriving DecidableEq, Repr

/-- The local position in the index tensor of a window position (R419). -/
def indexPos (c : Desc) (i : Nat) : List Int := [c.ws 0 + (i : Int)]

/-- INT32 element of an index tensor at a window position (R419); the index tensor's own padded positions deliver its PAD_VALUE
(R409). -/
def State.indexAt (s : State) (d : Desc) (i : Nat) : Int :=
  let c := s.desc d.indexLink
  toSigned 32 (if s.validPos c (indexPos c i) then (s.elemBits [] c (indexPos c i)).getD 0 else c.padValue)

/-- The source position of a window position. -/
def State.srcPos (s : State) (d : Desc) (i : List Nat) : SrcPos :=
  let j := d.dims.map fun x => if d.indexed x then s.indexAt d (i.getD x 0) else d.local i x
  let v := j.getD d.idx 0
  if d.indexEn ∧ v ≠ -1 ∧ (v < 0 ∨ (s.extent d d.idx : Int) ≤ v) then .badIndex
  else if s.validPos d j then .at j else .pad

/-- A source element of a transfer: its bits, its value as decoded with its scale and the flags of that, whether it is
padded. A position whose owner refused is padded (R428). -/
structure SrcElem where
  bits : Nat
  val : Num
  flags : FlagSet
  pad : Bool
  refused : Bool
deriving DecidableEq, Repr

/-- PAD_VALUE as a source element, decoded with a factor of 1 (R409). -/
def Desc.padElem (d : Desc) (refused : Bool) : SrcElem :=
  let v := if d.scaleMode = 2 then (decodeMicro d.ty 127 d.padValue).1 else d.ty.decodeForCvt d.padValue
  ⟨d.padValue % 2 ^ d.ty.width, v, fNone, true, refused⟩

/-- The source element of a source position (R156-R158, R409, R424). -/
def State.srcElem (s : State) (f : Fetched) (d : Desc) (p : SrcPos) : SrcElem :=
  match p with
  | .pad => d.padElem false
  | .badIndex => d.padElem false
  | .at j =>
    match s.elemBits f d j with
    | none => d.padElem true
    | some b =>
      if d.scaleMode = 0 then ⟨b, d.ty.decodeForCvt b, fNone, false, false⟩
      else
        match s.scaleByte f d j with
        | none => d.padElem true
        | some e =>
          if e % 256 = 255 then ⟨b, nanRes, fSCNAN, false, false⟩
          else if d.scaleMode = 1 then ⟨b, decodeTensorScaled d.ty e b, fNone, false, false⟩
          else let (v, fl) := decodeMicro d.ty e b; ⟨b, v, fl, false, false⟩

/-! ### Writing -/

/-- A unit written: its address, its bytes' count and their value. -/
structure UnitW where
  addr : Nat
  bytes : Nat
  value : Nat
deriving DecidableEq, Repr

/-- An element put into the unit list: places of one unit follow one another (R126, R127, R407). -/
def putElem (ty : ElemType) (l : List UnitW) (addr place bits : Nat) : List UnitW :=
  let v := bits * 2 ^ (ty.width * place)
  match l with
  | u :: r => if u.addr = addr ∧ 1 < ty.perUnit then { u with value := u.value ||| v } :: r else ⟨addr, ty.unitBytes, v⟩ :: l
  | [] => [⟨addr, ty.unitBytes, v⟩]

/-- The bytes of units in order. -/
def unitBytesOf (l : List UnitW) : List (Nat × Byte) :=
  l.flatMap fun u => (leBytes u.bytes u.value).zipIdx.map fun q => (u.addr + q.2, q.1)

/-- What a transfer's conversion yields: element bits per destination position, scale bytes written, flags, recorded
elements, whether a block's exponent was clamped. -/
structure CvtRun where
  elems : List (List Int × Nat)
  scales : List UnitW
  flags : FlagSet
  stats : List (Num × Bool)
  clamp : Bool

/-- Nothing converted yet. -/
def CvtRun.none : CvtRun := ⟨[], [], fNone, [], false⟩

/-- Draw of a destination element (R137, R139). -/
def State.xferDraw (s : State) (c : DrawCtx) (d : Desc) (j : List Int) : Nat :=
  if Rnd.ofCode d.rnd = some .sr then srDraw c.salt c.step d.id c.engine (s.globalIndex d j) else 0

/-- One element into a destination of SCALE_MODE 0 or TENSOR (R148-R152, R172, R409, R424); `plain` when the pair is a
bit copy. -/
def State.encodeOne (s : State) (c : DrawCtx) (src d : Desc) (plain : Bool) (dscale : Nat) (j : List Int) (e : SrcElem) :
    Nat × FlagSet :=
  if plain then (e.bits, fNone)
  else
    let m := if e.pad then Rnd.rne else (Rnd.ofCode d.rnd).getD .rne
    let ctl : CvtCtl := ⟨m, if e.pad then 0 else s.xferDraw c d j, d.sat, d.ovf⟩
    let (b, fl) :=
      if d.scaleMode = 1 then
        if dscale % 256 = 255 then (0, fSCNAN) else encodeTensorScaled d.ty dscale ctl e.val
      else if src.scaleMode = 2 then d.ty.decodeInto ctl e.val
      else if src.scaleMode = 1 then
        match d.ty.fmt with | some f => f.convert ctl e.val | none => intConvert d.ty.width ctl e.val
      else convertNum src.ty d.ty ctl e.val
    (b, if e.pad then fNone else fl ||| e.flags)

/-- One block into a MICRO destination (R155, R159-R162): the elements that lie in the window, the missing ones zero. -/
def State.encodeBlk (s : State) (c : DrawCtx) (d : Desc) (l : List (List Int × SrcElem)) (key : List Int) : CvtRun :=
  let at_ := fun (n : Nat) =>
    let j0 := key.getD 0 0 * (d.block 0 : Int) + ((n % d.block 0 : Nat) : Int)
    let j1 := key.getD 1 0 * (d.block 1 : Int) + ((n / d.block 0 : Nat) : Int)
    l.find? fun p => p.1.getD 0 0 == j0 && (decide (d.rank < 2) || p.1.getD 1 0 == j1)
  let slots := (List.range 32).map at_
  let xs := slots.map fun o => match o with | some p => p.2.val | none => Num.fin (exZero false)
  let how := slots.map fun o => match o with
    | some p => ElemHow.mk ((Rnd.ofCode d.rnd).getD .rne) (if p.2.pad then 0 else s.xferDraw c d p.1) p.2.pad
    | none => ElemHow.mk .rne 0 true
  let b := encodeBlockWith d.ty d.ceil how xs
  let got := (slots.zip (b.elems.zip b.clamps)).filterMap fun q => q.1.map fun p => (p, q.2)
  { elems := got.map fun q => (q.1.1, q.2.1)
    scales := [⟨s.addrOf (s.desc d.scaleLink) key, 1, b.scale⟩]
    flags := b.flags ||| flagsOr (got.map fun q => q.1.2.flags)
    stats := (got.filter fun q => !q.1.2.pad).map fun q => (q.1.2.val, q.2.2)
    clamp := b.clamped }

/-- Two runs joined. -/
def CvtRun.join (a b : CvtRun) : CvtRun :=
  ⟨a.elems ++ b.elems, a.scales ++ b.scales, a.flags ||| b.flags, a.stats ++ b.stats, a.clamp || b.clamp⟩

/-- Distinct elements in order of first appearance. -/
def distinct {α : Type} [DecidableEq α] (l : List α) : List α :=
  l.foldl (fun acc x => if acc.contains x then acc else acc ++ [x]) []

/-- The elements of a transfer converted into their destination: valid destination positions with their source
elements, in window order. -/
def State.convertAll (s : State) (c : DrawCtx) (src d : Desc) (l : List (List Int × SrcElem)) (scaleCopy : List (List Int × Nat)) :
    CvtRun :=
  let micro := src.scaleMode == 2 && d.scaleMode == 2
  let plain := micro || (src.etype == d.etype && src.scaleMode == 0 && d.scaleMode == 0)
  if plain then
    { elems := l.map fun p => (p.1, p.2.bits)
      scales := if micro then scaleCopy.map fun p => ⟨s.addrOf (s.desc d.scaleLink) p.1, 1, p.2⟩ else []
      flags := fNone
      stats := (l.filter fun p => !p.2.pad).map fun p => (p.2.val, false)
      clamp := false }
  else if d.scaleMode = 2 then
    (distinct (l.map fun p => blockPos d p.1)).foldl (fun acc k =>
      acc.join (s.encodeBlk c d (l.filter fun p => blockPos d p.1 == k) k)) CvtRun.none
  else
    let ds := (s.elemBits [] (s.desc d.scaleLink) [0]).getD 0
    let r := l.map fun p => (p, s.encodeOne c src d false ds p.1 p.2)
    { elems := r.map fun q => (q.1.1, q.2.1)
      scales := []
      flags := flagsOr (r.map fun q => q.2.2)
      stats := (r.filter fun q => !q.1.2.pad).map fun q => (q.1.2.val, countsClamp d.ty q.2.1 q.2.2)
      clamp := false }

/-- Bits written at the given window positions of a destination: converted elements, PAD_VALUE under PAD_WRITE (R410). -/
def State.unitsAt (s : State) (d : Desc) (w : List (List Nat)) (es : List (List Int × Nat)) : List UnitW :=
  (w.foldl (fun (l : List UnitW) (i : List Nat) =>
    let j := d.dims.map (d.local i)
    if s.validPos d j then
      match es.find? fun p => p.1 == j with
      | some p => putElem d.ty l (s.addrOf d j) (d.place j) p.2
      | none => l
    else if d.padWrite then putElem d.ty l (s.addrOf d j) (d.place j) (d.padValue % 2 ^ d.ty.width)
    else l) []).reverse

/-- Bits written over the whole window of a destination. -/
def State.windowUnits (s : State) (d : Desc) (es : List (List Int × Nat)) : List UnitW := s.unitsAt d d.window es

end Sys2Proof.Machine
end

