-- ==== Sys2Proof/Machine/TileMap.lean ====
section
/-! DEFINITION. Physical tiles and the logical positions they carry: faults, takeovers, rotations (R34, R37, R642-R650,
R668). -/

set_option autoImplicit false

namespace Sys2Proof.Machine

open Sys2Proof

/-- A physical tile's entry. -/
def State.pt (s : State) (p : Nat) : PTile := tabGet (PTile.home p) p s.str.ptiles

/-- A physical tile's entry replaced. -/
def State.setPt (s : State) (p : Nat) (v : PTile) : State :=
  { s with str := { s.str with ptiles := tabSet (PTile.home p) p v s.str.ptiles } }

/-- Cluster of a physical tile: 8 × die + cluster (R31). -/
def clusterOfPt (p : Nat) : Nat := p / 17
/-- Cluster of a logical tile (R32). -/
def clusterOfTile (t : Nat) : Nat := t / 16
/-- Die of a physical tile. -/
def dieOfPt (p : Nat) : Nat := p / 136
/-- Logical tile of a position of a cluster. -/
def tileOfPos (c pos : Nat) : Nat := c * 16 + pos

/-- The physical tiles of a cluster. -/
def clusterPts (c : Nat) : List Nat := (List.range 17).map fun i => c * 17 + i

/-- The cluster's tile in a state, if any: the one of lowest index. -/
def State.findPt (s : State) (c : Nat) (st : PtState) : Option Nat := (clusterPts c).find? fun p => (s.pt p).state == st

/-- The cluster's spare: in SPARE, else in SPARE_TEST. -/
def State.spareOf (s : State) (c : Nat) : Option Nat :=
  match s.findPt c .spare with
  | some p => some p
  | none => s.findPt c .spareTest

/-- Whether a cluster is degraded. -/
def State.isDegraded (s : State) (c : Nat) : Bool := tabGet false c s.str.degraded

/-- The cluster's degraded mark follows whether it has a tile in SPARE or SPARE_TEST, with the records of R668. -/
def State.noteCluster (s : State) (c p : Nat) : State :=
  let now := (s.spareOf c).isNone
  let was := s.isDegraded c
  let s := { s with str := { s.str with degraded := tabSet false c now s.str.degraded } }
  if now && !was then s.raise .ERR_CLUSTER_DEGRADED (.ptile p)
  else if was && !now then s.raise .ERR_CLUSTER_RESTORED (.ptile p)
  else s

/-- The logical tile that a physical tile carries. -/
def State.tileOfPt (s : State) (p : Nat) : Option Nat :=
  if (s.pt p).state = .active then some (tileOfPos (clusterOfPt p) (s.pt p).pos) else none

/-- A takeover is staged for a logical tile, so that accesses to it are held (R36, R647). -/
def State.takeoverStaged (s : State) (t : Nat) : Bool := s.str.takeovers.any fun k => k.tile == t

/-- The key store of a physical tile loaded with the job's salt (R644, R655). -/
def State.loadKey (s : State) (p : Nat) : State := s.setPtile p { s.ptile p with salt := s.policy.salt }

/-- A logical tile remapped to a physical tile, which becomes ACTIVE (R643, R648). -/
def State.remap (s : State) (t p : Nat) : State :=
  let s := s.setPt p { s.pt p with state := .active, tested := false, pos := t % 16, passed := 0, failed := 0 }
  let s := { s with tileMap := tabSet (homeTile t) t p s.tileMap }
  let s := { s with str := { s.str with prefilled := tabSet none (clusterOfTile t) none s.str.prefilled } }
  (s.bump .STR_ROTATIONS_COUNT).loadKey p

/-- The storage of a physical tile reset: its repairs stay (R228, R236). -/
def State.wipeTile (s : State) (p : Nat) : State :=
  s.setPtile p { Tile.reset with rowmap := (s.ptile p).rowmap, feedDly := (s.ptile p).feedDly }

/-- The operations of a logical tile end with no effect, and it issues nothing more (R647). -/
def State.stopTile (s : State) (t : Nat) : State :=
  let s := s.setVe t { (s.veOf t).dropped with halted := true, fenced := [], late := [], popping := [] }
  let s := { s with sync := { s.sync with waits := s.sync.waits.filter fun w => w.engine != t } }
  s.settleTile t

/-- A tile raised an error of severity UNIT: FAILED, held in reset, a takeover staged; with no spare the position is
left unmapped (R647, R650). -/
def State.tileFault (s : State) (t : Nat) : State :=
  let p := s.physOf t
  let c := clusterOfTile t
  if 272 ≤ p then s
  else
    let s := (s.wipeTile p).stopTile t
    let s := s.setPt p { s.pt p with state := .failed, tested := false, passed := 0, failed := 0 }
    match s.spareOf c with
    | some _ => { s with str := { s.str with takeovers := s.str.takeovers ++ [⟨t, 0⟩] } }
    | none => { s with tileMap := tabSet (homeTile t) t 272 s.tileMap }.raise .ERR_NO_SPARE (.ptile p)

/-- Units of the time base in the flush of 4,096 test-clock cycles at 400 MHz: 10.24 µs (R648, R653). -/
def flushTime : Nat := 10240 * tbPerNs

/-- A tile's slice abandoned without a result (R648). -/
def State.abandonSlice (s : State) (p : Nat) : State :=
  match s.str.slices.find? fun r => r.pt == p with
  | some r =>
    let s := { s with str := { s.str with slices := s.str.slices.filter (fun r => r.pt != p), result := (3, p, r.slice) } }
    (s.setPtile p { Tile.reset with rowmap := r.rowmap, feedDly := r.feedDly }).setPt p { s.pt p with state := .spare }
  | none => s

/-- A staged takeover withdrawn. -/
def State.dropTakeover (s : State) (t : Nat) : State :=
  { s with str := { s.str with takeovers := s.str.takeovers.filter fun j => j.tile != t } }

/-- A position left with no tile (R650). -/
def State.unmapTile (s : State) (t : Nat) : State :=
  { s with tileMap := tabSet (homeTile t) t 272 s.tileMap }.raise .ERR_NO_SPARE (.ptile (min (s.physOf t) 271))

/-- A tile's resident fill begins (R254). -/
def State.beginFill (s : State) (t : Nat) : State :=
  if s.rd .VE_RES_SIZE_SIZE t = 0 then s else { s with fills := s.fills ++ [t] }

/-- A staged takeover takes effect where it may: a spare under test is flushed first (R648, R649); the tile remapped
starts a resident fill (R254). -/
def State.takeoverOne (s : State) (k : Takeover) : State :=
  match s.spareOf (clusterOfTile k.tile) with
  | none => (s.dropTakeover k.tile).unmapTile k.tile
  | some p =>
    if (s.pt p).state = .spareTest then
      let s := s.abandonSlice p
      { s with str := { s.str with takeovers := s.str.takeovers.map fun j =>
          if j.tile = k.tile then { j with notBefore := s.tb + flushTime } else j } }
    else if s.tb < k.notBefore then s
    else
      let s := ((s.dropTakeover k.tile).remap k.tile p).noteCluster (clusterOfTile k.tile) p
      (s.setVe k.tile VeRun.reset).beginFill k.tile

/-- The staged takeovers that may take effect now do so. -/
def State.takeoverStep (s : State) : State := s.str.takeovers.foldl State.takeoverOne s

/-- NEXT_POS of a cluster. -/
def State.nextPos (s : State) (c : Nat) : Nat := s.rd .STR_CLUSTER_NEXT_POS c

/-- The logical tile's engine runs no slot and nothing is in flight (R643, condition 5). -/
def State.tileIdle (s : State) (t : Nat) : Bool :=
  !(s.engine t).running && (s.tile t).cal.isEmpty && (s.veOf t).fenced.isEmpty

/-- The rotation of one cluster at a tick (R643, R644); `body` when the tick starts BODY_FIRST. -/
def State.rotateCluster (body : Bool) (s : State) (c : Nat) : State :=
  let free := s.seq == .empty || s.seq == .loaded || s.seq == .stopped
  let staged := s.str.takeovers.any fun k => clusterOfTile k.tile == c
  if s.rd .STR_CTRL_ROT_EN = 0 ∨ !(body || free) ∨ staged then s
  else
    let pos := s.nextPos c
    let t := tileOfPos c pos
    let old := s.physOf t
    match s.findPt c .spare with
    | some p =>
      if (s.pt p).tested && tabGet none c s.str.prefilled == some pos && s.tileIdle t then
        let s := s.setPt old { s.pt old with state := .spare, tested := false, passed := 0, failed := 0 }
        (s.remap t p).wr .STR_CLUSTER_NEXT_POS ((pos + 1) % 16) c
      else if body then s.raise .ERR_ROT_DEFER (.ptile p) else s
    | none => if body && (s.findPt c .spareTest).isSome then
        s.raise .ERR_ROT_DEFER (.ptile ((s.findPt c .spareTest).getD 0)) else s

/-- The rotations of every cluster at a tick. -/
def State.rotateAll (s : State) (body : Bool) : State := (List.range 16).foldl (State.rotateCluster body) s

end Sys2Proof.Machine
end

