-- ==== Sys2Proof/Machine/Xfer.lean ====
section
/-! DEFINITION. Transfers of the stream and update engines (09, R452-R469): records, what they touch, what they read and
write, the stream buffer, completion. -/

set_option autoImplicit false

namespace Sys2Proof.Machine

open Sys2Proof

/-! ### Records (R454, R455) -/

/-- PAYLOAD of a kind-1 slot (R452, R455) in an image of so many bytes. -/
def payloadOk (bytes payload : Nat) : Bool :=
  let n := bitsOf payload 63 48
  decide (1 ≤ n ∧ n ≤ 4096) && decide (bitsOf payload 4 0 = 0) &&
    decide ((bitsOf payload 47 5 + n) * 32 ≤ bytes)

/-- The conditions of R455 on a record of engine e. An update engine accepts only COPY and has no CRC unit (R464). -/
def State.recordOk (s : State) (e : Nat) (r : XWords) : Bool :=
  let m := r.mode
  let a := s.desc r.src
  decide (m ≤ 4) && (!isUpdate e || decide (m = 0 ∧ r.poly = 0 ∧ r.pch = 0)) &&
    decide (bitsOf r.w0 63 62 = 0 ∧ bitsOf r.w2 47 43 = 0 ∧ bitsOf r.w2 33 33 = 0 ∧ r.poly ≠ 3 ∧
      bitsOf r.w3 63 32 = 0 ∧ bitsOf r.w3 11 9 = 0) &&
    decide (r.sigObj = 0 ∨ 1 ≤ r.sigCount) && decide (r.waitObj = 0 ∨ 1 ≤ r.tmo) &&
    (!r.protect || decide (r.poly ≠ 0)) &&
    (decide (m = 0 ∨ m = 3) || decide (r.poly = 0 ∧ r.pch = 0)) &&
    (decide (m ≠ 3) || (permId r.w0 && !a.gather && !a.indexEn)) &&
    decide ((m = 3 ∨ r.peer = 0) ∧ (m = 1 ∨ m = 2 ∨ r.line0 = 0) ∧ (m = 4 ∨ r.tile = 0) ∧ (m ≠ 4 ∨ r.dst = 0)) &&
    (decide (m = 1) || !r.ks16)

/-! ### What holds a record back (R36, R570) -/

/-- A range lies in the operand cache of a position that waits for its takeover or has no tile (R36, R647). -/
def State.tileHeld (s : State) (l : List Touch) : Bool :=
  l.any fun t => match s.allocOf t.handle with
    | some a => decide (a.kind = 3) && (s.takeoverStaged a.place || decide (272 ≤ s.physOf a.place))
    | none => false

/-- A checkpoint region whose window a record breaks in the current frame (R570, R572, R573); its TAG. -/
def State.ckptBroken (s : State) (reads writes : List Touch) : Option Nat :=
  let f := s.rd .GEY_PROG_FRAME_INDEX
  let hits := fun (c : CkptRegion) (l : List Touch) => l.any fun t => decide (t.lo < c.base + c.bytes ∧ c.base ≤ t.hi)
  match s.step.table with
  | none => none
  | some t => (t.ckpts.find? fun c =>
      (hits c writes && (decide (f < c.openAt ∨ c.sealAt < f) || bitOf s.frameFlags 1)) ||
        (hits c reads && decide (f < c.openAt ∨ c.closeAt < f))).map (·.tag)

/-! ### The stream buffer (R445) -/

/-- Slots that outbound SEND data fills while it waits for its port: destination, descriptor, 64 KiB piece. -/
def State.outSlots (s : State) (n : Nat) : List (Nat × Nat × Nat) :=
  distinct (s.fab.txq.flatMap fun (q : Nat × List TxEntry) => q.2.filterMap fun (t : TxEntry) =>
    if t.transit.isNone && decide (t.msg.kind = 1 ∧ t.msg.unit = n) then some (t.msg.dst, t.msg.obj, t.msg.index / 32) else none)

/-- Every segment of a 64 KiB piece of an arriving SEND has come. -/
def Inbound.pieceFull (i : Inbound) (p : Nat) : Bool :=
  (List.range 32).all fun k => (i.segs.any fun q => q.1 == 32 * p + k) ||
    match i.last with | some (l, _) => decide (l < 32 * p + k) | none => false

/-- A piece has been written and has left its slot: the receiver writes the pieces in order (R459, log entry 93). -/
def Inbound.pieceGone (i : Inbound) (p : Nat) : Bool := (List.range (p + 1)).all i.pieceFull

/-- 64 KiB pieces of an arriving SEND that hold a slot. -/
def Inbound.slots (i : Inbound) : List Nat :=
  if i.bad then [] else (distinct (i.segs.map fun p => p.1 / 32)).filter fun p => !i.pieceGone p

/-- Slots of arriving SENDs that wait to be written (R445). -/
def State.inHeld (s : State) (n : Nat) : Nat :=
  ((s.inbound.filter fun i => i.engine == n).map fun i => (i.slots.filter i.pieceFull).length).foldl (· + ·) 0

/-- Slots that arriving SENDs fill. -/
def State.inFilling (s : State) (n : Nat) : Nat :=
  ((s.inbound.filter fun i => i.engine == n).map fun i => (i.slots.filter fun p => !i.pieceFull p).length).foldl (· + ·) 0

/-- Slots that the reads of SENDs need whose segments are not yet presented (R459). -/
def State.outReads (s : State) (n : Nat) : Nat :=
  ((s.xeng (0x100 + n)).active.map fun x =>
    if x.words.mode = 3 ∧ x.opsLeft ≠ 0 then (x.rest.length + 31) / 32 else 0).foldl (· + ·) 0

/-- HELD slots of a stream engine. -/
def State.sbHeld (s : State) (n : Nat) : Nat :=
  ((s.ventOf n).filter fun v => v.held).length + (s.outSlots n).length + s.inHeld n

/-- Slots of a stream engine that hold data or take it from the fabric or from Vent transfers. -/
def State.sbTaken (s : State) (n : Nat) : Nat := s.sbHeld n + ((s.ventOf n).filter fun v => !v.held).length + s.inFilling n

/-- FILLING slots of a stream engine: those of SENDs whose reads are in flight among them, as far as there is room. -/
def State.sbFilling (s : State) (n : Nat) : Nat :=
  ((s.ventOf n).filter fun v => !v.held).length + s.inFilling n + min (s.outReads n) (64 - s.sbTaken n)

/-- FREE slots of a stream engine. -/
def State.sbFree (s : State) (n : Nat) : Nat := 64 - s.sbHeld n - s.sbFilling n

/-- STALL of a stream or update engine (R481, R609). -/
def State.setStall (s : State) (e v : Nat) : State :=
  if isStream e then s.wr .SE_STATUS_STALL v (engNum e)
  else if isUpdate e then s.wr .UE_STATUS_STALL (if v = 2 then 3 else if v = 4 ∨ v = 6 then 2 else 0) (engNum e) else s

/-- A cause of STALL that no longer holds (R481). -/
def State.clearStall (s : State) (e v : Nat) : State :=
  if isStream e && s.rd .SE_STATUS_STALL (engNum e) == v then s.setStall e 0 else s

/-- Conversion flags of an engine's transfers (R173, R464). -/
def State.engFlags (s : State) (e : Nat) (f : FlagSet) : State :=
  if isStream e then s.orFlags .SE_FLAGS_FLAGS f (engNum e) else s.orFlags .UE_FLAGS_FLAGS f (engNum e)

/-! ### Reading -/

/-- The source window position that a destination position takes (R422). -/
def permPos (w0 rank : Nat) (i : List Nat) : List Nat :=
  (List.range rank).map fun x =>
    match (List.range 6).find? fun d => permOf w0 d == x with | some d => i.getD d 0 | none => 0

/-- The source positions of a record, in the order of its destination: those whose destination is valid in COPY (R410),
all of them in the other modes; none where a SIZE is 0 (R426). -/
def State.srcWindow (s : State) (r : XWords) : List (List Nat) :=
  let a := s.desc r.src
  let d := s.desc r.dst
  if a.empty || (decide (r.mode < 3) && d.empty) then []
  else if r.mode = 0 then (d.window.filter fun i => s.validPos d (d.dims.map (d.local i))).map (permPos r.w0 a.rank)
  else
    let inv := (List.range a.rank).map fun x => a.sz (permOf r.w0 x)
    (positions inv).map (permPos r.w0 a.rank)

/-- Scale bytes of a source position (R397, R415). -/
def State.scaleLocs (s : State) (a : Desc) (j : List Int) : List Loc :=
  if a.scaleMode = 1 then locRun 1 (s.locOf (s.desc a.scaleLink) [0])
  else if a.scaleMode = 2 then locRun 1 (s.locOf (s.desc a.scaleLink) (blockPos a j)) else []

/-- The bytes that source positions read: elements, scale bytes, index elements (R397, R415, R419). -/
def State.readLocs (s : State) (a : Desc) (l : List (List Nat)) : List Loc :=
  distinct (l.flatMap fun i =>
    (if a.indexEn then
      let x := s.desc a.indexLink
      let j := indexPos x (i.getD a.idx 0)
      if s.validPos x j then locRun 4 (s.locOf x j) else [] else []) ++
    match s.srcPos a i with
    | .at j => locRun a.ty.unitBytes (s.locOf a j) ++ s.scaleLocs a j
    | _ => [])

/-- Bytes of other modules gathered into requests of at most 2 KiB (R398). -/
def gatherRuns (l : List Loc) : List GatherReq :=
  (l.foldl (fun (acc : List GatherReq) (x : Loc) =>
    match x with
    | .here _ => acc
    | .there r h o =>
      match acc with
      | q :: t =>
        if q.rank = r ∧ q.handle = h ∧ q.off + q.len = o ∧ q.len < 2048 then { q with len := q.len + 1 } :: t
        else ⟨0, r, h, o, 1, none⟩ :: acc
      | [] => [⟨0, r, h, o, 1, none⟩]) []).reverse

/-- Every request answered. -/
def answered (l : List GatherReq) : Bool := l.all fun q => q.answer.isSome

/-- The gathered bytes. -/
def fetchedOf (l : List GatherReq) : Fetched :=
  l.flatMap fun q => (List.range q.len).map fun i =>
    ((q.rank, q.handle, q.off + i), match q.answer with | some (some bs) => bs[i]? | _ => none)

/-- Cells of HBM granules that addresses touch. -/
def State.granules (s : State) (l : List Nat) : List Nat :=
  distinct (l.filterMap fun a => match s.placeOf a with
    | .cell c => if c < hbmEnd then some (c / 2048) else none
    | _ => none)

/-- Codewords that addresses touch, of HBM and of SRAM (R446, R447). -/
def State.codewords (s : State) (l : List Nat) : List Nat :=
  distinct (l.filterMap fun a => match s.placeOf a with
    | .cell c => some (codewordOf c)
    | _ => none)

/-! ### Forming the data -/

/-- What a record writes or sends. -/
structure Formed where
  data : List (Nat × Byte)
  scale : List (Nat × Byte)
  stream : List Byte
  flags : FlagSet
  stats : List (Num × Bool)
  clamp : Bool

/-- Nothing written: a conversion that R176 refuses. -/
def Formed.none : Formed := ⟨[], [], [], fNone, [], false⟩

/-- The scale byte copied for each block of a microscaled bit copy (R424); 127 for a block of pads (R409). -/
def State.scaleCopy (s : State) (f : Fetched) (a d : Desc) (l : List (List Int × SrcPos)) : List (List Int × Nat) :=
  (distinct (l.map fun p => blockPos d p.1)).map fun k =>
    (k, match (l.filter fun p => blockPos d p.1 == k).findSome? fun p => match p.2 with | .at j => s.scaleByte f a j | _ => none with
      | some b => b
      | none => 127)

/-- COPY (R422-R424). -/
def State.formCopy (s : State) (e : Nat) (f : Fetched) (r : XWords) : Formed :=
  let a := s.desc r.src
  let d := s.desc r.dst
  let l := d.window.filterMap fun i =>
    let j := d.dims.map (d.local i)
    if s.validPos d j then some (j, s.srcPos a (permPos r.w0 a.rank i)) else none
  let run := s.convertAll (s.drawCtx e) a d (l.map fun p => (p.1, s.srcElem f a p.2)) (s.scaleCopy f a d l)
  ⟨unitBytesOf (s.windowUnits d run.elems), unitBytesOf run.scales, [], run.flags, run.stats, run.clamp⟩

/-- Elements laid into a row of so many units: places beyond the elements are 0. -/
def packUnits (ty : ElemType) (l : List Nat) : List Byte :=
  let n := ceilDiv l.length ty.perUnit
  leBytes (n * ty.unitBytes) (((l.zipIdx).map fun q => q.1 * 2 ^ (ty.width * q.2)).foldl (· ||| ·) 0)

/-- The stream of a SEND: the source's elements as bits, row by row (R459, R466). -/
def State.formSend (s : State) (r : XWords) : Formed :=
  let a := s.desc r.src
  let rows := if a.empty then [] else positions ((List.range (a.rank - 1)).map fun x => a.sz (x + 1))
  let bs := rows.flatMap fun up =>
    packUnits a.ty ((List.range (a.sz 0)).map fun i => (s.srcElem [] a (s.srcPos a (i :: up))).bits)
  ⟨[], [], bs, fNone, [], false⟩

/-- A place in a bit layout: line or step, and element within it. -/
structure LinePos where
  line : Nat
  elem : Nat

/-- The line and place of position (k, row, …) in A lines (R191, R192): rows in groups of 32, one group after another. -/
def aLinePos (ks kSize : Nat) (block k row : Nat) : LinePos :=
  ⟨block * ceilDiv kSize ks + k / ks + row % 32 / 8, row % 32 * ks + k % ks⟩

/-- The step and place of position (column, k, …) in a weight image (R187). -/
def imagePos (kw kSize : Nat) (block k col : Nat) : LinePos :=
  ⟨block * ceilDiv kSize kw + k / kw, k % kw * 32 + col % 32⟩

/-- The bytes of a ring with elements laid into it (R461): element n of line l of so many bytes each; a byte that two
packed elements share is written once. -/
def ringBytes (ty : ElemType) (base len lineLen : Nat) (l : List (LinePos × Nat)) : List (Nat × Byte) :=
  if len = 0 then []
  else
    let units := l.map fun p =>
      (p.1.line * lineLen + p.1.elem / ty.perUnit * ty.unitBytes, p.2 * 2 ^ (ty.width * (p.1.elem % ty.perUnit)))
    (distinct (units.map (·.1))).flatMap fun o =>
      let v := ((units.filter fun u => u.1 == o).map (·.2)).foldl (· ||| ·) 0
      (leBytes ty.unitBytes v).zipIdx.map fun q => (base + (o + q.2) % len, q.1)

/-- A_LINES and W_IMAGE (R461). -/
def State.formLines (s : State) (f : Fetched) (r : XWords) : Formed :=
  let a := s.desc r.src
  let d := s.desc r.dst
  let aMode := decide (r.mode = 1)
  let per := if aMode then (if r.ks16 then 16 else 8) else imageKw a.ty
  let lineLen := 4 * per * a.ty.width
  let sz := (List.range a.rank).map fun x => a.sz (permOf r.w0 x)
  let kSize := if aMode then sz.getD 0 1 else sz.getD 1 1
  let cross := if aMode then sz.getD 1 1 else sz.getD 0 1
  let groups := ceilDiv cross 32
  let l := (positions sz).map fun i =>
    let outer := ((List.range (a.rank - 2)).foldr (fun x (acc : Nat) => acc * sz.getD (x + 2) 1 + i.getD (x + 2) 0) 0)
    let k := if aMode then i.getD 0 0 else i.getD 1 0
    let m := if aMode then i.getD 1 0 else i.getD 0 0
    let p := if aMode then aLinePos per kSize (outer * groups + m / 32) k m else imagePos per kSize (outer * groups + m / 32) k m
    (LinePos.mk (r.line0 + p.line) p.elem, (s.srcElem f a (s.srcPos a (permPos r.w0 a.rank i))).bits)
  let base := s.addrOf d [d.ws 0]
  ⟨ringBytes a.ty base (ceilDiv (d.sz 0) d.ty.perUnit * d.ty.unitBytes) lineLen (if a.empty then [] else l), [], [], fNone, [], false⟩

/-- One row of 32 columns of B in VENT_B; bytes outside the window are free values (R233). -/
def State.ventRow (s : State) (free base : Nat) (f : Fetched) (a : Desc) (w0 : Nat) (sz : List Nat) (col0 k : Nat) (up : List Nat) :
    List Byte :=
  let es := (List.range 32).map fun c =>
    if col0 + c < sz.getD 0 0 ∧ k < sz.getD 1 1 then
      some (s.srcElem f a (s.srcPos a (permPos w0 a.rank ((col0 + c) :: k :: up)))).bits
    else none
  let v := (es.zipIdx.map fun q => q.1.getD 0 * 2 ^ (a.ty.width * q.2)).foldl (· ||| ·) 0
  (leBytes (4 * a.ty.width) v).zipIdx.map fun q =>
    let lo := q.2 * 8 / a.ty.width
    let hi := (q.2 * 8 + 7) / a.ty.width
    if (List.range (hi + 1 - lo)).any fun x => (es.getD (lo + x) none).isSome then q.1 else Config.freeByte free (base + q.2)

/-- Column scales of a block of 32 values of k (R233). -/
def State.ventScales (s : State) (free base : Nat) (f : Fetched) (a : Desc) (w0 : Nat) (sz : List Nat) (col0 k : Nat) (up : List Nat) :
    List Byte :=
  (List.range 32).map fun c =>
    if col0 + c < sz.getD 0 0 then
      match s.srcPos a (permPos w0 a.rank ((col0 + c) :: k :: up)) with
      | .at j => BitVec.ofNat 8 ((s.scaleByte f a j).getD 127)
      | _ => 127
    else Config.freeByte free (base + c)

/-- VENT_B (R462): groups of 32 columns, each its rows of k in pairs of steps of 8, a scale row before every 32. -/
def State.formVent (s : State) (free : Nat) (f : Fetched) (r : XWords) : Formed :=
  let a := s.desc r.src
  let sz := (List.range a.rank).map fun x => a.sz (permOf r.w0 x)
  let ups := positions (sz.drop 2)
  let rows := ceilDiv (sz.getD 1 1) 8 * 8
  let keys := ups.flatMap fun up => (List.range (ceilDiv (sz.getD 0 0) 32)).flatMap fun g =>
    (List.range rows).map fun k => (up, 32 * g, k)
  let bs := keys.zipIdx.flatMap fun q =>
    let b := q.2 * (32 + 4 * a.ty.width)
    (if a.scaleMode = 2 ∧ q.1.2.2 % 32 = 0 then s.ventScales free b f a r.w0 sz q.1.2.1 q.1.2.2 q.1.1 else []) ++
      s.ventRow free (b + 32) f a r.w0 sz q.1.2.1 q.1.2.2 q.1.1
  ⟨[], [], if a.empty then [] else bs, fNone, [], false⟩

/-- What a record writes or sends, by its mode. -/
def State.formXfer (s : State) (e : Nat) (f : Fetched) (r : XWords) : Formed :=
  if r.mode = 0 then s.formCopy e f r
  else if r.mode = 3 then s.formSend r
  else if r.mode = 4 then s.formVent s.free f r
  else s.formLines f r

/-- Bytes cut into pieces; at least one piece. -/
def pieces (n : Nat) : Nat → List Byte → List (List Byte)
  | 0, bs => [bs]
  | fuel + 1, bs => if bs.length ≤ n then [bs] else bs.take n :: pieces n fuel (bs.drop n)

/-- The first place of a list of bytes that its owner refused (R428). -/
def State.refusedAt (s : State) (f : Fetched) (l : List Loc) : Option Loc := l.find? fun x => (s.byteAt f x).isNone

/-- ERR_GATHER_REMOTE for a refused place: descriptor, the owner's coordinate, the handle (R428). -/
def State.raiseRemote (s : State) (e slot rec id : Nat) (l : Option Loc) : State :=
  match l with
  | some (.there rank h _) => s.raiseSlot .ERR_GATHER_REMOTE e slot rec (id + s.coordOfRank rank * 2 ^ 32) h
  | _ => s

/-- Errors of the source positions (R419, R428), each at most once for a transfer; refused scale bytes name the scale's
descriptor. -/
def State.srcErrors (s : State) (e slot rec : Nat) (f : Fetched) (r : XWords) : State :=
  let a := s.desc r.src
  let l := s.srcWindow r
  let bad := l.zipIdx.find? fun p => s.srcPos a p.1 == .badIndex
  let first := fun (g : List Int → List Loc) => l.findSome? fun i => match s.srcPos a i with
    | .at j => s.refusedAt f (g j)
    | _ => none
  let elem := first fun j => locRun a.ty.unitBytes (s.locOf a j)
  let scale := first (s.scaleLocs a)
  let s' := match bad with
    | some p => s.raiseSlot .ERR_GATHER_INDEX e slot rec r.src p.2
    | none => s
  (s'.raiseRemote e slot rec r.src elem).raiseRemote e slot rec a.scaleLink scale

/-! ### Storing -/

/-- Tile and offset of a byte of the operand caches. -/
def ocOf (a : Nat) : Option (Nat × Nat) :=
  if 0x030000000000 ≤ a ∧ a < 0x030200000000 then
    some ((a - 0x030000000000) / 0x000100000000 * 128 + a % 0x000100000000 / 0x400000, a % 0x400000)
  else none

/-- The tile whose resident region a byte lies in while the FILL port may not write there (R256). -/
def State.residentByte (s : State) (a : Nat) : Option Nat :=
  match ocOf a with
  | some (t, off) => if s.residentWrite t off && decide (s.physOf t < 272) then some t else none
  | none => none

/-- Bytes stored; poison cleared from codewords that they cover (R449). -/
def State.storeAll (s : State) (l : List (Nat × Byte)) : State :=
  let cells := l.filterMap fun p => match s.placeOf p.1 with | .cell c => some c | _ => none
  let s := l.foldl (fun (s : State) (p : Nat × Byte) => s.st p.1 p.2) s
  { s with poison := s.poison.filter fun p => !(List.range (codewordBytes p.1)).all fun i => cells.contains (p.1 + i) }

/-- Clears STEP_STATUS.RETAINED at the first write into an alternate page (R603). -/
def State.noteAlternate (s : State) (l : List (Nat × Byte)) : State :=
  if s.rd .STEP_STATUS_RETAINED = 1 ∧ (l.any fun p => s.allocs.any fun a => a.paged &&
      decide (s.pageBase a true ≤ p.1 ∧ p.1 < s.pageBase a true + a.span)) = true then s.wr .STEP_STATUS_RETAINED 0
  else s

/-- The bytes of a frame-program write, without those that R256 discards; one ERR_RES_WRITE for each tile, which names the tile, the
slot it runs and the first offending address (R297). -/
def State.storeXfer (s : State) (l : List (Nat × Byte)) : State :=
  let tiles := distinct (l.filterMap fun p => s.residentByte p.1)
  let s' := tiles.foldl (fun (z : State) (t : Nat) =>
    z.raiseSlot .ERR_RES_WRITE t (z.slotIdx t) 0 (((l.map (·.1)).find? fun a => s.residentByte a == some t).getD 0)) s
  (s'.noteAlternate l).storeAll (l.filter fun p => (s.residentByte p.1).isNone)

/-- The bytes of a transfer that ends without completing: each may hold old or new data (R463). -/
def State.storePart (s : State) (l : List (Nat × Byte)) : State :=
  let (n, s) := s.takeFree
  s.storeAll (l.zipIdx.filterMap fun q =>
    if (s.residentByte q.1.1).isNone && Config.freeNew n q.2 then some q.1 else none)

/-! ### Progress -/

/-- An active transfer replaced. -/
def State.setXfer (s : State) (e k : Nat) (x : Xfer) : State :=
  let g := s.xeng e
  s.setXeng e { g with active := g.active.set k x }

/-- Whether a segment of a SEND finds its stream-buffer slot. -/
def State.sendRoom (s : State) (n dst obj idx : Nat) : Bool :=
  (s.outSlots n).contains (dst, obj, idx / 32) || decide (s.sbTaken n < 64)

/-- One segment of a SEND presented (R459, R537). -/
def State.presentSeg (s : State) (e : Nat) (x : Xfer) (seg : List Byte) (last : Bool) : State :=
  let r := x.words
  let a := s.desc r.src
  let m : Msg :=
    { kind := 1, vc := 1, first := x.sent == 0, last := last, tag := 0, dst := s.coordOfRank r.peer, src := 0, unit := engNum e,
      obj := r.dst, index := x.sent,
      aux := if last && decide (r.poly ≠ 0) then x.crc + x.alive * 2 ^ 32 + r.pch * 2 ^ 48 else 0,
      ext := if x.sent = 0 then some ⟨a.size, a.etype, a.rank⟩ else none,
      sig := some ⟨r.sigObj, r.sigCount, r.poly, r.protect⟩, payload := seg, hcrc := 0 }
  s.present m (.seg x.sent) (some (e, x.slot))

/-- SEND segments move into slots and to the fabric as far as slots are free. -/
def State.pumpSend (s : State) (e : Nat) (x : Xfer) : State × Xfer :=
  x.rest.foldl (fun (p : State × Xfer) (seg : List Byte) =>
    if decide (p.2.rest.head? = some seg) && p.1.sendRoom (engNum e) (p.1.coordOfRank x.words.peer) x.words.dst p.2.sent then
      (p.1.presentSeg e p.2 seg (p.2.rest.length == 1), { p.2 with rest := p.2.rest.drop 1, sent := p.2.sent + 1 })
    else p) (s, x)

/-- Vent chunks move into slots as far as slots are free; slots that are full become HELD once the reads have returned
(R462). -/
def State.pumpVent (s : State) (e : Nat) (x : Xfer) : State × Xfer :=
  let n := engNum e
  let k := min x.rest.length (s.sbFree n)
  let new := (x.rest.take k).map fun bs => VentSlot.mk x.words.tile (some (x.slot, x.record)) false bs
  let l := (s.ventOf n ++ new).map fun v =>
    if v.owner == some (x.slot, x.record) && decide (x.opsLeft = 0) && decide (65536 ≤ v.data.length) then { v with held := true } else v
  ({ s with vent := tabSet [] n l s.vent }, { x with rest := x.rest.drop k })

/-- A transfer moves on as far as it can; one that finds no free slot waits (R462, R481). -/
def State.pumpXfer (s : State) (e k : Nat) : State :=
  match (s.xeng e).active[k]? with
  | none => s
  | some x =>
    if !x.formed || x.failed then s
    else
      let (s, x) :=
        if x.words.mode = 3 then (if x.opsLeft = 0 then s.pumpSend e x else (s, x))
        else if x.words.mode = 4 then s.pumpVent e x else (s, x)
      let s := if !x.rest.isEmpty && decide (x.words.mode ≠ 3 ∨ x.opsLeft = 0) then s.setStall e 5 else s.clearStall e 5
      s.setXfer e k x

/-! ### The operation table (R457, R464) -/

/-- Entries of an engine's operation table. -/
def tableSize (e : Nat) : Nat := if isUpdate e then 256 else 1024

/-- Operations of a transfer that are in the table. -/
def Xfer.inTable (x : Xfer) : Nat := x.opsLeft - x.toIssue

/-- Operations in flight of an engine. -/
def State.opsNow (s : State) (e : Nat) : Nat :=
  (s.xeng e).draining + ((s.xeng e).active.map Xfer.inTable).foldl (· + ·) 0

/-- The peak of the operation table (R481). -/
def State.notePeak (s : State) (e : Nat) : State :=
  if isStream e then s.wr .SE_OPS_PEAK_PEAK (max (s.rd .SE_OPS_PEAK_PEAK (engNum e)) (s.opsNow e)) (engNum e) else s

/-- Free entries given to the transfers in list order, with what is left. -/
def issueInto : Nat → List Xfer → List Xfer
  | _, [] => []
  | free, x :: r => let k := min free x.toIssue; { x with toIssue := x.toIssue - k } :: issueInto (free - k) r

/-- Operations enter the table as far as it has entries; a transfer that needs one while the table is full waits. -/
def State.issueOps (s : State) (e : Nat) : State :=
  let g := s.xeng e
  let l := issueInto (tableSize e - s.opsNow e) g.active
  let s := s.setXeng e { g with active := l }
  (if l.any fun x => decide (x.toIssue ≠ 0) then s.setStall e 4 else s).notePeak e

/-! ### The host window (R772) -/

/-- The link to the host is down, or its adapter is in reset. -/
def State.hostDown (s : State) : Bool := !s.start.haUp || s.rd .HA_STATUS_LINK_UP != 1

/-- Why an operation on the host window at one of these addresses fails, with the address (R772). -/
def State.hostFault (s : State) (l : List Nat) : Option (Err × Nat) :=
  match l.find? fun a => match s.placeOf a with | .host w => (s.hostBus w).isNone | _ => false with
  | some a => some (.ERR_HOST_ATU, a)
  | none =>
    if s.hostDown then (l.find? fun a => match s.placeOf a with | .host _ => true | _ => false).map fun a => (.ERR_HOST_DOWN, a)
    else none

/-- Addresses of this module that a record reads. -/
def State.readHere (s : State) (r : XWords) : List Nat :=
  (s.readLocs (s.desc r.src) (s.srcWindow r)).filterMap fun l => match l with | .here b => some b | _ => none

/-- A failure on the host window counted and recorded (R772, R785). -/
def State.hostFailed (s : State) (e slot rec : Nat) (f : Option (Err × Nat)) : State :=
  match f with
  | some (x, a) => (s.bump .HA_WIN_ERR_COUNT).raiseSlot x e slot rec a
  | none => s

/-- A COPY that moves something records into a slot that does not exist (R163, R426). -/
def State.noStatSlot (s : State) (r : XWords) : Bool :=
  let d := s.desc r.dst
  decide (r.mode = 0) && !d.empty && s.statBad d.statSlot

/-- The data of an active transfer are formed: every byte it gathers has come. -/
def State.formNow (s : State) (e k : Nat) : State :=
  match (s.xeng e).active[k]? with
  | none => s
  | some x =>
    if x.formed || !answered x.reqs then s
    else
      let r := x.words
      let d := s.desc r.dst
      let f := fetchedOf x.reqs
      let o := if s.noStatSlot r then Formed.none else s.formXfer e f r
      let s := s.srcErrors e x.slot x.record f r
      let s := if r.mode = 4 then s.takeFree.2 else s
      let s := s.engFlags e o.flags
      let s :=
        if s.noStatSlot r then s.raiseSlot .ERR_STAT_SLOT e x.slot x.record d.statSlot
        else if r.mode = 0 then s.statRecord d.statSlot o.stats else s
      let hf := s.hostFault (s.readHere r ++ (o.data ++ o.scale).map (·.1))
      let s := s.hostFailed e x.slot x.record hf
      let o := if hf.isSome then Formed.none else o
      let bytes := if r.mode = 3 then o.stream else o.data.map (·.2)
      let rest := if r.mode = 3 then pieces 2048 o.stream.length o.stream
        else if r.mode = 4 ∧ o.stream ≠ [] then pieces 65536 o.stream.length o.stream else []
      let x := { x with
        formed := true, data := o.data, scaleData := o.scale, rest := rest, clamp := o.clamp, failed := x.failed || hf.isSome
        crc := if r.poly = 0 then 0 else crcPoly r.poly bytes
        opsLeft := x.opsLeft + (s.granules ((o.data ++ o.scale).map (·.1))).length
        toIssue := x.toIssue + (s.granules ((o.data ++ o.scale).map (·.1))).length }
      ((s.setXfer e k x).issueOps e).pumpXfer e k

/-- The requests of a gather go to the owners (R398). -/
def State.sendRequests (s : State) (e slot : Nat) (l : List GatherReq) : State × List GatherReq :=
  l.foldl (fun (p : State × List GatherReq) (q : GatherReq) =>
    let (s, done) := p
    let q := { q with num := s.gatherNum }
    let m := { msgPlain 3 0 (s.coordOfRank q.rank) q.handle q.num (q.off + q.len * 2 ^ 40) [] with unit := e - 0x100 }
    ({ s with gatherNum := (s.gatherNum + 1) % 2 ^ 32 }.present m .first (some (e, slot)), done ++ [q])) (s, [])

/-- The source or destination lies in a HOST allocation. -/
def State.inHost (s : State) (d : Desc) : Bool := match s.allocOf d.alloc with | some a => decide (a.kind = 4) | none => false

/-- A record that starts becomes an active transfer. `bad`: a descriptor failed its CHECK (R427). -/
def State.startXfer (s : State) (e slot rec : Nat) (r : XWords) (bad : Bool) : State :=
  let x0 := s.xeng e
  let s := (s.setEngine e { s.engine e with wait := .none }).setStall e 0
  let blank : Xfer := ⟨slot, rec, r, [], [], [], true, [], [], [], 0, 0, 0, [], 0, 0, 0, false, false, true⟩
  if bad then s.setXeng e { x0 with next := rec + 1, active := x0.active ++ [blank] }
  else
    let a := s.desc r.src
    let locs := s.readLocs a (s.srcWindow r)
    let here := locs.filterMap fun l => match l with | .here b => some b | _ => none
    let ue := s.firstPoisoned here
    let s := match ue with
      | some b => s.raiseSlot .ERR_MEM_UE e slot rec b
      | none => s
    let (s, reqs) := s.sendRequests e slot (gatherRuns locs)
    let counts := r.protect && (decide (r.mode = 3) || s.inHost (s.desc r.dst))
    let ch := engNum e * 64 + r.pch
    let alive := if counts then (s.rd .SE_PCH_STATE_TX_ALIVE ch + 1) % 65536 else 0
    let s := if counts then s.wr .SE_PCH_STATE_TX_ALIVE alive ch else s
    let x := { blank with
      reads := s.xReads r, writes := s.xWrites r, reqs := reqs, formed := false, src := s.codewords here,
      opsLeft := (s.granules here).length, toIssue := (s.granules here).length, bytesRd := locs.length, alive := alive, failed := ue.isSome }
    ((s.setXeng e { x0 with next := rec + 1, active := x0.active ++ [x] }).formNow e x0.active.length).issueOps e

/-! ### Completion (R458, R467, R468) -/

/-- The check of a protected transfer that receives (R468): the state and whether it passed. -/
def State.checkTag (s : State) (e slot rec ch crc crcGot alive : Nat) : State × Bool :=
  let n := engNum e
  if crc ≠ crcGot then ((s.bump .SE_PROT_ERR_CRC 1 n).raiseSlot .ERR_CRC e slot rec crc crcGot, false)
  else
    let k := n * 64 + ch
    let d := (alive + 65536 - s.rd .SE_PCH_STATE_RX_ALIVE k) % 65536
    if d = 1 then (s.wr .SE_PCH_STATE_RX_ALIVE alive k, true)
    else if d = 0 then ((s.bump .SE_PROT_ERR_REPEAT 1 n).raiseSlot .ERR_REPEAT e slot rec alive, false)
    else (((s.bump .SE_PROT_ERR_LOSS 1 n).wr .SE_PCH_STATE_RX_ALIVE alive k).raiseSlot .ERR_LOSS e slot rec alive, false)

/-- What a protected or CRC-carrying transfer leaves for its receiver (R467). -/
def State.leaveTag (s : State) (e : Nat) (x : Xfer) : State :=
  let r := x.words
  let k := engNum e * 64 + r.pch
  if r.poly = 0 then s
  else if r.mode = 3 then
    let s := s.wr .SE_PCH_TX_TAG_CRC x.crc k
    if r.protect then s.wr .SE_PCH_TX_TAG_ALIVE x.alive k else s
  else if !r.protect then s.wr .SE_PCH_TX_TAG_CRC x.crc k
  else if s.inHost (s.desc r.dst) then
    (s.wr .SE_PCH_TX_TAG_ALIVE x.alive k).wr .SE_PCH_TX_TAG_CRC x.crc k
  else s

/-- Counters of a completed transfer (R481). -/
def State.countXfer (s : State) (e : Nat) (x : Xfer) : State :=
  if isStream e then
    let n := engNum e
    ((s.bump .SE_TRANSFERS_COUNT 1 n).bump .SE_BYTES_RD_COUNT x.bytesRd n).bump .SE_BYTES_WR_COUNT (x.data.length + x.scaleData.length) n
  else s

/-- Slots that a Vent transfer filled become HELD at its end (R462). -/
def State.holdVent (s : State) (e : Nat) (x : Xfer) : State :=
  if x.words.mode = 4 then
    let n := engNum e
    { s with vent := tabSet [] n ((s.ventOf n).map fun v =>
        if v.owner = some (x.slot, x.record) then { v with held := true, owner := none } else v) s.vent }
  else s

/-- The signal of a completed transfer (R458); a SEND signals nothing here (R460). -/
def State.signalXfer (s : State) (e : Nat) (x : Xfer) : State :=
  if x.words.mode ≠ 3 ∧ x.words.sigObj ≠ 0 then s.sendSignal (.engine e) x.words.sigObj x.words.sigCount else s

/-- The k-th active transfer leaves, and the slot ends if it was the last. -/
def State.dropXfer (s : State) (e k : Nat) : State :=
  let g := s.xeng e
  ((s.setXeng e { g with active := g.active.eraseIdx k }).issueOps e).settleXfer e

/-- Slots that a transfer filled return to FREE (R463). -/
def State.dropVent (s : State) (e : Nat) (x : Xfer) : State :=
  let n := engNum e
  { s with vent := tabSet [] n ((s.ventOf n).filter fun v => !(v.owner == some (x.slot, x.record) && x.words.mode == 4)) s.vent }

/-- A transfer whose operations have all left the table ends (R458, R468). -/
def State.finishXfer (s : State) (e k : Nat) (x : Xfer) : State :=
  let r := x.words
  let all := x.data ++ x.scaleData
  if x.failed then ((s.storePart all).dropVent e x).dropXfer e k
  else
    let ch := engNum e * 64 + r.pch
    let (s, ok) := if r.mode = 0 ∧ r.protect ∧ s.inHost (s.desc r.src) then
        s.checkTag e x.slot x.record r.pch x.crc (s.rd .SE_PCH_RX_TAG_CRC ch) (s.rd .SE_PCH_RX_TAG_ALIVE ch)
      else (s, true)
    if !ok then (s.storePart all).dropXfer e k
    else
      let s := s.storeXfer all
      let s := if x.clamp then s.raiseSlot .ERR_SCALE_CLAMP e x.slot x.record (s.desc r.dst).statSlot else s
      ((((s.leaveTag e x).holdVent e x).countXfer e x).signalXfer e x).dropXfer e k

end Sys2Proof.Machine
end

