-- ==== Sys2Proof/Machine/XferRows.lean ====
section
/-! DEFINITION. The commands of transfers (09): start, operations, completion, SENDs and gathers that arrive, resident
fills, patrol scrub. -/

set_option autoImplicit false

namespace Sys2Proof.Machine

open Sys2Proof

/-- A record that is refused (R792): it does not start, nor any later record of the slot. -/
def State.refuseXfer (s : State) (e : Nat) : State := (s.stopSlot e).settleXfer e

/-- Active transfers an engine may hold (R456, R464). -/
def activeLimit (e : Nat) : Nat := if isUpdate e then 4 else 16

/-- The descriptors that an engine fetches for a record have their CHECK (R427). -/
def State.xDescsOk (s : State) (r : XWords) : Bool :=
  let a := s.desc r.src
  let d := s.desc r.dst
  s.descOk r.src && (decide (a.scaleMode = 0) || s.descOk a.scaleLink) && (!a.indexEn || s.descOk a.indexLink) &&
    (decide (3 ≤ r.mode) || (s.descOk r.dst && (decide (d.scaleMode = 0) || s.descOk d.scaleLink)))

/-- The first descriptor of a record whose CHECK fails. -/
def State.xBadDesc (s : State) (r : XWords) : Nat :=
  let a := s.desc r.src
  let d := s.desc r.dst
  if !s.descOk r.src then r.src
  else if !(decide (a.scaleMode = 0) || s.descOk a.scaleLink) then a.scaleLink
  else if !(!a.indexEn || s.descOk a.indexLink) then a.indexLink
  else if !s.descOk r.dst then r.dst else d.scaleLink

/-- Conditions 3 and 4 of R456 and what else holds a record back; the stall cause (R481), 0 for none. -/
def State.xStall (s : State) (e i : Nat) (r : XWords) : Nat :=
  let rd := s.xReads r
  let wr := s.xWrites r
  if (s.xeng e).active.any fun x => x.blocks rd wr then 3
  else if s.padWaits e i wr || s.tileHeld (rd ++ wr) then 6
  else 0

/-- A record whose wait is over (R456). -/
def State.tryXfer (s : State) (e i rec : Nat) (r : XWords) : State :=
  if !s.xDescsOk r then (s.raiseSlot .ERR_DESC_CHECK e i rec (s.xBadDesc r)).startXfer e i rec r true
  else
    match s.ckptBroken (s.xReads r) (s.xWrites r) with
    | some tag => ((s.raiseSlot .ERR_CKPT_WINDOW e i rec tag).setEngine e { s.engine e with wait := .none }).refuseXfer e
    | none =>
      let st := s.xStall e i r
      if st ≠ 0 then s.setStall e st else s.startXfer e i rec r false

/-- A record whose fetch met a poisoned codeword (R449, log entry 91): it starts, moves nothing and signals nothing. -/
def State.poisonedRecord (s : State) (e i rec a : Nat) : State :=
  (s.raiseSlot .ERR_MEM_UE e i rec a).startXfer e i rec ⟨0, 0, 0, 0⟩ true

/-- TRANSFER_START (R455, R456): an engine tries the next record of its slot. -/
def execTransferStart (e : Nat) (s : State) : Res :=
  match s.slotNow e with
  | none => .next s
  | some sl =>
    let x := s.xeng e
    let i := s.slotIdx e
    let bytes := match s.prog with | some p => p.bytes | none => 0
    if sl.kind ≠ 1 ∨ (s.engine e).isOver = true ∨ sl.allStarted x.next = true then .next s
    else if x.skip.contains (i, x.next) then .next ((s.setXeng e { x with next := x.next + 1 }).settleXfer e)
    else
      let r := s.recordAt sl x.next
      match s.badRecord e (s.recordAddr sl x.next) 32 with
      | some a => .next (s.poisonedRecord e i x.next a)
      | none =>
        if !(payloadOk bytes sl.payload && s.recordOk e r) then
          .next ((s.raiseSlot .ERR_SE_RECORD e i x.next).refuseXfer e)
        else if activeLimit e ≤ x.active.length then .next (s.setStall e 1)
        else if r.waitObj ≠ 0 ∧ (s.engine e).wait ≠ .released then
          if (s.engine e).wait = .none then
            .next (((s.sendWait e i x.next r.waitObj r.thresh r.consume r.tmo).setEngine e
              { s.engine e with wait := .sent }).setStall e 2)
          else .next s
        else .next (s.tryXfer e i x.next r)

/-- What ECC found in a codeword that a transfer reads, by its place among them (R446-R449): a corrected event, or one that poisons
the codeword and fails the transfer. -/
def State.readEvent (s : State) (e k : Nat) (x : Xfer) (ev : MemEvent) : State :=
  match ev with
  | .none => s
  | .corrected i => match x.src[i]? with
    | some c => s.memCe (.engine e) c (some (waiterId e x.slot x.record))
    | none => s
  | .uncorrectable i => match x.src[i]? with
    | some c => ((s.memUe c).raiseSlot .ERR_MEM_UE e x.slot x.record (s.cellAddr c)).setXfer e k { x with failed := true }
    | none => s

/-- An operation leaves the table, and the next one waiting enters it (R457). -/
def State.leaveOp (s : State) (e k : Nat) (x : Xfer) : State :=
  if x.inTable = 0 then s
  else
    let s := (s.setXfer e k { x with opsLeft := x.opsLeft - 1 }).issueOps e
    if (s.xeng e).active.any fun y => decide (y.toIssue ≠ 0) then s else s.clearStall e 4

/-- HBM_OPERATION_COMPLETE (R457): an operation of the k-th active transfer leaves the table, with what ECC found in the codewords
that the transfer reads; past the active ones, an operation of an aborted transfer leaves it (R463). -/
def execHbmOperationComplete (e k : Nat) (ev : MemEvent) (s : State) : Res :=
  match (s.xeng e).active[k]? with
  | none =>
    let g := s.xeng e
    .next (if g.draining = 0 then s else (s.setXeng e { g with draining := g.draining - 1 }).issueOps e)
  | some x =>
    let s := s.readEvent e k x ev
    match (s.xeng e).active[k]? with
    | some y => .next ((s.leaveOp e k y).pumpXfer e k)
    | none => .next s

/-- Whether an active transfer may complete (R457, R458, R460, R462). -/
def Xfer.isOver (x : Xfer) : Bool :=
  decide (x.opsLeft = 0) && answered x.reqs &&
    (x.failed || (x.formed && x.rest.isEmpty && (decide (x.words.mode ≠ 3) || x.acked)))

/-- TRANSFER_COMPLETE (R458): the k-th active transfer of an engine completes if nothing is left of it. -/
def execTransferComplete (e k : Nat) (s : State) : Res :=
  let s := s.pumpXfer e k
  match (s.xeng e).active[k]? with
  | none => .next s
  | some x => if x.isOver then .next (s.finishXfer e k x) else .next s

/-! ### SENDs that arrive (R459, R460, R542) -/

/-- An arriving SEND is one of engine, sender and descriptor. -/
def Inbound.matches (i : Inbound) (n src obj : Nat) : Bool := i.engine == n && i.src == src && i.obj == obj

/-- The arriving SEND that a segment belongs to. -/
def State.inboundOf (s : State) (n src obj : Nat) : Inbound :=
  (s.inbound.find? fun i => i.matches n src obj).getD ⟨n, src, obj, none, none, [], none, false⟩

/-- An arriving SEND replaced; `none` when it is over. -/
def State.setInbound (s : State) (n src obj : Nat) (v : Option Inbound) : State :=
  { s with inbound := (s.inbound.filter fun i => !i.matches n src obj) ++ (match v with | some i => [i] | none => []) }

/-- An acknowledgement of a SEND segment goes back to the sender. -/
def State.ackSend (s : State) (m : Msg) : State :=
  s.present { msgPlain 2 0 m.src m.obj m.index 0 [] with unit := m.unit, last := m.last } .first none

/-- The check of R460 on this module's descriptor, and of R427 on it and its scale descriptor where it is live: the error and what it
names. -/
def State.sendPairFail (s : State) (obj src : Nat) (x : SendExt) : Option (Err × Nat × Nat) :=
  let d := s.desc obj
  if s.descLive obj && !s.descOk obj then some (.ERR_DESC_CHECK, obj, 0)
  else if !(s.descLive obj && d.writes && decide (d.etype = x.etype ∧ d.rank = x.rank ∧ d.size = x.sizes)) then
    some (.ERR_SEND_PAIR, obj, src)
  else if decide (d.scaleMode ≠ 0) && !s.descOk d.scaleLink then some (.ERR_DESC_CHECK, d.scaleLink, 0)
  else none

/-- The source elements that a SEND's bytes spell for a window (R459, R466). -/
def sendElems (d : Desc) (bs : List Byte) : List (List Nat × Nat) :=
  let rowBytes := ceilDiv (d.sz 0) d.ty.perUnit * d.ty.unitBytes
  let rows := positions ((List.range (d.rank - 1)).map fun x => d.sz (x + 1))
  if d.empty then []
  else rows.zipIdx.flatMap fun p =>
    let v := leNat ((bs.drop (p.2 * rowBytes)).take rowBytes)
    (List.range (d.sz 0)).map fun i => (i :: p.1, v / 2 ^ (d.ty.width * i) % 2 ^ d.ty.width)

/-- The conversion of an arriving SEND's bytes into its descriptor (R459, R466). -/
def State.sendRun (s : State) (n : Nat) (b : Inbound) : CvtRun :=
  let d := s.desc b.obj
  let src := { d with scaleMode := 0, cls := 0 }
  let l := (sendElems d (b.segs.flatMap (·.2))).filterMap fun p =>
    let j := d.dims.map (d.local p.1)
    if s.validPos d j then some (j, SrcElem.mk p.2 (d.ty.decodeForCvt p.2) fNone false false) else none
  if s.statBad d.statSlot then CvtRun.none else s.convertAll (s.drawCtx (0x100 + n)) src d l []

/-- The bytes that an arriving SEND writes. -/
def State.sendOut (s : State) (d : Desc) (run : CvtRun) : List (Nat × Byte) :=
  if s.statBad d.statSlot then [] else unitBytesOf (s.windowUnits d run.elems) ++ unitBytesOf run.scales

/-- Every segment of a SEND has come: its bytes are checked and written, its object signalled, its last segment
acknowledged (R460, R468). -/
def State.finishSend (s : State) (n : Nat) (b : Inbound) (aux : Nat) (m : Msg) : State :=
  let e := 0x100 + n
  let slot := s.slotIdx e
  let d := s.desc b.obj
  let bytes := b.segs.flatMap (·.2)
  let run := s.sendRun n b
  let out := s.sendOut d run
  let s := s.engFlags e run.flags
  let s := if s.statBad d.statSlot then s.raiseSlot .ERR_STAT_SLOT e slot 0 d.statSlot else s.statRecord d.statSlot run.stats
  let s := if run.clamp then s.raiseSlot .ERR_SCALE_CLAMP e slot 0 d.statSlot else s
  let g := b.sig.getD ⟨0, 0, 0, false⟩
  let (s, ok) := if g.protect then
      s.checkTag e slot 0 (bitsOf aux 53 48) (crcPoly g.poly bytes) (bitsOf aux 31 0) (bitsOf aux 47 32)
    else (s, true)
  let s := s.setInbound n b.src b.obj none
  if !ok then (s.storePart out).ackSend m
  else
    let s := ((s.storeXfer out).bump .SE_BYTES_WR_COUNT out.length n).ackSend m
    if g.obj = 0 then s
    else if s.inBody && s.staleTag m.tag then
      ({ s with sync := { s.sync with issued := s.sync.issued + g.count } }.syncLose g.count).noteStale g.obj
    else s.sendSignal (.engine e) g.obj g.count

/-- Every segment up to the last is there. -/
def Inbound.whole (b : Inbound) : Bool :=
  match b.last with | some (k, _) => (List.range (k + 1)).all fun i => b.segs.any fun p => p.1 == i | none => false

/-- A segment of a SEND has its slot: it is taken, and the SEND ends if it was the last to come. -/
def State.takeSegment (s : State) (n : Nat) (m : Msg) : State :=
  let b := s.inboundOf n m.src m.obj
  let b := { b with
    ext := (match m.ext with | some x => some x | none => b.ext)
    sig := (match m.sig with | some x => some x | none => b.sig)
    segs := tabPut m.index m.payload b.segs
    last := if m.last then some (m.index, m.aux) else b.last }
  let fail := if b.bad then none else m.ext.bind (s.sendPairFail m.obj m.src)
  let s := match fail with
    | some (x, d0, d1) => s.raiseSlot x (0x100 + n) (s.slotIdx (0x100 + n)) 0 d0 d1
    | none => s
  let b := { b with bad := b.bad || fail.isSome }
  if b.whole && b.ext.isSome then
    if b.bad then s.setInbound n m.src m.obj none
    else s.finishSend n b ((b.last.getD (0, 0)).2) { m with index := (b.last.getD (0, 0)).1, last := true }
  else
    let s := s.setInbound n m.src m.obj (some b)
    if m.last ∨ b.bad then s else s.ackSend m

/-- The write of an arriving SEND waits for an earlier slot's padded footprint (R412). -/
def State.inboundWaits (s : State) (n : Nat) (m : Msg) : Bool :=
  let d := s.desc m.obj
  s.padWaits (0x100 + n) (s.slotIdx (0x100 + n))
    (s.touch d ++ (if d.scaleMode = 2 then s.touch (s.desc d.scaleLink) else []))

/-- SEND_SEGMENT_RECEIVE (R460, R542): the oldest segment for stream engine n in a receive buffer; it stays there while no
slot is free, or while R412 holds the write. -/
def execSendSegmentReceive (q n : Nat) (s : State) : Res :=
  let f := fun (m : Msg) => m.kind == 1 && m.unit == n
  match s.peekRx q f with
  | none => .next s
  | some m =>
    let b := s.inboundOf n m.src m.obj
    if b.bad || ((b.slots.contains (m.index / 32) || decide (0 < s.sbFree n)) && !s.inboundWaits n m) then
      .next ((s.popRx q f).takeSegment n m)
    else .next s

/-- SEND_ACK_RECEIVE (R460): the oldest acknowledgement in a receive buffer; that of the last segment lets the SEND
complete. -/
def execSendAckReceive (q : Nat) (s : State) : Res :=
  let f := fun (m : Msg) => m.kind == 2
  match s.peekRx q f with
  | none => .next s
  | some m =>
    let s := s.popRx q f
    let e := 0x100 + m.unit % 16
    let g := s.xeng e
    let mine := fun (x : Xfer) =>
      decide (x.words.mode = 3 ∧ s.coordOfRank x.words.peer = m.src ∧ x.words.dst = m.obj) && x.rest.isEmpty &&
        decide (x.sent = m.index + 1) && !x.acked
    if m.last then .next (s.setXeng e { g with active := updFirst mine (fun x => { x with acked := true }) g.active })
    else .next s

/-! ### Gathers (R398, R428) -/

/-- The answer to a gather request (R428): the bytes, or none when no live allocation of the handle holds them. -/
def State.gatherAnswer (s : State) (handle off len : Nat) : List Byte :=
  match s.allocOf handle with
  | none => []
  | some a =>
    let b := s.pageBase a false + off
    if a.span < off + len then []
    else if ((List.range len).map fun i => b + i).any fun x => (s.firstPoisoned [x]).isSome then []
    else s.ldBytes b len

/-- GATHER_REQUEST_RECEIVE (R398, R428): the oldest request in a receive buffer is answered. -/
def execGatherRequestReceive (q : Nat) (s : State) : Res :=
  let f := fun (m : Msg) => m.kind == 3
  match s.peekRx q f with
  | none => .next s
  | some m =>
    let s := s.popRx q f
    let bs := s.gatherAnswer m.obj (m.aux % 2 ^ 40) (m.aux / 2 ^ 40)
    .next (s.present { msgPlain 4 1 m.src m.obj m.index m.aux bs with unit := m.unit } .first none)

/-- The answer put with its request. -/
def answerReq (num : Nat) (bs : List Byte) (l : List GatherReq) : List GatherReq :=
  l.map fun q => if q.num = num ∧ q.answer.isNone then { q with answer := some (if bs.isEmpty then none else some bs) } else q

/-- GATHER_RESPONSE_RECEIVE (R398, R428): the oldest response or refusal in a receive buffer reaches the transfer that
asked; with the last one its data are formed. -/
def execGatherResponseReceive (q : Nat) (s : State) : Res :=
  let f := fun (m : Msg) => m.kind == 4
  match s.peekRx q f with
  | none => .next s
  | some m =>
    let s := s.popRx q f
    let e := 0x100 + m.unit % 32
    let g := s.xeng e
    let s := s.setXeng e { g with active := g.active.map fun x => { x with reqs := answerReq m.index m.payload x.reqs } }
    match g.active.findIdx? fun x => x.reqs.any fun r => r.num == m.index with
    | some k => .next (s.formNow e k)
    | none => .next s

/-! ### Resident fills (R254) and the patrol scrubber (R450) -/

/-- The stream engine that fills a tile's resident region (R254). -/
def fillEngine (t : Nat) : Nat := 0x100 + t / 128 * 8 + t % 128 / 16

/-- RESIDENT_FILL_COMPLETE (R254): the resident image stands in the tile's operand cache. A poisoned codeword of the image is recorded,
and the fill is not complete (R449). -/
def execResidentFillComplete (t : Nat) (s : State) : Res :=
  if s.fills.contains t && decide (s.physOf t < 272) then
    let n := s.rd .VE_RES_SIZE_SIZE t * 65536
    let a := s.rd .VE_RES_SRC_ADDR t
    match s.firstPoisoned ((List.range n).map (a + ·)) with
    | some x => .next (s.raiseSlot .ERR_MEM_UE (fillEngine t) (s.slotIdx (fillEngine t)) 0 x)
    | none =>
      let c := ocCell (s.physOf t) 0
      let data := s.ldBytes a n
      let s := ({ s with mem := memWrite s.mem c data }).clearPoison c n
      .next { s with fills := s.fills.filter fun u => u != t }
  else .next s

/-- First cell and number of bytes of an SRAM instance that is addressed: an activation store, or the operand caches of
a cluster (R470). -/
def sramRange (inst : Nat) : Nat × Nat :=
  if inst < 18 then (0x020000000000 + (inst - 16) * 0x000100000000, actBytes)
  else (ocCell ((inst - 18) * 17) 0, 17 * 0x400000)

/-- The codeword that the scrubber reads next in an instance: a stack, or an SRAM instance. -/
def State.scrubCell (s : State) (inst : Nat) : Nat :=
  if inst < 16 then hbmCell inst (s.rd .SE_SCRUB_POS_OFFSET inst)
  else (sramRange inst).1 + tabGet 0 inst s.sramScrub

/-- The scrubber moves on to the next codeword; past the end a pass is complete. -/
def State.scrubNext (s : State) (inst : Nat) : State :=
  if inst < 16 then
    let o := s.rd .SE_SCRUB_POS_OFFSET inst + 32
    if o < 0x000C00000000 then s.wr .SE_SCRUB_POS_OFFSET o inst
    else (s.wr .SE_SCRUB_POS_OFFSET 0 inst).bump .SE_SCRUB_PASSES_COUNT 1 inst
  else
    let o := tabGet 0 inst s.sramScrub + 8
    { s with sramScrub := tabSet 0 inst (if o < (sramRange inst).2 then o else 0) s.sramScrub }

/-- Rank of the patrol scrub (R471). -/
def scrubRank : Nat := 7

/-- PATROL_SCRUB (R450, R451): the scrubber reads the next codeword of an instance through its arbiter, which no lock may hold: a
correctable error is corrected and written back, an uncorrectable one is poisoned and recorded once. -/
def execPatrolScrub (inst : Nat) (ev : MemEvent) (s : State) : Res :=
  if (s.lockOf inst).isSome then .next s
  else
    let c := s.scrubCell inst
    let s' := (s.countGrant inst).scrubNext inst
    match ev with
    | .none => .next s'
    | .corrected _ => .next (s'.memCe (.arbiter inst) c (some scrubRank))
    | .uncorrectable _ =>
      if tabGet false (codewordOf c) s.poison then .next s'
      else .next ((s'.memUe c).raiseRec .ERR_MEM_POISON Err.ERR_MEM_POISON.severity (.arbiter inst) none (some scrubRank)
        (s.cellAddr c) 0)

end Sys2Proof.Machine
end

