-- ==== Sys2Proof/Machine/Reduce.lean ====
section
/-! DEFINITION. The reduction engine (11, R543-R556): records, staging, deciding, folding, delivering, the books. -/

set_option autoImplicit false

namespace Sys2Proof.Machine

open Sys2Proof

/-- Slot, record and address of the record with an RID among slot lists. -/
def State.redFind (s : State) (rid : Nat) (l : List Slot) : Option (Nat × Nat × Nat) :=
  (l.zipIdx.flatMap fun q => if q.1.kind = 3 then (s.redAddrs q.1).zipIdx.map fun a => (q.2, a.2, a.1) else []).find?
    fun x => (s.redRecAt x.2.2).rid == rid

/-! ### A half -/

/-- A count of a half moved from one term of its book to another (R557). -/
def State.redMove (s : State) (h : Nat) (src dst : Fld) (n : Nat) : State := (s.wr src (s.rd src h - n) h).bump dst n h

/-- Sources counted as expected and absent. -/
def State.redExpect (s : State) (h n : Nat) : State := (s.bump .RED_EXPECTED_COUNT n h).bump .RED_ABSENT_COUNT n h

/-- The record of an RID that a half knows. -/
def RedHalf.run (g : RedHalf) (rid : Nat) : Option RedRun := g.runs.find? fun r => r.rid == rid

/-- A record's progress replaced. -/
def State.setRun (s : State) (h : Nat) (r : RedRun) : State :=
  let g := s.redHalf h
  s.setRed h { g with runs := (g.runs.filter fun x => x.rid != r.rid) ++ [r] }

/-- A record newly known: its sources are expected (R557). -/
def State.newRun (s : State) (h : Nat) (slot rec addr : Nat) : State × RedRun :=
  let r := s.redRecAt addr
  (s.redExpect h (redSources (s.redEntries r)),
    ⟨r.rid, .staging, slot, rec, addr, 0, [], [], 0, List.replicate r.len 0, false, [], [], false⟩)

/-- 64-byte units of the half's buffer in use (R563). -/
def State.redUnitsUsed (s : State) (h : Nat) : Nat :=
  (((s.redHalf h).runs.filter fun r => r.phase == .staging || r.phase == .active || r.phase == .sent).map fun r =>
    let q := s.redRecAt r.addr
    redUnits q (s.redEntries q)).foldl (· + ·) 0

/-! ### Sources (R549) -/

/-- The source of an entry among the staged ones. -/
def RedRun.source (r : RedRun) (i : Nat) (backup : Bool) : Option RedSource :=
  r.srcs.find? fun x => x.entry == i && x.backup == backup

/-- All segments of a source are there. -/
def RedSource.whole (x : RedSource) : Bool :=
  match x.last with | some (k, _) => (List.range (k + 1)).all fun i => x.segs.any fun p => p.1 == i | none => false

/-- The payload of a whole source. -/
def RedSource.payload (x : RedSource) : List Byte := x.segs.flatMap (·.2)

/-- A source is complete and checked. -/
def RedSource.ok (x : RedSource) : Bool :=
  x.whole && match x.last with | some (_, c) => crc32c x.payload == c | none => false

/-- Bytes cut into elements of n bytes. -/
def byteElems (n : Nat) : Nat → List Byte → List Nat
  | 0, _ => []
  | fuel + 1, bs => if bs.isEmpty then [] else leNat (bs.take n) :: byteElems n fuel (bs.drop n)

/-- Elements of a remote source of an entry. -/
def remoteElems (gf wide : Bool) (bs : List Byte) : List Nat := byteElems (if gf then 1 else if wide then 16 else 4) bs.length bs

/-- Value of an element of a remote SUM source. -/
def remoteNum (wide : Bool) (v : Nat) : Num := if wide then accDecode (BitVec.ofNat 128 v) else fmt32.decode v

/-- A value that is neither NaN nor infinite. -/
def isFinite (x : Num) : Bool := match x with | .fin _ => true | _ => false

/-- A source is finite. -/
def sourceFinite (gf wide : Bool) (bs : List Byte) : Bool :=
  gf || (remoteElems gf wide bs).all fun v => isFinite (remoteNum wide v)

/-- The decision of R549 on an entry: `some false` takes the primary, `some true` the backup, `none` nothing yet. -/
def decideEntry (ended okP goodP okB goodB : Bool) : Option Bool :=
  if goodP then some false
  else if okP && goodB then some true
  else if ended then
    if goodB then some true else if okP then some false else if okB then some true else none
  else none

/-- One remote entry decided; the source that is not taken is discarded when it is there. -/
def State.decideOne (h : Nat) (r : RedRec) (p : State × RedRun) (q : Nat × Nat) : State × RedRun :=
  let (s, run) := p
  let (v, i) := q
  if entLocal v || (run.taken.any fun t => t.1 == i) then p
  else
    let wide := entWide v
    let ok := fun (b : Bool) => match run.source i b with | some x => x.ok | none => false
    let fin := fun (b : Bool) => match run.source i b with | some x => sourceFinite r.gf wide x.payload | none => false
    let good := fun (b : Bool) => ok b && (!r.subst || fin b)
    match decideEntry (run.left == 0) (ok false) (good false) (ok true) (good true) with
    | some b =>
      let other := match run.source i (!b) with | some x => x.whole | none => false
      let run := { run with taken := tabPut i b run.taken, srcs := run.srcs.filter fun x => !(x.entry == i && x.backup == !b) }
      let run := if fin b then run else { run with nonfinite := run.nonfinite ++ [(i, if b then entBackup v else entPrimary v)] }
      (if other then s.redMove h .RED_STAGED_COUNT .RED_DISCARDED_COUNT 1 else s, run)
    | none =>
      if run.left = 0 ∧ !run.missing.contains i then
        (s.raiseSlot .ERR_RED_MISSING (redEngine h) run.slot run.record run.rid i, { run with missing := run.missing ++ [i] })
      else p

/-! ### Folding (R550, R551) -/

/-- One bit of the multiplication in GF(2⁸) with the polynomial 0x11D (R551). -/
def gfDouble (x : Nat) : Nat := if x % 256 < 128 then x % 256 * 2 else (x % 256 * 2 ^^^ 0x11D) % 256

/-- Product in GF(2⁸), over the bits of the first factor from the lowest. -/
def gfMulBits : Nat → Nat → Nat → Nat
  | 0, _, _ => 0
  | n + 1, a, x => (if a % 2 = 1 then x % 256 else 0) ^^^ gfMulBits n (a / 2) (gfDouble x)

/-- Product in GF(2⁸) (R551). -/
def gfMul (a x : Nat) : Nat := gfMulBits 8 a x

/-- The terms of one source folded into the accumulators; flags; whether bits were lost. -/
def foldSum (accs : List Acc) (xs : List Num) : List Acc × FlagSet × Bool :=
  let rs := (accs.zip xs).map fun p =>
    let (t, f) := elemTerm p.2
    let o := cubeStep p.1 [t]
    (o.acc, f ||| o.flags, o.lost)
  (rs.map (·.1), flagsOr (rs.map (·.2.1)), rs.any (·.2.2))

/-- GF_MAC of one source (R551). -/
def foldGf (coef : Nat) (accs : List Acc) (xs : List Nat) : List Acc :=
  (accs.zip xs).map fun p => p.1 ^^^ BitVec.ofNat 128 (gfMul coef p.2)

/-- The elements of a local source (R546). -/
def State.localElems (s : State) (id : Nat) : List SrcElem :=
  let d := s.desc id
  if d.empty then [] else d.window.map fun i => s.srcElem [] d (s.srcPos d i)

/-- The bytes of a local source. -/
def State.localBytes (s : State) (id : Nat) : List Nat :=
  let d := s.desc id
  (s.readLocs d d.window).filterMap fun l => match l with | .here a => some a | _ => none

/-- One entry folded, when its turn has come and its source is taken. -/
def State.foldOne (h : Nat) (r : RedRec) (p : State × RedRun) (q : Nat × Nat) : State × RedRun :=
  let (s, run) := p
  let (v, i) := q
  if run.folded ≠ i ∨ run.failed then p
  else if entLocal v then
    match s.firstPoisoned (s.localBytes (entDesc v)) with
    | some b => (s.raiseSlot .ERR_MEM_UE (redEngine h) run.slot run.record b, { run with failed := true })
    | none =>
      let es := s.localElems (entDesc v)
      let ty := (s.desc (entDesc v)).ty
      let s := s.redMove h .RED_ABSENT_COUNT .RED_FOLDED_COUNT 1
      if r.gf then (s, { run with folded := i + 1, acc := foldGf (entCoef v) run.acc (es.map (·.bits)) })
      else
        let xs := es.map fun e => ty.decode e.bits
        let (acc, f, l) := foldSum run.acc xs
        let run := { run with folded := i + 1, acc := acc, lost := run.lost || l }
        (s.orFlags .RED_FLAGS_FLAGS f h,
          if xs.all isFinite then run else { run with nonfinite := run.nonfinite ++ [(i, s.rank)] })
  else
    match run.taken.find? fun t => t.1 == i with
    | none => p
    | some (_, b) =>
      match run.source i b with
      | none => p
      | some x =>
        let es := remoteElems r.gf (entWide v) x.payload
        let s := s.redMove h .RED_STAGED_COUNT .RED_FOLDED_COUNT 1
        let run := { run with folded := i + 1, srcs := run.srcs.filter fun y => !(y.entry == i) }
        if r.gf then (s, { run with acc := foldGf (entCoef v) run.acc es })
        else
          let (acc, f, l) := foldSum run.acc (es.map (remoteNum (entWide v)))
          (s.orFlags .RED_FLAGS_FLAGS f h, { run with acc := acc, lost := run.lost || l })

/-! ### Delivering (R552, R553) -/

/-- A record completes: its signal, and a record for each source that was not finite (R553). -/
def State.completeRun (s : State) (h : Nat) (r : RedRec) (run : RedRun) : State :=
  let e := redEngine h
  let s := run.nonfinite.foldl (fun (s : State) (q : Nat × Nat) =>
    s.raiseSlot .ERR_RED_NONFINITE e run.slot run.record (run.rid + q.1 * 2 ^ 14) q.2) s
  let s := s.bump .RED_RECORDS_COUNT 1 h
  let s := if r.sigObj = 0 then s else s.sendSignal (.engine e) r.sigObj r.sigCount
  (s.setRun h { run with phase := .complete, acc := [], srcs := [] }).settleRed h

/-- A folded accumulator list written to the local destination. -/
def State.deliverHere (s : State) (r : RedRec) (vals : List Nat) : State :=
  let d := s.desc r.outDesc
  let l := (d.window.zip vals).filterMap fun p =>
    let j := d.dims.map (d.local p.1)
    if s.validPos d j then some (j, p.2) else none
  s.storeXfer (unitBytesOf (s.windowUnits d l))

/-- The segments of a partial sent to the receiving record (R537, R552). -/
def State.sendPartial (s : State) (h : Nat) (r : RedRec) (run : RedRun) (bs : List Byte) : State :=
  let ps := pieces 2048 bs.length bs
  ps.zipIdx.foldl (fun (s : State) (q : List Byte × Nat) =>
    let last := q.2 + 1 == ps.length
    let m := { msgPlain 5 2 (s.coordOfRank r.outRank) r.outObj q.2 (if last then crc32c bs else 0) q.1 with
      unit := r.outHalf, first := q.2 == 0, last := last }
    s.present m (.seg q.2) (some (redEngine h, run.slot))) s

/-- A record all of whose entries have folded delivers its result (R552). -/
def State.deliverRun (s : State) (h : Nat) (r : RedRec) (run : RedRun) : State :=
  let lostF := flagIf run.lost fIX
  let rs := run.acc.map fun a =>
    if r.gf then (a.toNat % 256, fNone) else if r.outWide then (a.toNat, fNone) else accRound fmt32 .rne 0 false 0 a
  let s := if r.gf then s else s.orFlags .RED_FLAGS_FLAGS (flagsOr (rs.map (·.2)) ||| lostF) h
  let vals := rs.map (·.1)
  if r.isLocal then (s.deliverHere r vals).completeRun h r run
  else
    let n := if r.gf then 1 else if r.outWide then 16 else 4
    (s.setRun h { run with phase := .sent }).sendPartial h r run (vals.flatMap (leBytes n))

/-- A record whose read failed ends without a signal; its other sources are cancelled. -/
def State.failRun (s : State) (h : Nat) (r : RedRec) (run : RedRun) : State :=
  let es := (s.redEntries r).zipIdx
  let open_ := (es.filter fun q => decide (run.folded ≤ q.2)).map fun q =>
    let whole := fun (b : Bool) => match run.source q.2 b with | some x => b2n x.whole | none => 0
    if entLocal q.1 then (0, 1)
    else
      let st := whole false + whole true
      let gone := b2n ((run.taken.any fun t => t.1 == q.2) && entHasBackup q.1)
      (st, (if entHasBackup q.1 then 2 else 1) - st - gone)
  let staged := (open_.map (·.1)).foldl (· + ·) 0
  let absent := (open_.map (·.2)).foldl (· + ·) 0
  let s := (s.redMove h .RED_STAGED_COUNT .RED_CANCELLED_COUNT staged).redMove h .RED_ABSENT_COUNT .RED_CANCELLED_COUNT absent
  (s.setRun h { run with phase := .cancelled, acc := [], srcs := [] }).settleRed h

/-- A record moves on as far as it can: decide, fold, deliver (R549-R552). A write into a padded footprint of an earlier
slot waits (R412). -/
def State.advanceRun (s : State) (h rid : Nat) : State :=
  match (s.redHalf h).run rid with
  | none => s
  | some run =>
    if run.phase ≠ .active then s
    else
      let r := s.redRecAt run.addr
      let es := (s.redEntries r).zipIdx
      let (s, run) := es.foldl (State.decideOne h r) (s, run)
      let (s, run) := es.foldl (State.foldOne h r) (s, run)
      let s := s.setRun h run
      if run.failed then s.failRun h r run
      else if run.folded < r.ncon then s
      else if r.isLocal && s.padWaits (redEngine h) run.slot (s.touch (s.desc r.outDesc)) then s
      else s.deliverRun h r run

/-- Every active record of a half moves on. -/
def State.advanceHalf (s : State) (h : Nat) : State :=
  ((s.redHalf h).runs.map (·.rid)).foldl (fun (s : State) (rid : Nat) => s.advanceRun h rid) s

/-! ### Step abort and body entry (R556, R557) -/

/-- The counts of a half with what is staged and absent cancelled. -/
def State.redCancelAll (s : State) (h : Nat) : State :=
  (s.redMove h .RED_STAGED_COUNT .RED_CANCELLED_COUNT (s.rd .RED_STAGED_COUNT h)).redMove h .RED_ABSENT_COUNT .RED_CANCELLED_COUNT
    (s.rd .RED_ABSENT_COUNT h)

/-- A half at a STEP_ABORT: records not complete are cancelled (R556). -/
def State.redAbort (s : State) (h : Nat) : State :=
  let g := s.redHalf h
  (s.redCancelAll h).setRed h { g with next := 0, runs := g.runs.map fun r =>
    if r.phase = .complete then r else { r with phase := .cancelled, acc := [], srcs := [] } }

/-- A half at a tick that starts BODY_FIRST: its books start afresh for the step (R557). -/
def State.redBodyEntry (s : State) (h : Nat) : State :=
  ([Fld.RED_EXPECTED_COUNT, .RED_ABSENT_COUNT, .RED_STAGED_COUNT, .RED_FOLDED_COUNT, .RED_DISCARDED_COUNT, .RED_CANCELLED_COUNT].foldl
    (fun (s : State) (f : Fld) => s.wr f 0 h) s).setRed h RedHalf.reset

/-- At a frame boundary the deadlines of a half come one frame nearer (R549, R497). -/
def State.redBoundary (s : State) (h : Nat) : State :=
  let g := s.redHalf h
  s.setRed h { g with runs := g.runs.map fun r => if r.phase = .active then { r with left := r.left - 1 } else r }

end Sys2Proof.Machine
end

