-- ==== Sys2Proof/Machine/Sinter.lean ====
section
/-! DEFINITION. Sinter (13, R612-R633): groups and ranges, the working areas, folding, the books, what the commit tick and
the body entry do, the step record. -/

set_option autoImplicit false

namespace Sys2Proof.Machine

open Sys2Proof

/-- Engine ID of Sinter. -/
def sinEngine : Nat := 0x122
/-- Bytes of a block and of a granule. -/
def granBytes : Nat := 2048

/-- Sinter replaced. -/
def State.setSin (s : State) (u : SinUnit) : State := { s with sin := u }

/-- The groups of the loaded table. -/
def State.sinGroups (s : State) : List SinGroup := match s.sin.table with | some t => t.groups | none => []
/-- A parity position. -/
def SinGroup.parity (g : SinGroup) : Bool := decide (14 ≤ g.pos)
/-- The module holds a parity position. -/
def State.sinHolder (s : State) : Bool := s.sinGroups.any SinGroup.parity
/-- The body under way is a securing body. -/
def State.securing (s : State) : Bool := s.rd .SIN_STATUS_SECURING == 1
/-- The pending buffer that folds the current body's deltas: 2 or 3 of a working area. -/
def State.pendBuf (s : State) : Nat := 2 + s.rd .SIN_STATUS_PEND_SEL

/-- An error of Sinter about a group (R641). -/
def State.raiseSin (s : State) (e : Err) (group : Option Nat) (d0 : Nat := 0) (d1 : Nat := 0) : State :=
  s.raiseRec e e.severity (.engine sinEngine) group none d0 d1

/-! ### Ranges (R617) -/

/-- Region offset of page byte o of an allocation in a list of ranges whose blocks begin at block b. -/
def rangeOffset (handle o : Nat) : Nat → List SinRange → Option Nat
  | _, [] => none
  | b, r :: l =>
    if r.handle = handle ∧ r.offset ≤ o ∧ o < r.offset + granBytes * r.blocks then some (granBytes * b + (o - r.offset))
    else rangeOffset handle o (b + r.blocks) l

/-- Handle and page offset of region block k. -/
def rangeBlock : Nat → List SinRange → Option (Nat × Nat)
  | _, [] => none
  | k, r :: l => if k < r.blocks then some (r.handle, r.offset + granBytes * k) else rangeBlock (k - r.blocks) l

/-- Current-page address of a byte of an allocation. -/
def State.currentAddr (s : State) (handle o : Nat) : Option Nat := (s.allocOf handle).map fun a => s.pageBase a false + o

/-- Current-page address of region block k; none beyond the ranges. -/
def State.blockAddr (s : State) (g : SinGroup) (k : Nat) : Option Nat :=
  match rangeBlock k g.ranges with | some (h, o) => s.currentAddr h o | none => none

/-! ### Working areas (R617, R622) -/

/-- Address of granule n of buffer b of a parity position's working area. -/
def State.areaAddr (s : State) (g : SinGroup) (b n : Nat) : Nat :=
  match s.sin.table with
  | some t => (match s.allocOf t.alloc with | some a => a.base | none => 0) + g.area + (b * g.len + n) * granBytes
  | none => 0

/-- Key of a valid bit: group entry, buffer (1 fresh, 2 and 3 pending), granule. -/
def validKey (gi b n : Nat) : Nat := (gi * 4 + b) * 131072 + n

/-- A granule is valid. -/
def State.granValid (s : State) (gi b n : Nat) : Bool := tabGet false (validKey gi b n) s.sin.valid

/-- Every valid bit of a buffer cleared, in all groups. -/
def SinUnit.clearValid (u : SinUnit) (b : Nat) : SinUnit := { u with valid := u.valid.filter fun p => decide (p.1 / 131072 % 4 ≠ b) }

/-- Buffer of the working area that holds the parity, and the one that takes fresh messages. -/
def State.parityBuf (s : State) : Nat := s.sin.paritySel
/-- The fresh buffer. -/
def State.freshBuf (s : State) : Nat := 1 - s.sin.paritySel

/-- Two byte strings XORed. -/
def xorBytes (a b : List Byte) : List Byte := a.zipWith (fun x y => x ^^^ y) b

/-- Bytes multiplied in GF(2⁸) (R613). -/
def gfBytes (c : Nat) (bs : List Byte) : List Byte := bs.map fun b => BitVec.ofNat 8 (gfMul c b.toNat)

/-- α to a power (R614). -/
def alphaPow : Nat → Nat
  | 0 => 1
  | n + 1 => gfDouble (alphaPow n)

/-- Bytes stored from an address on; poison of the codewords that they cover cleared. -/
def State.putBytes (s : State) (a : Nat) (bs : List Byte) : State := s.storeAll (bs.zipIdx.map fun q => (a + q.2, q.1))

/-- A message folded into a buffer (R622): a granule that is not valid starts from 0. `lb` names the buffer in the valid
map, `b` its place in the area. -/
def State.sinFold (s : State) (gi : Nat) (g : SinGroup) (lb b off : Nat) (bs : List Byte) : State :=
  let ns := distinct ((List.range bs.length).map fun i => (off + i) / granBytes)
  let s := ns.foldl (fun (s : State) (n : Nat) =>
    if s.granValid gi lb n then s
    else (s.putBytes (s.areaAddr g b n) (List.replicate granBytes 0)).setSin
      { s.sin with valid := tabSet false (validKey gi lb n) true s.sin.valid }) s
  let a := s.areaAddr g b 0 + off
  s.stBytes a (xorBytes (s.ldBytes a bs.length) bs)

/-- The granule at a place of the concatenated working areas of the parity positions: group entry, group, granule. -/
def granuleAt : Nat → List (SinGroup × Nat) → Option (Nat × SinGroup × Nat)
  | _, [] => none
  | n, (g, gi) :: l => if !g.parity then granuleAt n l else if n < g.len then some (gi, g, n) else granuleAt (n - g.len) l

/-- Granules of all parity positions of the module. -/
def State.granTotal (s : State) : Nat := ((s.sinGroups.filter SinGroup.parity).map (·.len)).foldl (· + ·) 0

/-- Granules of the parity positions before a group entry. -/
def State.granBefore (s : State) (gi : Nat) : Nat :=
  (((s.sinGroups.take gi).filter SinGroup.parity).map (·.len)).foldl (· + ·) 0

/-- The committed parity of a granule (R622). -/
def State.committedParity (s : State) (gi : Nat) (g : SinGroup) (n : Nat) : List Byte :=
  let p := s.ldBytes (s.areaAddr g s.parityBuf n) granBytes
  let b := 5 - s.pendBuf
  if s.rd .SIN_STATUS_APPLYING = 1 ∧ s.rd .SIN_APPLY_POS_GRANULE ≤ s.granBefore gi + n ∧ s.granValid gi b n then
    xorBytes p (s.ldBytes (s.areaAddr g b n) granBytes)
  else p

/-! ### The books (R625, R627) -/

/-- Items of R625 for this body. -/
def State.sinExpected (s : State) : Nat :=
  match s.sin.table with
  | none => 0
  | some t =>
    let per := fun (g : SinGroup) => if g.parity then g.deltas + (if s.securing then g.freshs else 0) else 0
    (t.groups.map per).foldl (· + ·) 0 + t.ranks.length

/-- Items accepted in this body. -/
def State.sinAccepted (s : State) : Nat :=
  ((s.sin.gotDelta ++ s.sin.gotFresh).map (·.2)).foldl (· + ·) 0 + s.sin.recGot.length

/-- Items expected and not yet accepted: by group and kind, and records. -/
def State.sinMissing (s : State) : Nat :=
  match s.sin.table with
  | none => 0
  | some t =>
    let per := fun (p : SinGroup × Nat) =>
      if p.1.parity then
        (p.1.deltas - tabGet 0 p.2 s.sin.gotDelta) + (if s.securing then p.1.freshs - tabGet 0 p.2 s.sin.gotFresh else 0)
      else 0
    (t.groups.zipIdx.map per).foldl (· + ·) 0 + (t.ranks.filter fun r => !s.sin.recGot.contains r).length

/-- The book registers follow what has been accepted (R627). -/
def State.sinBook (s : State) : State := (s.wr .SIN_INFLIGHT_COUNT s.sinMissing).wr .SIN_HELD_COUNT s.sinAccepted

/-- The holder's part of readiness (R625). -/
def State.sinReady (s : State) : Bool := s.sinMissing == 0 && s.rd .SIN_STATUS_APPLYING == 0

/-- A Sinter message presented and counted. -/
def State.sendSin (s : State) (slot : Option (Nat × Nat)) (rank sub obj idx : Nat) (last : Bool) (bs : List Byte) : State :=
  (s.bump .SIN_SENT_COUNT).present { msgPlain 9 2 (s.coordOfRank rank) obj idx 0 bs with unit := sub, last := last } .first slot

/-- Bytes of a data position sent to both holders: unscaled to P0, times α^POSITION to P1 (R619, R632). -/
def State.sendParity (s : State) (slot : Option (Nat × Nat)) (g : SinGroup) (sub off : Nat) (bs : List Byte) : State :=
  let s := s.sendSin slot (g.members.getD 14 0) sub g.id off false bs
  s.sendSin slot (g.members.getD 15 0) sub g.id off false (gfBytes (alphaPow g.pos) bs)

/-- Runs of region-contiguous bytes, split where they cross a 2,048-byte boundary (R619). -/
def deltaRuns : List (Nat × Byte) → List (Nat × List Byte)
  | [] => []
  | (o, b) :: l =>
    match deltaRuns l with
    | (p, bs) :: r => if p = o + 1 ∧ p % granBytes ≠ 0 then (o, b :: bs) :: r else (o, [b]) :: (p, bs) :: r
    | [] => [(o, [b])]

/-- Region offset and delta of each byte that an owner's ST stores into a range (R595, R619): page byte o of an allocation;
the new byte against the current page. -/
def State.deltaBytes (s : State) (g : SinGroup) (l : List (Nat × Byte)) : List (Nat × Byte) :=
  l.filterMap fun p =>
    match s.allocs.find? fun a => a.paged && decide (s.pageBase a true ≤ p.1 ∧ p.1 < s.pageBase a true + a.span) with
    | none => none
    | some a =>
      let o := p.1 - s.pageBase a true
      (rangeOffset a.handle o 0 g.ranges).map fun k => (k, p.2 ^^^ s.ld (s.pageBase a false + o))

/-- The deltas of one ST (R619, R620): `l` the bytes as they are to be stored. -/
def State.sendDeltas (s : State) (n slot gi : Nat) (l : List (Nat × Byte)) : State :=
  match s.sinGroups[gi]? with
  | none => s
  | some g =>
    let runs := deltaRuns (s.deltaBytes g l)
    let s := runs.foldl (fun (s : State) (r : Nat × List Byte) => s.sendParity (some (0x110 + n, slot)) g 0 r.1 r.2) s
    let s := s.bump .UE_DELTA_BYTES_COUNT (2 * (runs.map fun r => r.2.length).foldl (· + ·) 0) n
    s.setSin { s.sin with sent := tabSet 0 gi (tabGet 0 gi s.sin.sent + runs.length) s.sin.sent }

/-- The count check of R620, at VOTE_CYCLE. -/
def State.sinCountCheck (s : State) : State :=
  s.sinGroups.zipIdx.foldl (fun (s : State) (p : SinGroup × Nat) =>
    let n := tabGet 0 p.2 s.sin.sent
    if p.1.parity ∨ n = p.1.deltas then s else s.raiseSin .ERR_SINTER_COUNT (some p.1.id) n p.1.deltas) s

/-! ### The commit tick and the body entry -/

/-- The fresh buffers become the parity buffers (R623): granules of which no fresh block came are 0 (R615). -/
def State.freshToParity (s : State) : State :=
  let s := s.sinGroups.zipIdx.foldl (fun (s : State) (p : SinGroup × Nat) =>
    if !p.1.parity then s
    else (List.range p.1.len).foldl (fun (s : State) (n : Nat) =>
      if s.granValid p.2 1 n then s else s.putBytes (s.areaAddr p.1 s.freshBuf n) (List.replicate granBytes 0)) s) s
  s.setSin { s.sin.clearValid 1 with paritySel := 1 - s.sin.paritySel, drift := true, driftSeen := false }

/-- Action 2 of R601 (R623), with what a securing commit leaves (R631). -/
def State.sinCommit (s : State) : State :=
  match s.sin.table with
  | none => s
  | some t =>
    let sec := s.securing
    let s := if sec && s.sinHolder then s.freshToParity else s
    let s := if s.sinHolder then (s.wr .SIN_STATUS_APPLYING 1).wr .SIN_APPLY_POS_GRANULE 0 else s
    let s := s.wr .SIN_STATUS_PEND_SEL (1 - s.rd .SIN_STATUS_PEND_SEL)
    let u := s.sin.clearValid s.pendBuf
    let s := s.setSin { u with recSel := t.ranks.foldl (fun (m : Tab Nat) (r : Nat) => tabSet 0 r (1 - tabGet 0 r m) m) u.recSel }
    let s := (s.bump .SIN_APPLIED_COUNT (s.rd .SIN_HELD_COUNT)).wr .SIN_HELD_COUNT 0
    if sec then (s.wr .SIN_LAST_SECURE_STEP (s.rd .GEY_STEP_COUNT_STEP)).bump .SIN_SECURINGS_COUNT else s

/-- How far a step lies ahead of another, within the window of R109; none when it is earlier or beyond the window. -/
def stepAhead (a b : Nat) : Option Nat :=
  let d := (2 ^ 32 + a - b % 2 ^ 32) % 2 ^ 32
  if d ≤ 2 ^ 30 then some d else none

/-- Two steps cannot be compared (R109). -/
def stepApart (a b : Nat) : Bool :=
  let d := (2 ^ 32 + a - b % 2 ^ 32) % 2 ^ 32
  decide (2 ^ 30 < d ∧ d < 2 ^ 32 - 2 ^ 30)

/-- A comparison of step counts beyond the window is recorded (R109). -/
def State.stepWindow (s : State) (a b : Nat) : State :=
  if stepApart a b then s.raise .ERR_STEP_WINDOW (.engine 0x110) a b else s

/-- The securing decision (R631). -/
def State.securingDue (s : State) : Bool :=
  let n := s.rd .GEY_STEP_COUNT_STEP
  s.sin.table.isSome && (s.sin.secureAt == some n ||
    match stepAhead n (s.rd .SIN_LAST_SECURE_STEP) with
    | some d => decide (s.rd .SIN_SECURE_STEPS_STEPS ≤ d)
    | none => false)

/-- The holder's buffers at a body that ended without a commit (R626). -/
def State.sinCancel (s : State) : State :=
  let s := s.setSin ((s.sin.clearValid s.pendBuf).clearValid 1)
  ((s.bump .SIN_CANCELLED_COUNT (s.rd .SIN_INFLIGHT_COUNT + s.rd .SIN_HELD_COUNT)).wr .SIN_INFLIGHT_COUNT 0).wr .SIN_HELD_COUNT 0

/-- Sinter at a tick that starts BODY_FIRST: what the body before left is cancelled unless it committed (R626), the book starts
afresh (R561), the securing decision is latched (R631), and the body's items are expected. -/
def State.sinBodyEntry (s : State) (committed : Bool) : State :=
  let s := if committed then s else s.sinCancel
  let s := s.setSin { s.sin with
    gotDelta := [], gotFresh := [], sent := [], recParts := [], recGot := [], capture := none, captured := false }
  let s := if s.sin.table.isSome then s.stepWindow (s.rd .GEY_STEP_COUNT_STEP) (s.rd .SIN_LAST_SECURE_STEP) else s
  let s := s.wr .SIN_STATUS_SECURING (b2n s.securingDue)
  let s := (((s.wr .SIN_SENT_COUNT 0).wr .SIN_APPLIED_COUNT 0).wr .SIN_CANCELLED_COUNT 0).wr .SIN_EXPECTED_COUNT s.sinExpected
  s.sinBook

/-! ### The step record (R629) -/

/-- Address of a copy of a rank's record slot; `none` where the module does not hold it. -/
def State.recAddr (s : State) (r copy : Nat) : Option Nat :=
  match s.sin.table with
  | none => none
  | some t =>
    match t.ranks.findIdx? fun x => x == r with
    | none => none
    | some i => (s.allocOf t.alloc).map fun a => a.base + t.recArea + (2 * i + copy) * t.recBytes

/-- The committed copy of a rank's record. -/
def State.recCopy (s : State) (r : Nat) : Nat := tabGet 0 r s.sin.recSel

/-- The authorisation queued for the step under way (R607). -/
def State.authToken (s : State) : Option Nat :=
  (s.step.auth.find? fun p => p.1 == s.rd .GEY_STEP_COUNT_STEP).map (·.2)

/-- HOST_AUTH of the loaded step table. -/
def State.hostAuth (s : State) : Bool := match s.step.table with | some t => t.hostAuth | none => false

/-- The record's bytes before its CRC is known. -/
def State.recordRaw (s : State) (crc : Nat) : List Byte :=
  leBytes 4 0x44434552 ++ leBytes 2 s.rank ++ leBytes 2 s.policy.statSlots ++ leBytes 4 (s.rd .GEY_STEP_COUNT_STEP) ++
    leBytes 4 (s.rd .SIN_LAST_SECURE_STEP) ++ leBytes 8 s.policy.salt ++
    leBytes 8 (if s.hostAuth then s.authToken.getD 0 else 0) ++ leBytes 4 (b2n s.securing + 2 * b2n s.hostAuth) ++
    leBytes 4 crc ++ leBytes 24 0 ++ s.ldBytes s.policy.statBase (32 * s.policy.statSlots)

/-- The step record (R629). -/
def State.stepRecord (s : State) : List Byte := s.recordRaw (crc32c (s.recordRaw 0))

/-- Bytes sent to a rank as RECORD messages; OBJ names the rank whose record it is. -/
def State.sendRecord (s : State) (slot : Option (Nat × Nat)) (dst owner : Nat) (bs : List Byte) : State :=
  let ps := pieces granBytes bs.length bs
  ps.zipIdx.foldl (fun (s : State) (q : List Byte × Nat) =>
    s.sendSin slot dst 2 owner (granBytes * q.2) (q.2 + 1 == ps.length) q.1) s

end Sys2Proof.Machine
end

