-- ==== Sys2Proof/Machine/SinterRows.lean ====
section
/-! DEFINITION. The commands of Sinter outside a RESTORE (13): CAPTURE, RESECURE, messages that arrive, application of
the pending deltas. -/

set_option autoImplicit false

namespace Sys2Proof.Machine

open Sys2Proof

/-- ACTION of a kind-4 slot (R628). -/
def Slot.action (sl : Slot) : Nat := bitsOf sl.payload 63 60

/-- The kind-4 slot that Sinter runs. -/
def State.sinSlot (s : State) : Option Slot :=
  match s.slotNow sinEngine with
  | some sl => if sl.kind = 4 then some sl else none
  | none => none

/-- SINTER_CAPTURE (R629, R630): the snapshot goes to both record holders. -/
def execSinterCapture (s : State) : Res :=
  match s.sinSlot, s.sin.table with
  | some sl, some t =>
    if sl.action ≠ 0 ∨ s.sin.capture.isSome = true then .next s
    else
      let s := s.setSin { s.sin with captured := true }
      if s.hostAuth && s.authToken.isNone then .next ((s.raiseSin .ERR_SINTER_CAPTURE none).endSlot sinEngine)
      else
        let r := s.stepRecord
        let at_ := some (sinEngine, s.slotIdx sinEngine)
        let s := s.setSin { s.sin with capture := some 0 }
        .next ((s.sendRecord at_ t.holder0 s.rank r).sendRecord at_ t.holder1 s.rank r)
  | _, _ => .next s

/-- A region block sent as fresh to both holders; none where it lies beyond the ranges. -/
def State.secureBlock (s : State) (slot : Nat) (g : SinGroup) (k : Nat) : State :=
  match s.blockAddr g k with
  | none => s
  | some a =>
    match s.firstPoisoned ((List.range granBytes).map fun i => a + i) with
    | some x => s.raiseSlot .ERR_MEM_UE sinEngine slot 0 x
    | none => s.sendParity (some (sinEngine, slot)) g 1 (granBytes * k) (s.ldBytes a granBytes)

/-- SINTER_RESECURE (R632): in a securing body the blocks of the slot are sent as fresh; in any other the slot ends. -/
def execSinterResecure (s : State) : Res :=
  match s.sinSlot with
  | none => .next s
  | some sl =>
    if sl.action = 0 then .next s
    else
      let i := s.slotIdx sinEngine
      let s := match s.sinGroups[bitsOf sl.payload 51 44]? with
        | some g =>
          if sl.action = 1 ∧ s.securing = true then
            (List.range (bitsOf sl.payload 21 0)).foldl (fun (s : State) (k : Nat) =>
              s.secureBlock i g (bitsOf sl.payload 43 22 + k)) s
          else s
        | none => s
      .next (s.endSlot sinEngine)

/-- A Sinter message of an earlier body is discarded and counted; recorded once a tick (R621). -/
def State.sinStale (s : State) (obj : Nat) : State :=
  let s := s.bump .SIN_STALE_COUNT
  if s.sin.staleNoted then s
  else (s.setSin { s.sin with staleNoted := true }).raiseSin .ERR_SINTER_STALE (some obj)

/-- The parity position that a DELTA or FRESH message concerns (R621): group entry and group. -/
def State.sinAccepts (s : State) (m : Msg) : Option (Nat × SinGroup) :=
  let src := s.rankOfCoord m.src
  match s.sinGroups.zipIdx.find? fun p => p.1.id == m.obj && p.1.parity with
  | some (g, gi) =>
    if (g.members.take 14).contains src && decide (m.index + m.payload.length ≤ g.len * granBytes) then some (gi, g) else none
  | none => none

/-- The test of a Sinter message in a receive buffer. -/
def sinMsg (sub : Nat) (m : Msg) : Bool := m.kind == 9 && m.unit == sub

/-- A DELTA or FRESH message taken (R621, R622). -/
def State.takeParity (s : State) (m : Msg) (fresh : Bool) : State :=
  if s.staleTag m.tag then s.sinStale m.obj
  else
    match s.sinAccepts m with
    | none => s.raiseSin .ERR_SINTER_MSG (some m.obj) m.index (s.rankOfCoord m.src)
    | some (gi, g) =>
      let s := if fresh then s.sinFold gi g 1 s.freshBuf m.index m.payload else s.sinFold gi g s.pendBuf s.pendBuf m.index m.payload
      let u := s.sin
      (s.setSin (if fresh then { u with gotFresh := tabSet 0 gi (tabGet 0 gi u.gotFresh + 1) u.gotFresh }
        else { u with gotDelta := tabSet 0 gi (tabGet 0 gi u.gotDelta + 1) u.gotDelta })).sinBook

/-- SINTER_DELTA_RECEIVE (R622): the oldest DELTA in a receive buffer folds into the pending buffer. -/
def execSinterDeltaReceive (q : Nat) (s : State) : Res :=
  match s.peekRx q (sinMsg 0) with
  | none => .next s
  | some m => .next ((s.popRx q (sinMsg 0)).takeParity m false)

/-- SINTER_FRESH_RECEIVE (R622): the oldest FRESH in a receive buffer folds into the fresh buffer, once the comparison of
R624 has read the old parity there. -/
def execSinterFreshReceive (q : Nat) (s : State) : Res :=
  match s.peekRx q (sinMsg 1) with
  | none => .next s
  | some m => if s.sin.drift then .next s else .next ((s.popRx q (sinMsg 1)).takeParity m true)

/-- A RECORD message with content. -/
def recordMsg (m : Msg) : Bool := sinMsg 2 m && !m.payload.isEmpty
/-- The acknowledgement of a record. -/
def recordAck (m : Msg) : Bool := sinMsg 2 m && m.payload.isEmpty

/-- A part of a record that the module holds (R621, R629): written into the alternate copy; the whole record is accepted and
acknowledged. -/
def State.takeRecord (s : State) (m : Msg) : State :=
  let r := s.rankOfCoord m.src
  let size := match s.sin.table with | some t => t.recBytes | none => 0
  if s.staleTag m.tag then s.sinStale m.obj
  else
    match s.recAddr r (1 - s.recCopy r) with
    | none => s.raiseSin .ERR_SINTER_MSG none m.index r
    | some a =>
      if m.obj ≠ r ∨ size < m.index + m.payload.length then s.raiseSin .ERR_SINTER_MSG none m.index r
      else
        let s := s.putBytes (a + m.index) m.payload
        let (n, t) := tabGet (0, none) r s.sin.recParts
        let n := n + m.payload.length
        let t := if m.last then some (m.index + m.payload.length) else t
        if t = some n then
          let s := s.setSin { s.sin with
            recParts := tabDel r s.sin.recParts
            recGot := if s.sin.recGot.contains r then s.sin.recGot else s.sin.recGot ++ [r] }
          s.sinBook.present { msgPlain 9 2 m.src r 0 0 [] with unit := 2, last := true } .first none
        else s.setSin { s.sin with recParts := tabPut r (n, t) s.sin.recParts }

/-- SINTER_RECORD_ACKNOWLEDGED (R629): a holder's acknowledgement; with the second the CAPTURE slot ends. -/
def execSinterRecordAcknowledged (q : Nat) (s : State) : Res :=
  match s.peekRx q recordAck with
  | none => .next s
  | some m =>
    let s := s.popRx q recordAck
    match s.sin.capture, s.sin.table with
    | some k, some t =>
      let r := s.rankOfCoord m.src
      let k := k ||| (if r = t.holder0 then 1 else if r = t.holder1 then 2 else 0)
      if k = 3 then .next ((s.setSin { s.sin with capture := none }).endSlot sinEngine)
      else .next (s.setSin { s.sin with capture := some k })
    | _, _ => .next s

/-- The comparison of one granule (R624): the old parity, which is now the fresh buffer, against the new. -/
def State.driftGranule (s : State) (g : SinGroup) (n : Nat) : State :=
  if s.ldBytes (s.areaAddr g s.freshBuf n) granBytes = s.ldBytes (s.areaAddr g s.parityBuf n) granBytes then s
  else
    let s := s.bump .SIN_DRIFT_COUNT
    if s.sin.driftSeen then s
    else (s.setSin { s.sin with driftSeen := true }).raiseSin .ERR_SINTER_DRIFT (some g.id) n

/-- The application moves on to the next granule, or is complete. -/
def State.applyNext (s : State) : State :=
  let n := s.rd .SIN_APPLY_POS_GRANULE + 1
  if n < s.granTotal then s.wr .SIN_APPLY_POS_GRANULE n
  else
    let s := (s.wr .SIN_APPLY_POS_GRANULE 0).wr .SIN_STATUS_APPLYING 0
    s.setSin { s.sin with drift := false, driftSeen := false }

/-- Rank of Sinter (R471). -/
def sinterRank : Nat := 5

/-- PARITY_APPLY (R623, R624): the next granule of the committed pending buffer is XORed into the parity where it is valid, through
the residual arbiters. -/
def execParityApply (s : State) : Res :=
  if s.rd .SIN_STATUS_APPLYING ≠ 1 then .next s
  else
    match granuleAt (s.rd .SIN_APPLY_POS_GRANULE) s.sinGroups.zipIdx with
    | none => .next s.applyNext
    | some (gi, g, n) =>
      let b := 5 - s.pendBuf
      let a := s.areaAddr g s.parityBuf n
      .next (s.throughArbiters sinterRank a granBytes fun s =>
        let s := if s.sin.drift then s.driftGranule g n else s
        let s := if s.granValid gi b n then
            s.stBytes a (xorBytes (s.ldBytes a granBytes) (s.ldBytes (s.areaAddr g b n) granBytes))
          else s
        s.applyNext)

end Sys2Proof.Machine
end

