-- ==== Sys2Proof/Machine/Mailbox.lean ====
section
/-! DEFINITION. The mailbox (16, R727-R743): entries, order of execution, responses, MSI-X. -/

set_option autoImplicit false

namespace Sys2Proof.Machine

open Sys2Proof

/-- The mailbox replaced. -/
def State.setMbx (s : State) (u : MbxUnit) : State := { s with mbx := u }

/-- MBX_STATUS.STATE: 0 OFF, 1 BOOTING, 2 READY, 3 BOOT_FAIL, 4 TAKEOVER, 5 SLEEPING. -/
def State.mbxState (s : State) : Nat := s.rd .MBX_STATUS_STATE

/-- The primary control processor's die (R718). -/
def State.cpPrimary (s : State) : Nat := s.rd .CP_STATUS_PRIMARY

/-! ### MSI-X (R742, R743) -/

/-- A vector raised: its moderation interval begins. -/
def State.raiseVec (s : State) (v : Nat) : State :=
  s.setMbx { s.mbx with
    raised := tabSet 0 v (tabGet 0 v s.mbx.raised + 1) s.mbx.raised
    irqHeld := tabSet false v false s.mbx.irqHeld
    irqUntil := tabSet 0 v (s.tb + s.rd .MBX_IRQ_MOD_US v * 1000 * tbPerNs) s.mbx.irqUntil }

/-- An event of a vector: raised, or gathered until the interval ends; nothing while the vector is disabled. -/
def State.event (s : State) (v : Nat) : State :=
  if s.rd .MBX_IRQ_EN v ≠ 1 then s
  else if s.tb < tabGet 0 v s.mbx.irqUntil then s.setMbx { s.mbx with irqHeld := tabSet false v true s.mbx.irqHeld }
  else s.raiseVec v

/-! ### Command numbers (R737) -/

/-- Class of a command. -/
inductive CmdClass where
  | urgent | ordered | island
deriving DecidableEq, Repr

/-- The class of a command number; none for a number not in the table. -/
def cmdClass : Nat → Option CmdClass
  | 0x01 => some .urgent | 0x02 => some .ordered | 0x03 => some .urgent | 0x04 => some .urgent
  | 0x10 => some .ordered | 0x11 => some .ordered | 0x12 => some .ordered
  | 0x20 => some .ordered | 0x21 => some .ordered | 0x22 => some .urgent | 0x23 => some .urgent | 0x24 => some .urgent
  | 0x25 => some .urgent
  | 0x30 => some .urgent | 0x31 => some .ordered | 0x32 => some .ordered | 0x33 => some .ordered
  | 0x40 => some .ordered | 0x41 => some .ordered
  | 0x50 => some .ordered | 0x51 => some .ordered | 0x52 => some .ordered
  | 0x60 => some .ordered | 0x61 => some .ordered | 0x62 => some .island
  | 0x70 => some .ordered
  | _ => none

/-- Commands admitted over SMBus (R736). -/
def smbusAdmits (op : Nat) : Bool :=
  op == 0x01 || op == 0x03 || op == 0x04 || op == 0x30 || op == 0x61 || op == 0x62

/-- Urgent by class. -/
def isUrgent (op : Nat) : Bool := cmdClass op == some .urgent

/-! ### Order (R732) -/

/-- Whether the commands fetched before one allow it to start. -/
def mayStart (before : List MbxCmd) (c : MbxCmd) : Bool :=
  if c.fence then before.isEmpty
  else if isUrgent c.op then before.all fun b => !isUrgent b.op || b.started
  else before.all fun b => isUrgent b.op

/-- The commands fetched before a tag. -/
def MbxUnit.before (u : MbxUnit) (tag : Nat) : List MbxCmd := u.cmds.takeWhile fun c => c.tag != tag

/-- The command under way with a tag. -/
def MbxUnit.find (u : MbxUnit) (tag : Nat) : Option MbxCmd := u.cmds.find? fun c => c.tag == tag

/-- A cause of GLB_ALERT sets: a bit that was clear drives ALERT_N again (R763). -/
def State.setPend (s : State) (k : Nat) : State :=
  let v := s.rd .GLB_ALERT_PEND
  if bitOf v k then s
  else { s.wr .GLB_ALERT_PEND (v + 2 ^ k) with start := { s.start with alertQuiet := false } }

/-- A response for an SMBus requester (R736, R763). -/
def State.smbusRespond (s : State) (r : Response) : State :=
  (s.setMbx { s.mbx with smbusOut := s.mbx.smbusOut ++ [r] }).setPend 1

/-! ### Responses (R730, R733) -/

/-- What a command answers: OK with RESULT, an error with its detail words, an error that was recorded before (R101), ABORTED, or
nothing yet. -/
inductive Answer where
  | ok (result : Nat)
  | err (e : Err) (d0 d1 : Nat)
  | known (e : Err)
  | aborted
  | running
deriving DecidableEq, Repr

/-- The bytes of a response entry. -/
def Response.bytes (r : Response) : List Byte :=
  let v := fun (crc : Nat) => leBytes 2 r.op ++ leBytes 1 r.status ++ leBytes 1 0 ++ leBytes 4 r.tag ++ leBytes 2 r.err ++
    leBytes 6 0 ++ leBytes 32 r.result ++ leBytes 12 (stampOf r.stamp) ++ leBytes 4 crc
  v (crc32c (v 0))

/-- A command ends with a status: its response is finished, in the order in which commands end. -/
def State.endCmd (s : State) (op tag status err result : Nat) : State :=
  let c := s.mbx.find tag
  let sm := match c with | some c => c.smbus | none => false
  let r : Response := ⟨op, status, tag, err, result % 2 ^ 256, s.tb, sm⟩
  let u := { s.mbx with cmds := s.mbx.cmds.filter fun x => x.tag != tag }
  if (match c with | some c => c.lost | none => false) then
    (s.bump .MBX_RSP_LOST_COUNT).setMbx { u with lostTags := u.lostTags ++ [tag] }
  else if sm then (s.setMbx u).smbusRespond r else s.setMbx { u with finished := u.finished ++ [r] }

/-- A command ends as it answers (R731, R737): a failure is recorded. -/
def State.answer (s : State) (op tag : Nat) (a : Answer) : State :=
  match a with
  | .ok r => s.endCmd op tag 0 0 r
  | .err e d0 d1 => (s.raiseRec e e.severity (.cp s.cpPrimary) none none d0 d1).endCmd op tag 1 e.code 0
  | .known e => s.endCmd op tag 1 e.code 0
  | .aborted => s.endCmd op tag 2 0 0
  | .running => s

/-- A failure whose record carries the command's TAG in DETAIL0 (R753). -/
def Answer.fail (e : Err) (tag : Nat) : Answer := .err e tag 0

/-- Commands that the island serves in STANDBY and DORMANT (R736): DEVICE_INFO and WAKE. -/
def islandServes (op : Nat) : Bool := op == 0x01 || op == 0x62

/-- Who serves a command now (R700, R702, R720, R724, R736): nobody, so that it waits; somebody who refuses it with
ERR_MBX_STATE; or its meaning. -/
inductive Service where
  | wait | refuse | run
deriving DecidableEq, Repr

/-- The service of a command number in the present state. -/
def State.service (s : State) (op : Nat) : Service :=
  match s.rd .FUM_STATUS_STATE with
  | 0 => .wait
  | 1 | 2 => if islandServes op then .run else .refuse
  | 4 => if op = 0x61 ∨ op = 0x62 then .run else .wait
  | _ =>
    match s.mbxState with
    | 2 => .run
    | 3 => if op = 0x01 ∨ op = 0x70 then .run else .refuse
    | _ => .wait

/-- The command under way with a tag; one not fetched counts as fetched now. -/
def State.cmdOf (s : State) (op tag : Nat) : MbxCmd := (s.mbx.find tag).getD ⟨tag, op, false, false, false, false⟩

/-- A command that has started (R732). -/
def State.startCmd (s : State) (op tag : Nat) : State :=
  s.setMbx { s.mbx with cmds :=
    if (s.mbx.find tag).isSome then s.mbx.cmds.map fun x => if x.tag = tag then { x with started := true } else x
    else s.mbx.cmds ++ [{ s.cmdOf op tag with started := true }] }

/-- A command's turn has come (R732), and somebody serves it. -/
def State.turnOf (s : State) (op tag : Nat) : Bool :=
  (s.cmdOf op tag).op == op && !(s.cmdOf op tag).started && mayStart (s.mbx.before tag) (s.cmdOf op tag) &&
    s.service op != .wait

/-- A command starts (R732) and runs. One that MBX_FETCH or MCTP_MESSAGE brought waits for its turn. -/
def State.serve (s : State) (op tag : Nat) (f : State → State × Answer) : State :=
  if s.turnOf op tag = false then s
  else
    let s := s.startCmd op tag
    if s.service op = .refuse then s.answer op tag (.fail .ERR_MBX_STATE tag)
    else
      let (s, a) := f s
      s.answer op tag a

/-! ### Fetch (R728, R729, R731) -/

/-- A command entry's fields. -/
structure CmdEntry where
  op : Nat
  flags : Nat
  tag : Nat
  len : Nat
  reserved : Nat
  crc : Nat
  payload : List Byte
deriving DecidableEq, Repr

/-- The entry that 256 bytes spell. -/
def cmdEntryOf (bs : List Byte) : CmdEntry :=
  let f := fun (o n : Nat) => leNat ((bs.drop o).take n)
  ⟨f 0 2, f 2 2, f 4 4, f 8 2, f 0x0A 18, f 0x1C 4, (bs.drop 0x20).take 224⟩

/-- The CRC of an entry, its field taken as 0. -/
def cmdEntryCrc (bs : List Byte) : Nat := crc32c (bs.take 0x1C ++ leBytes 4 0 ++ (bs.drop 0x20).take 224)

/-- Payload bytes of the commands whose layout the manual gives (R740); others take up to 224. -/
def cmdLen : Nat → Option Nat
  | 0x20 => some 0x50
  | _ => none

/-- Check 3 of R731, with SIGNED only for DEVICE_INFO (R738). -/
def cmdFormatOk (e : CmdEntry) : Bool :=
  decide (e.flags < 4 ∧ e.reserved = 0 ∧ e.len ≤ 224) && (e.payload.drop e.len).all (fun b => b == 0) &&
    (!bitOf e.flags 1 || e.op == 0x01) && match cmdLen e.op with | some n => e.len == n | none => true

/-- A tag that a pending command carries (R731): a response over SMBus is sent as its command ends. -/
def State.tagPending (s : State) (tag : Nat) : Bool :=
  (s.mbx.find tag).isSome || s.mbx.finished.any fun r => r.tag == tag

/-- The first failed check of R731. -/
def State.fetchError (s : State) (bs : List Byte) (smbus : Bool) : Option Err :=
  let e := cmdEntryOf bs
  if e.crc ≠ cmdEntryCrc bs then some .ERR_MBX_CRC
  else if (cmdClass e.op).isNone then some .ERR_MBX_OPCODE
  else if !cmdFormatOk e then some .ERR_MBX_FORMAT
  else if s.tagPending e.tag then some .ERR_MBX_TAG
  else if smbus && !smbusAdmits e.op then some .ERR_MBX_SOURCE
  else none

/-- An entry taken: it fails, or its command is pending. -/
def State.takeEntry (s : State) (bs : List Byte) (smbus : Bool) : State :=
  let e := cmdEntryOf bs
  match s.fetchError bs smbus with
  | some x =>
    let s := (s.bump .MBX_ERR_COUNT).raiseRec x x.severity (.cp s.cpPrimary) none none e.tag 0
    let r : Response := ⟨e.op, 1, e.tag, x.code, 0, s.tb, smbus⟩
    if smbus then s.smbusRespond r
    else s.setMbx { s.mbx with finished := s.mbx.finished ++ [r] }
  | none => s.setMbx { s.mbx with cmds := s.mbx.cmds ++ [⟨e.tag, e.op, bitOf e.flags 0, false, smbus, false⟩] }

/-- Entries of a ring. -/
def State.ringSize (s : State) (f : Fld) : Nat := 2 ^ s.rd f

/-- The response ring has a freed entry (R733). -/
def State.rspRoom (s : State) : Bool :=
  decide ((2 ^ 32 + s.rd .MBX_RSP_TAIL_COUNT - s.rd .MBX_RSP_HEAD_COUNT) % 2 ^ 32 < s.ringSize .MBX_RSP_SIZE_LOG2)

/-- Bytes stored in host memory by DMA. -/
def hostWrite (m : Memory) (a : Nat) : List Byte → Memory
  | [] => m
  | b :: r => hostWrite (memSet m a b) (a + 1) r

/-- Bytes of host memory read by DMA. -/
def hostRead (m : Memory) (a : Nat) : Nat → List Byte
  | 0 => []
  | n + 1 => memGet m a :: hostRead m (a + 1) n

/-- The oldest finished response written to a freed entry of the ring (R733): vector 0 is raised. A full ring is recorded once. -/
def State.postResponse (s : State) : State :=
  match s.mbx.finished with
  | [] => s
  | r :: l =>
    if s.rd .MBX_CTRL_ENABLE ≠ 1 then s
    else if s.rspRoom then
      let a := s.rd .MBX_RSP_BASE_ADDR + s.rd .MBX_RSP_TAIL_COUNT % s.ringSize .MBX_RSP_SIZE_LOG2 * 64
      let s := { s with hostMem := hostWrite s.hostMem a r.bytes }
      let s := s.wr .MBX_RSP_TAIL_COUNT (s.rd .MBX_RSP_TAIL_COUNT + 1)
      (s.setMbx { s.mbx with finished := l, full := false }).event 0
    else if s.mbx.full then s
    else (s.setMbx { s.mbx with full := true }).raise .ERR_MBX_RSP_FULL (.cp s.cpPrimary)

/-- Every finished response that has room is posted: before a domain reset or a sleep takes effect (R777). -/
def State.postAll (s : State) : State := s.mbx.finished.foldl (fun (s : State) _ => s.postResponse) s

end Sys2Proof.Machine
end

