-- ==== Sys2Proof/Machine/Ue.lean ====
section
/-! DEFINITION. Optimiser microprograms of the update engines (12, R587-R595): the position in a slot, checks of an
instruction, streams, the end of a pass. -/

set_option autoImplicit false

namespace Sys2Proof.Machine

open Sys2Proof

/-- Elements of a segment and of a vector register. -/
def segElems : Nat := 512

/-- An update engine's microprogram state. -/
def State.ueRun (s : State) (n : Nat) : UeRun := tabGet UeRun.reset n s.step.ue
/-- An update engine's microprogram state replaced. -/
def State.setUe (s : State) (n : Nat) (v : UeRun) : State :=
  { s with step := { s.step with ue := tabSet UeRun.reset n v s.step.ue } }

/-! ### Header and instruction fields (R587, R588) -/

/-- The header of a microprogram of the loaded step table. -/
def State.ueHeader (s : State) (u : Nat) : Nat :=
  match s.step.table with | some t => (t.uprogs.getD u []).headD 0 | none => 0
/-- D. -/
def ueD (w : Nat) : Nat := bitsOf w 57 53
/-- A. -/
def ueA (w : Nat) : Nat := bitsOf w 52 48
/-- B. -/
def ueB (w : Nat) : Nat := bitsOf w 47 43
/-- C. -/
def ueC (w : Nat) : Nat := bitsOf w 42 38
/-- KB. -/
def ueKB (w : Nat) : Bool := bitOf w 34
/-- KC. -/
def ueKC (w : Nat) : Bool := bitOf w 33
/-- RND. -/
def ueRnd (w : Nat) : Nat := bitsOf w 32 30
/-- TY. -/
def ueTy (w : Nat) : Bool := bitOf w 29

/-- The format that TY names. -/
def ueFmt (w : Nat) : Fmt := if ueTy w then fmt64 else fmt32
/-- The element type that TY names. -/
def ueElem (w : Nat) : ElemType := if ueTy w then .fp64 else .fp32
/-- The rounding mode. -/
def ueMode (w : Nat) : Rnd := (Rnd.ofCode (ueRnd w)).getD .rne

/-- The operands an operation uses: a vector destination, vector A, B, C (B and C may be scalars), a scalar destination,
scalar A, B, C. -/
structure UeUse where
  vd : Bool := false
  va : Bool := false
  vb : Bool := false
  vc : Bool := false
  kd : Bool := false
  ka : Bool := false
  kb : Bool := false
  kc : Bool := false
deriving DecidableEq, Repr

/-- What the opcodes of R588 use; none for a reserved one. -/
def ueUse (w : Nat) : Option UeUse :=
  let v2 : UeUse := { vd := true, va := true, vb := !ueKB w, kb := ueKB w }
  let v3 : UeUse := { v2 with vc := !ueKC w, kc := ueKC w }
  match ueOp w with
  | 0x00 => some {}
  | 0x01 => some { vd := true }
  | 0x02 => some { va := true }
  | 0x03 => some {}
  | 0x08 => some v2 | 0x09 => some v2 | 0x0A => some v2
  | 0x0B => some v3 | 0x0C => some v3
  | 0x0D => some v2
  | 0x0E => some { vd := true, va := true }
  | 0x0F => some v2 | 0x10 => some v2
  | 0x11 => some { va := true }
  | 0x18 => some { kd := true, ka := true, kb := true }
  | 0x19 => some { kd := true, ka := true, kb := true }
  | 0x1A => some { kd := true, ka := true, kb := true, kc := true }
  | 0x1B => some { kd := true, ka := true, kb := true }
  | 0x1C => some { kd := true, ka := true }
  | 0x1D => some { kd := true, ka := true, kb := true }
  | _ => none

/-- The section that runs: 0 PRE, 1 NORM, 2 UPDATE. -/
def UeRun.section (r : UeRun) : Nat := if r.preDone then r.pass else 0

/-- The sections that the table admits for an opcode. -/
def ueSections (op : Nat) : List Nat :=
  if op = 0x00 then [0, 1, 2]
  else if op = 0x02 ∨ op = 0x03 then [2]
  else if op = 0x11 then [1]
  else if 0x18 ≤ op then [0]
  else [1, 2]

/-- A register value that R590 rejects: a vector field beyond v15, a write to k24 or k25, a read of k26 to k31. -/
def ueRegsOk (w : Nat) (u : UeUse) : Bool :=
  let v := fun (c : Bool) (x : Nat) => !c || decide (x < 16)
  let k := fun (c : Bool) (x : Nat) => !c || decide (x < 26)
  v u.vd (ueD w) && v u.va (ueA w) && v u.vb (ueB w) && v u.vc (ueC w) &&
    (!u.kd || decide (ueD w ≠ 24 ∧ ueD w ≠ 25)) && k u.ka (ueA w) && k u.kb (ueB w) && k u.kc (ueC w)

/-- ST may store into a stream (R590): not S0, not READ, in a paged allocation. -/
def State.ueStoreOk (s : State) (e : ShardEntry) (k : Nat) : Bool :=
  let d := s.desc (e.stream k)
  decide (k ≠ 0) && s.descLive (e.stream k) && d.writes &&
    match s.allocOf d.alloc with | some a => a.paged | none => false

/-- An instruction that R590 admits in a section, whatever the shard. -/
def ueFormOk (sec w : Nat) : Bool :=
  match ueUse w with
  | none => false
  | some u => decide (w % 2 ^ 29 = 0) && (ueSections (ueOp w)).contains sec && decide (ueRnd w < 4) && ueRegsOk w u

/-- An instruction that R590 admits in a section; `e` the shard that it runs on. -/
def State.ueInstrOk (s : State) (e : ShardEntry) (sec w : Nat) : Bool :=
  ueFormOk sec w && (decide (ueOp w ≠ 0x02) || s.ueStoreOk e (ueS w)) &&
    (!(decide (ueOp w = 0x01 ∨ ueOp w = 0x03)) || s.descLive (e.stream (ueS w)))

/-! ### Streams -/

/-- The shard of a run. -/
def State.ueShard (s : State) (r : UeRun) : Option ShardEntry :=
  match s.step.table with | some t => t.shards[r.shard]? | none => none

/-- Elements of a shard's streams: those of S0 (R586). -/
def State.ueCount (s : State) (e : ShardEntry) : Nat := let d := s.desc (e.stream 0); if d.empty then 0 else d.window.length

/-- Window positions of a segment of a stream. -/
def segWindow (d : Desc) (j : Nat) : List (List Nat) := if d.empty then [] else (d.window.drop (segElems * j)).take segElems

/-- Bits of 512 elements with the tail +0. -/
def padSeg (l : List Nat) : List Nat := l ++ List.replicate (segElems - l.length) 0

/-- A vector register. -/
def UeRun.vec (r : UeRun) (k : Nat) : List Nat := tabGet (List.replicate segElems 0) k r.v
/-- A vector register written. -/
def UeRun.setVec (r : UeRun) (k : Nat) (l : List Nat) : UeRun := { r with v := tabSet (List.replicate segElems 0) k l r.v }
/-- A scalar register. -/
def UeRun.kreg (r : UeRun) (k : Nat) : Nat := tabGet 0 k r.k
/-- A scalar register written. -/
def UeRun.setK (r : UeRun) (k v : Nat) : UeRun := { r with k := tabSet 0 k v r.k }

/-- Addresses of the bytes of a descriptor's window start. -/
def State.firstAddr (s : State) (id : Nat) : Nat := let d := s.desc id; s.addrOf d (d.dims.map fun x => d.ws x)

/-- NONFINITE of a shard set (R593); the engine counts the shards in which it was set (R609). -/
def State.setNonfinite (s : State) (n shard : Nat) : State :=
  if s.step.nonfinite.contains shard then s
  else { s with step := { s.step with nonfinite := s.step.nonfinite ++ [shard] } }.bump .UE_NONFINITE_COUNT 1 n

/-! ### Where a slot stands (R591) -/

/-- The microprogram that engine n runs. -/
def State.ueActive (s : State) (n : Nat) : Option (UeRun × ShardEntry) :=
  match s.slotNow (0x110 + n) with
  | none => none
  | some sl =>
    let r := s.ueRun n
    if sl.kind = 2 ∧ r.pass ≠ 0 then (s.ueShard r).map fun e => (r, e) else none

/-- The first of some descriptors whose CHECK fails as the engine fetches it (R427), 0 for none; with its scale descriptor. -/
def State.ueBadDesc (s : State) (l : List Nat) : Option Nat :=
  (l.flatMap fun i => let d := s.desc i; if d.scaleMode = 0 then [i] else [i, d.scaleLink]).find? fun i => !s.descOk i

/-- What a pass writes at its end: NORM_OUT or DIG_LOCAL (R585); 0 for none. -/
def UeRun.endDesc (r : UeRun) (e : ShardEntry) : Nat := (if r.pass = 1 then e.normOut else e.digLocal) % 2 ^ 20

/-- The write at the end of a pass waits for an earlier slot's padded footprint (R412). -/
def State.ueEndWaits (s : State) (n : Nat) (e : ShardEntry) : Bool :=
  s.padWaits (0x110 + n) (s.slotIdx (0x110 + n)) (s.touch (s.desc ((s.ueRun n).endDesc e)))

/-- What a pass leaves (R591, R593, R594): the norm, or the digest and COMPLETE. -/
def State.ueLeave (s : State) (n : Nat) (e : ShardEntry) : State :=
  let r := s.ueRun n
  let id := r.endDesc e
  if r.pass = 1 ∧ id = 0 then s
  else
    match s.ueBadDesc [id] with
    | some i => s.raiseSlot .ERR_DESC_CHECK (0x110 + n) (s.slotIdx (0x110 + n)) 0 i
    | none =>
      if r.pass = 1 then
        let (b, f) := accRound fmt32 .rne 0 false 0 r.norm
        (s.putBytes (s.firstAddr id) (leBytes 4 b)).orFlags .UE_FLAGS_FLAGS (f ||| flagIf r.normLost fIX) n
      else
        let dig := (r.crcA ^^^ 0xFFFFFFFF) * 2 ^ 32 + (r.crcB ^^^ 0xFFFFFFFF)
        let s := s.putBytes (s.firstAddr id) (leBytes 8 dig)
        { s with step := { s.step with
            complete := if s.step.complete.contains r.shard then s.step.complete else s.step.complete ++ [r.shard] } }

/-- A pass has ended: what it leaves, then the slot ends (R591, R593, R594); it waits where R412 holds its write. -/
def State.uePassEnd (s : State) (n : Nat) (e : ShardEntry) : State :=
  if s.ueEndWaits n e then s.setStall (0x110 + n) 6
  else ((s.ueLeave n e).setUe n UeRun.reset).endSlot (0x110 + n)

/-- The position after an instruction, or at the start of a slot: past the end of PRE the section of PASS begins, past the end
of that the next segment, past the last segment the pass ends. -/
def State.ueSettle (s : State) (n : Nat) (e : ShardEntry) : State :=
  let r := s.ueRun n
  let h := s.ueHeader r.uprog
  let r := if !r.preDone ∧ preLen h ≤ r.pos then { r with preDone := true, pos := 0 } else r
  let len := if r.pass = 1 then normLen h else updLen h
  let segs := ceilDiv (s.ueCount e) segElems
  if !r.preDone then s.setUe n r
  else if len = 0 ∨ segs ≤ r.seg then (s.setUe n r).uePassEnd n e
  else if len ≤ r.pos then
    let r := { r with seg := r.seg + 1, pos := 0 }
    if segs ≤ r.seg then (s.setUe n r).uePassEnd n e else s.setUe n r
  else s.setUe n r

/-- The instruction has run. -/
def State.ueNext (s : State) (n : Nat) (e : ShardEntry) : State :=
  let r := s.ueRun n
  (s.setUe n { r with pos := r.pos + 1 }).ueSettle n e

/-- Nothing of the pass is left but its end. -/
def State.ueOver (s : State) (n : Nat) (e : ShardEntry) : Bool :=
  let r := s.ueRun n
  let h := s.ueHeader r.uprog
  r.preDone && decide ((if r.pass = 1 then normLen h else updLen h) = 0 ∨ ceilDiv (s.ueCount e) segElems ≤ r.seg)

/-- One instruction of engine n: refused by R590 it writes nothing; the position moves on. -/
def State.ueStep (s : State) (n w : Nat) (f : State → UeRun → ShardEntry → State) : State :=
  match s.ueActive n with
  | none => s
  | some (r, e) =>
    if s.ueOver n e then s.ueSettle n e
    else
      let s := if s.ueInstrOk e r.section w then f s r e
        else s.raiseSlot .ERR_UPROG (0x110 + n) (s.slotIdx (0x110 + n)) 0 w
      s.ueNext n e

/-- 64-bit words from an address on; free values, and the error of R449, where one stands in a poisoned codeword. -/
def State.ueFetch (s : State) (n : Nat) (l : List Nat) (bytes : Nat) : List Nat × State :=
  match s.firstPoisoned (l.flatMap fun a => (List.range bytes).map (a + ·)) with
  | some a =>
    let s := s.raiseSlot .ERR_MEM_UE (0x110 + n) (s.slotIdx (0x110 + n)) 0 a
    let (k, s) := s.takeFree
    ((List.range l.length).map fun i => leNat ((List.range bytes).map fun b => Config.freeByte k (i * bytes + b)), s)
  | none => (l.map fun a => s.ldNat a bytes, s)

/-- The scalar registers, the norm accumulator and the digest at the start of a pass (R591, R594). -/
def State.ueInit (s : State) (n : Nat) (r0 : UeRun) (e : ShardEntry) (normDesc : Nat) : State :=
  let hd := s.desc (e.hyper % 2 ^ 20)
  let (hyper, s) := s.ueFetch n ((List.range 16).map fun (i : Nat) => s.addrOf hd [hd.ws 0 + (i : Int)]) 8
  let (norm, s) := s.ueFetch n (if normDesc = 0 then [] else [s.firstAddr normDesc]) 4
  let (wide, fl) := match norm with
    | [v] => fmt64.convert ⟨.rne, 0, false, false⟩ (fmt32.decode v)
    | _ => (0, fNone)
  let k := (hyper.zipIdx.foldl (fun (r : UeRun) (q : Nat × Nat) => r.setK q.2 q.1) r0).setK 24
    ((fmt64.finish .rne 0 (.fin (exInt (s.rd .GEY_STEP_COUNT_STEP + 1)), fNone)).1)
  let head := leBytes 4 (s.rd .GEY_STEP_COUNT_STEP) ++ leBytes 2 r0.shard
  let r := { k.setK 25 wide with
    crcA := head.foldl (crcByte 0xEDB88320) 0xFFFFFFFF, crcB := head.foldl (crcByte 0x82F63B78) 0xFFFFFFFF }
  (s.setUe n r).orFlags .UE_FLAGS_FLAGS fl n

/-- A kind-2 slot starts (R591): its microprogram and shard, the scalar registers, the norm accumulator, the digest. A descriptor that
fails its CHECK ends it (R427). -/
def State.ueStart (s : State) (n : Nat) (sl : Slot) : State :=
  let r0 : UeRun := { UeRun.reset with
    pass := bitsOf sl.payload 31 30 + 1, uprog := bitsOf sl.payload 63 48, shard := bitsOf sl.payload 47 32 }
  match s.ueShard r0, s.step.table with
  | some e, some t =>
    let nd := t.normDesc % 2 ^ 20
    match s.ueBadDesc ([e.hyper % 2 ^ 20, e.stream 0] ++ if nd = 0 then [] else [nd]) with
    | some i => (s.raiseSlot .ERR_DESC_CHECK (0x110 + n) (s.slotIdx (0x110 + n)) 0 i).endSlot (0x110 + n)
    | none => (s.ueInit n r0 e nd).ueSettle n e
  | _, _ => s.endSlot (0x110 + n)

/-! ### Arithmetic (R589) -/

/-- The second or third source of a vector operation, as values: a vector register, or a scalar broadcast. -/
def UeRun.src (r : UeRun) (w : Nat) (scalar : Bool) (k : Nat) : List Num :=
  if scalar then List.replicate segElems (fmt64.decode (r.kreg k))
  else (r.vec k).map fun b => (ueFmt w).decode (b % 2 ^ (ueFmt w).bits)

/-- A vector result written, with its flags. -/
def State.ueWrite (s : State) (n : Nat) (r : UeRun) (w : Nat) (l : List (Nat × FlagSet)) : State :=
  (s.setUe n (r.setVec (ueD w) (l.map (·.1)))).orFlags .UE_FLAGS_FLAGS (flagsOr (l.map (·.2))) n

/-- An elementwise operation on A and B. -/
def State.ueTwo (s : State) (n : Nat) (r : UeRun) (w : Nat) (f : Num → Num → Num × FlagSet) : State :=
  s.ueWrite n r w (((r.src w false (ueA w)).zip (r.src w (ueKB w) (ueB w))).map fun p =>
    (ueFmt w).finish (ueMode w) 0 (f p.1 p.2))

/-- An elementwise operation on A, B and C. -/
def State.ueThree (s : State) (n : Nat) (r : UeRun) (w : Nat) (f : Num → Num → Num → Num × FlagSet) : State :=
  s.ueWrite n r w (((r.src w false (ueA w)).zip ((r.src w (ueKB w) (ueB w)).zip (r.src w (ueKC w) (ueC w)))).map fun p =>
    (ueFmt w).finish (ueMode w) 0 (f p.1 p.2.1 p.2.2))

/-- a lies below b, −0 below +0. -/
def numBelow (a b : Num) : Bool :=
  numLt a b || match a, b with
    | .fin x, .fin y => exIsZero x && exIsZero y && x.neg && !y.neg
    | _, _ => false

/-- IEEE 754-2019 minimum of values (R311). -/
def numMin (a b : Num) : Num × FlagSet := if anyNan [a, b] then (nanRes, sigFlags [a, b]) else (if numBelow b a then b else a, fNone)

/-- IEEE 754-2019 maximum of values (R311). -/
def numMax (a b : Num) : Num × FlagSet := if anyNan [a, b] then (nanRes, sigFlags [a, b]) else (if numBelow a b then b else a, fNone)

/-- A scalar result written, with its flags. -/
def State.ueScalar (s : State) (n : Nat) (r : UeRun) (w : Nat) (o : Num × FlagSet) : State :=
  let (b, f) := fmt64.finish (ueMode w) 0 o
  (s.setUe n (r.setK (ueD w) b)).orFlags .UE_FLAGS_FLAGS f n

/-- A scalar source. -/
def UeRun.kval (r : UeRun) (k : Nat) : Num := fmt64.decode (r.kreg k)

/-- The loop of SPOWI (R589) on FP64 bits, over the bits of n: r, b, flags. -/
def spowiLoop : Nat → Nat → Nat → Nat → FlagSet → Nat × FlagSet
  | 0, _, r, _, f => (r, f)
  | fuel + 1, n, r, b, f =>
    if n = 0 then (r, f)
    else
      let (r', g) := if n % 2 = 1 then elFmul fmt64 .rne r b else (r, fNone)
      let (b', h) := elFmul fmt64 .rne b b
      spowiLoop fuel (n / 2) r' b' (f ||| g ||| h)

/-- The value of an FP64 number as a whole number that is not negative. -/
def wholeOf (x : Num) : Option Nat :=
  match x with
  | .fin v =>
    if v.man = 0 then some 0
    else if v.neg then none
    else if 0 ≤ v.exp then some (v.man * 2 ^ v.exp.toNat)
    else if v.man % 2 ^ (-v.exp).toNat = 0 then some (v.man / 2 ^ (-v.exp).toNat) else none
  | _ => none

/-- SPOWI (R589). -/
def spowi (x n : Nat) : Nat × FlagSet :=
  match wholeOf (fmt64.decode n) with
  | none => (fmt64.defaultNan, fNV)
  | some k => spowiLoop (Nat.log2 k + 1) k 0x3FF0000000000000 x fNone

end Sys2Proof.Machine
end

