-- ==== Sys2Proof/Machine/StepUnit.lean ====
section
/-! DEFINITION. The step unit (12, R596-R607): the vote, what the commit tick does, authorisations, catch-up. -/

set_option autoImplicit false

namespace Sys2Proof.Machine

open Sys2Proof

/-- Engine ID of the step unit (R611). -/
def stepEngine : Nat := 0x110

/-- The step unit replaced. -/
def State.setStep (s : State) (u : StepUnit) : State := { s with step := u }

/-- Every engine has ended every slot of the frame. -/
def State.allEnded (s : State) : Bool :=
  s.engines.all fun p => !p.2.running && decide (p.2.slots.length ≤ p.2.idx)

/-- The FP32 value at NORM_DESC; 0 when there is none. -/
def State.normValue (s : State) (t : StepTable) : Nat :=
  if t.normDesc % 2 ^ 20 = 0 then 0 else s.ldNat (s.firstAddr (t.normDesc % 2 ^ 20)) 4

/-- Condition 6 of R596: +inf disables the check (R566). -/
def normOk (limit v : Nat) : Bool :=
  decide (limit = 0x7F800000) || (isFinite (fmt32.decode v) && !numLt (fmt32.decode limit) (fmt32.decode v))

/-- Shards of the table that fail a test. -/
def failingShard (t : StepTable) (f : ShardEntry → Nat → Bool) : Option Nat :=
  (t.shards.zipIdx.find? fun p => f p.1 p.2).map (·.2)

/-- The first condition of R596 that fails: its number, its error, the first detail word. -/
def State.voteCause (s : State) (t : StepTable) : Option (Nat × Option Err × Nat) :=
  let u := s.step
  let dig := fun (e : ShardEntry) => s.ldNat (s.firstAddr (e.digLocal % 2 ^ 20)) 8 != s.ldNat (s.firstAddr (e.digPeer % 2 ^ 20)) 8
  if s.stepError ∨ s.seq ≠ .running then some (1, none, 0)
  else if !s.allEnded then some (2, some .ERR_STEP_INCOMPLETE, 0)
  else
    match failingShard t (fun _ i => !u.complete.contains i) with
    | some i => some (3, some .ERR_STEP_INCOMPLETE, i)
    | none =>
      match failingShard t (fun _ i => u.nonfinite.contains i) with
      | some i => some (4, some .ERR_STEP_NONFINITE, i)
      | none =>
        match failingShard t (fun e _ => dig e) with
        | some i => some (5, some .ERR_STEP_DIVERGE, i)
        | none =>
          if !normOk t.normLimit (s.normValue t) then some (6, some .ERR_STEP_NORM, s.normValue t)
          else if s.sync.cnt t.veto ≠ s.sync.bas t.veto then some (7, some .ERR_STEP_VETO, s.sync.cnt t.veto)
          else if t.hostAuth && s.authToken.isNone then some (8, some .ERR_STEP_NO_AUTH, 0)
          else if !s.sinReady then some (9, some .ERR_STEP_PARITY, s.sinMissing)
          else none

/-- The vote of a COMMIT frame (R596, R597, R620). -/
def State.takeVote (s : State) (t : StepTable) : State :=
  let s := (s.advanceTo t.voteCycle).sinCountCheck
  let s := s.wr .STEP_NORM_VALUE (s.normValue t)
  let s := s.setStep { s.step with voted := true }
  let c := s.voteCause t
  let s := (s.wr .STEP_STATUS_RELEASED 0).wr .STEP_STATUS_CAUSE (match c with | some (k, _, _) => k | none => 0)
  let s := s.wr .STEP_STATUS_ARRIVED (b2n c.isNone)
  match c with
  | none => s.sendSignal (.engine stepEngine) t.voteBar 1
  | some (_, some e, d) => s.raise e (.engine stepEngine) d
  | some (_, none, _) => s

/-- COMMIT_VOTE (R596): in a COMMIT frame, once. -/
def execCommitVote (s : State) : Res :=
  match s.step.table with
  | none => .next s
  | some t => if s.step.commitStart.isNone ∨ s.step.voted = true then .next s else .next (s.takeVote t)

/-! ### The commit (R601-R605) -/

/-- Actions 1 to 6 of R601 at frame count n; GEY_STEP_COUNT is that of the step that commits until action 4. -/
def State.commitActions (s : State) (n : Nat) : State :=
  let step := s.rd .GEY_STEP_COUNT_STEP
  let token := if s.hostAuth then s.authToken.getD 0 else 0
  let s := s.wr .STEP_STATUS_CUR_PAGE (1 - s.rd .STEP_STATUS_CUR_PAGE)
  let s := s.sinCommit.statPromoteAll
  let s := s.wr .GEY_STEP_COUNT_STEP (step + 1)
  let s := ((s.wr .STEP_TOKEN_TOKEN token).wr .STEP_LAST_COMMIT_FRAME n).bump .STEP_COMMITS_COUNT
  let s := (s.setStep { s.step with auth := s.step.auth.filter fun p => p.1 != step }).wr .STEP_STATUS_RETAINED 0
  let s := s.wr .STEP_AUTH_QUEUED s.step.auth.length
  s.event 3

/-- The tick that ends a COMMIT frame (R599-R604): second, whether the module commits. -/
def State.commitTick (s : State) (n : Nat) : State × Bool :=
  let rel := s.step.released
  let arrived := s.rd .STEP_STATUS_ARRIVED == 1 && s.step.voted
  let s := s.setStep { s.step with commitStart := none, voted := false, released := false, aborted := !rel }
  if rel then (s.commitActions n, true)
  else
    let s := (s.wr .STEP_STATUS_RETAINED 0).bump .STEP_VOTE_MISS_COUNT
    let s := if arrived then (s.raise .ERR_COMMIT_NO_RELEASE (.engine stepEngine)).wr .STEP_STATUS_RETAINED 1 else s
    (s.event 3, false)

/-- STEP_COMMIT without CATCHUP (R607). -/
def State.authorise (s : State) (step token tag : Nat) : State × Answer :=
  let a := s.step.auth
  let s := s.stepWindow step (s.rd .GEY_STEP_COUNT_STEP)
  let bad : Bool := match stepAhead step (s.rd .GEY_STEP_COUNT_STEP) with | some d => decide (15 < d) | none => true
  if bad ∨ (a.any fun p => p.1 == step) = true ∨ 16 ≤ a.length then (s, .fail .ERR_AUTH_STALE tag)
  else
    let s := if s.hostAuth then s.setStep { s.step with auth := a ++ [(step, token)] } else s
    (s.wr .STEP_AUTH_QUEUED s.step.auth.length, .ok s.step.auth.length)

/-- STEP_COMMIT with CATCHUP (R605): only in HALT_STEP with ARRIVED and RETAINED set. -/
def State.catchUp (s : State) (tag : Nat) : State × Answer :=
  if s.seq = .haltStep ∧ s.rd .STEP_STATUS_ARRIVED = 1 ∧ s.rd .STEP_STATUS_RETAINED = 1 then
    let s := s.commitActions s.frameCount
    (s, .ok s.step.auth.length)
  else (s, .fail .ERR_CATCHUP tag)

/-- STEP_COMMIT (R607, R737). -/
def execStepCommit (tag step token : Nat) (s : State) : Res := .next (s.serve 0x22 tag fun s => s.authorise step token tag)

/-- STEP_COMMIT with CATCHUP (R605). -/
def execStepCommitCatchup (tag : Nat) (s : State) : Res := .next (s.serve 0x22 tag fun s => s.catchUp tag)

/-- SECURE_NOW (R633); steps beyond the window of R109 are recorded as well. -/
def State.secureNow (s : State) (step tag : Nat) : State × Answer :=
  if s.sin.table.isNone then (s, .fail .ERR_SINTER_TABLE tag)
  else
    let s := s.stepWindow step (s.rd .GEY_STEP_COUNT_STEP)
    let d := (2 ^ 32 + step - s.rd .GEY_STEP_COUNT_STEP % 2 ^ 32) % 2 ^ 32
    if (1 ≤ d ∧ d ≤ 2 ^ 30) ∨ (d = 0 ∧ s.seq = .haltStep) then
      ((s.setSin { s.sin with secureAt := some step }).wr .SIN_SECURE_AT_STEP step, .ok 0)
    else (s, .fail .ERR_MBX_STATE tag)

/-- SECURE_NOW (R633). -/
def execSecureNow (tag step : Nat) (s : State) : Res := .next (s.serve 0x25 tag fun s => s.secureNow step tag)

end Sys2Proof.Machine
end

