-- ==== Sys2Proof/Machine/FabricRows.lean ====
section
/-! DEFINITION. The commands of the fabric ports and of the ledger (11). -/

set_option autoImplicit false

namespace Sys2Proof.Machine

open Sys2Proof

/-- MESSAGE_ARRIVE (R535): a message arrives at a port after `replays` replays of its flits (R519). -/
def execMessageArrive (p : Nat) (m : Msg) (replays : Nat) (s : State) : Res :=
  .next ((s.bump .FAB_REPLAYS_COUNT replays p).arriveMsg p m)

/-- CREDIT_RETURN (R541): the available credits of a VC rise, and what waited may leave. -/
def execCreditReturn (p vc : Nat) (s : State) : Res :=
  if s.portLive p then
    let k := p * 4 + vc
    .next (((s.bump .FAB_CRET_RX_COUNT 1 k).bump .FAB_CREDIT_VC_AVAIL 1 k).flushPort p)
  else .next s

/-- LANE_FAIL (R524): a lane fails here; a notice goes to the neighbour. `replay`: messages in the replay buffer. -/
def execLaneFail (p lane replay : Nat) (s : State) : Res :=
  if s.laneUsed p lane then .next ((s.emitLink p (.laneDrop lane)).dropLane p lane replay) else .next s

/-- LANE_DROP_NOTICE (R524): the neighbour drops a lane. -/
def execLaneDropNotice (p lane replay : Nat) (s : State) : Res :=
  if s.laneUsed p lane then .next (s.dropLane p lane replay) else .next s

/-- The signal detector of a port, in FUM_SIGDET (R715). -/
def State.sigDet (s : State) (p : Nat) (v : Bool) : State :=
  s.wr .FUM_SIGDET_PORTS (setBits (s.rd .FUM_SIGDET_PORTS) p p (b2n v))

/-- The fabric ports have power: in ACTIVE, and while start-up runs (R774). -/
def State.portsPowered (s : State) : Bool := decide (3 ≤ s.rd .FUM_STATUS_STATE)

/-- PORT_SIGNAL_LOSS (R522): no signal on any lane. -/
def execPortSignalLoss (p : Nat) (s : State) : Res :=
  let s := s.sigDet p false
  if s.portState p = 1 ∨ s.portsPowered = false then .next s
  else
    let s := { s with fab := { s.fab with
        drops := s.fab.drops.filter (fun d => d.port != p), audited := tabSet false p false s.fab.audited } }
    .next (((s.setPort p 1).wr .FAB_STATUS_LANE_MASK 0 p).raise .ERR_FAB_ABSENT (.port p))

/-- PORT_SIGNAL_DETECT (R522): a signal appears on an ABSENT port. -/
def execPortSignalDetect (p : Nat) (s : State) : Res :=
  let s := s.sigDet p true
  if s.portState p = 1 ∧ s.portsPowered = true then .next (s.setPort p 2) else .next s

/-- PORT_TRAINING_COMPLETE (R523): the port trained with the lanes of a mask, and the neighbour announced its
coordinate and port. -/
def execPortTrainingComplete (p lanes coord nport : Nat) (s : State) : Res :=
  if (s.portState p ≠ 0 ∧ s.portState p ≠ 2) ∨ s.portsPowered = false then .next s
  else if laneCount lanes < 2 then .next (s.setPort p 0)
  else
    let known := s.rd .FAB_NEIGH_LEARNED p == 1
    if known && s.rd .FAB_NEIGH_COORD p != coord then
      .next (((s.setPort p 5).wr .FAB_STATUS_LANE_MASK lanes p).raise .ERR_FAB_NEIGH (.port p) coord)
    else
      let s := if known then s
        else ((s.wr .FAB_NEIGH_LEARNED 1 p).wr .FAB_NEIGH_COORD coord p).wr .FAB_NEIGH_PORT nport p
      .next ((s.wr .FAB_STATUS_LANE_MASK lanes p).setPort p (if laneCount lanes = 4 then 3 else 4))

/-- FAB_COORD_WRITE (R528): effective only while no port is UP, DEGRADED or HELD. -/
def State.writeCoord (s : State) (valid : Bool) (coord : Nat) : State :=
  if (List.range 18).any fun p => decide (3 ≤ s.portState p) then s
  else (s.wr .FAB_COORD_VALID (b2n valid)).wr .FAB_COORD_COORD coord

/-- FAB_COORD_WRITE (R528). -/
def execFabCoordWrite (valid : Bool) (coord : Nat) (s : State) : Res := .next (s.writeCoord valid coord)

/-- FAB_CREDIT_LIMIT_WRITE (R540): effective in the states and within the total that the rule allows; the credits
held follow the limit. -/
def execFabCreditLimitWrite (p vc limit : Nat) (s : State) : Res :=
  let k := p * 4 + vc
  let old := s.rd .FAB_CREDIT_VC_LIMIT k
  let total := ((List.range 4).map fun v => if v = vc then limit else s.rd .FAB_CREDIT_VC_LIMIT (p * 4 + v)).foldl (· + ·) 0
  if (s.portState p = 0 ∨ s.portState p = 1 ∨ s.seqFree = true) ∧ total ≤ 256 then
    .next ((s.wr .FAB_CREDIT_VC_LIMIT limit k).wr .FAB_CREDIT_VC_AVAIL
      (s.rd .FAB_CREDIT_VC_AVAIL k + limit - old) k)
  else .next s

/-- GUARD_HELD_LAUNCH (R93): at cycle 256 the gate opens and what was held leaves. -/
def execGuardHeldLaunch (s : State) : Res := .next (s.advanceTo 256).flushAll

/-! ### The ledger (R557-R561) -/

/-- A book failed (R560). -/
def State.ledgerMismatch (s : State) (book inst kind index sum ref : Nat) : State :=
  let d0 := book + inst * 256
  let d1 := sum % 2 ^ 32 + ref % 2 ^ 32 * 2 ^ 32
  let s := s.enqueueErr ⟨Err.ERR_LEDGER_MISMATCH.code, Err.ERR_LEDGER_MISMATCH.severity, kind, index, none, none, s.tb,
    d0, d1, if kind = 0 then engineDie index else if kind = 3 then (ErrSrc.arbiter index).dieOf
      else if kind = 1 ∧ 9 ≤ index then 1 else 0⟩
  let s := (s.bump .LED_MISMATCHES_COUNT).wr .LED_LAST_DETAIL d1
  s.wr .LED_STATUS_FAILED (s.rd .LED_STATUS_FAILED ||| 2 ^ (book - 1))

/-- LEDGER_AUDIT (R558): books 2 to 7 are checked on the terms latched at the tick. -/
def execLedgerAudit (s : State) : Res :=
  let s := s.fab.latch.foldl (fun (s : State) (b : BookLatch) =>
    if b.sum % 2 ^ 32 = b.ref % 2 ^ 32 then s else s.ledgerMismatch b.book b.inst b.kind b.index b.sum b.ref) s
  .next ((s.wr .LED_STATUS_DONE 1).bump .LED_AUDITS_COUNT)

/-- LEDGER_AUDIT_EXCHANGE (R559): the neighbour's latched counters of a port arrive; the credit book of each VC is
checked. -/
def execLedgerAuditExchange (p : Nat) (rx cret occ : List Nat) (s : State) : Res :=
  if !(tabGet false p s.fab.audited && s.portLive p) then .next s
  else
    .next ((List.range 4).foldl (fun (s : State) (v : Nat) =>
      match tabGet none (p * 4 + v) s.fab.credit with
      | none => s
      | some (l : CreditLatch) =>
        let m := 2 ^ 32
        let sum := l.avail + (m + l.tx - rx.getD v 0 % m) % m + occ.getD v 0 + (m + cret.getD v 0 - l.cretRx % m) % m
        if sum % m = l.limit then s else s.ledgerMismatch 1 (p * 4 + v) 1 p sum l.limit) s)

end Sys2Proof.Machine
end

