-- ==== Sys2Proof/Machine/Telemetry.lean ====
section
/-! DEFINITION. The record stream of the Fumarole island (15, R710-R713): how a record enters the island's buffer. -/

set_option autoImplicit false

namespace Sys2Proof.Machine

open Sys2Proof

/-- The island replaced. -/
def State.setFum (s : State) (u : FumUnit) : State := { s with fum := u }

/-- The power controller replaced. -/
def State.setPwr (s : State) (u : PwrUnit) : State := { s with pwr := u }

/-- The second of the time base. -/
def State.second (s : State) : Nat := s.tb / tbPerSec

/-- FUM_STATUS.STATE: 1 STANDBY, 2 DORMANT, 3 ACTIVE, 4 in transition; 0 while OFF. -/
def State.powerState (s : State) : Nat := s.rd .FUM_STATUS_STATE

/-- Records that the island's buffer holds (R712). -/
def recBufferSize : Nat := 1024

/-- The oldest record dropped, when the buffer is full (R712). -/
def State.dropRecord (s : State) : State :=
  if s.fum.recs.length < recBufferSize then s
  else
    let s := (s.setFum { s.fum with recs := s.fum.recs.drop 1 }).bump .FUM_REC_DROPPED_COUNT
    if s.fum.dropNoted = some s.second then s
    else (s.setFum { s.fum with dropNoted := some s.second }).raise .ERR_REC_DROP (.die 0)

/-- A record is emitted (R710): it waits in the buffer until every destination has it. -/
def State.emitRecAt (s : State) (typ sub stamp : Nat) (body : List Byte) : State :=
  let s := s.dropRecord
  let rank := if s.fab.job.isSome then s.rd .FAB_JOB_RANK_RANK else 0xFFFF
  let body := (body ++ List.replicate 40 0).take 40
  let r : TeleRec := ⟨typ, sub, rank, s.rd .FUM_REC_SEQ_SEQ, stamp, body, true, true⟩
  (s.setFum { s.fum with recs := s.fum.recs ++ [r] }).wr .FUM_REC_SEQ_SEQ (s.rd .FUM_REC_SEQ_SEQ + 1)

/-- A record of an event that occurs now. -/
def State.emitRec (s : State) (typ sub : Nat) (body : List Byte) : State := s.emitRecAt typ sub s.tb body

/-- The 64 bytes of a record. -/
def TeleRec.bytes (r : TeleRec) : List Byte :=
  leBytes 1 r.typ ++ leBytes 1 r.sub ++ leBytes 2 r.rank ++ leBytes 4 r.seq ++ leBytes 12 (stampOf r.stamp) ++ leBytes 4 0 ++ r.body

/-- A STATE record (R710). -/
def State.emitState (s : State) (old new cause : Nat) : State :=
  s.emitRec 4 0 (leBytes 1 old ++ leBytes 1 new ++ leBytes 1 cause)

/-- An ALERT record (R710). -/
def State.emitAlert (s : State) (sources : Nat) : State :=
  s.emitRec 5 0 (leBytes 1 sources ++ leBytes 3 0 ++ leBytes 8 (s.rd .GEY_FRAME_COUNT_COUNT))

/-! ### Channels (R705, R706) -/

/-- A channel's filter. -/
def State.chan (s : State) (c : Nat) : Chan := tabGet Chan.reset c s.fum.chans

/-- Channels of temperatures, which are signed (R705). -/
def isTemp (c : Nat) : Bool := decide (20 ≤ c ∧ c ≤ 45)

/-- y of a channel with 16 fraction bits: signed for temperatures, unsigned for the others (R705, R706). -/
def State.chanVal (s : State) (c : Nat) : Int :=
  let y := ofSigned 32 (s.chan c).y
  if isTemp c then toSigned 32 y else (y : Int)

/-- The 16 bits of y that FUM_VAL and the records show. -/
def State.chanFilt (s : State) (c : Nat) : Nat := ofSigned 32 (s.chan c).y / 65536

/-- The highest filtered die temperature, in 1/16 °C (TEMP0 to TEMP15). -/
def State.maxDieTemp (s : State) : Int :=
  ((List.range 16).map fun i => toSigned 16 (s.chanFilt (20 + i))).foldl max (toSigned 16 (s.chanFilt 20))

end Sys2Proof.Machine
end

