-- ==== Sys2Proof/Machine/Power.lean ====
section
/-! DEFINITION. The power controller (15): set voltages, energy, caps and requests, pace rounds, alerts (R671-R698). -/

set_option autoImplicit false

namespace Sys2Proof.Machine

open Sys2Proof

/-- Records of the power controller name die A (R716). -/
def powerSrc : ErrSrc := .die 0

/-! ### Voltage and operating point (R671-R674) -/

/-- PWR_GB_MV of a die. -/
def gbFld (d : Nat) : Fld := if d = 0 then .PWR_GB_MV_GB_A else .PWR_GB_MV_GB_B

/-- Guardband in force of a die, in mV: it moves to its register by 1 mV a tick (R672). -/
def State.gbNow (s : State) (d : Nat) : Nat := (tabGet none d s.pwr.gb).getD (s.rd (gbFld d))

/-- Set voltage of a die at a point, in 0.1 mV (R672). -/
def State.vSet (s : State) (d op : Nat) : Nat := min 9000 (s.rd .PWR_VMIN_VMIN (d * 8 + op) + 10 * s.gbNow d)

/-- Twice the mean set voltage of the dies. -/
def State.vSum (s : State) (op : Nat) : Nat := s.vSet 0 op + s.vSet 1 op

/-- The core clock runs at a point: N follows (R52). -/
def State.setOp (s : State) (op : Nat) : State :=
  let s := if op = s.opNow then s else { s.wr .PWR_STATUS_OP_NOW op with tbRem := 0 }
  s.wr .GEY_CYC_PER_FRAME_N (cyclesOf (s.rd .GEY_FRAME_PERIOD_NS_PERIOD) op)

/-- The guardbands move (R672). -/
def State.gbStep (s : State) : State :=
  [0, 1].foldl (fun (s : State) (d : Nat) =>
    match tabGet none d s.pwr.gb with
    | none => s
    | some g =>
      let t := s.rd (gbFld d)
      let g := if g < t then g + 1 else g - 1
      s.setPwr { s.pwr with gb := tabSet none d (if g = t then none else some g) s.pwr.gb }) s

/-- BASE_OP of the loaded program. -/
def State.baseOp (s : State) : Nat := match s.prog with | some p => p.baseOp | none => 0
/-- TOP_OP of the loaded program; OP7 with none, where PWR_FIXED_OP bounds the request. -/
def State.topOp (s : State) : Nat := match s.prog with | some p => p.topOp | none => 7

/-- The module is in alert (R693). -/
def State.inAlert (s : State) : Bool := s.rd .PWR_ALERT_LATCH != 0

/-- The module is in CAP_FORCED (R692). -/
def State.capForced (s : State) : Bool := s.rd .PWR_STATUS_CAP_FORCED == 1

/-- FREE_RUN of the job (R690). -/
def State.freeRun (s : State) : Bool := match s.fab.job with | some j => j.freeRun | none => false

/-- The point that the next tick puts in force (R674, R688, R690, R692, R694, R695). R75 names two ways below BASE_OP, an alert and an
agreement; R692 adds CAP_FORCED, and the model takes R692: DEDUCED (log 95). -/
def State.opDue (s : State) : Nat :=
  let a := s.rd .PWR_STATUS_OP_AGREED
  if s.inAlert || s.pwr.hold0 || s.capForced then 0
  else if s.freeRun && s.prog.isSome && decide (s.baseOp ≤ a) then max a (min s.topOp (s.rd .PWR_STATUS_OP_REQ)) else a

/-- The dilution level that the next tick puts in force (R688, R692, R694). -/
def State.levelDue (s : State) : Nat :=
  if s.capForced then 15
  else if s.inAlert && s.prog.isSome && s.baseOp == 0 then max 8 s.pwr.level else s.pwr.level

/-- Point and level change at a tick; boundary ticks are numbered afresh where the level changes (R684). -/
def State.opTick (s : State) : State :=
  let s := (s.setPwr { s.pwr with fall := false }).setOp s.opDue
  if s.levelDue = s.rd .PWR_STATUS_DIL then s
  else (s.setPwr { s.pwr with boundary := 0 }).wr .PWR_STATUS_DIL s.levelDue

/-! ### Energy (R675, R676, R679) -/

/-- Units of 40 fJ in a nanojoule. -/
def energyPerNj : Nat := 25000

/-- Average watts of an energy over a time. -/
def wattsOf (energy dur : Nat) : Nat := if dur = 0 then 0 else energy * 8192 / (dur * 3125)

/-- Average power over some frames. -/
def avgWatts (l : List FrameEnergy) : Nat :=
  wattsOf ((l.map (·.energy)).foldl (· + ·) 0) ((l.map (·.dur)).foldl (· + ·) 0)

/-- The averages over the window (R681, R683); one with no frame keeps its value. -/
def State.powerAverages (s : State) : State :=
  let h := s.pwr.history
  let run := h.filter fun f => !f.idle
  let idle := h.filter fun f => f.idle
  let s := s.wr .PWR_AVG_W_AVG (avgWatts h)
  let s := if run.isEmpty then s else s.wr .PWR_RUN_W_RUN (avgWatts run)
  if idle.isEmpty then s else s.wr .PWR_IDLE_W_IDLE (avgWatts idle)

/-- The energy registers of a frame that ended. -/
def State.showFrameEnergy (s : State) (energy coreA coreB : Nat) : State :=
  ((s.wr .PWR_FRAME_ENERGY_NJ_ENERGY (energy / energyPerNj)).wr .PWR_FRAME_CORE_UJ_DIE_A (min 0xFFFFFFFF (coreA / 1000))).wr
    .PWR_FRAME_CORE_UJ_DIE_B (min 0xFFFFFFFF (coreB / 1000))

/-- A tick latches the energy of the frame that ended (R676). -/
def State.latchEnergy (s : State) (t : Nat) : State :=
  let u := s.pwr
  let win := s.rd .PWR_CAP_WINDOW_MS_WINDOW * 1000000 * tbPerNs
  let f : FrameEnergy := ⟨t, t - u.lastTick, u.energy, !s.seqRun.live⟩
  let s := (s.showFrameEnergy u.energy (tabGet 0 0 u.core) (tabGet 0 1 u.core)).wr .PWR_FRAME_TAG_FRAME (s.rd .GEY_FRAME_COUNT_COUNT)
  let s := s.setPwr { u with
    energy := 0, core := [], lastTick := t, prevTick := u.lastTick
    history := f :: u.history.filter fun g => decide (t < g.stop + win)
    progEnergy := if s.seqRun.live then u.progEnergy + u.energy else u.progEnergy
    progTime := if s.seqRun.live then u.progTime + (t - u.lastTick) else u.progTime }
  s.powerAverages

/-- A program frame that ended is held against its declared power (R679). -/
def State.checkDeclared (s : State) : State :=
  let u := s.pwr
  let d := s.rd .PWR_DECL_W_DECL
  let isOver := decide (d * 102 * (u.progTime * 3125) < u.progEnergy * 8192 * 100)
  let s := s.setPwr { u with progEnergy := 0, progTime := 0 }
  if isOver && u.declNoted != some s.second then
    (s.setPwr { s.pwr with declNoted := some s.second }).raise .ERR_POWER_DECL powerSrc (wattsOf u.progEnergy u.progTime) d
  else s

/-! ### The request (R681-R683) -/

/-- Predicted power at a point, over a common denominator: numerator and denominator (R681). -/
def State.predict (s : State) (p : Nat) : Nat × Nat :=
  let r := s.rd .PWR_RUN_W_RUN
  let c := s.rd .PWR_STATIC_W_STATIC
  let m := s.opNow
  let num := opFreq p * s.vSum p ^ 2
  let den := opFreq m * s.vSum m ^ 2
  if r < c then (r, 1) else (c * den + (r - c) * num, den)

/-- Whether a point's predicted power is within the cap. -/
def State.withinCap (s : State) (p : Nat) : Bool :=
  let (n, d) := s.predict p
  decide (n ≤ s.rd .PWR_CAP_W_CAP * d)

/-- The highest point up to n whose predicted power is within the cap, or OP0. -/
def State.capPoint (s : State) : Nat → Nat
  | 0 => 0
  | n + 1 => if s.withinCap (n + 1) then n + 1 else s.capPoint n

/-- OP7's own conditions (R682); the prediction of the core current is a free value. -/
def State.boostOk (s : State) : Bool :=
  decide (s.maxDieTemp < (s.rd .PWR_BOOST_TJ_TEMP : Int)) && decide (Config.op7Current s.free 0 < 2000) &&
    decide (Config.op7Current s.free 1 < 2000)

/-- The requested point (R682, R694). -/
def State.pointRequest (s : State) : Nat :=
  if s.inAlert then 0
  else
    let p := min (s.capPoint s.topOp) (min (s.rd .PWR_OP_CEIL_OP) (s.rd .PWR_THERM_CEIL_OP))
    let p := if s.prog.isNone then min p (s.rd .PWR_FIXED_OP_OP) else p
    if p = 7 ∧ s.boostOk = false then 6 else p

/-- The bound of R683 at a level. -/
def State.levelMeets (s : State) (l : Nat) : Bool :=
  let (n, d) := s.predict 0
  let j := if s.prog.isSome && decide (0 < s.baseOp) then 2 else 1
  let i := if s.rd .PWR_IDLE_W_IDLE = 0 then s.rd .PWR_STATIC_W_STATIC else s.rd .PWR_IDLE_W_IDLE
  let q := l + j * (16 - l)
  decide (n * (q - l) + i * d * l ≤ s.rd .PWR_CAP_W_CAP * d * q)

/-- The requested dilution level with a point (R683). -/
def State.levelRequest (s : State) (p : Nat) : Nat :=
  if p ≠ 0 ∨ s.withinCap 0 = true then 0
  else (((List.range 15).map (· + 1)).find? s.levelMeets).getD 15

/-! ### Pace rounds (R685-R689) -/

/-- Frames in a round. -/
def State.paceRound (s : State) : Nat := s.rd .PWR_PACE_ROUND_ROUND

/-- The module is a pace group of one, or combines nothing (R685, R687). -/
def State.paceAlone (s : State) : Bool := s.fab.job.isNone || s.rd .FAB_JOB_SIZE_SIZE == 1 || !s.sync.table

/-- A pace message leaves by a port of the tree (R686); the guard holds it without a record. -/
def State.sendPace (s : State) (unit : Nat) (tick op level p : Nat) : State :=
  s.present { msgPlain 10 3 (s.rd .FAB_NEIGH_COORD p) (s.rd .FAB_JOB_ID_ID) (tick % 2 ^ 32) (op + 16 * level) [] with unit := unit }
    (.port p) none

/-- A decision goes on to every child (R688). -/
def State.sendDecision (s : State) (d : PaceDecision) : State :=
  (maskPorts s.sync.barChildren).foldl (fun (s : State) (p : Nat) => s.sendPace 2 d.tick d.op d.level p) s

/-- The round goes on: a report to the parent once every child has reported; at the root the decision, or its withholding
when tick f + PWR_PACE_ROUND − 1 has come (R686, R688). -/
def State.paceStep (s : State) : State :=
  match s.pwr.round with
  | none => s
  | some r =>
    if r.reported ∨ r.children ≠ s.sync.barChildren then s
    else
      let s := s.setPwr { s.pwr with round := some { r with reported := true } }
      if s.sync.barParent ≠ 0xFF then s.sendPace 1 r.tick r.op r.level s.sync.barParent
      else if s.rd .GEY_FRAME_COUNT_COUNT + 1 < r.tick then
        let d : PaceDecision := ⟨r.tick, r.op, r.level⟩
        (s.setPwr { s.pwr with decision := some d }).sendDecision d
      else s.raise .ERR_PACE_WITHHELD powerSrc r.tick

/-- A decision whose tick this is takes effect (R688, R692, R695, R696). -/
def State.paceApply (s : State) (n : Nat) : State :=
  match s.pwr.decision with
  | some d =>
    if d.tick = n then
      let s := s.wr .PWR_STATUS_OP_AGREED d.op
      let s := s.setPwr { s.pwr with
        decision := none, level := d.level, hold0 := s.pwr.hold0 && s.inAlert }
      if s.capForced && s.pwr.within then s.wr .PWR_STATUS_CAP_FORCED 0 else s
    else s
  | none => s

/-- Whether a rule with an action is active (R708): H0 to H5 have none of THROTTLE. -/
def State.ruleActs (s : State) (bit : Nat) : Bool :=
  (List.range 32).any fun r => (tabGet RuleRun.reset r s.fum.rules).active && bitOf (s.rd .FUM_RULE_CFG_ACTIONS r) bit

/-- PWR_THERM_CEIL moves at a round tick (R704). -/
def State.thermStep (s : State) : State :=
  let c := s.rd .PWR_THERM_CEIL_OP
  s.wr .PWR_THERM_CEIL_OP (if s.ruleActs 2 then c - 1 else min 7 (c + 1))

/-- The cap is held against the average (R692): round ticks more than 5 % above it, and whether one was within it. -/
def State.capCheck (s : State) : State :=
  let a := s.rd .PWR_AVG_W_AVG
  let c := s.rd .PWR_CAP_W_CAP
  s.setPwr { s.pwr with
    isOver := if 21 * c < 20 * a then s.pwr.isOver + 1 else 0
    within := s.pwr.within || decide (a ≤ c) }

/-- A round tick (R685-R687, R704): the ceiling, the cap, the request, and the round's beginning. -/
def State.roundTick (s : State) (n : Nat) : State :=
  let s := s.thermStep.capCheck
  let p := s.pointRequest
  let l := s.levelRequest p
  let s := { s.wr .PWR_STATUS_OP_REQ p with free := s.free + 1 }
  let t := n + s.paceRound
  if s.paceAlone then s.setPwr { s.pwr with round := none, decision := some ⟨t, p, l⟩ }
  else (s.setPwr { s.pwr with round := some ⟨t, p, l, 0, false⟩, decision := none }).paceStep

/-- What a tick with frame count n does to the power controller before its kind is decided: a decision takes effect, the
point and level change, the guardbands move. -/
def State.powerTick (s : State) (n : Nat) : State := (s.paceApply n).opTick.gbStep

/-- A round tick's work, after the kind is decided. -/
def State.powerRound (s : State) (n : Nat) : State := if n % s.paceRound = 0 then s.roundTick n else s

/-- A child's report for the round in progress (R686). -/
def State.takePaceReport (s : State) (p : Nat) (m : Msg) : State :=
  match s.pwr.round with
  | none => s
  | some r =>
    if bitOf s.sync.barChildren p && !bitOf r.children p && m.index == r.tick % 2 ^ 32 && !r.reported then
      (s.setPwr { s.pwr with round := some { r with
        children := r.children ||| 2 ^ p, op := min r.op (m.aux % 8), level := max r.level (bitsOf m.aux 7 4) } }).paceStep
    else s

/-- The tick that a decision's INDEX names: the next frame count with those low 32 bits. -/
def State.paceTick (s : State) (index : Nat) : Option Nat :=
  let n := s.rd .GEY_FRAME_COUNT_COUNT
  let d := (2 ^ 32 + index - n % 2 ^ 32) % 2 ^ 32
  if 0 < d ∧ d < 2 ^ 31 then some (n + d) else none

/-- A decision from the parent (R688): forwarded and held; one that comes at or after its tick is late. -/
def State.takePaceDecision (s : State) (p : Nat) (m : Msg) : State :=
  if p ≠ s.sync.barParent then s
  else
    match s.paceTick m.index with
    | none =>
      let fwd : PaceDecision := ⟨m.index, m.aux % 8, bitsOf m.aux 7 4⟩
      (s.sendDecision fwd).raise .ERR_PACE_LATE powerSrc m.index
    | some t =>
      let d : PaceDecision := ⟨t, m.aux % 8, bitsOf m.aux 7 4⟩
      (s.setPwr { s.pwr with decision := some d }).sendDecision d

/-! ### Alerts (R77, R693-R695) -/

/-- The fall to OP0 on entering alert (R77, R694). -/
def State.alertFall (s : State) : State :=
  if 16 ≤ s.cyclesLeft then s.setOp 0 else s.setPwr { s.pwr with fall := true }

/-- Source conditions now present, and the bits they latch (R693). -/
def State.alertLevel (s : State) (level : Nat) : State :=
  let old := s.rd .PWR_ALERT_LATCH
  let new := (List.range 5).filter fun k => bitOf level k && !bitOf old k
  let s := s.wr .PWR_ALERT_LEVEL level
  if new.isEmpty then s
  else
    let s := s.wr .PWR_ALERT_LATCH (old ||| level)
    let s := new.foldl (fun (s : State) (k : Nat) => (s.raise .ERR_PWR_ALERT powerSrc k).bump .PWR_ALERT_COUNT_COUNT) s
    let s := s.emitAlert ((new.map (2 ^ ·)).foldl (· + ·) 0)
    if old = 0 then (s.setPwr { s.pwr with hold0 := true }).alertFall else s

end Sys2Proof.Machine
end

