-- ==== Sys2Proof/Machine/Rebuild.lean ====
section
/-! DEFINITION. The rebuild chains of RESTORE on their sources (13, R613-R615, R637). -/

set_option autoImplicit false

namespace Sys2Proof.Machine

open Sys2Proof

/-- A power in GF(2⁸). -/
def gfPow (a : Nat) : Nat → Nat
  | 0 => 1
  | n + 1 => gfMul a (gfPow a n)

/-- The inverse in GF(2⁸). -/
def gfInv (a : Nat) : Nat := gfPow a 254

/-- The coefficient of position m when position k is rebuilt and another position may be lost (R615); none where m takes no
part or the table has no row. -/
def rebuildCoef (k : Nat) (other : Option Nat) (m : Nat) : Option Nat :=
  let data := other.filter fun o => decide (o < 14)
  if 14 ≤ k then
    if data.isSome ∨ 14 ≤ m then none else some (if k = 14 then 1 else alphaPow m)
  else
    match data with
    | some o =>
      let v := gfInv (alphaPow k ^^^ alphaPow o)
      some (if m = 15 then v else gfMul (if m = 14 then alphaPow o else alphaPow o ^^^ alphaPow m) v)
    | none =>
      if other = some 14 then
        if m = 14 then none else some (alphaPow (if m = 15 then (255 - k) % 255 else (m + 255 - k) % 255))
      else if m = 15 then none else some 1

/-- Positions of a group that ranks have lost. -/
def SinGroup.lostAt (g : SinGroup) (lost : List Nat) : List Nat :=
  (List.range 16).filter fun i => lost.contains (g.members.getD i 0)

/-- The sources of a rebuild of a rank's position, in chain order, with their coefficients (R615, R637). -/
def SinGroup.chain (g : SinGroup) (rank : Nat) (lost : List Nat) : List (Nat × Nat) :=
  let k := g.members.findIdx fun r => r == rank
  let others := (g.lostAt lost).filter fun i => i != k
  if 16 ≤ k ∨ 1 < others.length then []
  else (List.range 16).filterMap fun m =>
    if m = k ∨ others.contains m then none else (rebuildCoef k others.head? m).map fun c => (m, c)

/-- RID of the chain that rebuilds a rank's position (R637): from 0x3F00 upward. -/
def SinGroup.rebuildRid (g : SinGroup) (rank : Nat) : Nat :=
  0x3F00 + (g.id * 16 + g.members.findIdx fun r => r == rank) % 256

/-- This module's bytes of a region block: current page, 0 beyond the ranges, or committed parity (R615, R637). -/
def State.chainBlock (s : State) (gi : Nat) (g : SinGroup) (k : Nat) : List Byte :=
  if g.parity then s.committedParity gi g k
  else match s.blockAddr g k with
    | some a => s.ldBytes a granBytes
    | none => List.replicate granBytes 0

/-- Poisoned bytes among those of a region block (R449). -/
def State.chainPoison (s : State) (g : SinGroup) (k : Nat) : Option Nat :=
  let a := if g.parity then some (s.areaAddr g s.parityBuf k) else s.blockAddr g k
  match a with
  | some a => s.firstPoisoned ((List.range granBytes).map fun i => a + i)
  | none => none

/-- A partial of a chain sent on: to the next source as a reduction partial of GF bytes, or to the target as REBUILD. -/
def State.chainForward (s : State) (c : ChainRun) (g : SinGroup) (k : Nat) (bs : List Byte) : State :=
  match c.next with
  | some r =>
    let m := { msgPlain 5 2 (s.coordOfRank r) c.rid k (crc32c bs) bs with first := true, last := true }
    s.present m (.seg k) none
  | none => s.sendSin none c.target 3 g.id (granBytes * k) true bs

/-- A source's part in one block: its product XORed into the partial. A block that it cannot read is recorded and not sent. -/
def State.chainBlockOut (s : State) (c : ChainRun) (g : SinGroup) (k : Nat) (partialBytes : List Byte) : State :=
  match s.chainPoison g k with
  | some a => s.raise .ERR_MEM_UE (.engine sinEngine) a
  | none => s.chainForward c g k (xorBytes partialBytes (gfBytes c.coef (s.chainBlock c.group g k)))

/-- A source takes its place in a chain over blocks of a group; the first source sends at once. -/
def State.startChain (s : State) (gi : Nat) (g : SinGroup) (rank : Nat) (lost : List Nat) (first blocks : Nat) : State :=
  let ch := g.chain rank lost
  match ch.find? fun p => p.1 == g.pos with
  | none => s
  | some (_, coef) =>
    let next := (ch.find? fun p => decide (g.pos < p.1)).map fun p => g.members.getD p.1 0
    let c : ChainRun := ⟨g.rebuildRid rank, gi, coef, next, rank, first, blocks, 0⟩
    if ch.any fun p => decide (p.1 < g.pos) then
      s.setSin { s.sin with chains := (s.sin.chains.filter fun x => x.rid != c.rid) ++ [c] }
    else
      (List.range blocks).foldl (fun (s : State) (i : Nat) => s.chainBlockOut c g (first + i) (List.replicate granBytes 0)) s

/-- A partial of a chain that has reached a source (R637). -/
def State.chainPart (s : State) (c : ChainRun) (m : Msg) : State :=
  match s.sinGroups[c.group]? with
  | none => s
  | some g =>
    let s := s.chainBlockOut c g m.index m.payload
    let rest := s.sin.chains.filter fun x => x.rid != c.rid
    let c' := { c with done := c.done + 1 }
    s.setSin { s.sin with chains := if c'.done < c.blocks then rest ++ [c'] else rest }

/-- The chain that a partial's RID names. -/
def State.chainOf (s : State) (rid : Nat) : Option ChainRun := s.sin.chains.find? fun c => c.rid == rid

end Sys2Proof.Machine
end

