-- ==== Sys2Proof/Machine/ReduceRows.lean ====
section
/-! DEFINITION. The commands of the reduction engine (11). -/

set_option autoImplicit false

namespace Sys2Proof.Machine

open Sys2Proof

/-- The conditions of R547 on a record that hold without the plan: codes, ranges, reserved fields, sources and
destination. -/
def State.redRecOk (s : State) (xmod : Bool) (r : RedRec) : Bool :=
  let count := fun (id : Nat) => ((s.desc id).dims.map (s.desc id).sz).foldl (· * ·) 1
  let out := s.desc r.outDesc
  decide (bitsOf r.w0 63 60 ≤ 1 ∧ 1 ≤ r.ncon ∧ 1 ≤ r.len ∧ bitsOf r.w0 57 56 = 0 ∧ bitsOf r.w2 30 20 = 0 ∧ bitsOf r.w3 46 46 = 0) &&
    decide (r.waitObj = 0 ∨ 1 ≤ bitsOf r.w1 63 56) && decide (r.sigObj = 0 ∨ 1 ≤ r.sigCount) &&
    (!r.outWide || (!r.isLocal && !r.gf)) && (r.isLocal || xmod) &&
    (if r.isLocal then
      s.descLive r.outDesc && out.writes && decide (count r.outDesc = r.len ∧ out.ty = (if r.gf then .int8 else .fp32))
    else decide (r.outDesc = 0)) &&
    (s.redEntries r).all fun v =>
      let d := s.desc (entDesc v)
      decide (bitsOf v 31 29 = 0) && (r.gf || decide (entCoef v = 0)) &&
        if entLocal v then
          decide (entBackup v = 0xFFFF) && !entWide v && s.descLive (entDesc v) && d.reads && decide (count (entDesc v) = r.len) &&
            (if r.gf then decide (d.ty = .int8) else decide (d.ty = .fp32 ∨ d.ty = .bf16))
        else decide (entDesc v = 0)

/-- A record starts (R548). -/
def State.startRun (s : State) (h slot rec addr : Nat) : State :=
  let e := redEngine h
  let r := s.redRecAt addr
  let s := s.setEngine e { s.engine e with wait := .none }
  let s := s.setRed h { s.redHalf h with next := rec + 1 }
  let (s, run) := match (s.redHalf h).run r.rid with
    | some x => if x.phase = RedPhase.staging then (s, x) else s.newRun h slot rec addr
    | none => s.newRun h slot rec addr
  (s.setRun h { run with phase := .active, slot := slot, record := rec, addr := addr, left := r.deadline + 1 }).advanceRun h r.rid

/-- RED_RECORD_START (R548): half h tries the next record of its slot. -/
def execRedRecordStart (h : Nat) (s : State) : Res :=
  let e := redEngine h
  match s.slotNow e with
  | none => .next s
  | some sl =>
    let g := s.redHalf h
    let i := s.slotIdx e
    let addr := (s.redAddrs sl).getD g.next 0
    let r := s.redRecAt addr
    if sl.kind ≠ 3 ∨ (s.engine e).isOver = true ∨ sl.allStarted g.next = true then .next s
    else if let some a := s.badRecord e addr r.bytes then .next (((s.raiseSlot .ERR_MEM_UE e i g.next a).stopSlot e).settleRed h)
    else if !(decide (1 ≤ sl.records ∧ sl.records ≤ 1024 ∧ bitsOf sl.payload 4 0 = 0) && s.redRecOk sl.xmod r) then
      .next (((s.raiseSlot .ERR_RED_RECORD e i g.next).stopSlot e).settleRed h)
    else if 16 ≤ g.actives.length then .next s
    else if r.waitObj ≠ 0 ∧ (s.engine e).wait ≠ .released then
      if (s.engine e).wait = .none then
        .next ((s.sendWait e i g.next r.waitObj (bitsOf r.w2 63 32) (bitOf r.w2 31) (bitsOf r.w1 63 56)).setEngine e
          { s.engine e with wait := .sent })
      else .next s
    else .next (s.startRun h i g.next addr)

/-- The slots of a half in the current and the next program frame (R548). -/
def State.redFrames (s : State) (h rid : Nat) : Option (Nat × Nat × Nat) :=
  match s.prog with
  | none => none
  | some p =>
    let f := s.rd .GEY_PROG_FRAME_INDEX
    match s.redFind rid (s.frameSlots p f (redEngine h)) with
    | some x => some x
    | none => match s.nextFrame p f with
      | some f' => s.redFind rid (s.frameSlots p f' (redEngine h))
      | none => none

/-- The source of an entry that a rank supplies: `some false` primary, `some true` backup. -/
def sourceOfRank (v rank : Nat) : Option Bool :=
  if entLocal v then none
  else if entPrimary v = rank then some false
  else if entBackup v = rank ∧ entHasBackup v then some true else none

/-- The half's record for a partial that names no record or source that takes it (R548). -/
def State.redUnexpected (s : State) (h obj coord : Nat) : State :=
  s.raiseSlot .ERR_RED_UNEXPECTED (redEngine h) (s.slotIdx (redEngine h)) 0 obj coord

/-- An acknowledgement of a partial's segment. -/
def State.ackPart (s : State) (m : Msg) : State :=
  s.present { msgPlain 6 0 m.src m.obj m.index 0 [] with unit := m.unit, last := m.last } .first none

/-- A segment staged for a source of a record (R548, R549); a source that its entry did not take is discarded. -/
def State.stageSegment (s : State) (h : Nat) (run : RedRun) (i : Nat) (backup : Bool) (m : Msg) : State :=
  let old := (run.source i backup).getD ⟨i, backup, [], none⟩
  let x := { old with segs := tabPut m.index m.payload old.segs, last := if m.last then some (m.index, m.aux % 2 ^ 32) else old.last }
  let rest := run.srcs.filter fun y => !(y.entry == i && y.backup == backup)
  let chosen := run.taken.find? fun t => t.1 == i
  match chosen with
  | some _ =>
    if x.whole then (s.redMove h .RED_ABSENT_COUNT .RED_DISCARDED_COUNT 1).setRun h { run with srcs := rest }
    else s.setRun h { run with srcs := rest ++ [x] }
  | none =>
    let s := if x.whole && !old.whole then s.redMove h .RED_ABSENT_COUNT .RED_STAGED_COUNT 1 else s
    (s.setRun h { run with srcs := rest ++ [x] }).advanceRun h run.rid

/-- A segment for a record that a half knows or has just met. -/
def State.partFor (s : State) (h : Nat) (run : RedRun) (m : Msg) : State :=
  let r := s.redRecAt run.addr
  let i := bitsOf m.obj 23 14
  let rank := s.rankOfCoord m.src
  match (if i < r.ncon then sourceOfRank (s.redEntry r i) rank else none) with
  | none => s.redUnexpected h m.obj m.src
  | some b =>
    if run.taken.any fun t => decide (t.1 = i ∧ t.2 = b) then s.redUnexpected h m.obj m.src
    else s.stageSegment h run i b m

/-- RED_PART_RECEIVE (R548): the oldest partial segment for half h in a receive buffer; one of a rebuild chain goes to
Sinter's GF_MAC record (R637). -/
def execRedPartReceive (q h : Nat) (s : State) : Res :=
  let f := fun (m : Msg) => m.kind == 5 && m.unit == h
  match s.peekRx q f with
  | none => .next s
  | some m =>
    let s := (s.popRx q f).ackPart m
    let rid := m.obj % 2 ^ 14
    match s.chainOf rid, (s.redHalf h).run rid with
    | some c, _ => .next (s.chainPart c m)
    | none, some run =>
      if run.phase = RedPhase.cancelled then .next (s.bump .RED_LATE_COUNT 1 h) else .next (s.partFor h run m)
    | none, none =>
      match s.redFrames h rid with
      | none => .next (s.redUnexpected h m.obj m.src)
      | some (slot, rec, addr) =>
        let (s, run) := s.newRun h slot rec addr
        .next ((s.setRun h run).partFor h run m)

/-- RED_DEADLINE (R549): deadline frames of a half have ended: its records decide again. -/
def execRedDeadline (h : Nat) (s : State) : Res := .next (s.advanceHalf h)

/-- The record that waits for an acknowledgement. -/
def State.ackedRun (s : State) (h : Nat) (m : Msg) : Option RedRun :=
  (s.redHalf h).runs.find? fun r =>
    let q := s.redRecAt r.addr
    decide (r.phase = RedPhase.sent ∧ q.outObj = m.obj ∧ q.outHalf = m.unit ∧ s.coordOfRank q.outRank = m.src)

/-- RED_ACK_RECEIVE (R553): the oldest reduction acknowledgement in a receive buffer; that of the last segment completes
the record. -/
def execRedAckReceive (q : Nat) (s : State) : Res :=
  let f := fun (m : Msg) => m.kind == 6
  match s.peekRx q f with
  | none => .next s
  | some m =>
    let s := s.popRx q f
    if !m.last then .next s
    else
      match s.ackedRun 0 m with
      | some r => .next (s.completeRun 0 (s.redRecAt r.addr) r)
      | none => match s.ackedRun 1 m with
        | some r => .next (s.completeRun 1 (s.redRecAt r.addr) r)
        | none => .next s

end Sys2Proof.Machine
end

