-- ==== Sys2Proof/Machine/Frame.lean ====
section
/-! DEFINITION. What a tick latches of the frame that ended (02, 11, 15): skips, the ledger's terms, energy, the FRAME record,
stale messages. -/

set_option autoImplicit false

namespace Sys2Proof.Machine

open Sys2Proof

/-! ### Skips (R96-R98, R698) -/

/-- GEY_SKIP_LAST of a die. -/
def skipFld (d : Nat) : Fld := if d = 0 then .GEY_SKIP_LAST_SKIP_A else .GEY_SKIP_LAST_SKIP_B

/-- The slack reserve S of R96. -/
def State.slack (s : State) : Nat :=
  (s.frameCycles s.baseOp * s.rd .GEY_SLACK_BP_SLACK + 9999) / 10000

/-- The skips of the frame that ended are shown, and heavy frames counted. -/
def State.latchSkips (s : State) : State :=
  let s := [0, 1].foldl (fun (s : State) (d : Nat) =>
    let n := min 0xFFFF (tabGet 0 d s.pwr.skips)
    let heavy := decide (s.slack < 2 * n)
    let s := s.wr (skipFld d) n
    s.setPwr { s.pwr with
      heavy := tabSet 0 d (if heavy then tabGet 0 d s.pwr.heavy + 1 else 0) s.pwr.heavy
      heavyNoted := if heavy then s.pwr.heavyNoted else tabSet false d false s.pwr.heavyNoted }) s
  s.setPwr { s.pwr with skips := [] }

/-! ### The ledger (R557-R561) -/

/-- A unit that runs as an engine, as a book's source. -/
def bookOf (book inst engine sum ref : Nat) : BookLatch := ⟨book, inst, 0, engine, sum, ref⟩

/-- Book 2: FTQ tokens of a logical tile. -/
def State.book2 (s : State) (t : Nat) : BookLatch :=
  bookOf 2 t t ((s.tile t).ftq.length + (s.veOf t).popping.length + (s.tile t).ftqReserved + s.ftqFree t) 32

/-- Book 3: stream-buffer slots of a stream engine. -/
def State.book3 (s : State) (n : Nat) : BookLatch := bookOf 3 n (0x100 + n) (s.sbHeld n + s.sbFilling n + s.sbFree n) 64

/-- Book 4: contributions of a half. -/
def State.book4 (s : State) (h : Nat) : BookLatch :=
  bookOf 4 h (redEngine h)
    (s.rd .RED_STAGED_COUNT h + s.rd .RED_ABSENT_COUNT h + s.rd .RED_FOLDED_COUNT h + s.rd .RED_DISCARDED_COUNT h +
      s.rd .RED_CANCELLED_COUNT h) (s.rd .RED_EXPECTED_COUNT h)

/-- Book 5: parity deltas. -/
def State.book5 (s : State) : BookLatch :=
  bookOf 5 0 sinEngine
    (s.rd .SIN_HELD_COUNT + s.rd .SIN_INFLIGHT_COUNT + s.rd .SIN_APPLIED_COUNT + s.rd .SIN_CANCELLED_COUNT)
    (s.rd .SIN_EXPECTED_COUNT)

/-- Book 6: the identity of R514. -/
def State.book6 (s : State) : BookLatch :=
  let u := s.sync
  ⟨6, 0, 4, 0, u.inflightSum + u.net + u.consumed + u.lost + ofSigned 64 u.cleared + u.barrier, u.issued⟩

/-- Book 7: grants of a residual arbiter; an access completes as it is granted, so none is in flight. -/
def State.book7 (s : State) (i : Nat) : BookLatch := ⟨7, i, 3, i, tabGet 0 i s.res.done, tabGet 0 i s.res.grants⟩

/-- Every instance of books 2 to 7. -/
def State.books (s : State) : List BookLatch :=
  (List.range 256).map s.book2 ++ (List.range 16).map s.book3 ++ (List.range 2).map s.book4 ++ [s.book5, s.book6] ++
    (List.range 35).map s.book7

/-- Terms of book 1 at one end for a port and VC. -/
def State.creditLatch (s : State) (p v : Nat) : CreditLatch :=
  let k := p * 4 + v
  ⟨s.rd .FAB_CREDIT_VC_AVAIL k, s.rd .FAB_TX_MSG_COUNT k, s.rd .FAB_RX_MSG_COUNT k, s.rd .FAB_CRET_TX_COUNT k,
    s.rd .FAB_CRET_RX_COUNT k, s.occupied p v, s.rd .FAB_CREDIT_VC_LIMIT k⟩

/-- A port latches book 1 and sends its part of the exchange (R559). -/
def State.latchPort (s : State) (p : Nat) : State :=
  if !(tabGet false p s.fab.audited && s.portLive p) then s
  else
    let l := (List.range 4).map (s.creditLatch p)
    let t := l.zipIdx.foldl (fun (t : Tab (Option CreditLatch)) (q : CreditLatch × Nat) => tabSet none (p * 4 + q.2) (some q.1) t)
      s.fab.credit
    let s := { s with fab := { s.fab with credit := t } }
    s.emitLink p (.audit (l.map (·.rx)) (l.map (·.cretTx)) (l.map (·.occ)))

/-- Book 1 of a port restarts (R561). -/
def State.restartPort (s : State) (p : Nat) : State :=
  if !(tabGet false p s.fab.restart) then s
  else
    let s := (s.bump .FAB_LINK_LOSS_COUNT (s.rxOf p).length p).setRx p []
    let s := (List.range 4).foldl (fun (s : State) (v : Nat) =>
      let k := p * 4 + v
      let s := s.wr .FAB_CREDIT_VC_AVAIL (s.rd .FAB_CREDIT_VC_LIMIT k) k
      (((s.wr .FAB_TX_MSG_COUNT 0 k).wr .FAB_RX_MSG_COUNT 0 k).wr .FAB_CRET_TX_COUNT 0 k).wr .FAB_CRET_RX_COUNT 0 k) s
    { s with fab := { s.fab with
        restart := tabSet false p false s.fab.restart, audited := tabSet false p (s.portLive p) s.fab.audited } }

/-- Every book latches its terms (R558). -/
def State.latchLedger (s : State) : State :=
  let s := { s with fab := { s.fab with latch := s.books } }
  let s := s.wr .LED_STATUS_DONE 0
  (List.range 18).foldl (fun (s : State) (p : Nat) => (s.latchPort p).restartPort p) (s.wr .LED_STATUS_FAILED 0)

/-! ### The FRAME record (R710, R711) -/

/-- The body of a FRAME record. -/
def State.frameBody (s : State) (a : FrameAcc) : List Byte :=
  leBytes 8 a.first ++ leBytes 8 (a.energy / energyPerNj) ++ leBytes 2 a.frames ++ leBytes 2 (min 0xFFFF a.skipA) ++
    leBytes 2 (min 0xFFFF a.skipB) ++ leBytes 2 (ofSigned 16 s.maxDieTemp) ++ leBytes 1 s.opNow ++
    leBytes 1 (s.rd .PWR_STATUS_DIL) ++ leBytes 2 a.idle ++ leBytes 2 a.join

/-- The frame that ended joins the record under way; a whole one is emitted. -/
def State.frameRecord (s : State) : State :=
  let c := s.frameCount
  let n := s.rd .FUM_REC_CTRL_FRAME_DECIM
  let a := s.fum.acc
  if a.frames = 0 ∧ c % n ≠ 0 then s
  else
    let a : FrameAcc := ⟨if a.frames = 0 then c else a.first, a.energy + s.pwr.energy, a.frames + 1,
      a.skipA + tabGet 0 0 s.pwr.skips, a.skipB + tabGet 0 1 s.pwr.skips, a.idle + b2n (!s.seqRun.live),
      a.join + b2n (s.seqRun.live && s.seqRun.intervals == 2)⟩
    if a.frames < n then s.setFum { s.fum with acc := a }
    else (s.setFum { s.fum with acc := .reset }).emitRec 1 0 (s.frameBody a)

/-! ### The end of a frame -/

/-- Stale messages of the frame are recorded once (R95). -/
def State.noteStaleFrame (s : State) : State :=
  if s.fab.stale = 0 then s
  else { s with fab := { s.fab with stale := 0 } }.raise .ERR_FRAME_STALE (.die 0) s.fab.stale

/-- What a tick at time t latches of the frame that ends. -/
def State.endFrame (s : State) (t : Nat) : State :=
  let s := (((s.frameRecord.latchSkips).latchEnergy t).latchLedger).noteStaleFrame
  { s with
    sync := { s.sync with
      staleNoted := false, inflight := s.sync.inflight.map fun (m : SigMsg) => { m with fresh := false }
      waits := s.sync.waits.map fun (w : SyncWait) => { w with fresh := false } }
    sin := { s.sin with staleNoted := false } }

/-- The counters stand at a tick with frame count n (R73, R84); a joined pair counts its cycles from its first tick. -/
def State.enterFrame (s : State) (n cycle : Nat) : State :=
  { s.wr .GEY_FRAME_COUNT_COUNT n with frameCycle := cycle, tbRem := 0 }

/-- At a frame boundary, timeouts and deadlines come one frame nearer (R497, R549). -/
def State.boundary (s : State) : State :=
  let s := { s with sync := { s.sync with waits := s.sync.waits.map fun (w : SyncWait) => { w with left := w.left - 1 } } }
  (s.redBoundary 0).redBoundary 1

end Sys2Proof.Machine
end

