-- ==== Sys2Proof/Machine/TimeBase.lean ====
section
/-! DEFINITION. The time base's discipline (02, R53-R67): probes, the choice of a parent, PPS, holdover, the backup anchor. -/

set_option autoImplicit false

namespace Sys2Proof.Machine

open Sys2Proof

/-- The discipline replaced. -/
def State.setTime (s : State) (u : TimeDisc) : State := { s with time := u }

/-- A rate correction toward a reference whose measured offset is given (R56): bounded by GEY_SLEW_PPB. -/
def State.steer (s : State) (off : Int) : State :=
  let b : Int := (s.rd .GEY_SLEW_PPB_SLEW : Nat)
  let r := Config.steerRate s.free off
  let r := if r < -b then -b else if b < r then b else r
  { s.wr .GEY_FREQ_ADJ_PPB_ADJ (ofSigned 32 r) with free := s.free + 1 }

/-- A neighbour's last report on a live port. The report is kept while the port is down, and counts again when it is back: the spec
leaves open whether it outlives the port (log entry 87). -/
def State.reportOf (s : State) (p : Nat) : Option Neighbour :=
  if s.portLive p then tabGet none p s.time.reports else none

/-- A report replaced. -/
def State.setReport (s : State) (p : Nat) (r : Neighbour) : State :=
  s.setTime { s.time with reports := tabSet none p (some r) s.time.reports }

/-- A neighbour on a path to the anchor that is not rejected (R55, R58). -/
def State.mayFollow (s : State) (r : Neighbour) : Bool := r.anchored && decide (r.barredUntil ≤ s.tb)

/-- Hops of the neighbour on a port that may be the parent: at most 61, so that the own count stays at 62 or less (R57). -/
def State.parentHops (s : State) (p : Nat) : Option Nat :=
  match s.reportOf p with
  | some r => if s.mayFollow r && decide (r.hops ≤ 61) then some r.hops else none
  | none => none

/-- The port of fewest hops, the lowest-numbered of them (R55). -/
def State.bestParent (s : State) : Option Nat :=
  (List.range 18).foldl (fun (b : Option Nat) (p : Nat) =>
    match s.parentHops p, b.bind s.parentHops with
    | some h, some k => if h < k then some p else b
    | some _, none => some p
    | none, _ => b) none

/-- The parent port in force. -/
def State.parentPort (s : State) : Option Nat :=
  let p := s.rd .GEY_TIME_PARENT_PORT
  if p < 18 then some p else none

/-- The parent in force stays: its port is up, it reports no more hops than before, it is not rejected (R55). -/
def State.parentStays (s : State) : Bool :=
  match s.parentPort with
  | some p => match s.parentHops p with | some h => decide (h < s.rd .GEY_TIME_PARENT_HOPS) | none => false
  | none => false

/-- A parent is taken: the module's hop count is its parent's plus one. -/
def State.takeParent (s : State) (p : Nat) : State :=
  let h := (s.parentHops p).getD 62
  let new := s.parentPort != some p
  let s := (s.wr .GEY_TIME_PARENT_PORT p).wr .GEY_TIME_PARENT_HOPS (h + 1)
  if new then s.setTime { s.time with state := .locking } else s

/-- Some neighbour reports a path to an ANCHOR (R66), near enough and not rejected or not. -/
def State.anchorHeard (s : State) : Bool :=
  (List.range 18).any fun p => match s.reportOf p with | some r => r.anchored | none => false

/-- A backup with qualified PPS becomes ANCHOR when no neighbour has a path to an anchor and no backup of lower rank is there (R66): its
own rank comes back to it in the neighbours' reports. -/
def State.becomesAnchor (s : State) : Bool :=
  let rank := s.rd .GEY_CTRL_ANCHOR_RANK
  s.time.role == .backupAnchor && decide (rank < 15) && s.rd .GEY_STATUS_PPS_QUALIFIED == 1 && !s.anchorHeard &&
    (List.range 18).all fun p => match s.reportOf p with | some r => decide (rank ≤ r.backup) | none => true

/-- No parent is left (R66, R67, R57); only a tick makes a backup ANCHOR. An ISOLATED module keeps its last rate correction: the spec
says only that it runs on its own oscillator (log entry 88). -/
def State.noParent (s : State) (atTick : Bool) : State :=
  let s := (s.wr .GEY_TIME_PARENT_PORT 31).wr .GEY_TIME_PARENT_HOPS 63
  if atTick && s.becomesAnchor then (s.setTime { s.time with role := .anchor, state := .locking }).wr .GEY_TIME_PARENT_HOPS 0
  else if s.time.state = .isolated then s
  else
    let deep := (List.range 18).any fun p => match s.reportOf p with | some r => s.mayFollow r && decide (61 < r.hops) | none => false
    let s := s.setTime { s.time with state := .isolated }
    let s := if deep then s.raise .ERR_TIME_DEPTH (.die 0) else s
    s.raise .ERR_TIME_ISOLATED (.die 0)

/-- The choice of a parent (R55). -/
def State.chooseParent (s : State) (atTick : Bool) : State :=
  if s.parentStays then s.takeParent ((s.parentPort).getD 31)
  else match s.bestParent with
    | some p => s.takeParent p
    | none => s.noParent atTick

/-- The role in force after a tick (R53): a change of TIME_ROLE takes effect; a backup that became ANCHOR stays it until then (R66). -/
def State.roleAt (s : State) : TimeRole :=
  match s.rd .GEY_CTRL_TIME_ROLE with
  | 0 => .follower
  | 1 => .anchor
  | 2 => if s.time.taken = 2 ∧ s.time.role = .anchor then .anchor else .backupAnchor
  | _ => s.time.role

/-- The role in force and the parent at a tick (R53, R55, R66, R67); only an active module is disciplined (R699). -/
def State.timeTick (s : State) : State :=
  let s := s.setTime { s.time with role := s.roleAt, taken := s.rd .GEY_CTRL_TIME_ROLE }
  if s.powerState ≠ 3 then s
  else if s.time.role = .anchor then (s.wr .GEY_TIME_PARENT_PORT 31).wr .GEY_TIME_PARENT_HOPS 0
  else s.chooseParent true

/-- The lowest ANCHOR_RANK of a backup with qualified PPS that the module knows of, itself included; 15 for none (R66). -/
def State.backupKnown (s : State) : Nat :=
  let own := if s.time.role = .backupAnchor ∧ s.rd .GEY_STATUS_PPS_QUALIFIED = 1 then s.rd .GEY_CTRL_ANCHOR_RANK else 15
  (List.range 18).foldl (fun b p => match s.reportOf p with | some r => min b r.backup | none => b) own

/-- In the tick guard of every frame a probe leaves by every live port (R54, R92). -/
def State.sendProbes (s : State) : State :=
  let path := s.time.role == .anchor || s.parentPort.isSome
  (List.range 18).foldl (fun (s : State) (p : Nat) =>
    if s.portLive p then s.emitLink p (.probe (s.rd .GEY_TIME_PARENT_HOPS) path s.backupKnown) else s) s

/-! ### Probes (R54, R56, R58) -/

/-- |offset| of a reference exceeds GEY_ALIGN_LIMIT_PS. -/
def State.misaligned (s : State) (off : Int) : Bool := decide (s.rd .GEY_ALIGN_LIMIT_PS_LIMIT < off.natAbs)

/-- TIME_PROBE (R54): in the tick guard, a neighbour's report and the offset that the probe pair yields: the difference of the two
times of flight, corrected for the lane delays of the link's training, for which the spec gives no formula. -/
def execTimeProbe (p hops : Nat) (anchored : Bool) (backup : Nat) (off : Int) (s : State) : Res :=
  if !(s.portLive p && s.inGuard) then .next s
  else
    let old := (s.reportOf p).getD ⟨63, false, 15, 0, 0, 0⟩
    let mine := s.parentPort == some p
    let isOver := if mine && s.time.state == .locked && s.misaligned off then old.isOver + 1 else 0
    let s := s.setReport p ⟨hops, anchored, backup, off, isOver, old.barredUntil⟩
    if !mine then .next s
    else
      let s := (s.wr .GEY_PARENT_OFFSET_PS_OFFSET (ofSigned 32 off)).steer off
      .next (if s.time.state = .locking ∧ s.misaligned off = false then s.setTime { s.time with state := .locked } else s)

/-- TIME_ALIGN_REJECT (R58): the parent's offset exceeded the limit at three ticks running. -/
def execTimeAlignReject (s : State) : Res :=
  match s.parentPort with
  | none => .next s
  | some p =>
    match s.reportOf p with
    | none => .next s
    | some r =>
      if r.isOver < 3 then .next s
      else
        let s := s.raise .ERR_TIME_ALIGN (.port p) (ofSigned 64 r.offsetPs)
        .next ((s.setReport p { r with isOver := 0, barredUntil := tbPerSec + s.tb }).chooseParent false)

/-! ### PPS (R59-R66) -/

/-- The time base from the nearest whole second, in ps. -/
def State.ppsOffset (s : State) : Int :=
  let f := s.tb % tbPerSec
  let u : Int := if f * 2 < tbPerSec then (f : Int) else (f : Int) - tbPerSec
  u * 1000 / tbPerNs

/-- Three edges outside the window that agree within it are a jump (R65). -/
def consistentOffsets (w : Int) (l : List Int) : Bool :=
  match l with
  | [a, b, c] => decide ((a - b).natAbs ≤ w.natAbs ∧ (b - c).natAbs ≤ w.natAbs ∧ (a - c).natAbs ≤ w.natAbs)
  | _ => false

/-- An edge within the window (R59, R64). -/
def State.ppsAccept (s : State) (off : Int) : State :=
  let n := s.time.accepted + 1
  let s := s.setTime { s.time with accepted := n, outside := [], lastAccepted := some s.tb }
  if n < 3 then s
  else
    let s := s.wr .GEY_STATUS_PPS_QUALIFIED 1
    if s.time.role ≠ .anchor then s
    else
      let s := s.steer off
      let st := if s.misaligned off && s.time.state != .locked then .locking else .locked
      s.setTime { s.time with state := st }

/-- An edge outside the window (R65). PPS_QUALIFIED stays until HOLDOVER is entered: the spec does not say when it lapses for a module
that is no anchor (log entry 89). -/
def State.ppsOutside (s : State) (off : Int) (w : Int) : State :=
  let l := (off :: s.time.outside).take 3
  let s := s.setTime { s.time with accepted := 0, outside := l }
  if consistentOffsets w l then (s.setTime { s.time with outside := [] }).raise .ERR_PPS_JUMP (.die 0) (ofSigned 64 off) else s

/-- PPS_IN_EDGE (R59): a rising edge on PPS_IN now. -/
def execPpsInEdge (s : State) : Res :=
  if s.rd .GEY_CTRL_PPS_IN_EN = 0 then .next s
  else
    let off := s.ppsOffset
    let w : Int := (s.rd .GEY_PPS_WINDOW_NS_WINDOW * 1000 : Nat)
    let s := s.wr .GEY_PPS_OFFSET_PS_OFFSET (ofSigned 32 off)
    .next (if off.natAbs ≤ w.natAbs then s.ppsAccept off else s.ppsOutside off w)

/-- PPS_OUT_EDGE (R60): at the next whole second, where PPS_OUT_EN is set. -/
def execPpsOutEdge (s : State) : Res :=
  if s.rd .GEY_CTRL_PPS_OUT_EN = 0 then .next s
  else
    let s := if s.time.ppsOut = s.second then s.advanceTime ((s.second + 1) * tbPerSec) else s
    .next (s.setTime { s.time with ppsOut := s.second })

/-- HOLDOVER_ENTER (R61, R112): no edge within 1 s and the window of the last accepted one. -/
def execHoldoverEnter (s : State) : Res :=
  match s.time.lastAccepted with
  | none => .next s
  | some a =>
    if s.time.role ≠ .anchor ∨ s.time.state = .holdover ∨ s.time.state = .holdoverExpired then .next s
    else
      let s := s.advanceTime (tbPerSec + a + s.rd .GEY_PPS_WINDOW_NS_WINDOW * tbPerNs)
      let s := s.setTime { s.time with state := .holdover, accepted := 0, holdoverFrom := s.tb }
      let v := stampOf a
      .next ((s.wr .GEY_STATUS_PPS_QUALIFIED 0).raise .ERR_PPS_LOST (.die 0) (v % 2 ^ 64) (v / 2 ^ 64))

/-- HOLDOVER_EXPIRE (R63): 60 s in HOLDOVER. -/
def execHoldoverExpire (s : State) : Res :=
  if s.time.state ≠ .holdover then .next s
  else
    let s := s.advanceTime (s.time.holdoverFrom + 60 * tbPerSec)
    .next ((s.setTime { s.time with state := .holdoverExpired }).raise .ERR_HOLDOVER_EXPIRED (.die 0))

end Sys2Proof.Machine
end

