-- ==== Sys2Proof/Machine/UeRows.lean ====
section
/-! DEFINITION. The instructions of the update engines (12, R588-R595). Each command is one instruction of engine n: its
word without OP. -/

set_option autoImplicit false

namespace Sys2Proof.Machine

open Sys2Proof

/-- The word of an instruction from its OP and its other bits. -/
def ueWord (op : Nat) (w : BitVec 58) : Nat := op * 2 ^ 58 + w.toNat

/-- UE_NOP (R588). -/
def execUeNop (n : Nat) (w : BitVec 58) (s : State) : Res := .next (s.ueStep n (ueWord 0x00 w) fun s _ _ => s)

/-- An element of a stream decoded and converted to TY, with flags: a bit copy where the types agree; a pad under RNE and with no
flag (R409). -/
def ueLoad (w : Nat) (d : Desc) (x : SrcElem) : Nat × FlagSet :=
  if d.ty == ueElem w && d.scaleMode == 0 then (x.bits, fNone)
  else
    let ctl : CvtCtl := ⟨if x.pad then .rne else ueMode w, 0, false, false⟩
    let (b, f) := if d.scaleMode = 0 then convertNum d.ty (ueElem w) ctl x.val
      else if d.scaleMode = 2 then (ueElem w).decodeInto ctl x.val
      else (ueFmt w).convert ctl x.val
    (b, if x.pad then fNone else f ||| x.flags)

/-- What keeps an instruction from its stream: a CHECK that fails (R427), a stream of E8M0 (R122). -/
def State.ueStreamFail (s : State) (id : Nat) : Option (Err × Nat) :=
  let d := s.desc id
  match s.ueBadDesc [id] with
  | some i => some (.ERR_DESC_CHECK, i)
  | none => if d.ty = .e8m0 then some (.ERR_CONV_PAIR, d.etype) else none

/-- The current segment of a stream loaded (R588, R591, R593). A poisoned codeword fails the step (R449), and what is loaded is
a free value. -/
def State.ueLd (s : State) (n w : Nat) (r : UeRun) (e : ShardEntry) : State :=
  let id := e.stream (ueS w)
  let d := s.desc id
  match s.ueStreamFail id with
  | some (x, v) => s.raiseSlot x (0x110 + n) (s.slotIdx (0x110 + n)) 0 v
  | none =>
    let win := segWindow d r.seg
    let here := (s.readLocs d win).filterMap fun l => match l with | .here a => some a | _ => none
    match s.firstPoisoned here with
    | some a =>
      let s := s.raiseSlot .ERR_MEM_UE (0x110 + n) (s.slotIdx (0x110 + n)) 0 a
      let (k, s) := s.takeFree
      let bits := (List.range segElems).map fun i =>
        leNat ((List.range ((ueFmt w).bits / 8)).map fun b => Config.freeByte k (i * 8 + b))
      s.setUe n (r.setVec (ueD w) bits)
    | none =>
      let xs := win.map fun i => s.srcElem [] d (s.srcPos d i)
      let ys := xs.map (ueLoad w d)
      let s := s.setUe n (r.setVec (ueD w) (padSeg (ys.map (·.1))))
      let s := s.orFlags .UE_FLAGS_FLAGS (flagsOr (ys.map (·.2))) n
      if r.pass = 2 ∧ ueS w = 0 ∧ (xs.any fun x => !isFinite x.val) = true then s.setNonfinite n r.shard else s

/-- UE_LD (R588). -/
def execUeLd (n : Nat) (w : BitVec 58) (s : State) : Res :=
  .next (s.ueStep n (ueWord 0x01 w) fun s r e => s.ueLd n (ueWord 0x01 w) r e)

/-- A conversion wrote a NaN or an infinity (R593). -/
def wroteNonfinite (d : Desc) (run : CvtRun) : Bool :=
  (run.elems.any fun p => !isFinite (d.ty.decode p.2)) || run.scales.any fun u => u.value % 256 == 255

/-- The elements of a window, of the first n, whose packing units and blocks lie wholly among them (R407, R416). -/
def closedPrefix (d : Desc) (n : Nat) : Nat :=
  let micro := d.scaleMode == 2
  let rows := if micro && decide (2 ≤ d.rank) then d.block 1 else 1
  let row := d.sz 0
  if 1 < rows then
    let plane := row * d.sz 1
    n / plane * plane + n % plane / (row * rows) * (row * rows)
  else
    let u := max (if micro then d.block 0 else 1) d.ty.perUnit
    n / row * row + n % row / u * u

/-- The elements that ST writes when it stores segment j: from the first that an earlier segment left to the last that no later one
completes, or to the end of the stream. -/
def stRange (d : Desc) (total j : Nat) : Nat × Nat :=
  (closedPrefix d (segElems * j), if total ≤ segElems * (j + 1) then total else closedPrefix d (segElems * (j + 1)))

/-- The bytes that ST writes, with its conversion: window positions, and the elements for them as TY bits (R423). -/
def State.stConvert (s : State) (eng w : Nat) (d : Desc) (win : List (List Nat)) (bits : List Nat) : CvtRun :=
  let src := { d with etype := if ueTy w then 0 else 1, scaleMode := 0, cls := 0 }
  let l := (win.zip bits).filterMap fun p =>
    let j := d.dims.map (d.local p.1)
    let b := p.2 % 2 ^ (ueFmt w).bits
    if s.validPos d j then some (j, SrcElem.mk b ((ueElem w).decodeForCvt b) fNone false false) else none
  s.convertAll (s.drawCtx eng) src d l []

/-- The current segment of a stream stored (R588, R593-R595): the elements whose packing unit or block the next segment completes wait
for it, so that a write sees a whole block (R416). -/
def State.ueSt (s : State) (n w : Nat) (r : UeRun) (e : ShardEntry) : State :=
  let eng := 0x110 + n
  let slot := s.slotIdx eng
  let d := s.desc (e.stream (ueS w))
  match s.ueStreamFail (e.stream (ueS w)) with
  | some (x, v) => s.raiseSlot x eng slot 0 v
  | none =>
    if s.statBad d.statSlot then s.raiseSlot .ERR_STAT_SLOT eng slot 0 d.statSlot
    else
      let total := s.ueCount e
      let (lo, hi) := stRange d total r.seg
      let have_ := tabGet [] r.pos r.tail ++ (r.vec (ueA w)).take (total - segElems * r.seg)
      let win := (d.window.drop lo).take (hi - lo)
      let run := s.stConvert eng w d win have_
      let out := unitBytesOf (s.unitsAt d win run.elems) ++ unitBytesOf run.scales
      let s := s.engFlags eng run.flags
      let s := s.statRecord d.statSlot run.stats
      let s := if run.clamp then s.raiseSlot .ERR_SCALE_CLAMP eng slot 0 d.statSlot else s
      let s := if wroteNonfinite d run then s.setNonfinite n r.shard else s
      let s := if e.role = 0 ∧ e.group ≠ 0xFFFFFFFF then s.sendDeltas n slot e.group out else s
      let s := s.storeXfer out
      let bs := out.map (·.2)
      (s.bump .UE_ELEMS_COUNT run.elems.length n).setUe n { r with
        tail := tabSet [] r.pos (have_.drop (hi - lo)) r.tail
        crcA := bs.foldl (crcByte 0xEDB88320) r.crcA, crcB := bs.foldl (crcByte 0x82F63B78) r.crcB }

/-- What ST or SCALEW of a stream writes lies in an earlier slot's padded footprint (R412). -/
def State.ueWaits (s : State) (n w : Nat) : Bool :=
  match s.ueActive n with
  | none => false
  | some (_, e) =>
    let i := e.stream (ueS w)
    let ids := if ueOp w = 0x03 then [(s.desc i).scaleLink] else i :: s.scaleOf i
    s.padWaits (0x110 + n) (s.slotIdx (0x110 + n)) (ids.flatMap fun x => s.touch (s.desc x))

/-- UE_ST (R588). -/
def execUeSt (n : Nat) (w : BitVec 58) (s : State) : Res :=
  let v := ueWord 0x02 w
  .next (if s.ueWaits n v then s.setStall (0x110 + n) 6 else s.ueStep n v fun s r e => s.ueSt n v r e)

/-- The live NEXT_SCALE of a stream's STAT_SLOT written into the scale byte that its SCALE_LINK names (R588). -/
def State.ueScale (s : State) (n w : Nat) (e : ShardEntry) : State :=
  let eng := 0x110 + n
  let d := s.desc (e.stream (ueS w))
  if let some i := s.ueBadDesc [e.stream (ueS w)] then s.raiseSlot .ERR_DESC_CHECK eng (s.slotIdx eng) 0 i
  else if d.statSlot = 0xFFFF ∨ s.statBad d.statSlot = true then s.raiseSlot .ERR_STAT_SLOT eng (s.slotIdx eng) 0 d.statSlot
  else if d.scaleMode = 0 ∨ s.descLive d.scaleLink = false then s.raiseSlot .ERR_UPROG eng (s.slotIdx eng) 0 w
  else
    let live := (s.statRead (s.policy.statBase + d.statSlot * 32)).word
    let out := [(s.firstAddr d.scaleLink, BitVec.ofNat 8 (bitsOf live 31 24))]
    s.storeXfer out

/-- UE_SCALEW (R588). -/
def execUeScalew (n : Nat) (w : BitVec 58) (s : State) : Res :=
  let v := ueWord 0x03 w
  .next (if s.ueWaits n v then s.setStall (0x110 + n) 6 else s.ueStep n v fun s _ e => s.ueScale n v e)

/-- UE_FADD (R589). -/
def execUeFadd (n : Nat) (w : BitVec 58) (s : State) : Res :=
  let v := ueWord 0x08 w
  .next (s.ueStep n v fun s r _ => s.ueTwo n r v fun a b => numAdd (ueMode v) a b)

/-- UE_FSUB (R589). -/
def execUeFsub (n : Nat) (w : BitVec 58) (s : State) : Res :=
  let v := ueWord 0x09 w
  .next (s.ueStep n v fun s r _ => s.ueTwo n r v fun a b => numAdd (ueMode v) a (numNeg b))

/-- UE_FMUL (R589). -/
def execUeFmul (n : Nat) (w : BitVec 58) (s : State) : Res :=
  let v := ueWord 0x0A w
  .next (s.ueStep n v fun s r _ => s.ueTwo n r v fun a b => numMul a b)

/-- UE_FMA (R588, R589): A × B + C. -/
def execUeFma (n : Nat) (w : BitVec 58) (s : State) : Res :=
  let v := ueWord 0x0B w
  .next (s.ueStep n v fun s r _ => s.ueThree n r v fun a b c => numFma (ueMode v) a b c)

/-- UE_FNMA (R588, R589): −(A × B) + C. -/
def execUeFnma (n : Nat) (w : BitVec 58) (s : State) : Res :=
  let v := ueWord 0x0C w
  .next (s.ueStep n v fun s r _ => s.ueThree n r v fun a b c => numFma (ueMode v) (numNeg a) b c)

/-- UE_FDIV (R588, R589): A ÷ B. -/
def execUeFdiv (n : Nat) (w : BitVec 58) (s : State) : Res :=
  let v := ueWord 0x0D w
  .next (s.ueStep n v fun s r _ => s.ueTwo n r v fun a b => numDiv a b)

/-- UE_FSQRT (R588, R589): √A. -/
def execUeFsqrt (n : Nat) (w : BitVec 58) (s : State) : Res :=
  let v := ueWord 0x0E w
  .next (s.ueStep n v fun s r _ => s.ueTwo n r (setBits v 34 34 0) fun a _ => numSqrt a)

/-- UE_FMIN (R589). -/
def execUeFmin (n : Nat) (w : BitVec 58) (s : State) : Res :=
  let v := ueWord 0x0F w
  .next (s.ueStep n v fun s r _ => s.ueTwo n r v numMin)

/-- UE_FMAX (R589). -/
def execUeFmax (n : Nat) (w : BitVec 58) (s : State) : Res :=
  let v := ueWord 0x10 w
  .next (s.ueStep n v fun s r _ => s.ueTwo n r v numMax)

/-- The squares of a segment added to the norm accumulator by the procedure of R202 (R589, R591). -/
def State.ueSqacc (s : State) (n w : Nat) (r : UeRun) (e : ShardEntry) : State :=
  let k := min segElems (s.ueCount e - segElems * r.seg)
  let ts := (((r.vec (ueA w)).take k).map fun b => squareTerm ((ueFmt w).decode (b % 2 ^ (ueFmt w).bits)))
  let o := cubeStep r.norm (ts.map (·.1))
  (s.setUe n { r with norm := o.acc, normLost := r.normLost || o.lost }).orFlags .UE_FLAGS_FLAGS
    (flagsOr (ts.map (·.2)) ||| o.flags) n

/-- UE_SQACC (R589). -/
def execUeSqacc (n : Nat) (w : BitVec 58) (s : State) : Res :=
  .next (s.ueStep n (ueWord 0x11 w) fun s r e => s.ueSqacc n (ueWord 0x11 w) r e)

/-- UE_SADD (R589). -/
def execUeSadd (n : Nat) (w : BitVec 58) (s : State) : Res :=
  let v := ueWord 0x18 w
  .next (s.ueStep n v fun s r _ => s.ueScalar n r v (numAdd (ueMode v) (r.kval (ueA v)) (r.kval (ueB v))))

/-- UE_SMUL (R589). -/
def execUeSmul (n : Nat) (w : BitVec 58) (s : State) : Res :=
  let v := ueWord 0x19 w
  .next (s.ueStep n v fun s r _ => s.ueScalar n r v (numMul (r.kval (ueA v)) (r.kval (ueB v))))

/-- UE_SFMA (R589). -/
def execUeSfma (n : Nat) (w : BitVec 58) (s : State) : Res :=
  let v := ueWord 0x1A w
  .next (s.ueStep n v fun s r _ =>
    s.ueScalar n r v (numFma (ueMode v) (r.kval (ueA v)) (r.kval (ueB v)) (r.kval (ueC v))))

/-- UE_SDIV (R589). -/
def execUeSdiv (n : Nat) (w : BitVec 58) (s : State) : Res :=
  let v := ueWord 0x1B w
  .next (s.ueStep n v fun s r _ => s.ueScalar n r v (numDiv (r.kval (ueA v)) (r.kval (ueB v))))

/-- UE_SSQRT (R589). -/
def execUeSsqrt (n : Nat) (w : BitVec 58) (s : State) : Res :=
  let v := ueWord 0x1C w
  .next (s.ueStep n v fun s r _ => s.ueScalar n r v (numSqrt (r.kval (ueA v))))

/-- UE_SPOWI (R589): kA to the integer power kB. -/
def execUeSpowi (n : Nat) (w : BitVec 58) (s : State) : Res :=
  let v := ueWord 0x1D w
  .next (s.ueStep n v fun s r _ =>
    let (b, f) := spowi (r.kreg (ueA v)) (r.kreg (ueB v))
    (s.setUe n (r.setK (ueD v) b)).orFlags .UE_FLAGS_FLAGS f n)

end Sys2Proof.Machine
end

