-- ==== Sys2Proof/Machine/Abort.lean ====
section
/-! DEFINITION. What the acceptance of a STEP_ABORT does to every unit (R88, R89, R224, R273, R277, R463, R506, R507, R556). -/

set_option autoImplicit false

namespace Sys2Proof.Machine

open Sys2Proof

/-- A tile at a STEP_ABORT: what its commands have done counts (R216, R236); queues, banks, sets and FTQ empty, carries +0 (R224,
R273, R281); no further bundle issues and no fenced signal is sent (R277). -/
def State.abortTile (s : State) (t : Nat) : State :=
  let s := s.creditAll t
  let s := s.setVe t { (s.veOf t).dropped with ended := false, fenced := [], late := [], popping := [] }
  if 272 ≤ s.physOf t then s
  else s.setTile t { s.tile t with cal := [], banks := [], sets := [], ftq := [], ftqReserved := 0, c := [] }

/-- The active transfers of an engine end without completing: what they wrote may be old or new, their stream-buffer slots return
to FREE, their operations in the table finish (R463). -/
def State.abortXfers (s : State) (e : Nat) : State :=
  let n := s.opsNow e
  let s := (s.xeng e).active.foldl (fun (s : State) (x : Xfer) => (s.storePart (x.data ++ x.scaleData)).dropVent e x) s
  (s.setXeng e { XferEng.reset with draining := n }).setStall e 0

/-- What a SEND that is arriving wrote may be old or new (R463, R507); of new bytes the model knows none. -/
def State.abortInbound (s : State) (b : Inbound) : State :=
  if b.bad || b.ext.isNone then s
  else
    let (n, s) := s.takeFree
    let d := s.desc b.obj
    s.storePart ((s.sendOut d (s.sendRun b.engine b)).zipIdx.map fun p => (p.1.1, Config.freeByte n p.2))

/-- Frame-program messages that have not been launched never are. -/
def State.dropUnsent (s : State) : State :=
  let q := (s.fab.txq.map fun (q : Nat × List TxEntry) =>
    (q.1, q.2.filter fun (e : TxEntry) => e.transit.isSome || !frameKind e.msg.kind)).filter fun (q : Nat × List TxEntry) => !q.2.isEmpty
  { s with fab := { s.fab with txq := q } }

/-- Every unit at the acceptance of a STEP_ABORT. -/
def State.abortUnits (s : State) : State :=
  let s := (List.range 256).foldl State.abortTile s
  let s := ((List.range 32).map (· + 0x100)).foldl State.abortXfers s
  let s := s.inbound.foldl State.abortInbound s
  let s := (s.redAbort 0).redAbort 1
  { s.dropUnsent with
    engines := [], inbound := []
    sync := { s.sync with waits := [] }
    step := { s.step with ue := [], aborted := true }
    sin := { s.sin with capture := none } }

/-- RESULT of STEP_ABORT: the accepting tick's frame count, then RESTART. -/
def abortResult (n : Nat) (restart : Bool) : Nat := n + b2n restart * 2 ^ 64

/-- A STEP_ABORT accepted at a tick with frame count n (R88, R89, R635, R648); a takeover may have answered it already
(R721). -/
def State.acceptAbort (s : State) (n tag restart : Nat) : State :=
  let ok := decide (n + 2 ≤ restart)
  let s := if ok then s else s.raise .ERR_RESTART_STALE (.die 0) restart
  let s := s.abortUnits
  let s := { s with
    seq := .haltStep, aborted := true
    seqRun := { s.seqRun with live := false, intervals := 0, restart := if ok then some restart else none }
    step := { s.step with commitStart := none } }
  let s := (s.takeoverStep).event 3
  if (s.mbx.find tag).isSome then s.answer 0x23 tag (.ok (abortResult n ok)) else s

/-- The waits that expire at this tick are recorded before an abort acts, in ascending waiter ID (R499). -/
def State.timeoutsFirst (s : State) : State := s.sync.expiredWaits.foldl State.waitExpires s

/-- The STEP_ABORTs that wait for a tick are accepted in order. -/
def State.acceptAborts (s : State) (n : Nat) : State :=
  if s.seqRun.aborts.isEmpty then s
  else
    let l := s.seqRun.aborts
    let s := s.timeoutsFirst
    l.foldl (fun (s : State) (p : Nat × Nat) => s.acceptAbort n p.1 p.2) { s with seqRun := { s.seqRun with aborts := [] } }

/-- STEP_ABORT (R88): it waits for the next tick. -/
def State.stepAbort (s : State) (restart tag : Nat) : State × Answer :=
  if s.inBody then ({ s with seqRun := { s.seqRun with aborts := s.seqRun.aborts ++ [(tag, restart)] } }, .running)
  else (s, .fail .ERR_MBX_STATE tag)

/-- STEP_ABORT (R88, R737). -/
def execStepAbort (tag restart : Nat) (s : State) : Res := .next (s.serve 0x23 tag fun s => s.stepAbort restart tag)

end Sys2Proof.Machine
end

