-- ==== Sys2Proof/Machine/Named.lean ====
section
/-! DEFINITION. What the loaded program names (R790), and the cells and allocations behind an address (R391, R432). -/

set_option autoImplicit false

namespace Sys2Proof.Machine

open Sys2Proof

/-! ### Addresses and allocations -/

/-- The byte addresses that reach the cell of an address: both views of HBM (R430-R432), else the address alone. -/
def addrViews (a : Nat) : List Nat :=
  if a < 0x00C000000000 then [a, hbmCell (a / 2048 % 16) (a / 2048 / 16 * 2048 + a % 2048)]
  else if 0x010000000000 ≤ a ∧ a < hbmEnd then
    let n := (a - 0x010000000000) / 0x000C00000000
    let o := (a - 0x010000000000) % 0x000C00000000
    [a, (o / 2048 * 16 + n) * 2048 + o % 2048]
  else [a]

/-- The live allocation that holds the byte of an address, in either view (R432). -/
def State.allocAt (s : State) (a : Nat) : Option Alloc :=
  s.allocs.find? fun l => (addrViews a).any fun v => decide (l.base ≤ v ∧ v < l.base + l.size)

/-- The range that belongs to Waily (R433). -/
def inWaily (a : Nat) : Bool := (addrViews a).any fun v => decide (0x00BF00000000 ≤ v ∧ v < 0x00C000000000)

/-- The descriptor table (R385). -/
def inDescTable (a : Nat) : Bool := (addrViews a).any fun v => decide (descTable ≤ v ∧ v < descTable + 128 * 2 ^ 20)

/-! ### What the program names (R790) -/

/-- Every slot of a program's image, with its engine. -/
def State.progSlots (s : State) (p : ProgHeader) : List (Nat × Slot) :=
  (List.range p.frames).flatMap fun f => (s.directory p f).flatMap fun d => (s.slotList p d).map fun sl => (d.engine, sl)

/-- Descriptors of this module that a transfer record names: DST of a SEND is one of the module PEER (R459), VENT_B has none. -/
def XWords.descs (r : XWords) : List Nat := if r.mode < 3 then [r.src, r.dst] else [r.src]

/-- Descriptors of a reduction record. -/
def State.redDescs (s : State) (r : RedRec) : List Nat := r.outDesc :: (s.redEntries r).map entDesc

/-- Descriptors of a shard entry (R585). -/
def ShardEntry.descs (e : ShardEntry) : List Nat :=
  (e.streams ++ [e.hyper, e.normOut, e.digLocal, e.digPeer]).map fun x => x % 2 ^ 20

/-- Descriptors that a slot's records name. -/
def State.slotDescs (s : State) (sl : Slot) : List Nat :=
  if sl.kind = 1 then (List.range sl.records).flatMap fun i => (s.recordAt sl i).descs
  else if sl.kind = 3 then (s.redAddrs sl).flatMap fun a => s.redDescs (s.redRecAt a)
  else []

/-- Descriptors that the program names directly. -/
def State.directDescs (s : State) (p : ProgHeader) : List Nat :=
  (s.progSlots p).flatMap (fun q => s.slotDescs q.2) ++
    (match s.step.table with
      | some t => t.normDesc % 2 ^ 20 :: t.shards.flatMap ShardEntry.descs
      | none => [])

/-- Descriptors reached through the links of descriptors. -/
def State.linked (s : State) (l : List Nat) : List Nat :=
  l.flatMap fun i =>
    let d := s.desc i
    (if d.scaleMode ≠ 0 then [d.scaleLink] else []) ++ (if d.indexEn then [d.indexLink] else [])

/-- Live descriptors that the loaded program names, with those reached through their links. -/
def State.namedDescs (s : State) : List Nat :=
  match s.prog with
  | none => []
  | some p =>
    let l := distinct ((s.directDescs p).filter s.descLive)
    let m := distinct ((s.linked l).filter s.descLive)
    distinct (l ++ m ++ (s.linked m).filter s.descLive)

/-- The interleaved addresses of the bytes of granule g of stack n that lie from stack offset o on, k bytes (R430, R431): first
address, and the one past the last. -/
def granRun (n o k g : Nat) : Nat × Nat :=
  let b := (g * 16 + n) * 2048
  (b + (if g = o / 2048 then o % 2048 else 0), if g = (o + k - 1) / 2048 then b + (o + k - 1) % 2048 + 1 else b + 2048)

/-- n interleaved bytes from a on share a cell with k stack-local bytes from b on: of the granules of the stack that the second run
touches, the first two that do not end before a are the ones to look at. -/
def viewsMeet (a n b k : Nat) : Bool :=
  let st := (b - 0x010000000000) / 0x000C00000000
  let o := (b - 0x010000000000) % 0x000C00000000
  let g := max (o / 2048) (a / 32768)
  [g, g + 1].any fun g => decide (g ≤ (o + k - 1) / 2048) &&
    decide ((granRun st o k g).1 < a + n ∧ a < (granRun st o k g).2)

/-- An address of the interleaved view of HBM, and one of the stack-local view. -/
def isInterleaved (a : Nat) : Bool := decide (a < 0x00C000000000)
/-- An address of the stack-local view of HBM. -/
def isStackLocal (a : Nat) : Bool := decide (0x010000000000 ≤ a ∧ a < hbmEnd)

/-- Two runs of bytes, each from a base in either view, share a cell (R432). -/
def cellsMeet (a n b k : Nat) : Bool :=
  if n = 0 ∨ k = 0 then false
  else if isInterleaved a && isStackLocal b then viewsMeet a n b k
  else if isStackLocal a && isInterleaved b then viewsMeet b k a n
  else decide (a < b + k ∧ b < a + n)

/-- Allocations that the loaded program names. -/
def State.allocNamed (s : State) (l : Alloc) : Bool :=
  match s.prog with
  | none => false
  | some p =>
    l.handle == p.handle || s.namedDescs.any (fun i => (s.desc i).alloc == l.handle) ||
      (match s.step.table with
        | some t => t.ckpts.any fun c => cellsMeet c.base c.bytes l.base l.size
        | none => false) ||
      match s.sin.table with
      | some t => t.alloc == l.handle || t.groups.any fun g => g.ranges.any fun r => r.handle == l.handle
      | none => false

end Sys2Proof.Machine
end

