-- ==== Sys2Proof/Machine/Residual.lean ====
section
/-! DEFINITION. The residual arbiters (09, R470-R480): which requester is granted, which writes are discarded, locked
sequences. -/

set_option autoImplicit false

namespace Sys2Proof.Machine

open Sys2Proof

/-- An error of an arbiter: the instance is its source, the requester's rank its waiter (R483). -/
def State.raiseArb (s : State) (e : Err) (inst rank : Nat) (d0 : Nat := 0) (d1 : Nat := 0) : State :=
  s.raiseRec e e.severity (.arbiter inst) none (some rank) d0 d1

/-- The bus state replaced. -/
def State.setBus (s : State) (u : BusUnit) : State := { s with bus := u }

/-- The answer to a requester. -/
def State.replyTo (s : State) (req : Nat) (r : BusReply) : State := s.setBus { s.bus with reply := some (req, r) }

/-! ### Which writes are discarded (R258, R385, R433, R475) -/

/-- The sequencer runs a program (R258, R475). -/
def State.seqHolds (s : State) : Bool := s.seq == .armed || s.seq == .running || s.seq == .haltStep

/-- Addresses of the operand caches. -/
def inCache (a : Nat) : Bool := decide (0x030000000000 ≤ a ∧ a < 0x030200000000)

/-- A requester exempt from R475 at an allocation: the scrubber, and Sinter in its own (R475). -/
def State.resExempt (s : State) (rank : Nat) (l : Alloc) : Bool :=
  rank == 7 || (rank == 5 && match s.sin.table with | some t => t.alloc == l.handle | none => false)

/-- Why an arbiter discards a write of a requester at an address: the error recorded, where the spec names one. A register write is
never discarded here. -/
def State.discards (s : State) (rank a : Nat) : Option (Option Err) :=
  if isRegAddr a then none
  else if rank = 4 ∧ inWaily a then some (some .ERR_RES_DISCARD)
  else if rank ≤ 2 ∧ inDescTable a then some none
  else if rank ≠ 7 ∧ s.seqHolds ∧ inCache a then some (some .ERR_OC_HOST_WRITE)
  else
    match s.allocAt a with
    | some l => if s.seqHolds && s.allocNamed l && !s.resExempt rank l then some (some .ERR_RES_DISCARD) else none
    | none => none

/-- Bytes stored by a residual write: poison is cleared from the codewords that it covers (R449). -/
def State.resStore (s : State) (a : Nat) (bs : List Byte) : State :=
  match s.placeOf a with
  | .cell c => (s.stBytes a bs).clearPoison c bs.length
  | _ => s.stBytes a bs

/-- A residual write judged: whether it is taken, with what is recorded. -/
def State.resJudge (s : State) (inst rank a : Nat) : State × Bool :=
  match s.discards rank a with
  | none => (s, true)
  | some none => (s, false)
  | some (some e) => (s.raiseArb e inst rank a, false)

/-- A residual write that no lock holds back. -/
def State.resWrite (s : State) (inst rank a : Nat) (bs : List Byte) : State :=
  match s.resJudge inst rank a with
  | (s, true) => s.resStore a bs
  | (s, false) => s

/-- Beats of a write, each counted and judged by its arbiter. -/
def State.writeBeats (s : State) (rank : Nat) : List (Nat × Nat) → List Byte → State
  | [], _ => s
  | (a, k) :: r, bs => ((s.countGrant (s.arbiterOf a)).resWrite (s.arbiterOf a) rank a (bs.take k)).writeBeats rank r (bs.drop k)

/-! ### Locks (R476-R480) -/

/-- A sequence that is too long: its writes are discarded and the arbiter is free (R479); its owner receives an error response
(R477). -/
def State.tearLong (s : State) (inst : Nat) (l : ResLock) : State :=
  (((s.setLock inst none).bump .RES_TEAR_COUNT_LONG).raiseArb .ERR_LOCK_LONG inst l.owner l.addr).replyTo l.owner .torn

/-- The owner of a lock is reset (R478). -/
def State.tearTorn (s : State) (inst : Nat) (l : ResLock) : State :=
  ((s.setLock inst none).bump .RES_TEAR_COUNT_TORN).raiseArb .ERR_LOCK_TORN inst l.owner l.addr

/-- A requester is reset: every lock that it holds is torn (R478). -/
def State.tearLocks (s : State) (rank : Nat) : State :=
  (List.range 35).foldl (fun (s : State) (i : Nat) =>
    match s.lockOf i with
    | some l => if l.owner = rank then s.tearTorn i l else s
    | none => s) s

/-! ### Grants (R472, R473) -/

/-- The highest-ranked waiter. -/
def topWaiter : List ResReq → Option ResReq
  | [] => none
  | r :: l => match topWaiter l with | some x => if x.rank < r.rank then some x else some r | none => some r

/-- The waiter that has waited longest; equal waits go to the higher rank (R473). -/
def longestWaiter : List ResReq → Option ResReq
  | [] => none
  | r :: l =>
    match longestWaiter l with
    | some x => if r.waited < x.waited ∨ (r.waited = x.waited ∧ x.rank < r.rank) then some x else some r
    | none => some r

/-- The requester that an arbiter grants. -/
def State.granted (s : State) (inst : Nat) (l : List ResReq) : Option ResReq :=
  match s.lockOf inst with
  | some k => l.find? fun r => r.rank == k.owner
  | none => if s.starved inst then longestWaiter l else topWaiter l

/-- LOCK_GAP_TEAR (R477): more than 256 cycles pass between beats of a locked sequence. -/
def execLockGapTear (inst : Nat) (s : State) : Res :=
  match s.lockOf inst with
  | some k => .next (s.tearLong inst k)
  | none => .next s

end Sys2Proof.Machine
end

