-- ==== Sys2Proof/Machine/SelfTest.lean ====
section
/-! DEFINITION. Self-test and repair (14): slices, prefill, repair entries, lanes, fuses. -/

set_option autoImplicit false

namespace Sys2Proof.Machine

open Sys2Proof

/-! ### Slices (R651-R655) -/

/-- The slice that runs on a tile. -/
def State.sliceOf (s : State) (p : Nat) : Option SliceRun := s.str.slices.find? fun r => r.pt == p

/-- The result register after a slice (R654). -/
def State.setResult (s : State) (res p slice : Nat) : State := { s with str := { s.str with result := (res, p, slice) } }

/-- The position a cluster's spare holds an image for is forgotten (R646). -/
def State.dropPrefill (s : State) (c : Nat) : State :=
  { s with str := { s.str with prefilled := tabSet none c none s.str.prefilled } }

/-- A tile FAILED by the test: nothing of it is kept but its repairs. -/
def State.failTile (s : State) (p slice : Nat) (repairable : Bool) : State :=
  let v := s.pt p
  let s := s.setPt p { v with
    state := .failed, tested := false, repairable := repairable, lastFail := slice, failed := v.failed ||| 2 ^ slice }
  (s.dropPrefill (clusterOfPt p)).noteCluster (clusterOfPt p) p

/-- A tile's slice is over: its chains are flushed, its maps stand as before the slice (R230, R653). -/
def State.endSlice (s : State) (r : SliceRun) : State :=
  let s := { s with str := { s.str with slices := s.str.slices.filter fun x => x.pt != r.pt } }
  s.setPtile r.pt { Tile.reset with rowmap := r.rowmap, feedDly := r.feedDly }

/-- The row map of a tile with no cube-row repair (R236). -/
def noRepairMap : Nat := 0x7688

/-- A failing tile can be repaired (R654): `rowsOk` when every failing row lies within the row spares. -/
def State.repairableBy (s : State) (p slice : Nat) (rowsOk : Bool) : Bool :=
  if slice < 5 then (s.ptile p).rowmap == noRepairMap && (s.pt p).failed == 0
  else slice == 15 && rowsOk

/-- A tile passed a slice (R642, R654). -/
def State.passSlice (s : State) (p slice : Nat) : State :=
  let v := s.pt p
  let passed := v.passed ||| 2 ^ slice
  s.setPt p { v with passed := passed, tested := v.tested || passed == 0xFFFF, failed := if passed = 0xFFFF then 0 else v.failed }

/-! ### Resident images (R645, R254) -/

/-- Bytes of a logical tile's resident region (R253). -/
def State.residentBytes (s : State) (t : Nat) : Nat := s.rd .VE_RES_SIZE_SIZE t * 65536

/-- The resident image of a logical tile copied into the operand cache of a physical tile. -/
def State.copyResident (s : State) (t p : Nat) : State :=
  let n := s.residentBytes t
  let data := s.ldBytes (s.rd .VE_RES_SRC_ADDR t) n
  ({ s with mem := memWrite s.mem (ocCell p 0) data }).clearPoison (ocCell p 0) n

/-! ### Cube-row maps (R227) -/

/-- CAL_ROWMAP after the repair of a failed physical row. -/
def repairedMap (f : Nat) : Nat :=
  ((List.range 4).map fun r => (if r < f then r else r + 1) * 8 ^ r).foldl (· + ·) 0 + f * 4096

/-- CAL_FEED_DLY after that repair: 2 − S on the rows in use, 0 on the failed row. -/
def repairedDly (f : Nat) : Nat :=
  ((List.range 5).map fun p => (if p = f then 0 else if f < p then 1 else 2) * 4 ^ p).foldl (· + ·) 0

/-- Caldera and Vent of a tile idle with every bank and set EMPTY, between steps (R228). Steps concern a tile in ACTIVE alone; a
slice that runs on the tile drives both (R653). -/
def State.calIdle (s : State) (p : Nat) : Bool :=
  let x := s.ptile p
  x.cal.isEmpty && x.banks.all (fun b => b.2.state == .empty) && x.sets.all (fun w => w.2.state == .empty) &&
    (!s.inBody || (s.pt p).state != .active) && (s.sliceOf p).isNone

/-- A tile's maps written. -/
def State.setMaps (s : State) (p rowmap dly : Nat) : State :=
  s.setPtile p { s.ptile p with rowmap := rowmap, feedDly := dly }

/-! ### Repairs (R659-R663) -/

/-- Whether a KIND's reserved bits are 0 and its fields name elements that exist (R661). -/
def entryFits (e : Nat) : Bool :=
  match bitsOf e 31 28 with
  | 1 => bitsOf e 27 24 == 0 && bitsOf e 15 3 == 0 && decide (bitsOf e 23 16 < 136) && decide (bitsOf e 2 0 < 5)
  | 2 => bitsOf e 12 9 == 0 && decide (bitsOf e 27 20 < 136) && decide (bitsOf e 19 14 < 48)
  | 3 => bitsOf e 10 10 == 0 && decide (bitsOf e 20 13 < 160)
  | 4 => bitsOf e 23 22 == 0 && bitsOf e 19 0 == 0 && decide (bitsOf e 27 24 < 9)
  | 5 => bitsOf e 27 24 == 0 && bitsOf e 15 0 == 0 && decide (bitsOf e 23 16 < 136)
  | _ => false

/-- The spare row that an entry takes, with the die. -/
def spareRowKey (die e : Nat) : Nat := die * 2 ^ 32 + (if bitsOf e 31 28 = 2 then e / 512 * 512 else e / 1024 * 1024)

/-- A repaired tile in FAILED with REPAIRABLE returns to SPARE (R661). -/
def State.returnTile (s : State) (p : Nat) : State :=
  let v := s.pt p
  if v.state = .failed ∧ v.repairable then
    (s.setPt p { v with state := .spare, tested := false, repairable := false, passed := 0, failed := 0 }).noteCluster
      (clusterOfPt p) p
  else s

/-- A tile declared failed (R659, TILE_FAIL): its position is taken over as after a fault. -/
def State.declareFailed (s : State) (p : Nat) : State :=
  match s.tileOfPt p with
  | some t => s.tileFault t
  | none => (s.setPt p { s.pt p with state := .failed, tested := false }).noteCluster (clusterOfPt p) p

/-- The spare lane circuit of a port can repair (R662). -/
def State.spareLaneFree (s : State) (p : Nat) : Bool := !bitOf s.str.spareBad p && !bitOf s.str.spareUsed p

/-- A lane repair begins: the spare circuit is steered and trains (R662). -/
def State.startLaneRepair (s : State) (p lane : Nat) : State :=
  { s with str := { s.str with
      spareUsed := s.str.spareUsed ||| 2 ^ p, laneRepair := tabSet none p (some lane) s.str.laneRepair } }

/-- A repair entry applied; the error where it is refused (R659-R662). `boot`: applied from the fuses. -/
def State.applyRepair (s : State) (die e : Nat) (boot : Bool) : State × Option Err :=
  if !entryFits e then (s, some .ERR_REPAIR_RANGE)
  else
    match bitsOf e 31 28 with
    | 1 =>
      let p := die * 136 + bitsOf e 23 16
      if (s.ptile p).rowmap ≠ noRepairMap then (s, some .ERR_REPAIR_RANGE)
      else if !(boot || s.calIdle p) then (s, some .ERR_REPAIR_STATE)
      else ((s.setMaps p (repairedMap (bitsOf e 2 0)) (repairedDly (bitsOf e 2 0))).returnTile p, none)
    | 2 =>
      let p := die * 136 + bitsOf e 27 20
      if s.str.rowsUsed.contains (spareRowKey die e) then (s, some .ERR_REPAIR_RANGE)
      else if !(boot || s.seqFree || (s.pt p).state ≠ .active) then (s, some .ERR_REPAIR_STATE)
      else ({ s with str := { s.str with rowsUsed := s.str.rowsUsed ++ [spareRowKey die e] } }.returnTile p, none)
    | 3 =>
      if s.str.rowsUsed.contains (spareRowKey die e) then (s, some .ERR_REPAIR_RANGE)
      else if !(boot || s.seqFree || (s.seq == .haltStep && !s.engines.any fun q => q.2.running)) then
        (s, some .ERR_REPAIR_STATE)
      else ({ s with str := { s.str with rowsUsed := s.str.rowsUsed ++ [spareRowKey die e] } }, none)
    | 4 =>
      let p := die * 9 + bitsOf e 27 24
      if s.spareLaneFree p then (s.startLaneRepair p (bitsOf e 21 20), none) else (s, some .ERR_REPAIR_RANGE)
    | _ =>
      let p := die * 136 + bitsOf e 23 16
      if (s.pt p).state = .active ∧ (s.spareOf (clusterOfPt p)).isNone then (s, some .ERR_REPAIR_RANGE)
      else (s.declareFailed p, none)

/-- The soft table of a die. -/
def State.softOf (s : State) (die : Nat) : List SoftEntry := tabGet [] die s.str.soft
/-- The soft table of a die replaced. -/
def State.setSoft (s : State) (die : Nat) (l : List SoftEntry) : State :=
  { s with str := { s.str with soft := tabSet [] die l s.str.soft } }
/-- The fuse bank of a die. -/
def State.fusesOf (s : State) (die : Nat) : List Nat := tabGet [] die s.str.fuses

/-- The fuse bank loaded at the release of a die's core domain (R663); `bad`: indices whose ECC fails. -/
def State.loadFuses (s : State) (die : Nat) (bad : List Nat) : State :=
  let l := s.fusesOf die
  let s := s.setSoft die []
  (List.range l.length).foldl (fun (s : State) (i : Nat) =>
    if bad.contains i then s.raise .ERR_FUSE_ECC (.die die) i
    else
      let e := l.getD i 0
      if e / 2 ^ 28 = 0 then s
      else
        match s.applyRepair die e true with
        | (s, none) => s.setSoft die (s.softOf die ++ [⟨e, true⟩])
        | (s, some _) => s.raise .ERR_REPAIR_RANGE (.die die) e) s

/-- A soft repair appended and applied (R663). -/
def State.softRepair (s : State) (die e : Nat) : State × Option Err :=
  if 2048 ≤ (s.softOf die).length then (s, some .ERR_REPAIR_RANGE)
  else
    match s.applyRepair die e false with
    | (s, none) => (s.setSoft die (s.softOf die ++ [⟨e, false⟩]), none)
    | (s, some r) => (s, some r)

/-- The soft entries of a die that no fuse holds. -/
def State.unfused (s : State) (die : Nat) : List SoftEntry := (s.softOf die).filter fun x => !x.fused

/-- Unfused entries burned in table order (R665); `bad`: fuse indices whose read-back mismatches, which the entry
leaves for the next index. -/
def State.burnEntries (s : State) (die : Nat) (bad : List Nat) : Nat → List SoftEntry → State
  | _, [] => s
  | 0, _ :: _ => s
  | fuel + 1, x :: r =>
    let l := s.fusesOf die
    if 2048 ≤ l.length then s
    else
      let s' := { s with str := { s.str with fuses := tabSet [] die (l ++ [x.bits]) s.str.fuses } }
      if bad.contains l.length then
        (s'.raise .ERR_FUSE_VERIFY (.die die) l.length).burnEntries die bad fuel (x :: r)
      else
        (s'.setSoft die ((s'.softOf die).map fun y => if y = x then { y with fused := true } else y)).burnEntries
          die bad fuel r

/-- FUSE_BURN on a die (R665); `inRange`: input voltage and die temperatures allow it. -/
def State.burnFuses (s : State) (die : Nat) (inRange : Bool) (bad : List Nat) : State × Option Err :=
  if s.rd .STR_CTRL_MAINT = 0 ∨ !inRange then (s, some .ERR_FUSE_STATE)
  else if 2048 < (s.fusesOf die).length + (s.unfused die).length then (s, some .ERR_FUSE_FULL)
  else (s.burnEntries die bad 2048 (s.unfused die), none)

end Sys2Proof.Machine
end

