-- ==== Sys2Proof/Machine/Startup.lean ====
section
/-! DEFINITION. Reset domains, power states and start-up (15, R699-R703; 17, R764, R776-R783). -/

set_option autoImplicit false

namespace Sys2Proof.Machine

open Sys2Proof

/-! ### Registers of a reset domain (R11, R776) -/

/-- Start-up and pins replaced. -/
def State.setStart (s : State) (u : StartUnit) : State := { s with start := u }

/-- The fields of a domain's registers with the number of cells that one unit has of each. -/
def domainFields (d : RegDomain) : List (Nat × Nat) :=
  (allRegs.filter fun r => (regRow r).domain == d).flatMap fun r => (regRow r).fields.map fun f => (f.ctorIdx, (regRow r).count)

/-- The registers of a domain at their reset values, for the units chosen. -/
def State.clearDomain (s : State) (d : RegDomain) (unit : Nat → Bool) : State :=
  let l := domainFields d
  { s with regs := s.regs.filter fun p => !l.any fun q => q.1 == p.1 % 512 && unit (p.1 / 512 / q.2) }

/-- Every unit of a domain. -/
def everyUnit (_ : Nat) : Bool := true

/-- A field at its reset value. -/
def State.rst (s : State) (f : Fld) (i : Nat := 0) : State := s.wr f (fldReset f i) i

/-! ### Alert causes and power states (R699, R763) -/

/-- ALERT_N is driven low (R763). -/
def State.alertLow (s : State) : Bool := decide (s.rd .GLB_ALERT_PEND &&& s.rd .GLB_ALERT_MASK_EN ≠ 0) && !s.start.alertQuiet

/-- FUM_STATUS.STATE changes, with its STATE record and alert cause (R699, R710, R763). -/
def State.setPower (s : State) (new cause : Nat) : State :=
  let old := s.powerState
  if old = new then s else ((s.wr .FUM_STATUS_STATE new).emitState old new cause).setPend 2

/-! ### Jobs and programs (R531) -/

/-- Any loaded program is unloaded: the sequencer is EMPTY; the synchronisation table is forgotten and every count stands. -/
def State.unloadProgram (s : State) : State :=
  let s := { s with
    seq := .empty, prog := none, seqRun := SeqRun.reset, frameFlags := 0, aborted := false, stepError := false, fills := []
    engines := [], bodies := 0
    sync := { s.sync with table := false, decls := [] }
    step := { s.step with table := none, complete := [], nonfinite := [], commitStart := none, voted := false, released := false, aborted := false, auth := [] }
    sin := { s.sin with table := none } }
  (s.wr .STEP_AUTH_QUEUED 0).wr .PWR_STATUS_OPPORTUNISTIC 0

/-- The joined job is left (R531). -/
def State.leaveJob (s : State) : State :=
  let s := { s with fab := { s.fab with job := none } }
  let s := ((s.wr .FAB_JOB_SIZE_SIZE 0).wr .FAB_JOB_RANK_RANK 0).wr .FAB_JOB_ID_ID 0
  let s := (List.range 3).foldl (fun (s : State) (i : Nat) => (s.wr .FAB_MESH_N_EVEN 0 i).wr .FAB_MESH_N_ODD 0 i) s
  s.wr .PWR_STATUS_FREE_RUN 0

/-! ### Units (R523, R777) -/

/-- A fabric port reset (R523): DOWN, its neighbour forgotten, its buffers empty; it retrains. -/
def State.resetPort (s : State) (p : Nat) : State :=
  let f := s.fab
  let drop := fun (l : List TxEntry) => l.filter fun e => e.transit != some p
  let f := { f with
    rx := tabSet [] p [] f.rx
    txq := ((tabSet [] p [] f.txq).map fun (q : Nat × List TxEntry) => (q.1, drop q.2)).filter fun q => !q.2.isEmpty
    drops := f.drops.filter fun d => d.port != p
    restart := tabSet false p false f.restart
    audited := tabSet false p false f.audited
    credit := f.credit.filter fun q => q.1 / 4 != p }
  { s.clearDomain .port (fun u => u == p) with
    fab := f, time := { s.time with reports := tabSet none p none s.time.reports } }

/-- A stream engine reset (R777). -/
def State.resetStream (s : State) (n : Nat) : State :=
  { s.clearDomain .streamEngine (fun u => u == n) with
    xfer := tabSet XferEng.reset (0x100 + n) XferEng.reset s.xfer
    vent := tabSet [] n [] s.vent
    inbound := s.inbound.filter fun i => i.engine != n
    engines := tabSet EngineRun.reset (0x100 + n) EngineRun.reset s.engines }

/-- An update engine reset (R777). -/
def State.resetUpdate (s : State) (n : Nat) : State :=
  { s.clearDomain .updateEngine (fun u => u == n) with
    xfer := tabSet XferEng.reset (0x110 + n) XferEng.reset s.xfer
    step := { s.step with ue := tabSet UeRun.reset n UeRun.reset s.step.ue }
    engines := tabSet EngineRun.reset (0x110 + n) EngineRun.reset s.engines }

/-- Both halves of the reduction engine reset (R777). -/
def State.resetReduction (s : State) : State :=
  { s.clearDomain .reduction everyUnit with
    red := []
    engines := tabSet EngineRun.reset 0x121 EngineRun.reset (tabSet EngineRun.reset 0x120 EngineRun.reset s.engines) }

/-! ### Domains (R776) -/

/-- Soft repairs that no fuse holds, as the flash keeps them (R665). -/
def State.repairStore (s : State) : Tab (List Nat) :=
  [0, 1].foldl (fun (t : Tab (List Nat)) (d : Nat) => tabSet [] d ((s.unfused d).map fun e => e.bits) t)
    ([] : Tab (List Nat))

/-- Requesters of the core domains whose locks their reset tears (R478): Sinter, the scrubber and the background services. -/
def coreRanks : List Nat := [5, 7, 8, 9, 10]

/-- What ends with the core domains: their locks, the program and the job. -/
def State.quiesceCore (s : State) : State :=
  let s := s.setStart { s.start with store := s.repairStore, coresUp := false }
  let s := coreRanks.foldl State.tearLocks s
  s.unloadProgram.leaveJob.wr .FAB_COORD_VALID 0

/-- The registers of the core domains at their reset values. -/
def State.clearCores (s : State) : State :=
  ((((s.clearDomain .tile everyUnit).clearDomain .streamEngine everyUnit).clearDomain .updateEngine everyUnit).clearDomain
    .port everyUnit |>.clearDomain .reduction everyUnit).clearDomain .sync everyUnit

/-- CORE_A and CORE_B reset (R776): every engine, tile, port and controller; the program, the job and, unless HBM has kept its
contents, memory with its allocations are lost. -/
def State.resetCore (s : State) (keepHbm : Bool) : State :=
  let s := s.quiesceCore.clearCores
  let kept := fun (c : Nat) => keepHbm && decide (c < hbmEnd)
  { s with
    mem := s.mem.filter fun p => kept p.1
    poison := s.poison.filter fun p => kept p.1
    allocs := if keepHbm then s.allocs else []
    descs := if keepHbm then s.descs else []
    policy := Policy.reset
    hbmReady := keepHbm && s.hbmReady
    tiles := [], tileMap := [], ve := [], vent := [], xfer := [], inbound := [], red := [], sramScrub := []
    sync := SyncUnit.reset
    fab := FabUnit.reset
    step := StepUnit.reset
    sin := SinUnit.reset
    str := { StrUnit.reset with fuses := s.str.fuses, spareBad := s.str.spareBad, result := s.str.result }
    time := { s.time with reports := [] }
    fum := { s.fum with ring := none, rank := none }
    pwr := { s.pwr with round := none, decision := none, level := 0, fall := false, skips := [], heavy := [], heavyNoted := [] } }

/-- STATE of a control processor in CP_STATUS: 0 RESET, 1 BOOTING, 2 RUNNING, 3 HELD. -/
def cpStateFld (d : Nat) : Fld := if d = 0 then .CP_STATUS_STATE_A else .CP_STATUS_STATE_B

/-- A control island reset (R776, R721): its core stops, and its SRAM holds no image until the boot ROM fills it again. -/
def State.resetCtrl (s : State) (d : Nat) : State :=
  ({ s with cp := { s.cp with cores := tabSet CpCore.reset d CpCore.reset s.cp.cores } }.wr (cpStateFld d) 0).tearLocks (d + 1)

/-- The host adapter domain reset (R734, R773): the rings and registers; pending commands of the ring run on and lose their
responses. MBX_STATUS reads BOOTING with version 0 (R11, R751) until Waily states itself again. -/
def State.resetHa (s : State) : State :=
  let u := s.mbx
  let s := (s.tearLocks 3).tearLocks 4
  let s := s.clearDomain .hostAdapter everyUnit
  let s := s.wr .MBX_RSP_LOST_COUNT u.finished.length
  (s.setMbx { u with
    cmds := u.cmds.map fun c => if c.smbus then c else { c with lost := true }
    finished := [], full := false, irqUntil := [], irqHeld := []
    lostTags := u.lostTags ++ u.finished.map fun r => r.tag }).setStart { s.start with haDue := none }

/-- Commands that are pending when the control islands and the host adapter lose power end without a response. -/
def State.dropCommands (s : State) : State := s.setMbx { s.mbx with cmds := [], finished := [] }

/-! ### Falling to STANDBY or DORMANT (R701, R703) -/

/-- Every domain but FUMAROLE loses its power. -/
def State.powerDown (s : State) (keepHbm : Bool) : State :=
  let s := ((s.resetCore keepHbm).resetCtrl 0).resetCtrl 1
  let s := s.resetHa.dropCommands
  let s := (s.wr .MBX_STATUS_STATE 5).wr .GLB_STARTUP_STEP 1
  let s := if keepHbm then s else { s with time := { s.time with state := .freerun } }
  s.setStart { s.start with stage := none, haUp := false, coreDue := none, haDue := none, waking := false, jtag := [] }

/-- FORCE_DOWN (R703): every rail but the standby rail goes off; `cause` as in RULE records, or 0xA0 + a rail stage (R779). -/
def State.forceDown (s : State) (cause : Nat) : State :=
  if s.powerState = 0 then s
  else
    let s := s.powerDown false
    let s := s.setStart { s.start with
      inputDown := cause == 0x80 || cause == 0x81, downHeld := true, downDue := true, fresh := false }
    (s.wr .FUM_STATUS_DOWN_CAUSE cause).setPower 1 cause

/-- SLEEP takes effect (R701): STANDBY (1) or DORMANT (2). -/
def State.fallAsleep (s : State) (st : Nat) : State :=
  let s := s.postAll.powerDown (st == 2)
  (s.setStart { s.start with downHeld := false, inputDown := false, fresh := false }).setPower st 0

/-! ### Rising (R700, R778) -/

/-- Start-up begins a step. -/
def State.beginStep (s : State) (k : Nat) : State :=
  (s.wr .GLB_STARTUP_STEP k).setStart { s.start with stepSince := s.tb }

/-- Steps 3 and 4 (R778): the cores at OP0 with the fuse repairs loaded, the host adapter when PERST_N is high, then the control
islands, which boot. `bad`: fuse indices of die A, then of die B from 2,048 on, whose ECC fails. -/
def State.releaseDomains (s : State) (bad : List Nat) : State :=
  let s := (s.beginStep 3).wr .PWR_STATUS_OP_NOW 0
  let s := s.setStart { s.start with stage := none, coresUp := true, haUp := s.rd .GLB_SIDEBAND_PERST_N == 1 }
  let s := (s.loadFuses 0 (bad.filter fun i => decide (i < 2048))).loadFuses 1 ((bad.filter fun i => decide (2048 ≤ i)).map fun i => i - 2048)
  let s := s.syncClear.beginStep 4
  ((s.wr .CP_STATUS_STATE_A 1).wr .CP_STATUS_STATE_B 1).wr .MBX_STATUS_STATE 1

/-- Step 2 begins: rail stage 0 (R779). -/
def State.beginRails (s : State) (cause : Nat) : State :=
  let s := ((s.wr .FUM_STATUS_WAKE_CAUSE cause).setPower 4 cause).beginStep 2
  s.setStart { s.start with stage := some 0, stageSince := s.tb, since := s.tb, fresh := false, waking := false, inputDown := false, downHeld := false }

/-- A wake source is accepted (R700, R703): after a FORCE_DOWN only once its rules have been inactive for 1 s. -/
def State.wakeAllowed (s : State) (bit : Nat) : Bool :=
  bitOf (s.rd .FUM_CTRL_WAKE_EN) bit && (s.powerState == 1 || s.powerState == 2) &&
    (!s.start.downHeld || match s.fum.calmSince with | some t => decide (tbPerSec + t ≤ s.tb) | none => false)

/-- A wake source (R700): bit 0 PCIE, 1 SMBUS, 2 RULE. From STANDBY start-up runs; from DORMANT the dies power up with HBM kept.
A source other than PCIe asserts WAKE_N in DORMANT. -/
def State.wake (s : State) (bit : Nat) : State :=
  if !s.wakeAllowed bit then s
  else
    let cause := 2 ^ bit
    if s.powerState = 2 then
      let s := ((s.wr .FUM_STATUS_WAKE_CAUSE cause).setPower 4 cause).wr .GLB_SIDEBAND_WAKE_LOW (b2n (bit != 0))
      (s.setStart { s.start with waking := true, since := s.tb, fresh := false }).releaseDomains []
    else
      let s := (s.wr .FUM_STATUS_WAKE_CAUSE cause).setPower 4 cause
      s.setStart { s.start with waking := false, fresh := true }

/-- A control island runs. -/
def State.cpRuns (s : State) (d : Nat) : Bool := s.rd (cpStateFld d) == 2

/-- The limit of a start-up step was missed: recorded, and start-up goes on (R778). -/
def State.stepLimit (s : State) (k limitS : Nat) : State :=
  if limitS * tbPerSec + s.start.stepSince < s.tb then s.raise .ERR_STARTUP (.die 0) k else s

/-- READY (R778): MBX_STATUS and, in a transition, ACTIVE. -/
def State.becomeReady (s : State) : State :=
  let s := (s.beginStep 7).wr .MBX_STATUS_STATE 2
  let s := s.wr .GLB_STARTUP_MS_MS ((s.tb - s.start.since) / (1000000 * tbPerNs))
  let s := s.setStart { s.start with waking := false }
  if s.powerState = 4 then s.setPower 3 (s.rd .FUM_STATUS_WAKE_CAUSE) else s

end Sys2Proof.Machine
end

