-- ==== Sys2Proof/Machine/FumRows.lean ====
section
/-! DEFINITION. The commands of the Fumarole island (15, R705-R713): samples and filters, rules, snapshots, delivery of
records. -/

set_option autoImplicit false

namespace Sys2Proof.Machine

open Sys2Proof

/-! ### Samples (R705, R706) -/

/-- Channels of the island (R705). -/
def chanCount : Nat := 49

/-- Insertion into a rising list. -/
def insertInt (x : Int) : List Int → List Int
  | [] => [x]
  | y :: r => if x ≤ y then x :: y :: r else y :: insertInt x r

/-- The median of five samples. -/
def medianOf (l : List Int) : Int := (l.foldr insertInt []).getD 2 0

/-- y after a median: signed 32-bit arithmetic with 16 fraction bits (R706). -/
def filterStep (k : Nat) (y m : Int) : Int :=
  toSigned 32 (ofSigned 32 (y + toSigned 32 (ofSigned 32 (m * 65536 - y)) / 2 ^ k))

/-- A channel after a raw sample; the first sample fills the filter. -/
def Chan.sample (c : Chan) (k : Nat) (x : Int) : Chan :=
  if c.samples.isEmpty then ⟨List.replicate 5 x, toSigned 32 (ofSigned 32 (x * 65536))⟩
  else
    let l := (x :: c.samples).take 5
    ⟨l, filterStep k c.y (medianOf l)⟩

/-- A raw sample of a channel, with what FUM_VAL shows. -/
def State.sampleChan (s : State) (c raw : Nat) : State :=
  let x : Int := if isTemp c then toSigned 16 raw else (raw : Int)
  let s := s.setFum { s.fum with chans := tabSet Chan.reset c ((s.chan c).sample (s.rd .FUM_FILT_K c) x) s.fum.chans }
  (s.wr .FUM_VAL_RAW raw c).wr .FUM_VAL_FILT (s.chanFilt c) c

/-! ### Rules (R707, R708) -/

/-- A rule's run-time state. -/
def State.ruleRun (s : State) (r : Nat) : RuleRun := tabGet RuleRun.reset r s.fum.rules

/-- A rule's run-time state replaced. -/
def State.setRule (s : State) (r : Nat) (v : RuleRun) : State :=
  s.setFum { s.fum with rules := tabSet RuleRun.reset r v s.fum.rules }

/-- The rules in the order of R708: H0 to H5, then 0 to 31. -/
def ruleKeys : List Nat := (List.range 6).map (· + 0x80) ++ List.range 32

/-- Channels that a rule watches. -/
def State.ruleChans (s : State) (r : Nat) : List Nat :=
  match r with
  | 0x80 | 0x81 | 0x82 => [0]
  | 0x83 => (List.range 16).map (· + 20)
  | 0x84 => (List.range 24).map (· + 20)
  | 0x85 => [45]
  | _ => [s.rd .FUM_RULE_CFG_CH r]

/-- Actions of a rule (R707, R708). -/
def State.ruleActions (s : State) (r : Nat) : Nat :=
  match r with
  | 0x80 | 0x81 => 0x11
  | 0x82 => 0x09
  | 0x83 => 0x13
  | 0x84 => 0x0B
  | 0x85 => 0x03
  | _ => s.rd .FUM_RULE_CFG_ACTIONS r

/-- Samples that a rule must hold. -/
def State.ruleHold (s : State) (r : Nat) : Nat :=
  match r with
  | 0x80 | 0x81 => 10
  | 0x82 => 3
  | 0x83 | 0x84 => 2
  | 0x85 => 5
  | _ => s.rd .FUM_RULE_CFG_HOLD r

/-- A fixed rule is always enabled (R707). -/
def State.ruleOn (s : State) (r : Nat) : Bool := decide (0x80 ≤ r) || s.rd .FUM_RULE_CFG_EN r == 1

/-- THRESH of a rule, with the fraction bits of y. -/
def State.ruleThresh (s : State) (r : Nat) : Int :=
  let v := s.rd .FUM_RULE_LIM_THRESH r
  (if isTemp (s.rd .FUM_RULE_CFG_CH r) then toSigned 16 v else (v : Int)) * 65536

/-- A channel's value meets a rule's condition (R707, R708). -/
def State.ruleMeets (s : State) (r c : Nat) : Bool :=
  let y := s.chanVal c
  match r with
  | 0x80 => decide (y < 3800 * 65536)
  | 0x81 => decide (6200 * 65536 < y)
  | 0x82 => decide (y < 4000 * 65536)
  | 0x83 => decide (115 * 16 * 65536 ≤ y)
  | 0x84 => decide (108 * 16 * 65536 ≤ y)
  | 0x85 => decide (70 * 16 * 65536 ≤ y)
  | _ => if s.rd .FUM_RULE_CFG_CMP r = 0 then decide (s.ruleThresh r < y) else decide (y < s.ruleThresh r)

/-- A channel's value clears an active rule (R707, R708). -/
def State.ruleClears (s : State) (r c : Nat) : Bool :=
  let y := s.chanVal c
  let h : Int := (s.rd .FUM_RULE_LIM_HYST r : Int) * 65536
  match r with
  | 0x80 => decide (3800 * 65536 ≤ y)
  | 0x81 => decide (y ≤ 6200 * 65536)
  | 0x82 => decide (4050 * 65536 < y)
  | 0x83 => decide (y < 110 * 16 * 65536)
  | 0x84 => decide (y < 103 * 16 * 65536)
  | 0x85 => decide (y < 65 * 16 * 65536)
  | _ => if s.rd .FUM_RULE_CFG_CMP r = 0 then decide (y < s.ruleThresh r - h) else decide (s.ruleThresh r + h < y)

/-- The channel of a rule that meets its condition; the first one where none does. -/
def State.ruleChan (s : State) (r : Nat) : Nat :=
  let l := s.ruleChans r
  (l.find? (s.ruleMeets r)).getD (l.getD 0 0)

/-- Whether an active rule has an action. -/
def State.anyActs (s : State) (bit : Nat) : Bool := ruleKeys.any fun r => (s.ruleRun r).active && bitOf (s.ruleActions r) bit

/-- THERM_N follows the active rules (R709). -/
def State.thermOut (s : State) : State :=
  let now := s.anyActs 1
  let was := s.rd .FUM_THERM_ASSERTED == 1
  let s := s.wr .FUM_THERM_ASSERTED (b2n now)
  if now && !was then s.raise .ERR_THERM (.die 0) else s

/-- PWR_ALERT.RULE follows the active rules (R693). -/
def State.ruleAlert (s : State) : State := s.alertLevel (s.rd .PWR_ALERT_LEVEL % 16 + 16 * b2n (s.anyActs 3))

/-- Since when every rule with FORCE_DOWN has been inactive (R703). -/
def State.noteCalm (s : State) : State :=
  let t := if s.anyActs 4 then none else some (s.fum.calmSince.getD s.tb)
  s.setFum { s.fum with calmSince := t }

/-- What follows the set of active rules. -/
def State.ruleOutputs (s : State) : State := s.thermOut.ruleAlert.noteCalm

/-- A rule evaluated at a sample of its channels (R707, R708): its count, and whether it stays active. -/
def State.evalRule (s : State) (r : Nat) : State :=
  let l := s.ruleChans r
  let v := s.ruleRun r
  let meet := s.ruleOn r && l.any (s.ruleMeets r)
  let stay := v.active && s.ruleOn r && !l.all (s.ruleClears r)
  let s := s.setRule r ⟨if meet then min 255 (v.count + 1) else 0, stay⟩
  if r < 32 then s.wr .FUM_RULE_STAT_ACTIVE (b2n stay) r else s

/-- SENSOR_SAMPLE (R705-R708): raw values of channels, and the rules of those channels. -/
def execSensorSample (samples : List (Nat × Nat)) (s : State) : Res :=
  let l := if s.powerState = 0 then [] else samples.filter fun p => decide (p.1 < chanCount) && p.1 != 19
  let s := l.foldl (fun (s : State) (p : Nat × Nat) => s.sampleChan p.1 p.2) s
  let due := ruleKeys.filter fun r => (s.ruleChans r).any fun c => l.any fun p => p.1 == c
  .next (due.foldl State.evalRule s).ruleOutputs

/-- The record of a rule that fires (R710). -/
def State.ruleRecord (s : State) (r c : Nat) : State :=
  let v := if isTemp c then ofSigned 32 (toSigned 16 (s.chanFilt c)) else s.chanFilt c
  s.emitRec 3 0 (leBytes 1 r ++ leBytes 1 c ++ leBytes 1 (s.ruleActions r) ++ leBytes 1 0 ++ leBytes 4 v)

/-- A rule becomes active. -/
def State.activate (s : State) (r : Nat) : State :=
  let s := s.setRule r { s.ruleRun r with active := true }
  if r < 32 then (s.wr .FUM_RULE_STAT_ACTIVE 1 r).bump .FUM_RULE_STAT_HITS 1 r else s

/-- FUMAROLE_RULE_FIRE (R708): a rule whose condition has held for HOLD samples fires. -/
def execFumaroleRuleFire (rule : Nat) (s : State) : Res :=
  let v := s.ruleRun rule
  if v.active = true ∨ s.ruleOn rule = false ∨ v.count < s.ruleHold rule ∨ s.powerState = 0 then .next s
  else
    let c := s.ruleChan rule
    let a := s.ruleActions rule
    let s := s.activate rule
    let s := if bitOf a 0 then (s.raise .ERR_RULE_HIT (.channel c) c).ruleRecord rule c else s
    let s := s.ruleOutputs
    let s := if bitOf a 4 then s.forceDown rule else s
    .next (if bitOf a 5 then s.wake 2 else s)

/-! ### Snapshots and delivery (R711, R712) -/

/-- The filtered values of a SENSOR record; reserved channels read 0. -/
def State.sensorBody (s : State) (sub : Nat) : List Byte :=
  (List.range 20).flatMap fun i =>
    let c := 20 * sub + i
    leBytes 2 (if c < chanCount ∧ c ≠ 19 then s.chanFilt c else 0)

/-- SENSOR_SNAPSHOT (R711): three records of one stamp, SENSOR_PERIOD × 10 ms after the last. -/
def execSensorSnapshot (s : State) : Res :=
  let p := s.rd .FUM_REC_CTRL_SENSOR_PERIOD
  if p = 0 ∨ s.powerState = 0 then .next s
  else
    let s := s.advanceTime (s.fum.snapLast + p * 10000000 * tbPerNs)
    let s := s.setFum { s.fum with snapLast := s.tb }
    .next ((List.range 3).foldl (fun (s : State) (i : Nat) => s.emitRec 2 i (s.sensorBody i)) s)

/-- The ring has room for a record (R712). -/
def State.ringRoom (s : State) (entries seq : Nat) : Bool :=
  decide ((2 ^ 32 + seq - s.rd .FUM_REC_CONS_CONS) % 2 ^ 32 < entries)

/-- Records written to the ring, oldest first, as far as it has room (R712): the rest, and how many. -/
def State.writeRing (s : State) (base entries : Nat) : List TeleRec → State × List TeleRec × Nat
  | [] => (s, [], 0)
  | r :: l =>
    if !r.toRing then let (s, k, n) := s.writeRing base entries l; (s, r :: k, n)
    else if s.ringRoom entries r.seq then
      let (s, k, n) := (s.stBytes (base + r.seq % entries * 64) r.bytes).writeRing base entries l
      (s, { r with toRing := false } :: k, n + 1)
    else (s, r :: l, 0)

/-- Up to 32 records sent to the fabric rank in one message (R712). -/
def State.sendRecords (s : State) (rank : Nat) : State :=
  let l := (s.fum.recs.filter fun r => r.toRank).take 32
  if l.isEmpty ∨ s.fab.job.isNone then s
  else
    let m := msgPlain 10 3 (s.coordOfRank rank) 0 0 0 (l.flatMap TeleRec.bytes)
    let s := s.setFum { s.fum with recs := s.fum.recs.map fun r => if l.contains r then { r with toRank := false } else r }
    s.present m .first none

/-- Records that every destination has leave the buffer. -/
def State.dropDelivered (s : State) : State :=
  let u := s.fum
  if u.ring.isNone && u.rank.isNone then s
  else s.setFum { u with recs := u.recs.filter fun r => (r.toRing && u.ring.isSome) || (r.toRank && u.rank.isSome) }

/-- TELEMETRY_DELIVER (R712, R713): while ACTIVE, buffered records go to the ring and to the rank; a batch written to the ring raises
vector 2. -/
def execTelemetryDeliver (s : State) : Res :=
  if s.powerState ≠ 3 then .next s
  else
    let s := match s.fum.ring with
      | some (base, n) =>
        let (t, l, k) := s.writeRing base n s.fum.recs
        let t := t.setFum { t.fum with recs := l }
        if k = 0 then t else t.event 2
      | none => s
    let s := match s.fum.rank with | some r => s.sendRecords r | none => s
    .next s.dropDelivered

/-- TELEMETRY_SUBSCRIBE (R712): a ring in a HOST allocation (handle 0 for none), a fabric rank (0xFFFF for none). -/
def State.subscribe (s : State) (handle off entries rank tag : Nat) : State × Answer :=
  let ring := match s.allocOf handle with
    | some a => if a.kind = 4 ∧ 1 ≤ entries ∧ off + 64 * entries ≤ a.size then some (a.base + off, entries) else none
    | none => none
  if (handle ≠ 0 ∧ ring = none) ∨ (rank ≠ 0xFFFF ∧ s.rd .FAB_JOB_SIZE_SIZE ≤ rank) then (s, .fail .ERR_MBX_STATE tag)
  else (s.setFum { s.fum with ring := ring, rank := if rank = 0xFFFF then none else some rank }, .ok 0)

/-- TELEMETRY_SUBSCRIBE (R712, R737). -/
def execTelemetrySubscribe (tag handle off entries rank : Nat) (s : State) : Res :=
  .next (s.serve 0x33 tag fun s => s.subscribe handle off entries rank tag)

end Sys2Proof.Machine
end

