-- ==== Sys2Proof/Machine/StartRows.lean ====
section
/-! DEFINITION. The commands of power and start-up, of the host adapter's resets, of pins, watchdogs and the boot ROM (15,
R699-R703; 16, R717-R725; 17). -/

set_option autoImplicit false

namespace Sys2Proof.Machine

open Sys2Proof

/-! ### 48 V (R699, R761, R778) -/

/-- The module with 48 V removed: what the flash, the fuses and the host keep. -/
def State.unpowered (s : State) : State :=
  { State.reset with
    hostMem := s.hostMem
    cp := { CpUnit.reset with slots := s.cp.slots, directory := s.cp.directory, svnBurned := s.cp.svnBurned, history := s.cp.history }
    str := { StrUnit.reset with fuses := s.str.fuses }
    start := { StartUnit.reset with fru := s.start.fru, store := if s.start.coresUp then s.repairStore else s.start.store }
    free := s.free
    pending := s.pending }

/-- POWER_REMOVED (R699): OFF. -/
def execPowerRemoved (s : State) : Res := .next ((s.unpowered.wr .FUM_STATUS_STATE 0).wr .MBX_STATUS_STATE 0)

/-- The fused security version, as FW_UPDATE has advanced it (R725). -/
def State.svn (s : State) : Nat := max (Config.svnFused % 2 ^ 8) s.cp.svnBurned

/-- POWER_APPLIED (R778, step 1; R764): FUMAROLE is released into STANDBY with SLOT_ID latched. -/
def execPowerApplied (slotId : Nat) (perst : Bool) (s : State) : Res :=
  if s.powerState ≠ 0 then .next s
  else
    let s := ((s.unpowered.wr .GLB_STRAPS_SLOT_ID slotId).wr .GLB_SIDEBAND_PERST_N (b2n perst)).wr .CP_BOOT_SVN_FUSED s.svn
    .next (s.setStart { s.start with slotPins := slotId })

/-! ### Start-up (R778-R783) -/

/-- STARTUP_RAILS (R778, step 2): after 48 V has been applied, wake cause 3; or after a wake from STANDBY. -/
def execStartupRails (s : State) : Res :=
  if s.start.fresh = false ∨ s.start.stage.isSome = true then .next s
  else if s.powerState = 1 ∧ s.anyActs 4 = false then .next (s.beginRails 8)
  else if s.powerState = 4 then .next (s.beginRails (s.rd .FUM_STATUS_WAKE_CAUSE))
  else .next s

/-- RAIL_STAGE_SETTLED (R779): the next stage, or steps 3 and 4. -/
def execRailStageSettled (bad : List Nat) (s : State) : Res :=
  match s.start.stage with
  | none => .next s
  | some k => if k < 7 then .next (s.setStart { s.start with stage := some (k + 1), stageSince := s.tb }) else .next (s.releaseDomains bad)

/-- Channels of the rails of a stage (R705, R779). -/
def railChan (k : Nat) (second : Bool) : Nat :=
  match k with
  | 0 => 2 | 1 => 17 | 2 => 14 | 3 => 12
  | 4 => if second then 16 else 15
  | 5 => if second then 10 else 8
  | 6 => 4 | _ => 6

/-- RAIL_SETTLE_TIMEOUT (R779): a rail has not settled within 5 ms; in a stage of two rails, the first or the second. -/
def execRailSettleTimeout (second : Bool) (s : State) : Res :=
  match s.start.stage with
  | none => .next s
  | some k =>
    let s := s.advanceTime (s.start.stageSince + 5000000 * tbPerNs)
    let c := railChan k second
    .next ((s.raise .ERR_RAIL_FAIL (.channel c) c).forceDown (0xA0 + k))

/-! ### Full self-test (R666) -/

/-- Every tile as its test leaves it: its maps kept, nothing else; caches in MAINT also the activation store (R657). -/
def State.wipeTest (s : State) (store : Bool) : State :=
  let gone := fun (c : Nat) => decide (0x031000000000 ≤ c) || (store && decide (hbmEnd ≤ c))
  let s := s.clearDomain .tile everyUnit
  let flat := s.tiles.map fun (q : Nat × Tile) => (q.1, { Tile.reset with rowmap := q.2.rowmap, feedDly := q.2.feedDly })
  { s with
    tiles := flat.filter fun q => q.2 != Tile.reset
    ve := []
    mem := s.mem.filter fun q => !gone q.1
    poison := s.poison.filter fun q => !gone q.1 }

/-- A tile passed all sixteen slices. -/
def State.passAll (s : State) (p : Nat) : State :=
  s.setPt p { s.pt p with tested := true, passed := 0xFFFF, failed := 0 }

/-- A tile failed a slice of the full test; the position of an ACTIVE one is taken over when the test ends. -/
def State.failFull (s : State) (p slice misr : Nat) : State :=
  let s := (s.raise .ERR_BIST_FAIL (.ptile p) slice misr).setResult 2 p slice
  let pos := s.tileOfPt p
  let s := s.failTile p slice (s.repairableBy p slice false)
  match pos with
  | some t => { s with str := { s.str with takeovers := s.str.takeovers ++ [⟨t, 0⟩] } }
  | none => s

/-- The full self-test with its failures: tile, slice, MISR (R666). -/
def State.bistFull (s : State) (fails : List (Nat × Nat × Nat)) : State :=
  let s := (s.syncClear.wipeTest (s.rd .STR_CTRL_MAINT == 1)).bump .STR_SLICES_RUN_COUNT (16 * 272)
  let s := (List.range 272).foldl (fun (s : State) (p : Nat) =>
    if (s.pt p).state = .failed ∨ (fails.any fun f => f.1 == p) = true then s else s.passAll p) s
  let s := { s with str := { s.str with prefilled := [] } }
  (fails.foldl (fun (s : State) (f : Nat × Nat × Nat) =>
    if (s.pt f.1).state = .failed then s else s.failFull f.1 f.2.1 f.2.2) s).takeoverStep

/-- Soft repairs replayed from the flash (R778, step 5). -/
def State.replayRepairs (s : State) : State :=
  [0, 1].foldl (fun (s : State) (d : Nat) =>
    (tabGet ([] : List Nat) d s.start.store).foldl (fun (s : State) (e : Nat) =>
      match s.softRepair d e with
      | (s, none) => s
      | (s, some x) => s.raise x (.die d) e) s) s

/-- STARTUP_MEMORY_DONE (R778, step 5; R783): stacks that failed, and failures of the full self-test. -/
def execStartupMemoryDone (badStacks : List Nat) (fails : List (Nat × Nat × Nat)) (s : State) : Res :=
  if s.rd .GLB_STARTUP_STEP ≠ 5 then .next s
  else
    let s := s.replayRepairs
    let s := badStacks.foldl (fun (s : State) (n : Nat) => s.raise .ERR_HBM_TRAIN (.die (n / 8)) n) s
    let s := { s.bistFull fails with mem := [], poison := [], hbmReady := true }
    let s := s.setStart { s.start with hbmBad := badStacks }
    .next ((s.stepLimit 5 25).beginStep 6)

/-- STARTUP_READY (R778, step 6). -/
def execStartupReady (s : State) : Res :=
  if s.rd .GLB_STARTUP_STEP ≠ 6 ∨ s.start.waking = true then .next s else .next ((s.stepLimit 6 5).becomeReady)

/-- WAKE_COMPLETE (R700): a wake from DORMANT ends, with HBM out of self-refresh and the ports retrained. -/
def execWakeComplete (s : State) : Res :=
  if s.rd .GLB_STARTUP_STEP ≠ 6 ∨ s.start.waking = false then .next s else .next s.becomeReady

/-- BROWNOUT_RESTART (R782): VIN has lain in range for 1 s after a FORCE_DOWN by H0 or H1. -/
def execBrownoutRestart (s : State) : Res :=
  if s.start.inputDown = false ∨ s.powerState ≠ 1 ∨ s.anyActs 4 = true then .next s
  else
    let recent := s.start.restarts.filter fun t => decide (s.tb < 60 * tbPerSec + t)
    if 3 ≤ recent.length then .next ((s.setStart { s.start with inputDown := false }).raise .ERR_BROWNOUT_HOLD (.die 0))
    else
      let s := (s.setStart { s.start with restarts := recent ++ [s.tb] }).bump .GLB_STARTUP_RESTARTS
      .next (s.beginRails 8)

/-! ### The boot ROM (R722-R724) -/

/-- An image slot of the flash. -/
def State.flashSlot (s : State) (k : Nat) : FlashSlot := tabGet ⟨[], []⟩ k s.cp.slots

/-- Bytes of an image header. -/
def FlashSlot.part (f : FlashSlot) (off n : Nat) : List Byte := (f.header.drop off).take n

/-- A field of an image header. -/
def FlashSlot.field (f : FlashSlot) (off n : Nat) : Nat := leNat (f.part off n)

/-- The first check of R723 that a slot fails, against a security version. -/
def FlashSlot.firstFail (f : FlashSlot) (svn : Nat) : Option Nat :=
  if f.header.length ≠ 512 ∨ f.field 0 4 ≠ 0x594C4957 ∨ 2 ≤ f.field 6 2 ∨ f.field 9 7 ≠ 0 ∨ f.field 0x1C 4 ≠ 0 ∨ f.field 0x110 240 ≠ 0
  then some 1
  else if Config.sha384 (f.part 0x50 96) ≠ Config.rootKeyHash then some 2
  else if Config.ecdsaOk (f.part 0x50 96) (f.part 0xB0 96) (Config.sha384 (f.part 0 0xB0)) = false then some 3
  else if Config.sha384 (f.body.take (f.field 0x10 4)) ≠ f.field 0x20 48 then some 4
  else if f.field 8 1 < svn then some 5
  else none

/-- The slots in the order of R723: failures recorded, and the first slot accepted. -/
def State.bootSlots (s : State) : State × Option Nat :=
  let first := s.cp.directory
  let s := s.wr .CP_BOOT_FAILED 0
  [first, 1 - first].foldl (fun (r : State × Option Nat) (k : Nat) =>
    match r.2 with
    | some _ => r
    | none =>
      match (r.1.flashSlot k).firstFail r.1.svn with
      | none => (r.1, some k)
      | some c => ((r.1.wr .CP_BOOT_FAILED (r.1.rd .CP_BOOT_FAILED ||| 2 ^ k)).raise .ERR_BOOT_IMAGE (.cp 0) (k + 256 * c), none))
    (s, none)

/-- A control island waits for its boot ROM. -/
def State.cpBooting (s : State) (d : Nat) : Bool := decide (s.rd (cpStateFld d) < 2)

/-- A control island starts Waily; its watchdog runs from now (R719). -/
def State.startIsland (s : State) (d : Nat) : State :=
  { s.wr (cpStateFld d) 2 with
    cp := { s.cp with kicked := tabSet 0 d s.tb s.cp.kicked }
    str := { s.str with keysCleared := tabSet false d false s.str.keysCleared } }

/-- The boot ROM fills a core's SRAM with the accepted body and names the entry point of its die (R722, R723). -/
def State.fillSram (s : State) (d : Nat) (body : List Byte) (entry : Nat) : State :=
  { s with cp := { s.cp with cores := tabSet CpCore.reset d ⟨body.take cpSramBytes, entry⟩ s.cp.cores } }

/-- MBX_STATUS shows the version of the image in a slot (R722, R751). -/
def State.showVersion (s : State) (f : FlashSlot) : State :=
  (s.wr .MBX_STATUS_MAJOR (f.field 4 1)).wr .MBX_STATUS_MINOR (f.field 5 1)

/-- An accepted image starts the islands that wait; die B's is held when its copy does not hash to BODY_HASH (R723). -/
def State.startIslands (s : State) (k : Nat) (copyOk : Bool) : State :=
  let f := s.flashSlot k
  let body := f.body.take (f.field 0x10 4)
  let s := (s.wr .CP_BOOT_SLOT k).showVersion f
  let s := if s.cpBooting 0 then (s.fillSram 0 body (f.field 0x14 4)).startIsland 0 else s
  if s.cpBooting 1 then
    if copyOk then (s.fillSram 1 body (f.field 0x18 4)).startIsland 1
    else ((s.fillSram 1 (Config.spoiltCopy body) 0).wr .CP_STATUS_STATE_B 3).raise .ERR_BOOT_IMAGE (.cp 1) (k + 256 * 4)
  else s

/-- Waily has started at step 4: the cause of a FORCE_DOWN is logged (R703), and memory or, after DORMANT, the links follow. -/
def State.firmwareUp (s : State) : State :=
  let s := if s.start.downDue then
      (s.setStart { s.start with downDue := false }).raise .ERR_FORCE_DOWN (.die 0) (s.rd .FUM_STATUS_DOWN_CAUSE)
    else s
  s.beginStep (if s.start.waking then 6 else 5)

/-- CONTROL_ISLAND_BOOT (R720, R723, R724): the islands released from reset boot. -/
def execControlIslandBoot (copyOk : Bool) (s : State) : Res :=
  if s.start.coresUp = false ∨ (s.cpBooting 0 = false ∧ s.cpBooting 1 = false) then .next s
  else
    let startup := s.rd .GLB_STARTUP_STEP == 4
    match s.bootSlots with
    | (s, none) =>
      let s := (s.wr .CP_BOOT_SLOT 3).raise .ERR_BOOT_FAIL (.cp 0)
      .next (if startup then s.wr .MBX_STATUS_STATE 3 else s)
    | (s, some k) =>
      let s := s.startIslands k copyOk
      .next (if startup then s.firmwareUp
        else if s.mbxState = 1 ∧ s.rd .GLB_STARTUP_STEP = 7 ∧ s.cpRuns s.cpPrimary = true then s.wr .MBX_STATUS_STATE 2
        else s)

/-! ### Watchdogs (R719-R721) -/

/-- Waily running as PRIMARY states itself in MBX_STATUS again after a reset of the host adapter domain has put it to BOOTING
(R734, R751). No rule says when: DESIGN CHOICE (log 75), at its next kick. -/
def State.restate (s : State) (h : Nat) : State :=
  if s.cpPrimary = h ∧ s.mbxState = 1 ∧ s.rd .GLB_STARTUP_STEP = 7 then
    (s.showVersion (s.flashSlot (s.rd .CP_BOOT_SLOT))).wr .MBX_STATUS_STATE 2
  else s

/-- CP_KICK_WRITE (R719): a control processor restarts its own watchdog. -/
def execCpKickWrite (h : Nat) (s : State) : Res :=
  if s.cpRuns h then .next ({ s with cp := { s.cp with kicked := tabSet 0 h s.tb s.cp.kicked } }.restate h) else .next s

/-- Commands that had started and not ended end INTERRUPTED (R721). -/
def State.interrupt (s : State) : State :=
  (s.mbx.cmds.filter fun c => c.started).foldl (fun (s : State) (c : MbxCmd) =>
    (s.raise .ERR_CMD_INTERRUPTED (.cp s.cpPrimary) c.tag).endCmd c.op c.tag 3 0 0) s

/-- Address of the log. -/
def logBase : Nat := 0x00BF08000000
/-- Records of the log's ring. -/
def logSize : Nat := 65536
/-- Records of the persistent history (R749). -/
def historySize : Nat := 32768

/-- Records kept in the flash history, the oldest overwritten first (R749). -/
def State.keepHistory (s : State) (l : List (List Byte)) : State :=
  let h := s.cp.history ++ l
  { s with cp := { s.cp with history := h.drop (h.length - historySize) } }

/-- Records of the log of the last 10 s that the history does not hold already (R749). -/
def State.recentLog (s : State) : List (List Byte) :=
  let n := s.rd .ERRLOG_PROD_COUNT
  let l := (List.range (min n logSize)).map fun i => s.ldBytes (logBase + (n - min n logSize + i) % logSize * 32) 32
  l.filter fun b =>
    decide (s.tb ≤ 10 * tbPerSec + timeOfStamp (leNat ((b.drop 4).take 12))) && decide (bitsOf (leNat ((b.drop 2).take 2)) 2 0 < 3)

/-- The watchdog of the primary expired: the other core becomes PRIMARY; with none that runs, no command is served (R719, R720). -/
def State.takeRole (s : State) (h : Nat) : State :=
  let o := 1 - h
  let s := (s.wr .CP_STATUS_PRIMARY o).bump .CP_TAKEOVERS_COUNT
  if s.cpRuns o then (s.keepHistory s.recentLog).interrupt else (s.raise .ERR_NO_FIRMWARE (.cp h)).wr .MBX_STATUS_STATE 1

/-- WATCHDOG_EXPIRE (R719, R720): CP_WDOG_MS ms without a kick; the third expiry of a die within 600 s holds its island. -/
def execWatchdogExpire (h : Nat) (s : State) : Res :=
  if s.cpRuns h = false then .next s
  else
    let s := s.advanceTime (tabGet 0 h s.cp.kicked + s.rd .CP_WDOG_MS_PERIOD * 1000000 * tbPerNs)
    let past := s.cp.expiries.filter fun e => e.1 == h && decide (s.tb < 600 * tbPerSec + e.2)
    let s := { s with cp := { s.cp with expiries := s.cp.expiries ++ [(h, s.tb)] } }
    let s := (s.resetCtrl h).bump (if h = 0 then .CP_WDOG_EXPIRED_DIE_A else .CP_WDOG_EXPIRED_DIE_B)
    let s := if 2 ≤ past.length then s.wr (cpStateFld h) 3 else s
    let s := s.raise .ERR_CP_WDOG (.cp h)
    .next (if s.cpPrimary = h then s.takeRole h else s)

/-! ### RESET_DOMAIN (R777) -/

/-- RESET_DOMAIN 0x0001: the secondary control island reboots. -/
def State.resetSecondary (s : State) (tag : Nat) : State × Answer :=
  let d := 1 - s.cpPrimary
  if s.rd (cpStateFld d) = 3 then (s, .fail .ERR_MBX_STATE tag) else ((s.resetCtrl d).wr (cpStateFld d) 1, .ok 0)

/-- RESET_DOMAIN of the secondary control island (R777). -/
def execResetDomainSecondaryCp (tag : Nat) (s : State) : Res := .next (s.serve 0x60 tag fun s => s.resetSecondary tag)

/-- RESET_DOMAIN 0x0002: the reset follows 10 ms after the response. -/
def State.resetModule (s : State) (tag : Nat) : State × Answer :=
  if (s.seq = .empty ∨ s.seq = .stopped) ∧ s.rd .FAB_JOB_SIZE_SIZE = 0 then
    (s.setStart { s.start with coreDue := some (s.tb + 10000000 * tbPerNs) }, .ok 0)
  else (s, .fail .ERR_MBX_STATE tag)

/-- RESET_DOMAIN of MODULE_CORE (R777). -/
def execResetDomainModuleCore (tag : Nat) (s : State) : Res := .next (s.serve 0x60 tag fun s => s.resetModule tag)

/-- MODULE_CORE_RESET_EFFECT (R777): the core and control domains and the host adapter reset; start-up runs from step 3. -/
def execModuleCoreResetEffect (bad : List Nat) (s : State) : Res :=
  match s.start.coreDue with
  | none => .next s
  | some t =>
    let s := (s.advanceTime t).postAll
    let s := (((s.resetCore false).resetCtrl 0).resetCtrl 1).resetHa.dropCommands
    .next ((s.setStart { s.start with coreDue := none, since := s.tb }).releaseDomains bad)

/-- RESET_DOMAIN 0x0010 + unit: a fabric port; codes past the last port are outside the table. -/
def State.resetPortCode (s : State) (unit tag : Nat) : State × Answer :=
  if unit < 18 then (s.resetPort unit, .ok 0) else (s, .fail .ERR_RESET_DOMAIN tag)

/-- RESET_DOMAIN of a fabric port (R777, R523). -/
def execResetDomainPort (tag unit : Nat) (s : State) : Res := .next (s.serve 0x60 tag fun s => s.resetPortCode unit tag)

/-- The condition of an engine's reset (R777). -/
def State.engineReset (s : State) (tag : Nat) (f : State → State) : State × Answer :=
  if s.seqFree then (f s, .ok 0) else (s, .fail .ERR_MBX_STATE tag)

/-- RESET_DOMAIN of a stream engine (R777). -/
def execResetDomainStreamEngine (tag n : Nat) (s : State) : Res :=
  .next (s.serve 0x60 tag fun s => s.engineReset tag fun s => s.resetStream n)

/-- RESET_DOMAIN of an update engine (R777). -/
def execResetDomainUpdateEngine (tag n : Nat) (s : State) : Res :=
  .next (s.serve 0x60 tag fun s => s.engineReset tag fun s => s.resetUpdate n)

/-- RESET_DOMAIN of the reduction engine (R777). -/
def execResetDomainReduction (tag : Nat) (s : State) : Res :=
  .next (s.serve 0x60 tag fun s => s.engineReset tag State.resetReduction)

/-- RESET_DOMAIN of the host adapter (R777): 1 ms after the response. -/
def execResetDomainHostAdapter (tag : Nat) (s : State) : Res :=
  .next (s.serve 0x60 tag fun s => (s.setStart { s.start with haDue := some (s.tb + 1000000 * tbPerNs) }, .ok 0))

/-! ### SLEEP and WAKE (R700-R702) -/

/-- SLEEP accepted into STANDBY (1) or DORMANT (2). -/
def State.sleepInto (s : State) (st tag : Nat) : State × Answer :=
  if s.powerState = 3 ∧ (s.seq = .empty ∨ s.seq = .stopped) ∧ s.rd .FAB_JOB_SIZE_SIZE = 0 then
    (s.setStart { s.start with sleepDue := some st }, .ok 0)
  else (s, .fail .ERR_PWR_STATE tag)

/-- An accepted SLEEP takes effect once its response is posted. -/
def State.sleepNow (s : State) : State :=
  match s.start.sleepDue with
  | some st => (s.setStart { s.start with sleepDue := none }).fallAsleep st
  | none => s

/-- SLEEP STANDBY (R701, R737). -/
def execSleepStandby (tag : Nat) (s : State) : Res := .next (s.serve 0x61 tag fun s => s.sleepInto 1 tag).sleepNow

/-- SLEEP DORMANT (R701, R737). -/
def execSleepDormant (tag : Nat) (s : State) : Res := .next (s.serve 0x61 tag fun s => s.sleepInto 2 tag).sleepNow

/-- WAKE (R700, R702). -/
def State.wakeCommand (s : State) (tag : Nat) : State × Answer :=
  if s.powerState = 3 then (s, .fail .ERR_MBX_STATE tag)
  else if s.wakeAllowed 1 then (s.wake 1, .ok 0)
  else (s, .fail .ERR_PWR_STATE tag)

/-- WAKE (R700, R736, R737). -/
def execWake (tag : Nat) (s : State) : Res := .next (s.serve 0x62 tag fun s => s.wakeCommand tag)

/-! ### The host's link (R773, R775) -/

/-- PCIE_LINK_REQUEST (R775): a rising edge on PERST_N, or an electrical-idle exit on lane 0, which only DORMANT sees. -/
def execPcieLinkRequest (perst : Bool) (s : State) : Res :=
  if s.powerState = 0 then .next s
  else
    let s := if perst then s.wr .GLB_SIDEBAND_PERST_N 1 else s
    let s := if perst && s.start.coresUp then s.setStart { s.start with haUp := true } else s
    .next (if perst || s.powerState == 2 then s.wake 0 else s)

/-- HOST_ADAPTER_RESET (R773, R777). -/
def execHostAdapterReset (cause : HaReset) (s : State) : Res :=
  match cause with
  | .perst =>
    let s := s.wr .GLB_SIDEBAND_PERST_N 0
    .next (if s.start.haUp then (s.setStart { s.start with haUp := false }).resetHa else s)
  | .hotReset | .flr => .next (if s.start.haUp then s.resetHa else s)
  | .scheduled =>
    match s.start.haDue with
    | some t => .next ((s.advanceTime t).postAll.resetHa)
    | none => .next s

/-- A PCIe link that is down: the domain resets, and the event is counted and recorded. -/
def State.linkDown (s : State) : State := (s.resetHa.bump .HA_LINK_EVENTS_DOWNS).raise .ERR_PCIE_LINK (.die 0)

/-- PCIE_LINK_EVENT (R773): the link's rate (0 for down), width, Flit mode and L0p now. -/
def execPcieLinkEvent (speed width : Nat) (flit l0p : Bool) (s : State) : Res :=
  let up := s.rd .HA_STATUS_LINK_UP == 1
  if s.start.haUp = false then .next s
  else if speed = 0 then .next (if up then s.linkDown else s)
  else
    let changed := up && (s.rd .HA_STATUS_SPEED != speed || s.rd .HA_STATUS_WIDTH != width)
    let s := if changed then (s.bump .HA_LINK_EVENTS_CHANGES).raise .ERR_PCIE_LINK (.die 0) speed width else s
    let s := ((s.wr .HA_STATUS_SPEED speed).wr .HA_STATUS_WIDTH width).wr .HA_STATUS_FLIT (b2n flit)
    .next (((s.wr .HA_STATUS_L0P (b2n l0p)).wr .HA_STATUS_LINK_UP 1).wr .GLB_SIDEBAND_WAKE_LOW 0)

/-! ### Pins, SMBus, test port (R762-R765) -/

/-- SLOT_ID_CHANGE (R764): the pins change after latching. -/
def execSlotIdChange (slotId : Nat) (s : State) : Res :=
  if s.powerState = 0 ∨ slotId = s.start.slotPins then .next s
  else
    let s := s.setStart { s.start with slotPins := slotId }
    .next (((s.wr .GLB_STRAPS_CHANGED 1).raise .ERR_STRAP_CHANGE (.die 0)).setPend 3)

/-- SMBUS_ALERT_RESPONSE (R763). -/
def execSmbusAlertResponse (s : State) : Res :=
  .next (if s.alertLow then s.setStart { s.start with alertQuiet := true } else s)

/-- SMBUS_ARP (R762). -/
def execSmbusArp (addr : Nat) (s : State) : Res := .next (if s.powerState = 0 then s else s.setStart { s.start with smbAddr := addr })

/-- IDCODE of a die's TAP (R766): stepping, part number, Stedebel's JEP106 code, and 1. -/
def idcode (d : Nat) : BitVec 32 :=
  (Config.stepping d).setWidth 32 <<< 28 ||| BitVec.ofNat 32 (0x5160 + d) <<< 12 ||| Config.jep106.setWidth 32 <<< 1 ||| 1

/-- The value that a die's TAP delivers when IDCODE is its instruction (R765, R766). -/
def State.tapId (s : State) (d : Nat) : Option (BitVec 32) :=
  if tabGet jtagIdcode d s.start.jtag = jtagIdcode then some (idcode d) else none

/-- Bytes of the FRU EEPROM, and its address on its bus (17, beside R764). -/
def fruSize : Nat := 8192
/-- I²C address of the FRU EEPROM. -/
def fruAddr : Nat := 0x50

/-- A byte of the FRU EEPROM: the last written, else what manufacture wrote. Its bus needs no power of the module. -/
def State.fruRead (s : State) (a : Nat) : Byte := tabGet (Config.fruByte (a % fruSize)) (a % fruSize) s.start.fru

/-- A write over the FRU bus: discarded except while STR_CTRL.MAINT is set. No row of the table commands that bus (log 94). -/
def State.fruWrite (s : State) (a : Nat) (v : Byte) : State :=
  if s.rd .STR_CTRL_MAINT = 1 then
    s.setStart { s.start with fru := tabSet (Config.fruByte (a % fruSize)) (a % fruSize) v s.start.fru }
  else s

/-- Codes accepted always, and those accepted only in maintenance state (R765). -/
def jtagAlways (c : Nat) : Bool := c == 0x01 || c == 0x02 || c == 0xFF
/-- Codes accepted only in maintenance state (R765). -/
def jtagMaint (c : Nat) : Bool := c == 0x03 || c == 0x04 || c == 0x05 || c == 0x06 || c == 0x07 || c == 0x10

/-- JTAG_INSTRUCTION_LOAD (R765): the instruction in effect in a die's TAP; the port operates in ACTIVE (R774). INTSCAN reaches a
scan chain, whose domain's key store is zeroed first (R655). -/
def execJtagInstructionLoad (h code : Nat) (s : State) : Res :=
  if s.powerState ≠ 3 then .next s
  else
    let maint := s.rd .STR_CTRL_MAINT == 1
    let ok := jtagAlways code || (jtagMaint code && maint)
    let s := s.setStart { s.start with jtag := tabSet jtagIdcode h (if ok then code else 0xFF) s.start.jtag }
    let s := if ok && code == 0x10 then { s with str := { s.str with keysCleared := tabSet false h true s.str.keysCleared } } else s
    .next (if jtagMaint code && !maint then s.raise .ERR_JTAG_STATE (.die h) code else s)

end Sys2Proof.Machine
end

