-- ==== Sys2Proof/Machine/MbxRows.lean ====
section
/-! DEFINITION. The commands of the mailbox rings, of SMBus, of MSI-X and of the error log, and the mailbox commands that
report or stop things (16). -/

set_option autoImplicit false

namespace Sys2Proof.Machine

open Sys2Proof

/-! ### The rings (R727-R733, R781) -/

/-- MBX_ENABLE_WRITE (R727). -/
def execMbxEnableWrite (enable : Bool) (s : State) : Res := .next (s.wr .MBX_CTRL_ENABLE (b2n enable))

/-- MBX_CMD_TAIL_WRITE (R728): the doorbell; one that would overfill the ring is ignored. -/
def execMbxCmdTailWrite (count : Nat) (s : State) : Res :=
  if s.ringSize .MBX_CMD_SIZE_LOG2 < (2 ^ 32 + count - s.rd .MBX_CMD_HEAD_COUNT) % 2 ^ 32 then
    .next (s.raise .ERR_MBX_RING (.cp s.cpPrimary) count)
  else .next (s.wr .MBX_CMD_TAIL_COUNT count)

/-- The mailbox engine fetches (R728, R733, R781): enabled, served, an entry waits, no response is held back by a full ring. -/
def State.mayFetch (s : State) : Bool :=
  s.rd .MBX_CTRL_ENABLE == 1 && s.powerState == 3 && (s.mbxState == 2 || s.mbxState == 3) &&
    s.rd .MBX_CMD_HEAD_COUNT != s.rd .MBX_CMD_TAIL_COUNT && (s.mbx.finished.isEmpty || s.rspRoom)

/-- MBX_FETCH (R728, R731). -/
def execMbxFetch (s : State) : Res :=
  if s.mayFetch = false then .next s
  else
    let h := s.rd .MBX_CMD_HEAD_COUNT
    let a := s.rd .MBX_CMD_BASE_ADDR + h % s.ringSize .MBX_CMD_SIZE_LOG2 * 256
    .next ((s.wr .MBX_CMD_HEAD_COUNT (h + 1)).takeEntry (hostRead s.hostMem a 256) false)

/-- MBX_RESPONSE_POST (R733). -/
def execMbxResponsePost (s : State) : Res := .next s.postResponse

/-- MCTP_MESSAGE (R736): one command entry over SMBus. -/
def execMctpMessage (entry : List Byte) (s : State) : Res := if s.powerState = 0 then .next s else .next (s.takeEntry entry true)

/-- MSIX_MODERATION_END (R743): events that the interval gathered are delivered by one raise. -/
def execMsixModerationEnd (v : Nat) (s : State) : Res :=
  if tabGet false v s.mbx.irqHeld then
    let s := s.advanceTime (tabGet 0 v s.mbx.irqUntil)
    .next (if s.rd .MBX_IRQ_EN v = 1 then s.raiseVec v else s)
  else .next s

/-! ### The error log (R747-R749) -/

/-- The record written next (R748): the oldest stamp, die A first, then in the order raised. -/
def oldestErr : List ErrRec → Option ErrRec
  | [] => none
  | r :: l =>
    match oldestErr l with
    | some x => if x.stamp < r.stamp ∨ (x.stamp = r.stamp ∧ x.die < r.die) then some x else some r
    | none => some r

/-- The log overruns a record that the host has not consumed (R747). -/
def State.noteLost (s : State) : State :=
  if s.rd .ERRLOG_PROD_COUNT < s.rd .ERRLOG_CONS_COUNT + logSize then s
  else
    let s := s.bump .ERRLOG_LOST_COUNT
    if s.cp.lostNoted = some s.second then s
    else { s with cp := { s.cp with lostNoted := some s.second } }.raise .ERR_LOG_LOST (.cp s.cpPrimary)

/-- Rank of the mailbox engine (R471), with which the collector writes the log (log entry 52). -/
def mailboxRank : Nat := 3

/-- Where the next record of the log goes (R747). -/
def State.logNext (s : State) : Nat := logBase + s.rd .ERRLOG_PROD_COUNT % logSize * 32

/-- A record written to the log (R742, R747, R749, R763). -/
def State.logWrite (s : State) (r : ErrRec) : State :=
  let s := s.noteLost
  let n := s.rd .ERRLOG_PROD_COUNT
  let s := s.stBytes (logBase + n % logSize * 32) r.bytes
  let s := s.wr .ERRLOG_PROD_COUNT (n + 1)
  let s := s.wr .ERRLOG_WORST_SEVERITY (max (s.rd .ERRLOG_WORST_SEVERITY) r.severity)
  let s := if 3 ≤ r.severity then (s.keepHistory [r.bytes]).setPend 0 else s
  if s.rd .ERRLOG_IRQ_MIN_SEVERITY ≤ r.severity then s.event 1 else s

/-- ERRLOG_WRITE (R748): the collector writes its oldest record, held for 2 µs. -/
def execErrlogWrite (s : State) : Res :=
  if s.hbmReady = false then .next s
  else
    match oldestErr s.errq with
    | none => .next s
    | some r =>
      let s := s.advanceTime (r.stamp + 2000 * tbPerNs)
      .next (s.throughArbiters mailboxRank s.logNext 32 fun s =>
        { s with errq := dropFirst (fun x => decide (x = r)) s.errq }.logWrite r)

/-! ### Buffers (R737) -/

/-- A buffer named by handle and offset that holds so many bytes: its address. -/
def State.buffer (s : State) (handle offset n : Nat) : Option Nat :=
  match s.allocOf handle with
  | some a => if offset + n ≤ a.size then some (a.base + offset) else none
  | none => none

/-- Bytes that firmware writes to a buffer, through the residual arbiters at the primary's rank (R471). -/
def State.fillBuffer (s : State) (a : Nat) (bs : List Byte) : State :=
  let l := s.beatsOf bs.length a bs.length
  s.writeBeats (s.cpPrimary + 1) l bs

/-- Another requester's lock holds an arbiter on firmware's way to a buffer (R476): the command waits. -/
def State.bufferHeld (s : State) (handle offset n : Nat) : Bool :=
  match s.buffer handle offset n with
  | some a => decide (3 ≤ s.powerState) && s.heldUp (s.cpPrimary + 1) (s.beatsOf n a n)
  | none => false

/-- Sequence number of the first record that ERRLOG_READ delivers, and how many (R737). -/
def State.logSpan (s : State) (first count : Nat) (persistent : Bool) : Nat × Nat :=
  let prod := if persistent then s.cp.history.length else s.rd .ERRLOG_PROD_COUNT
  let lo := if persistent then first else max first (prod - logSize)
  (lo, min count (prod - lo))

/-- ERRLOG_READ (R737): records from a sequence number on, of the log or of the history. -/
def State.readLog (s : State) (first count handle offset : Nat) (persistent : Bool) (tag : Nat) : State × Answer :=
  let (lo, n) := s.logSpan first count persistent
  let recs := if persistent then ((s.cp.history.drop lo).take n).flatMap id
    else (List.range n).flatMap fun i => s.ldBytes (logBase + (lo + i) % logSize * 32) 32
  match s.buffer handle offset (32 * n) with
  | none => (s, .fail .ERR_MBX_STATE tag)
  | some a =>
    if logSize < count then (s, .fail .ERR_MBX_STATE tag)
    else (s.fillBuffer a recs, .ok (lo + n + n * 2 ^ 64 + s.rd .ERRLOG_LOST_COUNT * 2 ^ 96))

/-- ERRLOG_READ (R737, R749). -/
def execErrlogRead (tag first count handle offset : Nat) (persistent : Bool) (s : State) : Res :=
  if s.bufferHeld handle offset (32 * (s.logSpan first count persistent).2) then .next s
  else .next (s.serve 0x04 tag fun s => s.readLog first count handle offset persistent tag)

/-! ### DEVICE_INFO and TIME_STATUS (R737, R738) -/

/-- What the manual says DEVICE_INFO reports and the module's state holds: SLOT_ID (R764) and Stedebel's codes (R766); with firmware also the state of each
cluster's spare and its degraded flag, soft and fused repairs of each die (R668), and the tags of discarded responses (R734). -/
def State.infoFacts (s : State) : List Nat :=
  let maker := [Config.jep106.toNat, Config.vendorId.toNat]
  let spare := fun (c : Nat) => match s.findPt c .spare, s.findPt c .spareTest with
    | some _, _ => 1 | none, some _ => 2 | none, none => 0
  let slot := s.rd .GLB_STRAPS_SLOT_ID
  if s.mbxState = 2 then
    [slot, s.rd .MBX_STATUS_MAJOR, s.rd .MBX_STATUS_MINOR] ++ (List.range 16).map spare ++ (List.range 16).map (fun c => b2n (s.isDegraded c)) ++
      [(s.softOf 0).length, (s.softOf 1).length, (s.fusesOf 0).length, (s.fusesOf 1).length] ++ s.mbx.lostTags ++ maker
  else [slot] ++ maker

/-- The bytes that DEVICE_INFO writes; signed, the information, the nonce and the signature (R738). -/
def State.infoBytes (s : State) (nonce : Option (List Byte)) : List Byte :=
  let info := Config.deviceInfo s.infoFacts
  match nonce with
  | some n => info ++ n ++ Config.attest (info ++ n)
  | none => info

/-- An attestation key is held (R656, R722): Waily runs and no scan has cleared the primary's key store. -/
def State.hasKey (s : State) : Bool := s.mbxState == 2 && !tabGet false s.cpPrimary s.str.keysCleared

/-- DEVICE_INFO (R737, R738). In STANDBY and DORMANT no buffer is reachable, and nothing is written (R736). -/
def State.deviceInfo (s : State) (handle offset : Nat) (nonce : Option (List Byte)) (tag : Nat) : State × Answer :=
  if nonce.isSome && !s.hasKey then (s, .fail .ERR_NO_KEY tag)
  else if s.powerState < 3 then (s, .ok 0)
  else
    let bs := s.infoBytes nonce
    match s.buffer handle offset bs.length with
    | none => (s, .fail .ERR_MBX_STATE tag)
    | some a => ((s.fillBuffer a bs).setMbx { s.mbx with lostTags := [] }, .ok bs.length)

/-- DEVICE_INFO (R737, R738). -/
def execDeviceInfo (tag handle offset : Nat) (nonce : Option (List Byte)) (s : State) : Res :=
  if s.bufferHeld handle offset (s.infoBytes nonce).length then .next s
  else .next (s.serve 0x01 tag fun s => s.deviceInfo handle offset nonce tag)

/-- TB_STATE (R110). -/
def TbState.code : TbState → Nat
  | .freerun => 0 | .locking => 1 | .locked => 2 | .holdover => 3 | .holdoverExpired => 4 | .isolated => 5

/-- RESULT of TIME_STATUS: stamp, TB_STATE, hops, parent offset, packed in that order. -/
def State.timeStatus (s : State) : Nat :=
  stampOf s.tb + s.time.state.code * 2 ^ 96 + s.rd .GEY_TIME_PARENT_HOPS * 2 ^ 104 + s.rd .GEY_PARENT_OFFSET_PS_OFFSET * 2 ^ 112

/-- TIME_STATUS (R737). -/
def execTimeStatus (tag : Nat) (s : State) : Res := .next (s.serve 0x03 tag fun s => (s, .ok s.timeStatus))

/-! ### FW_UPDATE (R725, R739) -/

/-- The image written into the inactive slot, checked, and named by the directory. -/
def State.fwUpdate (s : State) (handle offset bytes : Nat) (adv : Bool) (tag : Nat) : State × Answer :=
  if (s.seq ≠ .empty ∧ s.mbxState ≠ 3) ∨ (adv = true ∧ s.rd .STR_CTRL_MAINT = 0) then (s, .fail .ERR_MBX_STATE tag)
  else
    match s.buffer handle offset bytes with
    | none => (s, .fail .ERR_MBX_STATE tag)
    | some a =>
      let k := 1 - s.cp.directory
      let img := s.ldBytes a bytes
      let f : FlashSlot := ⟨img.take 512, img.drop 512⟩
      let s := { s with cp := { s.cp with slots := tabSet ⟨[], []⟩ k f s.cp.slots } }
      if (f.firstFail 0).isSome ∨ 24 * 2 ^ 20 < bytes then (s, .fail .ERR_FW_UPDATE tag)
      else
        let v := if adv then max s.svn (f.field 8 1) else s.svn
        let s := { s with cp := { s.cp with directory := k, svnBurned := if adv then v else s.cp.svnBurned } }
        (if adv then s.wr .CP_BOOT_SVN_FUSED v else s, .ok k)

/-- FW_UPDATE (R739, R737). -/
def execFwUpdate (tag handle offset bytes : Nat) (adv : Bool) (s : State) : Res :=
  .next (s.serve 0x70 tag fun s => s.fwUpdate handle offset bytes adv tag)

/-! ### ABORT_OP (R506-R508, R735) -/

/-- ABORT_OP's results. -/
def abortedRes : Nat := 0
/-- COMPLETED_BEFORE_ABORT. -/
def completedRes : Nat := 1
/-- NOT_FOUND. -/
def notFoundRes : Nat := 2

/-- A started command that ABORT_OP stops at a safe point: RESTORE; the others of R735 end within their own step of the model. -/
def abortable (op : Nat) : Bool := op == 0x40

/-- A running command stopped: what it did stands (R735). -/
def State.stopCommand (s : State) (c : MbxCmd) : State :=
  let s := if c.op = 0x40 then { s with sin := { s.sin with restore := none } } else s
  s.endCmd c.op c.tag 2 0 0

/-- ABORT_OP naming a tag (R735). -/
def State.abortTag (s : State) (target : Nat) : State × Answer :=
  match s.mbx.find target with
  | some c => if !c.started || abortable c.op then (s.stopCommand c, .ok abortedRes) else (s, .ok completedRes)
  | none => if s.mbx.finished.any fun r => r.tag == target then (s, .ok completedRes) else (s, .ok notFoundRes)

/-- ABORT_OP waits for a started command that runs to its end (R735). -/
def State.abortWaits (s : State) (target : Nat) : Bool :=
  match s.mbx.find target with
  | some c => c.started && !abortable c.op
  | none => false

/-- ABORT_OP of a mailbox command (R735, R737). -/
def execAbortOpTag (tag target : Nat) (s : State) : Res :=
  if s.abortWaits target ∨ tag = target then .next s else .next (s.serve 0x24 tag fun s => s.abortTag target)

/-- Segments of a SEND that have not been launched never are (R507). -/
def State.dropSegments (s : State) (e : Nat) (x : Xfer) : State :=
  let mine := fun (t : TxEntry) => x.words.mode == 3 && t.transit.isNone && t.msg.kind == 1 && t.msg.unit == engNum e &&
    t.msg.dst == s.coordOfRank x.words.peer && t.msg.obj == x.words.dst
  let q := (s.fab.txq.map fun (q : Nat × List TxEntry) => (q.1, q.2.filter fun t => !mine t)).filter fun q => !q.2.isEmpty
  { s with fab := { s.fab with txq := q } }

/-- An active transfer ended without completing (R463, R506, R507): its operations in the table finish. -/
def State.abortActive (s : State) (e k : Nat) (x : Xfer) : State :=
  let g := s.xeng e
  let s := s.setXeng e { g with draining := g.draining + x.inTable }
  (((s.storePart (x.data ++ x.scaleData)).dropSegments e x).dropVent e x).dropXfer e k

/-- The wait of a record that ABORT_OP ends before it starts ends with it, consuming nothing (R507). -/
def State.dropWait (s : State) (e slot rec : Nat) : State :=
  let mine := fun (w : SyncWait) => decide (w.engine = e ∧ w.slot = slot ∧ w.record = rec)
  let s := { s with sync := { s.sync with waits := s.sync.waits.filter fun w => !mine w } }
  if slot = s.slotIdx e ∧ rec = (s.xeng e).next then (s.setEngine e { s.engine e with wait := .none }).setStall e 0 else s

/-- ABORT_OP naming a transfer record of the current frame (R508). -/
def State.abortRecord (s : State) (e slot rec : Nat) : State × Answer :=
  let r := s.engine e
  let x := s.xeng e
  match r.slots[slot]? with
  | none => (s, .ok notFoundRes)
  | some sl =>
    if sl.kind ≠ 1 ∨ sl.records ≤ rec then (s, .ok notFoundRes)
    else
      match x.active.findIdx? fun a => a.slot == slot && a.record == rec with
      | some k =>
        match x.active[k]? with
        | some a => if a.acked then (s, .ok completedRes) else (s.abortActive e k a, .ok abortedRes)
        | none => (s, .ok notFoundRes)
      | none =>
        if slot < r.idx ∨ (slot = r.idx ∧ rec < x.next) then
          (s, .ok (if x.skip.contains (slot, rec) then abortedRes else completedRes))
        else if x.skip.contains (slot, rec) then (s, .ok abortedRes)
        else ((s.setXeng e { x with skip := x.skip ++ [(slot, rec)] }).dropWait e slot rec, .ok abortedRes)

/-- ABORT_OP of a transfer record (R508, R737). -/
def execAbortOpRecord (tag e slotIdx rec : Nat) (s : State) : Res :=
  .next (s.serve 0x24 tag fun s => s.abortRecord e slotIdx rec)

/-! ### A host completion that does not come (R772) -/

/-- HOST_COMPLETION_TIMEOUT (R772): the k-th active transfer of an engine, which touches the host window, fails. -/
def execHostCompletionTimeout (e k : Nat) (s : State) : Res :=
  match (s.xeng e).active[k]? with
  | none => .next s
  | some x =>
    if x.failed = true ∨ (s.inHost (s.desc x.words.src) = false ∧ (x.words.mode ≠ 0 ∨ s.inHost (s.desc x.words.dst) = false)) then .next s
    else
      let s := s.hostFailed e x.slot x.record (some (.ERR_HOST_CPL, s.descBase (s.desc x.words.src)))
      .next (s.setXfer e k { x with failed := true, data := [], scaleData := [], rest := [] })

/-! ### Self-test, repair and fuses (R659, R665, R666) -/

/-- BIST_SCHEDULE in FULL mode (R666): only while EMPTY; tiles that failed. -/
def State.bistCommand (s : State) (fails : List (Nat × Nat × Nat)) (tag : Nat) : State × Answer :=
  if s.seq ≠ .empty then (s, .fail .ERR_MBX_STATE tag)
  else
    let s := s.bistFull fails
    (s, .ok (distinct (fails.map fun f => f.1)).length)

/-- BIST_SCHEDULE in FULL mode (R666, R737). -/
def execBistScheduleFull (tag : Nat) (fails : List (Nat × Nat × Nat)) (s : State) : Res :=
  .next (s.serve 0x50 tag fun s => s.bistCommand fails tag)

/-- BIST_SCHEDULE in PERIODIC mode (R737, R741): slice spacing, ROT_EN and BIST_EN. -/
def execBistSchedulePeriodic (tag gapMs : Nat) (rotEn bistEn : Bool) (s : State) : Res :=
  .next (s.serve 0x50 tag fun s =>
    let s := { s with policy := { s.policy with sliceGapMs := gapMs } }
    ((s.wr .STR_CTRL_ROT_EN (b2n rotEn)).wr .STR_CTRL_BIST_EN (b2n bistEn), .ok 0))

/-- REPAIR_APPLY (R659-R663): the index of the entry in the die's soft table. -/
def State.repairCommand (s : State) (die entry tag : Nat) : State × Answer :=
  let n := (s.softOf die).length
  match s.softRepair die entry with
  | (s, none) => (s, .ok n)
  | (s, some e) => (s, .fail e tag)

/-- REPAIR_APPLY (R659, R737). -/
def execRepairApply (tag h entry : Nat) (s : State) : Res := .next (s.serve 0x51 tag fun s => s.repairCommand h entry tag)

/-- Input voltage from 44 V to 56 V and every die temperature below 85 °C (R665), as the channels show them. -/
def State.fuseRange (s : State) : Bool :=
  decide (4400 * 65536 ≤ s.chanVal 0 ∧ s.chanVal 0 ≤ 5600 * 65536) &&
    (List.range 16).all fun i => decide (s.chanVal (20 + i) < 85 * 16 * 65536)

/-- FUSE_BURN of a die (R665): entries burned. -/
def State.burnCommand (s : State) (die : Nat) (bad : List Nat) (tag : Nat) : State × Answer :=
  let n := (s.unfused die).length
  match s.burnFuses die s.fuseRange bad with
  | (s, none) => (s, .ok (n - (s.unfused die).length))
  | (s, some e) => (s, .fail e tag)

/-- FUSE_BURN (R665, R737). `bad`: fuse indices of the die whose read-back mismatches. -/
def execFuseBurn (tag h : Nat) (bad : List Nat) (s : State) : Res := .next (s.serve 0x52 tag fun s => s.burnCommand h bad tag)

/-! ### Hot spares (R634) -/

/-- A statistics slot emptied, live and shadow; ELEM_TYPE and MARGIN stay (R164, R634). -/
def State.statEmptySlot (s : State) (slot : Nat) : State :=
  let a := s.policy.statBase + slot * 32
  let w := (s.statRead a).word
  (s.statWrite a ⟨0, 0, 0, bitsOf w 23 16 * 2 ^ 16⟩).statClearSlot slot

/-- Every statistics record emptied (R634). -/
def State.statEmptyAll (s : State) : State := (List.range s.policy.statSlots).foldl State.statEmptySlot s

/-- SPARE_ADOPT (R634). -/
def State.adopt (s : State) (coord tag : Nat) : State × Answer :=
  if s.seq = .empty ∧ s.fab.job.isNone ∧ s.time.state = .locked ∧ s.rd .GEY_TIME_PARENT_HOPS ≤ 62 then
    let s := (List.range 18).foldl State.resetPort s
    let s := (s.writeCoord true coord).syncClear
    ((s.wr .STEP_STATUS_CUR_PAGE 0).statEmptyAll, .ok 0)
  else (s, .fail .ERR_ADOPT_STATE tag)

/-- SPARE_ADOPT (R634, R737). The rank takes effect at the PACE_GROUP_JOIN that follows. -/
def execSpareAdopt (tag coord _rank : Nat) (s : State) : Res := .next (s.serve 0x41 tag fun s => s.adopt coord tag)

end Sys2Proof.Machine
end

