-- ==== Sys2Proof/Machine/ProgLoad.lean ====
section
/-! DEFINITION. The plan checks of PROGRAM_LOAD (02, R99, R100, R789): header, slots, transfer records, padded writes,
reduction records, the synchronisation table, the power table. -/

set_option autoImplicit false

namespace Sys2Proof.Machine

open Sys2Proof

/-! ### Failures (R789) -/

/-- A failed check: its error and detail words. -/
structure LoadFail where
  err : Err
  d0 : Nat
  d1 : Nat
deriving DecidableEq, Repr

/-- Where a failing item stands: program frame, engine, slot, index; each at the value for none. -/
structure LoadAt where
  frame : Nat := 0xFFFFFFFF
  engine : Nat := 0x3FF
  slot : Nat := 0x3FF
  index : Nat := 0xFFFF
deriving DecidableEq, Repr

/-- A failure of check n of a stage. -/
def loadFail (e : Err) (stage n : Nat) (w : LoadAt) : LoadFail :=
  ⟨e, n % 256 + stage * 256 + w.frame * 2 ^ 32, w.engine % 1024 + w.slot % 1024 * 2 ^ 16 + w.index % 65536 * 2 ^ 32⟩

/-- A failure when a condition holds. -/
def loadIf (c : Bool) (f : LoadFail) : Option LoadFail := if c then some f else none

/-- The first failure of a list. -/
def loadFirst : List (Option LoadFail) → Option LoadFail
  | [] => none
  | some f :: _ => some f
  | none :: r => loadFirst r

/-- No failure below stands only if none above does. -/
def loadElse (a : Option LoadFail) (b : Unit → Option LoadFail) : Option LoadFail := match a with | some f => some f | none => b ()

/-! ### The arguments and the header (R78, R740) -/

/-- Arguments of PROGRAM_LOAD: handle, offsets of the image and of the tables, 0 for an absent table, the mask of R284. -/
structure ProgArgs where
  handle : Nat
  image : Nat
  sync : Nat
  step : Nat
  sinter : Nat
  power : Nat
  compat : Nat
deriving DecidableEq, Repr

/-- A program being loaded: its header, what the header check needs beside it, and its allocation. -/
structure ProgFile where
  head : ProgHeader
  magic : Nat
  version : Nat
  flags : Nat
  reserved : Nat
  alloc : Alloc
deriving DecidableEq, Repr

/-- The header in an allocation at IMAGE_OFF. -/
def State.progFile (s : State) (a : ProgArgs) (l : Alloc) : ProgFile :=
  let b := l.base + a.image
  let v := s.ldNat b 64
  let f := byteField v
  { head := { handle := a.handle, base := b, opportunistic := bitOf (f 6 2) 0, period := f 8 4, slack := f 0x0C 2, baseOp := f 0x0E 1
              topOp := f 0x0F 1, frames := f 0x10 4, bodyFirst := f 0x14 4, bodyLast := f 0x18 4, stepLimit := f 0x1C 4
              tableOff := f 0x20 8, bytes := f 0x28 8, stepStart := f 0x30 4
              powerAddr := if a.power = 0 then none else some (l.base + a.power) }
    magic := f 0 4, version := f 4 2, flags := f 6 2, reserved := f 0x34 12, alloc := l }

/-- Checks 1 to 4 of R99. A TOP_OP above 7 names no point and fails check 4: DEDUCED (log 90), since no check of the table names it. -/
def headerFail (a : ProgArgs) (p : ProgFile) : Option LoadFail :=
  let h := p.head
  let f := fun (e : Err) (n : Nat) => loadFail e 0 n {}
  loadFirst [
    loadIf (decide (p.magic ≠ 0x47595346 ∨ p.version ≠ 1 ∨ 2 ≤ p.flags ∨ p.reserved ≠ 0 ∨ p.alloc.size < a.image + h.bytes)) (f .ERR_PROG_HEADER 1),
    loadIf (decide (h.period < 5000 ∨ 5000000 < h.period)) (f .ERR_PERIOD_RANGE 2),
    loadIf (decide (h.slack < 50 ∨ 2000 < h.slack)) (f .ERR_SLACK_RANGE 3),
    loadIf (decide (7 < h.topOp ∨ h.topOp < h.baseOp ∨ 6 < h.baseOp ∨ (h.opportunistic = false ∧ h.baseOp ≠ h.topOp)))
      (f .ERR_MODE_OP 4)]

/-- The pace-mode check (R691). -/
def State.paceModeFail (s : State) (h : ProgHeader) : Option LoadFail :=
  loadIf (decide (1 < s.rd .FAB_JOB_SIZE_SIZE) && ((h.opportunistic && !(s.rd .PWR_STATUS_FREE_RUN == 1)) || h.topOp == 7))
    (loadFail .ERR_PACE_MODE 0 0 {})

/-- Checks 5 and 6 of R99. -/
def bodyFail (h : ProgHeader) : Option LoadFail :=
  loadFirst [
    loadIf (!(wholeCycles h.period 0 && (List.range 8).all fun p => decide (p < h.baseOp ∨ h.topOp < p) || wholeCycles h.period p))
      (loadFail .ERR_PERIOD_CYCLES 0 5 {}),
    loadIf (decide (h.frames < 1 ∨ 65536 < h.frames ∨ h.bodyLast < h.bodyFirst ∨ h.frames ≤ h.bodyLast)) (loadFail .ERR_BODY_RANGE 0 6 {})]

/-! ### Directories and slots (R79-R82, R99) -/

/-- Program frames. -/
def ProgHeader.frameList (p : ProgHeader) : List Nat := List.range p.frames

/-- A slot of the image: frame, engine, index, fields and raw value. -/
structure SlotAt where
  frame : Nat
  engine : Nat
  idx : Nat
  slot : Slot
  raw : Nat
deriving DecidableEq, Repr

/-- Where a slot stands, with the index of an item of it. -/
def SlotAt.at (x : SlotAt) (index : Nat := 0xFFFF) : LoadAt := ⟨x.frame, x.engine, x.idx, index⟩

/-- The slots of a frame, in directory order. -/
def State.slotsOf (s : State) (p : ProgHeader) (f : Nat) : List SlotAt :=
  (s.directory p f).flatMap fun d => (List.range d.slots).map fun i => ⟨f, d.engine, i, slotOf (s.slotRaw p d i), s.slotRaw p d i⟩

/-- Every slot of a program. -/
def State.allSlots (s : State) (p : ProgHeader) : List SlotAt := p.frameList.flatMap (s.slotsOf p)

/-- Check 7: every list lies in the image; engine IDs are valid and named once in a frame. -/
def State.directoryFail (s : State) (p : ProgHeader) : Option LoadFail :=
  let e := fun (w : LoadAt) => loadFail .ERR_ENGINE_ID 0 7 w
  if p.bytes < p.tableOff + 16 * p.frames then some (e {})
  else
    p.frameList.findSome? fun f =>
      let fe := s.frameEntry p f
      if 291 < fe.dirLen ∨ p.bytes < fe.dirOff + 16 * fe.dirLen then some (e { frame := f })
      else
        let l := s.directory p f
        l.zipIdx.findSome? fun q =>
          loadIf (decide (291 ≤ q.1.engine ∨ 512 < q.1.slots ∨ p.bytes < q.1.slotOff + 16 * q.1.slots) ||
            (l.take q.2).any fun d => d.engine == q.1.engine) (e { frame := f, engine := q.1.engine, index := q.2 })

/-- A kind that an engine accepts (R81). -/
def kindFits (e kind : Nat) : Bool :=
  if e < 0x100 then kind == 0 else if e < 0x110 then kind == 1 else if e < 0x120 then kind == 1 || kind == 2
  else if e < 0x122 then kind == 3 else kind == 4

/-- Reserved bits of a slot outside PAYLOAD, and of a kind-0 PAYLOAD, are 0 (R82, R259). -/
def slotReserved (x : SlotAt) : Bool :=
  decide (bitsOf x.raw 63 56 = 0 ∧ bitsOf x.raw 31 29 = 0) &&
    (x.slot.kind != 0 || decide (bitsOf x.slot.payload 31 22 = 0 ∧ bitsOf x.slot.payload 3 0 = 0))

/-- Check 8. -/
def State.kindFail (s : State) (p : ProgHeader) : Option LoadFail :=
  let e := fun (w : LoadAt) => loadFail .ERR_SLOT_KIND 0 8 w
  p.frameList.findSome? fun f =>
    let fe := s.frameEntry p f
    if 4 ≤ fe.flags ∨ fe.reserved ≠ 0 then some (e { frame := f, index := f })
    else
      loadElse ((s.directory p f).zipIdx.findSome? fun q =>
        loadIf (q.1.reserved != 0) (e { frame := f, engine := q.1.engine, index := q.2 })) fun _ =>
        (s.slotsOf p f).findSome? fun x => loadIf (!(kindFits x.engine x.slot.kind && slotReserved x)) (e x.at)

/-- Check 9 on a slot list. -/
def orderFail (f e : Nat) (l : List Slot) : Option LoadFail :=
  l.zipIdx.findSome? fun q =>
    loadIf (decide (q.1.budget = 0) || match l[q.2 + 1]? with | some n => decide (n.start < q.1.start + q.1.budget) | none => false)
      (loadFail .ERR_SLOT_ORDER 0 9 { frame := f, engine := e, slot := q.2 })

/-- Cycles of a frame at BASE_OP less the slack reserve (R96). -/
def ProgHeader.fit (p : ProgHeader) : Nat := let n := cyclesOf p.period p.baseOp; n - ceilDiv (n * p.slack) 10000

/-- Checks 9 to 11. -/
def State.fitFail (s : State) (p : ProgHeader) : Option LoadFail :=
  let lists := p.frameList.flatMap fun f => (s.directory p f).map fun d => (f, d.engine, s.slotList p d)
  loadFirst [
    lists.findSome? fun l => orderFail l.1 l.2.1 l.2.2,
    (s.allSlots p).findSome? fun x => loadIf (x.slot.xmod && decide (x.slot.start < 256)) (loadFail .ERR_GUARD_SLOT 0 10 x.at),
    lists.findSome? fun l =>
      match l.2.2.getLast? with
      | some sl => loadIf (decide (p.fit < sl.start + sl.budget))
          (loadFail .ERR_SLOT_FIT 0 11 { frame := l.1, engine := l.2.1, slot := l.2.2.length - 1 })
      | none => none]

/-! ### Transfer records (R425, R455) -/

/-- A transfer record of the image. -/
structure RecAt where
  slot : SlotAt
  num : Nat
  words : XWords
deriving DecidableEq, Repr

/-- The transfer records of a slot. -/
def State.recsOf (s : State) (x : SlotAt) : List RecAt :=
  if x.slot.kind = 1 then (List.range x.slot.records).map fun i => ⟨x, i, s.recordAt x.slot i⟩ else []

/-- ERR_SE_RECORD of a slot (R455). -/
def State.recordFail (s : State) (p : ProgHeader) (x : SlotAt) : Option LoadFail :=
  if x.slot.kind ≠ 1 then none
  else if payloadOk p.bytes x.slot.payload = false then some (loadFail .ERR_SE_RECORD 1 0 x.at)
  else (s.recsOf x).findSome? fun r => loadIf (!s.recordOk x.engine r.words) (loadFail .ERR_SE_RECORD 1 0 (x.at r.num))

/-- Liveness and the pair rules of a record (R425). -/
def State.pairFail (s : State) (r : RecAt) : Option LoadFail :=
  let dead := !s.descLive r.words.src || (decide (r.words.mode < 3) && !s.descLive r.words.dst)
  loadFirst [
    loadIf dead (loadFail .ERR_DESC_UNKNOWN 1 0 (r.slot.at r.num)),
    loadIf (!s.pairOk r.words.w0) (loadFail .ERR_DESC_PAIR 1 0 (r.slot.at r.num))]

/-! ### Reduction records (R547) -/

/-- A reduction record of the image. -/
structure RedAt where
  slot : SlotAt
  num : Nat
  addr : Nat
  red : RedRec
deriving DecidableEq, Repr

/-- The reduction records of a slot. -/
def State.redsOf (s : State) (x : SlotAt) : List RedAt :=
  if x.slot.kind = 3 then (s.redAddrs x.slot).zipIdx.map fun a => ⟨x, a.2, a.1, s.redRecAt a.1⟩ else []

/-- PAYLOAD of a kind-3 slot; its list lies in the image (R543). -/
def State.redPayloadOk (s : State) (p : ProgHeader) (x : SlotAt) : Bool :=
  let n := x.slot.records
  decide (1 ≤ n ∧ n ≤ 1024 ∧ bitsOf x.slot.payload 4 0 = 0) && (s.redsOf x).all fun r => decide (r.addr + r.red.bytes ≤ p.base + p.bytes)

/-- Elements of a descriptor's window. -/
def Desc.elems (d : Desc) : Nat := (d.size.take d.rank).foldl (· * ·) 1

/-- An entry of a record (R545, R547). -/
def State.redEntryOk (s : State) (r : RedRec) (v : Nat) : Bool :=
  let d := s.desc (entDesc v)
  decide (bitsOf v 31 29 = 0) && (r.gf || entCoef v == 0) &&
    if entLocal v then
      decide (entBackup v = 0xFFFF) && s.descLive (entDesc v) && d.reads && decide (d.elems = r.len) &&
        (if r.gf then d.ty == .int8 else d.ty == .fp32 || d.ty == .bf16)
    else entDesc v == 0

/-- Where a record's result goes (R547). -/
def State.redOutOk (s : State) (x : SlotAt) (r : RedRec) : Bool :=
  let d := s.desc r.outDesc
  if r.isLocal then
    s.descLive r.outDesc && d.writes && decide (d.elems = r.len) && (if r.gf then d.ty == .int8 else d.ty == .fp32) && !r.outWide
  else r.outDesc == 0 && x.slot.xmod

/-- WAIT_THRESH of a reduction record. -/
def RedRec.thresh (r : RedRec) : Nat := bitsOf r.w2 63 32

/-- A record's own conditions (R544, R547). -/
def State.redOk (s : State) (r : RedAt) : Bool :=
  let q := r.red
  decide (bitsOf q.w0 63 60 ≤ 1 ∧ bitsOf q.w0 57 56 = 0 ∧ bitsOf q.w2 30 20 = 0 ∧ bitsOf q.w3 46 46 = 0 ∧ 1 ≤ q.ncon ∧ 1 ≤ q.len) &&
    decide (q.sigObj = 0 ∨ 1 ≤ q.sigCount) && decide (q.waitObj = 0 ∨ 1 ≤ bitsOf q.w1 63 56) &&
    (s.redEntries q).all (s.redEntryOk q) && s.redOutOk r.slot q

/-- 64-byte units of a half's buffer: 38 MiB. -/
def redBuffer : Nat := 622592

/-- The uses of two records' regions may overlap: in one run of the program frames, or between a body and the next (R547). -/
def usesMeet (p : ProgHeader) (a b : RedAt) : Bool :=
  let meet := fun (x y : Nat) => decide (x ≤ y + b.red.deadline ∧ y ≤ x + a.red.deadline)
  let inBody := fun (f : Nat) => decide (p.bodyFirst ≤ f ∧ f ≤ p.bodyLast)
  let fa := a.slot.frame
  let fb := b.slot.frame
  let n := p.bodyLast + 1 - p.bodyFirst
  meet fa fb || (inBody fa && inBody fb && (meet fa (fb + n) || meet (fa + n) fb))

/-- ERR_RED_RECORD and ERR_RED_REGION among the records of a program (R547). -/
def State.redFail (s : State) (p : ProgHeader) (xs : List SlotAt) : Option LoadFail :=
  let slots := xs.filter fun x => x.slot.kind == 3
  let bad := fun (w : LoadAt) => loadFail .ERR_RED_RECORD 1 0 w
  loadElse (slots.findSome? fun x => loadIf (!s.redPayloadOk p x) (bad x.at)) fun _ =>
    let l := slots.flatMap s.redsOf
    loadElse (l.findSome? fun r => loadIf (!s.redOk r) (bad (r.slot.at r.num))) fun _ =>
      loadElse (l.zipIdx.findSome? fun q => loadIf
        ((l.take q.2).any fun r => decide (r.slot.engine = q.1.slot.engine ∧ r.red.rid = q.1.red.rid)) (bad (q.1.slot.at q.1.num))) fun _ =>
        l.zipIdx.findSome? fun q =>
          let u := fun (r : RedAt) => redUnits r.red (s.redEntries r.red)
          let r := q.1
          loadIf (decide (redBuffer < r.red.region + u r) || (l.take q.2).any fun o =>
            decide (o.slot.engine = r.slot.engine ∧ o.red.region < r.red.region + u r ∧ r.red.region < o.red.region + u o) && usesMeet p o r)
            (loadFail .ERR_RED_REGION 1 0 (r.slot.at r.num))

/-- Descriptor validation, stage 1. -/
def State.descStage (s : State) (p : ProgHeader) : Option LoadFail :=
  let xs := s.allSlots p
  loadElse (xs.findSome? (s.recordFail p)) fun _ =>
    loadElse ((xs.flatMap s.recsOf).findSome? s.pairFail) fun _ => s.redFail p xs

/-! ### Padded writes (R411), stage 2 -/

/-- Bytes of a window position. -/
def State.posBytes (s : State) (d : Desc) (i : List Nat) : List Nat :=
  let a := s.addrOf d (d.dims.map (d.local i))
  (List.range d.ty.unitBytes).map fun k => a + k

/-- Bytes of a descriptor's window positions, valid or padded. -/
def State.windowBytes (s : State) (d : Desc) (valid : Bool) : List Nat :=
  if d.empty then []
  else (d.window.filter fun i => s.validPos d (d.dims.map (d.local i)) == valid).flatMap (s.posBytes d)

/-- A slot writes a PAD_WRITE descriptor. -/
def State.padSlot (s : State) (x : SlotAt) : Bool := (s.slotWrites x.slot).any fun i => (s.desc i).padWrite

/-- The checks of R411 on a frame. -/
def State.padFail (s : State) (p : ProgHeader) (f : Nat) : Option LoadFail :=
  let xs := s.slotsOf p f
  let ids := distinct (xs.flatMap fun x => s.slotWrites x.slot)
  let pads := ids.filter fun i => (s.desc i).padWrite
  let meets := fun (i : Nat) =>
    let l := s.windowBytes (s.desc i) false
    ids.any fun j => j != i && (s.windowBytes (s.desc j) true).any fun a => l.contains a
  loadElse (xs.findSome? fun x => (s.slotWrites x.slot).findSome? fun i =>
      loadIf (pads.contains i && meets i) (loadFail .ERR_PAD_OVERLAP 2 0 x.at)) fun _ =>
    loadIf (decide (64 < (xs.filter s.padSlot).length)) (loadFail .ERR_PAD_COUNT 2 0 { frame := f })

/-- PAD_WRITE overlap, stage 2. -/
def State.padStage (s : State) (p : ProgHeader) : Option LoadFail := p.frameList.findSome? (s.padFail p)

/-! ### The synchronisation table (R487-R490, R500), stage 3 -/

/-- A synchronisation table as it stands in memory. -/
structure SyncTable where
  parent : Nat
  children : Nat
  decls : List SyncDecl
deriving DecidableEq, Repr

/-- Fields of a table's entry beside its declaration. -/
def entryReserved (v : Nat) : Bool := decide (bitsOf v 31 24 = 0 ∧ byteField v 5 1 = 0 ∧ byteField v 0x0A 6 = 0)

/-- The declaration of an entry (R488). -/
def declOf (v : Nat) : SyncDecl := ⟨bitsOf v 23 0, byteField v 4 1, byteField v 6 2, byteField v 8 2⟩

/-- An entry's fields lie in range (R488, R490). -/
def declOk (d : SyncDecl) : Bool :=
  if d.kind = 0 then isCounter d.id && decide ((d.consumer < 291 ∨ d.consumer = 0x3FF) ∧ d.members = 0)
  else decide (d.kind ≤ 2) && isBarrier d.id && decide (d.consumer = 0x3FF ∧ 1 ≤ d.members ∧ d.members ≤ 4095)

/-- The table at an address. -/
def State.syncTableAt (s : State) (a : Nat) : SyncTable :=
  let v := s.ldNat a 16
  ⟨byteField v 6 1, byteField v 8 4, (List.range (byteField v 4 2)).map fun i => declOf (s.ldNat (a + 16 + 16 * i) 16)⟩

/-- Check 1 of R490. -/
def State.syncTableFail (s : State) (l : Alloc) (off : Nat) : Option LoadFail :=
  let a := l.base + off
  let v := s.ldNat a 16
  let n := byteField v 4 2
  let par := byteField v 6 1
  let ch := byteField v 8 4
  let e := fun (w : LoadAt) => loadFail .ERR_SYNC_TABLE 3 1 w
  if l.size < off + 16 ∨ byteField v 0 4 ≠ 0x434E5953 ∨ 16639 < n ∨ l.size < off + 16 + 16 * n ∨ byteField v 7 1 ≠ 0 ∨ byteField v 12 4 ≠ 0 ∨
      2 ^ 18 ≤ ch ∨ (18 ≤ par ∧ par ≠ 0xFF) ∨ (par ≠ 0xFF ∧ bitOf ch par = true) then some (e {})
  else
    (List.range n).findSome? fun i =>
      let x := s.ldNat (a + 16 + 16 * i) 16
      let before := s.ldNat (a + 16 * i) 16
      loadIf (!(entryReserved x && declOk (declOf x)) || (decide (i ≠ 0) && decide ((declOf x).id ≤ (declOf before).id))) (e { index := i })

/-- Check 2 of R490 on a record. -/
def syncRefOk (u : SyncTable) (r : RecAt) : Bool :=
  let w := r.words
  let decl := fun (id : Nat) => u.decls.find? fun d => d.id == id
  (w.waitObj == 0 || match decl w.waitObj with
    | some d => !w.consume || d.consumer == r.slot.engine
    | none => false) &&
    (w.mode == 3 || w.sigObj == 0 || (decl w.sigObj).isSome) && (!isBarrier w.sigObj || w.sigCount == 1)

/-- The edges of R500. A SEND signals in this module only when it is its own receiver. -/
def State.recEdge (s : State) (a b : RecAt) : Bool :=
  (a.slot.engine == b.slot.engine && decide (a.slot.idx < b.slot.idx ∨ (a.slot.idx = b.slot.idx ∧ a.num < b.num))) ||
    (decide (a.words.sigObj ≠ 0 ∧ a.words.sigObj = b.words.waitObj) && (a.words.mode != 3 || a.words.peer == s.rank))

/-- Records reached from a set in at most n further edges. -/
def State.recReach (s : State) (l : List RecAt) : Nat → List RecAt → List RecAt
  | 0, m => m
  | n + 1, m => s.recReach l n (l.filter fun b => m.contains b || m.any fun a => s.recEdge a b)

/-- A record reaches another along at least one edge. -/
def State.recLeads (s : State) (l : List RecAt) (a b : RecAt) : Bool := (s.recReach l l.length (l.filter (s.recEdge a))).contains b

/-- The waiter ID of a record (R498). -/
def RecAt.waiter (r : RecAt) : Nat := waiterId r.slot.engine r.slot.idx r.num

/-- The circle test on a frame (R500): a record on a cycle and the next one on it. -/
def State.circleFail (s : State) (p : ProgHeader) (f : Nat) : Option LoadFail :=
  let l := (s.slotsOf p f).flatMap s.recsOf
  match l.find? fun r => s.recLeads l r r with
  | none => none
  | some r =>
    let next := (l.find? fun b => s.recEdge r b && (decide (b = r) || s.recLeads l b r)).getD r
    some ⟨.ERR_SYNC_CIRCLE, r.waiter, next.waiter⟩

/-- Visible circular waits, stage 3. -/
def State.syncStage (s : State) (p : ProgHeader) (l : Alloc) (off : Nat) : Option LoadFail :=
  loadElse (if off = 0 then none else s.syncTableFail l off) fun _ =>
    let u := if off = 0 then ⟨0xFF, 0, []⟩ else s.syncTableAt (l.base + off)
    loadElse (((s.allSlots p).flatMap s.recsOf).findSome? fun r => loadIf (!syncRefOk u r) (loadFail .ERR_SYNC_REF 3 2 (r.slot.at r.num))) fun _ =>
      p.frameList.findSome? (s.circleFail p)

/-! ### The power table (R678), stage 4 -/

/-- The power model, stage 4. -/
def State.powerStage (s : State) (p : ProgHeader) (l : Alloc) (off : Nat) : Option LoadFail :=
  if off = 0 then none
  else if l.size < off + 2 * p.frames then some (loadFail .ERR_POWER_MODEL 4 0 {})
  else p.frameList.findSome? fun f =>
    loadIf (decide (3200 < s.ldNat (l.base + off + 2 * f) 2)) (loadFail .ERR_POWER_MODEL 4 0 { frame := f, index := f })

end Sys2Proof.Machine
end

