-- ==== Sys2Proof/Machine/ProgStep.lean ====
section
/-! DEFINITION. The step-table stage of PROGRAM_LOAD (12, R566-R590). -/

set_option autoImplicit false

namespace Sys2Proof.Machine

open Sys2Proof

/-- A failure of check n of the step table with its error. -/
def stepFail (e : Err) (n : Nat) (w : LoadAt) : LoadFail := loadFail e 5 n w

/-- ERR_STEP_TABLE of check n. -/
def stepBad (n : Nat) (w : LoadAt) : LoadFail := stepFail .ERR_STEP_TABLE n w

/-- Frames that carry COMMIT (R79). -/
def State.commitFrames (s : State) (p : ProgHeader) : List Nat := p.frameList.filter fun f => bitOf (s.frameEntry p f).flags 0

/-- Without a step table: no COMMIT frame, no kind-2 slot (R566). -/
def State.noStepFail (s : State) (p : ProgHeader) : Option LoadFail :=
  loadElse ((s.commitFrames p).head?.map fun f => stepBad 0 { frame := f }) fun _ =>
    (s.allSlots p).findSome? fun x => loadIf (x.slot.kind == 2) (stepBad 0 x.at)

/-! ### The table as it stands in memory (R566, R569, R585, R587) -/

/-- A checkpoint region's 32 bytes. -/
def ckptOf (v : Nat) : CkptRegion :=
  ⟨byteField v 0 8, byteField v 8 8, byteField v 0x10 4, byteField v 0x14 2, byteField v 0x16 2, byteField v 0x18 2⟩

/-- A shard entry's 64 bytes. -/
def shardOf (v : Nat) : ShardEntry :=
  ⟨(List.range 8).map fun i => byteField v (4 * i) 4, byteField v 0x20 4, byteField v 0x24 4, byteField v 0x28 4, byteField v 0x2C 4,
    byteField v 0x30 2, byteField v 0x32 1, byteField v 0x34 4⟩

/-- Bits of a shard entry that R585 reserves are 0. -/
def shardReserved (v : Nat) : Bool :=
  decide (byteField v 0x33 1 = 0 ∧ byteField v 0x38 8 = 0) &&
    (List.range 12).all fun i => decide (byteField v (4 * i) 4 < 2 ^ 20)

/-- The step table in an allocation; CKPT_OFF, SHARD_OFF and UPROG_OFF count from the allocation's start, as every offset of
PROGRAM_LOAD does (R740). -/
def State.stepTableAt (s : State) (l : Alloc) (off : Nat) : StepTable :=
  let v := s.ldNat (l.base + off) 80
  let f := byteField v
  let at' := fun (o : Nat) => l.base + f o 8
  { train := bitOf (f 6 2) 0, hostAuth := bitOf (f 6 2) 1, reduceFirst := f 8 4, bwdBar := f 0x0C 4, voteBar := f 0x10 4, veto := f 0x14 4
    voteCycle := f 0x18 4, descentNs := f 0x1C 4, treeDepth := f 0x20 1, normDesc := f 0x40 4, normLimit := f 0x44 4
    ckpts := (List.range (f 0x22 2)).map fun i => ckptOf (s.ldNat (at' 0x28 + 32 * i) 32)
    shards := (List.range (f 0x24 2)).map fun i => shardOf (s.ldNat (at' 0x30 + 64 * i) 64)
    uprogs := (List.range (f 0x26 2)).map fun i => (List.range 64).map fun k => s.ldNat (at' 0x38 + 512 * i + 8 * k) 8 }

/-- A run of bytes lies in the image; one of no bytes lies anywhere. -/
def inImage (p : ProgHeader) (l : Alloc) (off n : Nat) : Bool :=
  n == 0 || decide (p.base ≤ l.base + off ∧ l.base + off + n ≤ p.base + p.bytes)

/-- Check 1 of R567. -/
def State.stepHeadFail (s : State) (p : ProgHeader) (l : Alloc) (off : Nat) : Option LoadFail :=
  let v := s.ldNat (l.base + off) 80
  let f := byteField v
  let e := fun (i : Nat) => stepBad 1 { index := i }
  if l.size < off + 80 ∨ f 0 4 ≠ 0x50455453 ∨ f 4 2 ≠ 1 ∨ 4 ≤ f 6 2 ∨ f 0x21 1 ≠ 0 ∨ f 0x48 8 ≠ 0 ∨ 2 ^ 20 ≤ f 0x40 4 ∨ 62 < f 0x20 1 ∨
      4096 < f 0x22 2 ∨ 4096 < f 0x24 2 ∨ 256 < f 0x26 2 then some (stepBad 1 {})
  else
    loadFirst [
      loadIf (!(inImage p l (f 0x28 8) (32 * f 0x22 2) && inImage p l (f 0x30 8) (64 * f 0x24 2) && inImage p l (f 0x38 8) (512 * f 0x26 2)))
        (stepBad 1 {}),
      (List.range (f 0x22 2)).findSome? fun i => loadIf (byteField (s.ldNat (l.base + f 0x28 8 + 32 * i) 32) 0x1A 6 != 0) (e i),
      (List.range (f 0x24 2)).findSome? fun i => loadIf (!shardReserved (s.ldNat (l.base + f 0x30 8 + 64 * i) 64)) (e i)]

/-! ### Checks 2 to 5 of R567 -/

/-- Check 2: COMMIT on BODY_LAST alone, and only with TRAIN. -/
def State.commitFail (s : State) (p : ProgHeader) (t : StepTable) : Option LoadFail :=
  let l := s.commitFrames p
  if t.train then loadIf (decide (l ≠ [p.bodyLast])) (stepBad 2 { frame := (l.find? fun f => f != p.bodyLast).getD p.bodyLast })
  else l.head?.map fun f => stepBad 2 { frame := f }

/-- Check 3: the barriers and the veto; no record names VOTE_BAR. -/
def State.barFail (s : State) (p : ProgHeader) (u : SyncTable) (t : StepTable) : Option LoadFail :=
  let decl := fun (id : Nat) => u.decls.find? fun d => d.id == id
  let bwd := match decl t.bwdBar with | some d => d.kind == 2 | none => false
  let vote := match decl t.voteBar with | some d => d.kind == 2 && d.members == 1 | none => false
  let veto := match decl t.veto with | some d => d.kind == 0 && d.consumer == 0x3FF | none => false
  let xs := s.allSlots p
  loadFirst [
    loadIf (!(bwd && vote && veto)) (stepBad 3 {}),
    (xs.flatMap s.recsOf).findSome? fun r =>
      loadIf (r.words.waitObj == t.voteBar || r.words.sigObj == t.voteBar) (stepBad 3 (r.slot.at r.num)),
    (xs.flatMap s.redsOf).findSome? fun r => loadIf (r.red.waitObj == t.voteBar || r.red.sigObj == t.voteBar) (stepBad 3 (r.slot.at r.num))]

/-- Check 4: the vote and its descent. -/
def State.voteFail (s : State) (p : ProgHeader) (t : StepTable) : Option LoadFail :=
  loadFirst [
    loadIf (decide (t.voteCycle < 256)) (stepBad 4 {}),
    ((s.commitFrames p).flatMap (s.slotsOf p)).findSome? fun x =>
      loadIf (decide (t.voteCycle < x.slot.start + x.slot.budget)) (stepBad 4 x.at),
    loadIf (decide (t.descentNs < 290 * t.treeDepth + 50 ∨ p.period ≤ t.descentNs ∨
      (p.period - t.descentNs) * opFreq p.baseOp ≤ t.voteCycle * 10)) (stepBad 4 {})]

/-- Records of op SUM. -/
def RedAt.sum (r : RedAt) : Bool := !r.red.gf

/-- The first SUM record of a half in the body. -/
def State.firstSum (s : State) (p : ProgHeader) (h : Nat) : Option RedAt :=
  ((s.allSlots p).filter fun x => decide (p.bodyFirst ≤ x.frame ∧ x.frame ≤ p.bodyLast ∧ x.engine = redEngine h)).flatMap s.redsOf |>.find?
    RedAt.sum

/-- Check 5: reductions after the backward pass. -/
def State.sumFail (s : State) (p : ProgHeader) (t : StepTable) : Option LoadFail :=
  loadElse (((s.allSlots p).flatMap s.redsOf).findSome? fun r =>
      loadIf (r.sum && decide (r.slot.frame < t.reduceFirst)) (stepBad 5 (r.slot.at r.num))) fun _ =>
    [0, 1].findSome? fun h =>
      match s.firstSum p h with
      | some r => loadIf (!(r.red.waitObj == t.bwdBar && r.red.thresh == 1)) (stepBad 5 (r.slot.at r.num))
      | none => none

/-! ### Check 6: checkpoint regions (R569-R573) -/

/-- A region's own conditions (R569, R570). -/
def ckptOk (p : ProgHeader) (c : CkptRegion) : Bool :=
  let hbm := decide (c.base + c.bytes ≤ 0x00C000000000 ∨ (0x010000000000 ≤ c.base ∧ c.base + c.bytes ≤ hbmEnd))
  let act := decide (0x020000000000 ≤ c.base ∧ c.base + c.bytes ≤ 0x020000000000 + actBytes) ||
    decide (0x020100000000 ≤ c.base ∧ c.base + c.bytes ≤ 0x020100000000 + actBytes)
  decide (c.base % 4096 = 0 ∧ c.bytes % 4096 = 0 ∧ 4096 ≤ c.bytes) && (hbm || act) &&
    decide (p.bodyFirst ≤ c.openAt ∧ c.openAt ≤ c.sealAt ∧ c.sealAt ≤ c.closeAt ∧ c.closeAt ≤ p.bodyLast)

/-- Two regions share a byte while both are open (R571). -/
def ckptMeet (a b : CkptRegion) : Bool :=
  decide (a.base < b.base + b.bytes ∧ b.base < a.base + a.bytes ∧ a.openAt ≤ b.closeAt ∧ b.openAt ≤ a.closeAt)

/-- A record breaks a region's window in its frame (R570, R572, R573). -/
def State.recBreaks (s : State) (p : ProgHeader) (t : StepTable) (r : RecAt) : Bool :=
  let f := r.slot.frame
  let replay := bitOf (s.frameEntry p f).flags 1
  let hits := fun (c : CkptRegion) (l : List Touch) => l.any fun x => decide (x.lo < c.base + c.bytes ∧ c.base ≤ x.hi)
  t.ckpts.any fun c =>
    (hits c (s.xWrites r.words) && (replay || decide (f < c.openAt ∨ c.sealAt < f))) ||
      (hits c (s.xReads r.words) && decide (f < c.openAt ∨ c.closeAt < f))

/-- Check 6. -/
def State.ckptFail (s : State) (p : ProgHeader) (t : StepTable) : Option LoadFail :=
  loadFirst [
    t.ckpts.zipIdx.findSome? fun q => loadIf (!ckptOk p q.1) (stepFail .ERR_CKPT_WINDOW 6 { index := q.2 }),
    t.ckpts.zipIdx.findSome? fun q => loadIf ((t.ckpts.take q.2).any (ckptMeet q.1)) (stepFail .ERR_CKPT_OVERLAP 6 { index := q.2 }),
    ((s.allSlots p).flatMap s.recsOf).findSome? fun r => loadIf (s.recBreaks p t r) (stepFail .ERR_CKPT_WINDOW 6 (r.slot.at r.num))]

/-! ### Checks 7 to 9: shards, microprograms, kind-2 slots (R584-R590) -/

/-- UPROG of a kind-2 slot (R584). -/
def Slot.uprog (sl : Slot) : Nat := bitsOf sl.payload 63 48
/-- SHARD. -/
def Slot.shard (sl : Slot) : Nat := bitsOf sl.payload 47 32
/-- PASS. -/
def Slot.pass (sl : Slot) : Nat := bitsOf sl.payload 31 30

/-- A microprogram's header word. -/
def uHead (u : List Nat) : Nat := u.headD 0

/-- First word and length of a section: 0 PRE, 1 NORM, 2 UPDATE (R587). -/
def uSection (h sec : Nat) : Nat × Nat := (bitsOf h (12 * sec + 5) (12 * sec), bitsOf h (12 * sec + 11) (12 * sec + 6))

/-- The words of a section. -/
def uWords (u : List Nat) (sec : Nat) : List Nat := let (a, n) := uSection (uHead u) sec; (u.drop a).take n

/-- Streams that the microprogram of a slot uses in the sections that the slot runs. -/
def uStreams (u : List Nat) (pass : Nat) : List Nat :=
  distinct (((uWords u (pass + 1)).filter fun w => decide (ueOp w = 1 ∨ ueOp w = 2 ∨ ueOp w = 3)).map ueS)

/-- Kind-2 slots of a program that run on a shard entry. -/
def State.shardSlots (s : State) (p : ProgHeader) (i : Nat) : List SlotAt :=
  (s.allSlots p).filter fun x => x.slot.kind == 2 && x.slot.shard == i

/-- A descriptor is live, holds n elements of a type. -/
def State.descIs (s : State) (id n : Nat) (ok : ElemType → Bool) : Bool :=
  s.descLive id && decide ((s.desc id).elems = n) && ok (s.desc id).ty

/-- Eight bytes (R585). -/
def State.eightBytes (s : State) (id : Nat) : Bool := let d := s.desc id; s.descLive id && decide (d.elems * d.ty.width = 64)

/-- A shard entry's own conditions (R585, R586). -/
def State.shardOk (s : State) (p : ProgHeader) (t : StepTable) (i : Nat) (e : ShardEntry) : Bool :=
  let d := s.desc (e.stream 0)
  let flat := match s.allocOf d.alloc with | some a => !a.paged | none => false
  let used := distinct ((s.shardSlots p i).flatMap fun x => uStreams (t.uprogs.getD x.slot.uprog []) x.slot.pass)
  let h := s.desc (e.hyper % 2 ^ 20)
  s.descLive (e.stream 0) && decide (d.cls = 0) && d.ty == .fp32 && flat &&
    (used.all fun k => k == 0 || (s.descLive (e.stream k) && (s.desc (e.stream k)).elems == d.elems)) &&
    (s.descLive (e.hyper % 2 ^ 20) && decide (h.cls = 0 ∧ h.rank = 1 ∧ h.sz 0 = 16) && h.ty == .fp64) &&
    (e.normOut == 0 || s.descIs e.normOut 1 fun ty => ty == .fp32) && s.eightBytes e.digLocal && s.eightBytes e.digPeer &&
    (e.role == 0 || (e.role == 1 && e.normOut == 0 && e.group == 0xFFFFFFFF))

/-- Descriptors that a shard entry must own alone (R586). -/
def ShardEntry.owned (e : ShardEntry) : List Nat := [e.normOut, e.digLocal, e.digPeer].filter fun i => i != 0

/-- Check 7. -/
def State.shardFail (s : State) (p : ProgHeader) (t : StepTable) : Option LoadFail :=
  t.shards.zipIdx.findSome? fun q =>
    loadIf (!s.shardOk p t q.2 q.1 || (t.shards.take q.2).any fun o => o.owned.any fun i => q.1.owned.contains i) (stepBad 7 { index := q.2 })

/-- A microprogram's form: sections end at word 63, every instruction is admitted in its section (R587, R588, R590). -/
def uprogOk (u : List Nat) : Bool :=
  let h := uHead u
  decide (h < 2 ^ 36) && [0, 1, 2].all fun sec => decide ((uSection h sec).1 + (uSection h sec).2 ≤ 64) && (uWords u sec).all (ueFormOk sec)

/-- The stores of an UPDATE slot reach streams that R590 admits. -/
def State.uStoresOk (s : State) (t : StepTable) (x : SlotAt) : Bool :=
  match t.shards[x.slot.shard]? with
  | some e => x.slot.pass != 1 || (uWords (t.uprogs.getD x.slot.uprog []) 2).all fun w => ueOp w != 2 || s.ueStoreOk e (ueS w)
  | none => true

/-- Check 8. -/
def State.uprogFail (s : State) (p : ProgHeader) (t : StepTable) : Option LoadFail :=
  loadElse (t.uprogs.zipIdx.findSome? fun q => loadIf (!uprogOk q.1) (stepFail .ERR_UPROG 8 { index := q.2 })) fun _ =>
    (s.allSlots p).findSome? fun x =>
      loadIf (x.slot.kind == 2 && !s.uStoresOk t x) (stepFail .ERR_UPROG 8 (x.at x.slot.uprog))

/-- Check 9. -/
def State.passFail (s : State) (p : ProgHeader) (t : StepTable) : Option LoadFail :=
  (s.allSlots p).findSome? fun x =>
    loadIf (x.slot.kind == 2 && decide (1 < x.slot.pass ∨ bitsOf x.slot.payload 29 0 ≠ 0 ∨ t.uprogs.length ≤ x.slot.uprog ∨
      t.shards.length ≤ x.slot.shard)) (stepBad 9 x.at)

/-- The step table, stage 5. -/
def State.stepStage (s : State) (p : ProgHeader) (l : Alloc) (u : SyncTable) (off : Nat) : Option LoadFail :=
  if off = 0 then s.noStepFail p
  else
    loadElse (s.stepHeadFail p l off) fun _ =>
      let t := s.stepTableAt l off
      loadFirst [s.commitFail p t, s.barFail p u t, s.voteFail p t, s.sumFail p t, s.ckptFail p t, s.shardFail p t, s.uprogFail p t,
        s.passFail p t]

end Sys2Proof.Machine
end

