-- ==== Sys2Proof/Machine/ProgSinter.lean ====
section
/-! DEFINITION. The Sinter-table stage of PROGRAM_LOAD (13, R616-R618). -/

set_option autoImplicit false

namespace Sys2Proof.Machine

open Sys2Proof

/-- ERR_SINTER_TABLE of check n. -/
def sinBad (n : Nat) (w : LoadAt) : LoadFail := loadFail .ERR_SINTER_TABLE 6 n w

/-- GROUP of a shard entry names no group. -/
def noGroup : Nat := 0xFFFFFFFF

/-- Without a Sinter table: no kind-4 slot, no shard in a group (R616). -/
def State.noSinterFail (s : State) (p : ProgHeader) : Option LoadFail :=
  loadElse ((s.allSlots p).findSome? fun x => loadIf (x.slot.kind == 4) (sinBad 0 x.at)) fun _ =>
    match s.step.table with
    | some t => t.shards.zipIdx.findSome? fun q => loadIf (q.1.group != noGroup) (sinBad 0 { index := q.2 })
    | none => none

/-! ### The table as it stands in memory (R616, R617) -/

/-- A range's 16 bytes. -/
def rangeOf (v : Nat) : SinRange := ⟨byteField v 0 4, byteField v 4 4, byteField v 8 8⟩

/-- A group entry at an address; a data position's range list lies in the image. -/
def State.groupAt (s : State) (p : ProgHeader) (a : Nat) : SinGroup :=
  let f := byteField (s.ldNat a 64)
  { id := f 0 4, pos := f 4 1, len := f 8 4, deltas := f 0x0C 4, freshs := f 0x10 4, area := f 0x18 8
    ranges := if f 4 1 < 14 then (List.range (f 6 2)).map fun i => rangeOf (s.ldNat (p.base + f 0x18 8 + 16 * i) 16) else []
    members := (List.range 16).map fun i => f (0x20 + 2 * i) 2 }

/-- The table in an allocation; GROUP_OFF and REC_OFF count from the allocation's start (R740). -/
def State.sinTableAt (s : State) (p : ProgHeader) (l : Alloc) (off : Nat) : SinTable :=
  let f := byteField (s.ldNat (l.base + off) 64)
  { holder0 := f 0x0A 2, holder1 := f 0x0C 2, ranks := (List.range (f 8 2)).map (fun i => s.ldNat (l.base + f 0x18 8 + 2 * i) 2), alloc := f 0x20 4
    recBytes := f 0x24 4, recArea := f 0x28 8
    groups := (List.range (f 6 2)).map fun i => s.groupAt p (l.base + f 0x10 8 + 64 * i) }
/-- No element occurs twice. -/
def allDistinct : List Nat → Bool
  | [] => true
  | x :: r => !r.contains x && allDistinct r

/-- The header's form: MAGIC, VERSION, counts, reserved fields, lists inside the allocation. -/
def State.sinHeadOk (s : State) (l : Alloc) (off : Nat) : Bool :=
  let f := byteField (s.ldNat (l.base + off) 64)
  decide (off + 64 ≤ l.size ∧ f 0 4 = 0x534E5452 ∧ f 4 2 = 1 ∧ 1 ≤ f 6 2 ∧ f 6 2 ≤ 256 ∧ f 8 2 ≤ 4096 ∧ f 0x0E 2 = 0 ∧ f 0x30 16 = 0) &&
    decide (f 0x24 4 % 64 = 0 ∧ 64 ≤ f 0x24 4 ∧ f 0x10 8 + 64 * f 6 2 ≤ l.size ∧ f 0x18 8 + 2 * f 8 2 ≤ l.size)

/-- A group entry's form: position, counts, reserved fields, its range list inside the image. -/
def groupForm (p : ProgHeader) (v : Nat) : Bool :=
  let f := byteField v
  decide (f 4 1 < 16 ∧ f 5 1 = 0 ∧ f 0x14 4 = 0 ∧ 1 ≤ f 8 4 ∧ f 8 4 ≤ 131072) &&
    (if f 4 1 < 14 then decide (1 ≤ f 6 2 ∧ f 6 2 ≤ 64 ∧ f 0x18 8 + 16 * f 6 2 ≤ p.bytes) else f 6 2 == 0)

/-- The record area and the working areas, as offset and size within SIN_ALLOC. -/
def SinTable.areas (t : SinTable) : List (Nat × Nat) :=
  (t.recArea, 2 * t.recBytes * t.ranks.length) :: (t.groups.filter SinGroup.parity).map fun g => (g.area, 4 * g.len * granBytes)

/-- Areas lie inside a size and share no byte. -/
def areasOk (size : Nat) : List (Nat × Nat) → Bool
  | [] => true
  | a :: r => decide (a.1 + a.2 ≤ size) && (r.all fun b => decide (a.1 + a.2 ≤ b.1 ∨ b.1 + b.2 ≤ a.1)) && areasOk size r

/-- SIN_ALLOC is HBM, not paged, and holds nothing else of the program. -/
def State.sinAllocOk (s : State) (t : SinTable) : Bool :=
  match s.allocOf t.alloc with
  | none => false
  | some a =>
    decide (a.kind < 2) && !a.paged && areasOk a.size t.areas && !(s.namedDescs.any fun i => (s.desc i).alloc == t.alloc) &&
      (match s.step.table with | some x => !(x.ckpts.any fun c => cellsMeet c.base c.bytes a.base a.size) | none => true) &&
      t.groups.all fun g => g.ranges.all fun r => r.handle != t.alloc

/-- Check 1 of R618. -/
def State.sinFail1 (s : State) (p : ProgHeader) (l : Alloc) (off : Nat) : Option LoadFail :=
  if s.sinHeadOk l off = false then some (sinBad 1 {})
  else
    let a := l.base + byteField (s.ldNat (l.base + off) 64) 0x10 8
    let t := s.sinTableAt p l off
    loadFirst [
      (List.range t.groups.length).findSome? fun i => loadIf (!groupForm p (s.ldNat (a + 64 * i) 64)) (sinBad 1 { index := i }),
      loadIf (!(allDistinct [t.holder0, t.holder1, s.rank]) || decide (s.rd .FAB_JOB_SIZE_SIZE ≤ max t.holder0 t.holder1)) (sinBad 1 {}),
      loadIf (!s.sinAllocOk t) (sinBad 1 {})]

/-- A range lies inside one page of a paged HBM allocation, on a block boundary. -/
def State.rangeOk (s : State) (r : SinRange) : Bool :=
  match s.allocOf r.handle with
  | some a => a.paged && decide (a.kind < 2 ∧ r.offset % granBytes = 0 ∧ r.offset + r.blocks * granBytes ≤ a.size / 2)
  | none => false

/-- Two ranges share a byte. -/
def SinRange.meets (a b : SinRange) : Bool :=
  a.handle == b.handle && decide (a.offset < b.offset + b.blocks * granBytes ∧ b.offset < a.offset + a.blocks * granBytes)

/-- No two of a list of ranges share a byte. -/
def rangesApart : List SinRange → Bool
  | [] => true
  | a :: r => (r.all fun b => !a.meets b) && rangesApart r

/-- A group entry's conditions in check 2. -/
def State.groupOk (s : State) (g : SinGroup) : Bool :=
  allDistinct g.members && (g.members.all fun r => decide (r < s.rd .FAB_JOB_SIZE_SIZE)) && g.members.getD g.pos 0 == s.rank &&
    (g.parity || ((g.ranges.all s.rangeOk) && decide ((g.ranges.map (·.blocks)).foldl (· + ·) 0 ≤ g.len)))

/-- Check 2. -/
def State.sinFail2 (s : State) (t : SinTable) : Option LoadFail :=
  loadFirst [
    t.groups.zipIdx.findSome? fun q =>
      loadIf (!s.groupOk q.1 || ((t.groups.take q.2).any fun g => g.id == q.1.id)) (sinBad 2 { index := q.2 }),
    t.groups.zipIdx.findSome? fun q => loadIf (!rangesApart (q.1.ranges ++ (t.groups.take q.2).flatMap fun g => g.ranges))
      (sinBad 2 { index := q.2 }),
    loadIf (decide (131072 < ((t.groups.filter SinGroup.parity).map (·.len)).foldl (· + ·) 0)) (sinBad 2 {})]

/-! ### Check 3: stores into secured ranges -/

/-- Page offsets that a descriptor can reach (R404). -/
def State.pageReach (s : State) (d : Desc) : Option (Nat × Nat) :=
  (s.reach d).map fun r => (((d.base : Int) + r.1).toNat, ((d.base : Int) + r.2).toNat)

/-- A descriptor can reach a byte of some ranges. -/
def State.reachesRange (s : State) (id : Nat) (l : List SinRange) : Bool :=
  let d := s.desc id
  match s.pageReach d with
  | some (lo, hi) => l.any fun r => r.handle == d.alloc && decide (lo < r.offset + r.blocks * granBytes ∧ r.offset ≤ hi)
  | none => false

/-- Descriptors that the STs of an UPDATE slot store into, one for each ST. -/
def uStored (e : ShardEntry) (u : List Nat) : List Nat := ((uWords u 2).filter fun w => ueOp w == 2).map fun w => e.stream (ueS w)

/-- Descriptors that the STs of a shard entry's UPDATE slots store into, one for each ST of each microprogram. -/
def State.shardStores (s : State) (p : ProgHeader) (t : StepTable) (i : Nat) (e : ShardEntry) : List Nat :=
  (distinct (((s.shardSlots p i).filter fun x => x.slot.pass == 1).map fun x => x.slot.uprog)).flatMap fun k => uStored e (t.uprogs.getD k [])

/-- Scale descriptors that the SCALEWs of a shard entry's UPDATE slots write. -/
def State.shardScales (s : State) (p : ProgHeader) (t : StepTable) (i : Nat) (e : ShardEntry) : List Nat :=
  ((s.shardSlots p i).filter fun x => x.slot.pass == 1).flatMap fun x =>
    ((uWords (t.uprogs.getD x.slot.uprog []) 2).filter fun w => ueOp w == 3).map fun w => (s.desc (e.stream (ueS w))).scaleLink

/-- STs that reach their entry's ranges, with the shard entry. -/
def State.rangeStores (s : State) (p : ProgHeader) (t : StepTable) (k : SinTable) : List (Nat × Nat) :=
  t.shards.zipIdx.flatMap fun q =>
    match k.groups[q.1.group]? with
    | some g => ((s.shardStores p t q.2 q.1).filter fun i => s.reachesRange i g.ranges).map fun i => (q.2, i)
    | none => []

/-- Two descriptors can reach a common byte. -/
def State.reachMeets (s : State) (i j : Nat) : Bool :=
  let a := s.desc i
  let b := s.desc j
  match s.pageReach a, s.pageReach b with
  | some (lo, hi), some (lo', hi') => a.alloc == b.alloc && decide (lo ≤ hi' ∧ lo' ≤ hi)
  | _, _ => false

/-- A stream that secured bytes are stored through. -/
def denseStream (d : Desc) : Bool := decide (d.rank = 1 ∧ d.sd 0 = (d.ty.unitBytes : Nat))

/-- Check 3 on a shard entry. -/
def State.shardSecured (s : State) (p : ProgHeader) (t : StepTable) (k : SinTable) (i : Nat) (e : ShardEntry) : Bool :=
  if e.group = noGroup then true
  else
    match k.groups[e.group]? with
    | none => false
    | some g =>
      let all := s.shardStores p t i e
      let mine := all.filter fun d => s.reachesRange d g.ranges
      let others := (s.rangeStores p t k).filter fun q => q.1 != i
      !g.parity && (s.shardSlots p i).all (fun x => x.slot.xmod) &&
        (mine.all fun d => denseStream (s.desc d) && (all.filter fun o => o == d).length == 1 &&
          (mine.all fun o => o == d || !s.reachMeets d o) && others.all fun q => !s.reachMeets d q.2) &&
        (s.shardScales p t i e).all fun d => !(k.groups.any fun g => s.reachesRange d g.ranges)

/-- Check 3. -/
def State.sinFail3 (s : State) (p : ProgHeader) (k : SinTable) : Option LoadFail :=
  match s.step.table with
  | none => none
  | some t => t.shards.zipIdx.findSome? fun q => loadIf (!s.shardSecured p t k q.2 q.1) (sinBad 3 { index := q.2 })

/-! ### Checks 4 and 5 -/

/-- GROUP of a kind-4 slot (R628). -/
def Slot.sinGroup (sl : Slot) : Nat := bitsOf sl.payload 51 44
/-- FIRST. -/
def Slot.sinFirst (sl : Slot) : Nat := bitsOf sl.payload 43 22
/-- BLOCKS. -/
def Slot.sinBlocks (sl : Slot) : Nat := bitsOf sl.payload 21 0

/-- A kind-4 slot's form; a RESECURE slot carries XMOD (R632) and names a data position. -/
def sinSlotOk (k : SinTable) (x : SlotAt) : Bool :=
  let sl := x.slot
  decide (sl.action ≤ 1 ∧ bitsOf sl.payload 59 52 = 0) &&
    if sl.action = 0 then decide (bitsOf sl.payload 51 0 = 0)
    else x.slot.xmod && match k.groups[sl.sinGroup]? with | some g => !g.parity && decide (sl.sinFirst + sl.sinBlocks ≤ g.len) | none => false

/-- The runs of blocks cover 0 to n − 1, each once. -/
def coverOnce (n : Nat) (l : List (Nat × Nat)) : Bool :=
  decide ((l.map (·.2)).foldl (· + ·) 0 = n) && areasOk n l

/-- Check 4. -/
def State.sinFail4 (s : State) (p : ProgHeader) (k : SinTable) : Option LoadFail :=
  let xs := (s.allSlots p).filter fun x => x.slot.kind == 4
  let body := xs.filter fun x => decide (p.bodyFirst ≤ x.frame ∧ x.frame ≤ p.bodyLast)
  loadFirst [
    xs.findSome? fun x => loadIf (!sinSlotOk k x) (sinBad 4 x.at),
    loadIf (decide ((body.filter fun x => x.slot.action == 0).length ≠ 1)) (sinBad 4 {}),
    k.groups.zipIdx.findSome? fun q => loadIf (!q.1.parity && !coverOnce q.1.len
      ((body.filter fun x => x.slot.action == 1 && x.slot.sinGroup == q.2).map fun x => (x.slot.sinFirst, x.slot.sinBlocks)))
      (sinBad 4 { index := q.2 })]

/-- Check 5: RIDs of Sinter. -/
def State.sinFail5 (s : State) (p : ProgHeader) : Option LoadFail :=
  ((s.allSlots p).flatMap s.redsOf).findSome? fun r =>
    loadIf (decide (0x3F00 ≤ r.red.rid)) (sinBad 5 (r.slot.at r.num))

/-- The Sinter table, stage 6. The state holds the program's header and step table. -/
def State.sinterStage (s : State) (p : ProgHeader) (l : Alloc) (off : Nat) : Option LoadFail :=
  if off = 0 then s.noSinterFail p
  else
    loadElse (s.sinFail1 p l off) fun _ =>
      let k := s.sinTableAt p l off
      loadFirst [s.sinFail2 k, s.sinFail3 p k, s.sinFail4 p k, s.sinFail5 p]

end Sys2Proof.Machine
end

