-- ==== Sys2Proof/Machine/AllocRows.lean ====
section
/-! DEFINITION. The mailbox commands that set the module up: ALLOC, FREE, DESC_CREATE, POLICY_LOAD, PACE_GROUP_JOIN; and writes
of the share registers. -/

set_option autoImplicit false

namespace Sys2Proof.Machine

open Sys2Proof

/-! ### ALLOC (R391, R430-R433, R579, R788) -/

/-- Arguments of ALLOC. -/
structure AllocArgs where
  handle : Nat
  kind : Nat
  place : Nat
  bytes : Nat
  symmetric : Bool
  paged : Bool
deriving DecidableEq, Repr

/-- Size granule of a kind (R391). -/
def kindGranule (kind : Nat) : Nat := if kind = 0 then 32768 else if kind = 3 then 32 else 4096

/-- First address of a stack's local view (R431). -/
def stackBase (n : Nat) : Nat := 0x010000000000 + n * 0x000C00000000

/-- First address of the host window (R770). -/
def hostWindow : Nat := 0x050000000000

/-- Addresses that an allocation of a kind may take (R391, R433): first, and one past the last. -/
def kindRange (kind place : Nat) : Nat × Nat :=
  match kind with
  | 0 => (0, 0x00BF00000000)
  | 1 => (stackBase place, 0x000BF0000000 + stackBase place)
  | 2 => (sliceAddr (place * 128) 0, sliceAddr (place * 128) 0 + actBytes)
  | 3 => (ocAddr place 0, 0x300000 + ocAddr place 0)
  | _ => (hostWindow, 0x010000000000 + hostWindow)

/-- A run of cells: the stacks it lies on (16 for all of them, 17 outside HBM), first offset or address, one past the last. -/
structure CellRun where
  area : Nat
  first : Nat
  last : Nat
deriving DecidableEq, Repr

/-- The cells of a run of bytes of a kind (R430, R431): an interleaved run of whole granules covers one run of each stack. -/
def cellRun (kind place base size : Nat) : CellRun :=
  match kind with
  | 0 => ⟨16, base / 16, (base + size) / 16⟩
  | 1 => ⟨place, base - stackBase place, base - stackBase place + size⟩
  | _ => ⟨17, base, base + size⟩

/-- The cells of an allocation. -/
def Alloc.run (l : Alloc) : CellRun := cellRun l.kind l.place l.base l.size

/-- Two runs lie on a common area. -/
def CellRun.sameArea (a b : CellRun) : Bool :=
  if a.area = 17 ∨ b.area = 17 then a.area == b.area else a.area == 16 || b.area == 16 || a.area == b.area

/-- Two runs share a cell (R432). -/
def CellRun.meets (a b : CellRun) : Bool := a.sameArea b && decide (a.first < b.last ∧ b.first < a.last)

/-- The first address of a kind, a whole number of granules, behind a run. -/
def afterRun (kind place : Nat) (r : CellRun) : Nat :=
  let g := kindGranule kind
  match kind with
  | 0 => ceilDiv (r.last * 16) g * g
  | 1 => stackBase place + ceilDiv r.last g * g
  | _ => ceilDiv r.last g * g

/-- The least of a list. -/
def leastOf : List Nat → Option Nat
  | [] => none
  | n :: r => match leastOf r with | some m => some (min n m) | none => some n

/-- Lowest free address of a kind that holds a size, searched by cells (R391, R788). -/
def State.findPlace (s : State) (kind place size : Nat) : Option Nat :=
  let (lo, hi) := kindRange kind place
  let near := s.allocs.filter fun l => (cellRun kind place lo 0).sameArea l.run
  let cands := lo :: near.map fun l => afterRun kind place l.run
  leastOf (cands.filter fun a => decide (lo ≤ a ∧ a + size ≤ hi) && near.all fun l => !(cellRun kind place a size).meets l.run)

/-- The lowest run of n free entries of HA_ATU from entry i on, `run` of which end at i (R770). -/
def State.freeAtu (s : State) (n : Nat) : Nat → Nat → Nat → Option Nat
  | 0, _, _ => none
  | fuel + 1, i, run =>
    if s.rd .HA_ATU_VALID i = 1 then s.freeAtu n fuel (i + 1) 0
    else if n ≤ run + 1 then some (i - run) else s.freeAtu n fuel (i + 1) (run + 1)

/-- Entries of HA_ATU that a size takes. -/
def atuEntries (size : Nat) : Nat := ceilDiv size 0x10000000

/-- HA_ATU entries written for a HOST allocation (R770). -/
def State.fillAtu (s : State) (first n bus : Nat) : State :=
  (List.range n).foldl (fun (s : State) (j : Nat) =>
    (s.wr .HA_ATU_HOST_BASE ((bus + j * 0x10000000) / 4096) (first + j)).wr .HA_ATU_VALID 1 (first + j)) s

/-- HA_ATU entries cleared at FREE (R770). -/
def State.clearAtu (s : State) (first n : Nat) : State :=
  (List.range n).foldl (fun (s : State) (j : Nat) =>
    (s.wr .HA_ATU_HOST_BASE 0 (first + j)).wr .HA_ATU_VALID 0 (first + j)) s

/-- Checks 1 to 4 of R788. -/
def State.allocError (s : State) (a : AllocArgs) : Option Err :=
  let g := kindGranule a.kind
  if a.handle = 0 ∨ (s.allocOf a.handle).isSome then some .ERR_ALLOC_HANDLE
  else if 4 < a.kind ∨ (a.paged = true ∧ 2 ≤ a.kind) then some .ERR_MBX_STATE
  else if (a.kind = 1 ∧ 16 ≤ a.place) ∨ (a.kind = 2 ∧ 2 ≤ a.place) ∨ (a.kind = 3 ∧ 256 ≤ a.place) ∨ (a.kind = 4 ∧ a.place % 4096 ≠ 0) then
    some .ERR_ALLOC_PLACE
  else if a.bytes = 0 ∨ a.bytes % (if a.paged then 2 * g else g) ≠ 0 then some .ERR_ALLOC_SIZE
  else none

/-- The address at which an allocation finds room (check 5 of R788). -/
def State.allocBase (s : State) (a : AllocArgs) : Option Nat :=
  if a.kind = 4 then
    let n := atuEntries a.bytes
    (s.freeAtu n 4096 0 0).map fun i => hostWindow + i * 0x10000000
  else s.findPlace a.kind a.place a.bytes

/-- ALLOC (R391, R788): the byte address. The search is by cells, so check 6 never fails. -/
def State.allocate (s : State) (a : AllocArgs) (tag : Nat) : State × Answer :=
  match s.allocError a with
  | some e => (s, .fail e tag)
  | none =>
    match s.allocBase a with
    | none => (s, .fail .ERR_ALLOC_SPACE tag)
    | some b =>
      let s := if a.kind = 4 then s.fillAtu ((b - hostWindow) / 0x10000000) (atuEntries a.bytes) a.place else s
      ({ s with allocs := s.allocs ++ [⟨a.handle, a.kind, a.place, b, a.bytes, a.symmetric, a.paged⟩] }, .ok b)

/-- ALLOC (R788). -/
def execAlloc (tag handle kind place bytes : Nat) (symmetric paged : Bool) (s : State) : Res :=
  .next (s.serve 0x10 tag fun s => s.allocate ⟨handle, kind, place, bytes, symmetric, paged⟩ tag)

/-! ### FREE (R393) -/

/-- An allocation is in use (R393). -/
def State.allocInUse (s : State) (l : Alloc) : Bool :=
  s.descs.any (fun i => (s.desc i).alloc == l.handle) ||
    (match s.prog with | some p => p.handle == l.handle | none => false) ||
    s.policy.statHandle == l.handle ||
    (match s.sin.table with | some t => t.alloc == l.handle | none => false) ||
    (match s.fum.ring with | some (a, _) => decide (l.base ≤ a ∧ a < l.base + l.size) | none => false) ||
    match s.fab.job with | some j => j.handle == l.handle | none => false

/-- FREE of an allocation. -/
def State.freeAlloc (s : State) (h tag : Nat) : State × Answer :=
  match s.allocOf h with
  | none => (s, .fail .ERR_ALLOC_HANDLE tag)
  | some l =>
    if s.allocInUse l then (s, .fail .ERR_ALLOC_IN_USE tag)
    else
      let s := if l.kind = 4 then s.clearAtu ((l.base - hostWindow) / 0x10000000) (atuEntries l.size) else s
      ({ s with allocs := s.allocs.filter fun x => x.handle != h }, .ok 0)

/-- A live descriptor that the loaded program names, or that another live descriptor links to (R393). -/
def State.descInUse (s : State) (id : Nat) : Bool :=
  s.namedDescs.contains id || s.descs.any fun i => i != id && (s.linked [i]).contains id

/-- FREE of a descriptor. -/
def State.freeDesc (s : State) (id tag : Nat) : State × Answer :=
  if s.descLive id = false then (s, .fail .ERR_DESC_UNKNOWN tag)
  else if s.descInUse id then (s, .fail .ERR_DESC_IN_USE tag)
  else ({ s with descs := s.descs.filter fun i => i != id }, .ok 0)

/-- FREE (R393): of a descriptor or of an allocation. -/
def execFree (tag : Nat) (isDesc : Bool) (handle : Nat) (s : State) : Res :=
  .next (s.serve 0x11 tag fun s => if isDesc then s.freeDesc handle tag else s.freeAlloc handle tag)

/-! ### DESC_CREATE (R383, R420, R421, R426) -/

/-- DESC_CREATE on an ID and 128 bytes: CHECK is computed and entered with them. -/
def State.createDesc (s : State) (id : Nat) (bs : List Byte) : State × Answer :=
  let v := leNat bs
  match s.descValidate id v with
  | some (e, off, dim) => (s, .err e off dim)
  | none =>
    let c := descCheck v
    let s := s.stBytes (descTable + id * 128) (leBytes 128 (v + c * 2 ^ (8 * 0x7A)))
    ({ s with descs := s.descs ++ [id] }, .ok c)

/-- DESC_CREATE (R420). -/
def execDescCreate (tag descId : Nat) (blk : List Byte) (s : State) : Res :=
  .next (s.serve 0x12 tag fun s => s.createDesc descId blk)

/-! ### Shares (R435, R436) -/

/-- Windows that the four bytes of a share register own. -/
def shareSum (v : Nat) : Nat := v % 256 + v / 256 % 256 + v / 65536 % 256 + v / 16777216 % 256

/-- Windows owned with a background share and the four registers of each kind (R435). -/
def ownedWindows (bg : Nat) (regs : List Nat) : Nat := bg + (regs.map shareSum).foldl (· + ·) 0

/-- The eight share registers, stream engines first. -/
def State.shareRegs (s : State) : List Nat :=
  (List.range 4).map (fun i => s.rd .RES_SHARE_SE_SHARE i) ++ (List.range 4).map fun i => s.rd .RES_SHARE_UE_SHARE i

/-- Fields whose range the spec gives without saying what a write outside it stores: the mailbox rings' sizes, the moderation
intervals (R751) and the host completion timeout (R785). -/
def rangeOpen (f : Fld) : Bool :=
  match f with
  | .MBX_CMD_SIZE_LOG2 | .MBX_RSP_SIZE_LOG2 | .MBX_IRQ_MOD_US | .HA_CPL_TMO_US_TMO => true
  | _ => false

/-- The value that a write of a field stores (R110, R295, R482, R640, R714, R715, R750): outside the range its nearest limit, and for
the open fields any value of the range. -/
def State.rangeValue (s : State) (f : Fld) (v : Nat) : Nat :=
  let r := fldRow f
  if r.min ≤ v ∧ v ≤ r.max then v
  else clampNat r.min r.max (if rangeOpen f then Config.outOfRange s.free v else v)

/-- A value written to a field with a range. -/
def State.rangeWrite (s : State) (f : Fld) (v : Nat) (i : Nat := 0) : State :=
  let w := s.rangeValue f v
  (if rangeOpen f then { s with free := s.free + 1 } else s).wr f w i

/-- The owned windows would exceed the rotation (R436). -/
def State.shareOver (s : State) (rank : Nat) : State := s.raiseArb .ERR_SHARE_SUM regFabric rank

/-- A write of RES_CTRL (R435, R436, R473): BG_WINDOWS only while the sequencer allows it. -/
def State.writeResCtrl (s : State) (rank bg starve : Nat) : State :=
  if s.seqFree = true ∧ 200 < ownedWindows (s.rangeValue .RES_CTRL_BG_WINDOWS bg) s.shareRegs then s.shareOver rank
  else
    let s := if s.seqFree then s.rangeWrite .RES_CTRL_BG_WINDOWS bg else s
    s.rangeWrite .RES_CTRL_STARVE_N starve

/-- A write of share register k: 0 to 3 the stream engines', 4 to 7 the update engines' (R436). -/
def State.writeShare (s : State) (rank k v : Nat) : State :=
  let v := v % 2 ^ 32
  if s.seqFree = false then s
  else if 200 < ownedWindows (s.rd .RES_CTRL_BG_WINDOWS) (setAt s.shareRegs k v) then s.shareOver rank
  else if k < 4 then s.wr .RES_SHARE_SE_SHARE v k else s.wr .RES_SHARE_UE_SHARE v (k - 4)

/-- RES_SHARE_WRITE (R436): register 0 is RES_CTRL, 1 to 4 RES_SHARE_SE, 5 to 8 RES_SHARE_UE. -/
def execResShareWrite (rank reg value : Nat) (s : State) : Res :=
  .next (if reg = 0 then s.writeResCtrl rank (bitsOf value 12 8) (bitsOf value 7 0) else s.writeShare rank (reg - 1) value)

/-! ### POLICY_LOAD (R741) -/

/-- MAGIC, VERSION and the reserved fields of the block. -/
def policyFormOk (v : Nat) : Bool :=
  decide (byteField v 0 4 = 0x594C4F50 ∧ byteField v 4 2 = 1 ∧ byteField v 0x16 2 = 0 ∧ byteField v 0x48 56 = 0)

/-- COORD would change FAB_COORD while R528 forbids it. -/
def State.coordRefused (s : State) (c : Nat) : Bool :=
  c != 0xFFFF && !(s.rd .FAB_COORD_VALID == 1 && s.rd .FAB_COORD_COORD == c) && (List.range 18).any fun p => decide (3 ≤ s.portState p)

/-- The statistics table lies in a live allocation (R163). -/
def State.statTableOk (s : State) (handle slots off : Nat) : Bool :=
  slots == 0 || match s.allocOf handle with | some a => decide (off + slots * 32 ≤ a.size) | none => false

/-- Every ACTIVE tile's key store loaded with the salt (R138, R644). -/
def State.loadKeys (s : State) : State :=
  (List.range 272).foldl (fun (s : State) (p : Nat) => if (s.pt p).state = .active then s.loadKey p else s) s

/-- The fields of a block that is accepted. -/
def State.applyPolicy (s : State) (v : Nat) : State :=
  let f := byteField v
  let rank := s.cpPrimary + 1
  let s := if f 6 2 = 0xFFFF then s else s.writeCoord true (f 6 2)
  let s := { s with policy := { s.policy with salt := f 8 8 } }.loadKeys
  let base := match s.allocOf (f 0x10 4) with | some a => a.base + f 0x18 8 | none => 0
  let s := { s with policy := { s.policy with
    statHandle := f 0x10 4, statBase := base, statSlots := f 0x14 2
    secureS := clampNat 60 900 (if 60 ≤ f 0x42 2 ∧ f 0x42 2 ≤ 900 then f 0x42 2 else Config.outOfRange s.free (f 0x42 2))
    sliceGapMs := f 0x44 2 } }
  let s := { s with free := s.free + 1 }
  let s := (List.range 8).foldl (fun (s : State) (k : Nat) => s.writeShare rank k (f (0x20 + 4 * k) 4)) s
  let s := s.writeResCtrl rank (f 0x40 1) (f 0x41 1)
  s.rangeWrite .PWR_PACE_ROUND_ROUND (f 0x46 2)

/-- POLICY_LOAD (R741). -/
def State.loadPolicy (s : State) (v tag : Nat) : State × Answer :=
  if s.seqFree = false ∨ policyFormOk v = false ∨ s.coordRefused (byteField v 6 2) = true ∨
      s.statTableOk (byteField v 0x10 4) (byteField v 0x14 2) (byteField v 0x18 8) = false then (s, .fail .ERR_MBX_STATE tag)
  else (s.applyPolicy v, .ok 0)

/-- POLICY_LOAD (R741). -/
def execPolicyLoad (tag : Nat) (blk : List Byte) (s : State) : Res :=
  .next (s.serve 0x02 tag fun s => s.loadPolicy (leNat blk) tag)

/-! ### PACE_GROUP_JOIN (R529-R533) -/

/-- A job table as it stands in memory at an address (R529). -/
structure JobTable where
  magic : Nat
  version : Nat
  id : Nat
  size : Nat
  rank : Nat
  mesh : List Nat
  reserved : Bool
  rankMap : List Nat
  routes : Tab Nat
deriving DecidableEq, Repr

/-- n little-endian values of w bytes at an address. -/
def State.ldList (s : State) (a w n : Nat) : List Nat := (List.range n).map fun i => s.ldNat (a + w * i) w

/-- The entries that are not 0, by coordinate. -/
def sparse (l : List Nat) : Tab Nat := ((List.range l.length).zip l).filter fun p => p.2 != 0

/-- The job table at an address; its offsets count from there. -/
def State.jobTable (s : State) (a : Nat) : JobTable :=
  let v := s.ldNat a 64
  let f := byteField v
  { magic := f 0 4, version := f 4 2, id := f 8 4, size := f 0x0C 4, rank := f 0x10 2
    mesh := (List.range 6).map fun i => f (0x14 + 2 * i) 2
    reserved := decide (f 6 2 = 0 ∧ f 0x12 2 = 0 ∧ f 0x30 16 = 0)
    rankMap := if f 0x0C 4 ≤ 65536 then s.ldList (a + f 0x20 8) 2 (f 0x0C 4) else []
    routes := sparse (s.ldList (a + f 0x28 8) 4 65536) }

/-- A route entry (R533): one to four ports, no reserved bit. -/
def routeEntryOk (m : Nat) : Bool := decide (m < 2 ^ 18) && decide (1 ≤ (maskPorts m).length ∧ (maskPorts m).length ≤ 4)

/-- The checks of R530. -/
def JobTable.ok (t : JobTable) (coord : Nat) : Bool :=
  decide (t.magic = 0x4A4F424C ∧ t.version = 1) && t.reserved &&
    decide ((t.mesh.map (· + 1)).foldl (· * ·) 1 = t.size ∧ t.rank < t.size) &&
    allDistinct t.rankMap && t.rankMap[t.rank]? == some coord &&
    t.routes.all fun p => p.1 != coord && routeEntryOk p.2

/-- The module joins the job of a table in an allocation (R529, R531, R690). -/
def State.joinJob (s : State) (t : JobTable) (handle : Nat) (freeRun : Bool) : State :=
  let s := { s with fab := { s.fab with job := some ⟨handle, t.rankMap, t.routes, freeRun⟩ } }
  let s := ((s.wr .FAB_JOB_SIZE_SIZE t.size).wr .FAB_JOB_RANK_RANK t.rank).wr .FAB_JOB_ID_ID t.id
  let s := (List.range 3).foldl (fun (s : State) (i : Nat) =>
    (s.wr .FAB_MESH_N_EVEN (t.mesh.getD (2 * i) 0) i).wr .FAB_MESH_N_ODD (t.mesh.getD (2 * i + 1) 0) i) s
  s.wr .PWR_STATUS_FREE_RUN (b2n freeRun)

/-- More than 1/16 of a job's members are free-running (R691); `free` of them are, as the exchange found. -/
def crowded (size free : Nat) : Bool := decide (1 < size ∧ size < 16 * free)

/-- PACE_GROUP_JOIN (R530, R536, R691, R737, R783): the table lies in an HBM allocation. `cycle`: the route tables of all members,
which the join exchanges, hold a cycle; `free`: members that are free-running. -/
def State.paceJoin (s : State) (handle offset : Nat) (freeRun cycle : Bool) (free : Nat) (tag : Nat) : State × Answer :=
  if s.seq ≠ .empty ∨ !s.start.hbmBad.isEmpty then (s, .fail .ERR_MBX_STATE tag)
  else if s.rd .STR_CTRL_MAINT = 1 then (s, .fail .ERR_FUSE_STATE tag)
  else
    match s.allocOf handle with
    | none => (s, .fail .ERR_MBX_STATE tag)
    | some a =>
      if 2 ≤ a.kind ∨ a.size < offset + 64 then (s, .fail .ERR_MBX_STATE tag)
      else
        let t := s.jobTable (a.base + offset)
        if t.ok (s.rd .FAB_COORD_COORD) = false then (s, .fail .ERR_FAB_JOB tag)
        else if cycle then (s, .fail .ERR_FAB_ROUTE tag)
        else if crowded t.size free then (s, .fail .ERR_PACE_MODE tag)
        else (s.joinJob t handle freeRun, .ok 0)

/-- PACE_GROUP_JOIN (R530). -/
def execPaceGroupJoin (tag handle offset : Nat) (terms : JoinTerms) (s : State) : Res :=
  .next (s.serve 0x32 tag fun s => s.paceJoin handle offset terms.freeRun terms.cycle terms.free tag)

/-- PACE_GROUP_LEAVE (R531). -/
def execPaceGroupLeave (tag : Nat) (s : State) : Res :=
  .next (s.serve 0x32 tag fun s =>
    if s.seqFree = true ∧ s.fab.job.isSome = true then (s.unloadProgram.leaveJob, .ok 0) else (s, .fail .ERR_MBX_STATE tag))

end Sys2Proof.Machine
end

