-- ==== Sys2Proof/Machine/CalRows.lean ====
section
/-! DEFINITION. The events of Caldera and the Vent path on a tile (04): each start takes the next command of its unit
once its waits are over, each end the oldest that runs. -/

set_option autoImplicit false

namespace Sys2Proof.Machine

open Sys2Proof

/-- The next command of a unit may start. -/
def State.opReady (s : State) (t : Nat) (u : CalUnit) : Option CalOp :=
  let x := s.tile t
  match x.nextOf u with
  | some o => if unitFree u (x.earlier u) && s.waitsOver o.cmd (x.earlier u) then some o else none
  | none => none

/-- CAL_WLOAD_START (R187-R190, R794): the next weight load starts. -/
def execCalWloadStart (t : Nat) (s : State) : Res :=
  match s.opReady t .weight with
  | some o => .next ((s.wloadStart t o).retryTile t)
  | none => .next s

/-- A started command of a unit. -/
def startedOf (u : CalUnit) (o : CalOp) : Bool := o.started && o.cmd.unit == u

/-- WEIGHT_SET_LOADED (R188, R189): the set is LOADED. -/
def execWeightSetLoaded (t : Nat) (s : State) : Res :=
  let x := s.tile t
  match x.cal.find? (startedOf .weight) with
  | some o =>
    match o.cmd with
    | .wload w .. => .next (((s.setTile t (x.setWset w { x.wset w with state := .loaded })).endOp t (startedOf .weight)).retryTile t)
    | _ => .next s
  | none => .next s

/-- CAL_MM_START (R189, R199, R222, R223, R794). -/
def execCalMmStart (t : Nat) (s : State) : Res :=
  match s.opReady t .feed with
  | some o => .next ((s.mmStart t o).retryTile t)
  | none => .next s

/-- A matrix multiply ended by a hardware fault: the bank is left EMPTY (R225, R229, R237), the steps completed so far count (R216,
R236); a skew takes the tile out of service, which resets it (R647). -/
def State.mmFault (s : State) (t bank : Nat) (o : CalOp) (f : CalFault) : State :=
  let s := match f with
    | .none => s
    | .feedSkew _ _ => s.creditAll t
    | _ => s.creditNow t o
  let drop := fun (s : State) =>
    let x := s.tile t
    ((s.setTile t { x.setBank bank Bank.reset with cal := dropFirst (startedOf .feed) x.cal })).settleTile t
  match f with
  | .none => s
  | .feedParity row stamp =>
    (drop (s.bump .CAL_FEED_ERR_PARITY 1 t)).raiseSlot .ERR_FEED_PARITY t o.slot 0 row stamp
  | .feedSkew row stamp =>
    ((drop (s.bump .CAL_FEED_ERR_SKEW 1 t)).raiseSlot .ERR_FEED_SKEW t o.slot 0 row stamp).tileFault t
  | .setParity set => (drop s).raiseSlot .ERR_WSET_PARITY t o.slot 0 set
  | .accParity => (drop s).raiseSlot .ERR_ACC_PARITY t o.slot 0 bank

/-- CAL_MM_COMPLETE (R209, R216, R220, R229): the oldest multiply's last step is summed, or a fault ends it. -/
def execCalMmComplete (t : Nat) (fault : CalFault) (s : State) : Res :=
  match (s.tile t).cal.find? (startedOf .feed) with
  | some o =>
    match o.cmd with
    | .mm bank .. =>
      .next ((if fault = .none then s.completeFill t bank o (startedOf .feed) else s.mmFault t bank o fault).retryTile t)
    | _ => .next s
  | none => .next s

/-- CAL_ACCLOAD_START (R212, R222, R794). -/
def execCalAccloadStart (t : Nat) (s : State) : Res :=
  match s.opReady t .port with
  | some o =>
    match o.cmd with
    | .accload .. => .next ((s.accloadStart t o).retryTile t)
    | _ => .next s
  | none => .next s

/-- A started ACCLOAD. -/
def isAccloadStarted (o : CalOp) : Bool := o.started && match o.cmd with | .accload .. => true | _ => false

/-- CAL_ACCLOAD_COMPLETE (R212, R237): the bank is HELD, or EMPTY after a parity error. -/
def execCalAccloadComplete (done : BankEnd) (s : State) : Res :=
  let t := done.tile
  match (s.tile t).cal.find? isAccloadStarted with
  | some o =>
    match o.cmd with
    | .accload bank .. =>
      .next ((if done.accParity then s.fillParity t bank o isAccloadStarted else s.completeFill t bank o isAccloadStarted).retryTile t)
    | _ => .next s
  | none => .next s

/-- CAL_DRAIN_START (R213, R217, R794). -/
def execCalDrainStart (t : Nat) (s : State) : Res :=
  match s.opReady t .port with
  | some o =>
    match o.cmd with
    | .drain .. => .next ((s.drainStart t o).retryTile t)
    | _ => .next s
  | none => .next s

/-- CAL_DRAIN_POST (R213-R217, R237, R251): the oldest drain posts an entry or ends its WIDE write. -/
def execCalDrainPost (post : DrainEnd) (s : State) : Res :=
  match (s.tile post.tile).cal.find? isPortStarted with
  | some o => .next ((s.drainPost post.tile o post.event).retryTile post.tile)
  | none => .next s

/-- VENT_MV_START (R231-R234, R794): the next Vent multiply starts once its chunks stand in the stream buffer. -/
def execVentMvStart (t : Nat) (s : State) : Res :=
  match s.opReady t .vent with
  | some o =>
    match o.cmd with
    | .vent bank _ atype _ acc k =>
      let ok := (checkVent (s.tile t) bank atype acc k).isNone
      if ok && decide (ventReady t (s.ventOf (ventK k).engine) < ventBytes (ventK k)) then .next s
      else .next ((s.ventStart t o).retryTile t)
    | _ => .next s
  | none => .next s

/-- VENT_MV_COMPLETE (R234, R237): the last sums are in the bank, or it is EMPTY after a parity error. -/
def execVentMvComplete (done : BankEnd) (s : State) : Res :=
  let t := done.tile
  match (s.tile t).cal.find? (startedOf .vent) with
  | some o =>
    match o.cmd with
    | .vent bank .. =>
      .next ((if done.accParity then s.fillParity t bank o (startedOf .vent) else s.completeFill t bank o (startedOf .vent)).retryTile t)
    | _ => .next s
  | none => .next s

end Sys2Proof.Machine
end

