-- ==== Sys2Proof/Machine/ProgRows.lean ====
section
/-! DEFINITION. PROGRAM_LOAD and PROGRAM_START (02, R99-R102). -/

set_option autoImplicit false

namespace Sys2Proof.Machine

open Sys2Proof

/-! ### PROGRAM_LOAD -/

/-- The synchronisation table of the arguments; none declares nothing. -/
def State.syncOf (s : State) (l : Alloc) (off : Nat) : SyncTable := if off = 0 then ⟨0xFF, 0, []⟩ else s.syncTableAt (l.base + off)

/-- The state in which the later stages judge a program: it holds the header and the step table. -/
def State.loading (s : State) (a : ProgArgs) (p : ProgFile) : State :=
  { s with prog := some p.head, step := { s.step with table := if a.step = 0 then none else some (s.stepTableAt p.alloc a.step) } }

/-- The checks of R99 and the stages of R100, from the header's contents on. -/
def State.planFail (s : State) (a : ProgArgs) (p : ProgFile) : Option LoadFail :=
  let h := p.head
  let t := s.loading a p
  loadElse (headerFail a p) fun _ => loadElse (s.paceModeFail h) fun _ => loadElse (bodyFail h) fun _ =>
    loadElse (s.directoryFail h) fun _ => loadElse (s.kindFail h) fun _ => loadElse (s.fitFail h) fun _ =>
      loadElse (t.descStage h) fun _ => loadElse (t.padStage h) fun _ => loadElse (t.syncStage h p.alloc a.sync) fun _ =>
        loadElse (t.powerStage h p.alloc a.power) fun _ => loadElse (t.stepStage h p.alloc (s.syncOf p.alloc a.sync) a.step) fun _ =>
          t.sinterStage h p.alloc a.sinter

/-- Compatibility mask: VE_CTRL.ACC_WINDOW of each tile (R284). -/
def State.setCompat (s : State) (mask : Nat) : State :=
  (List.range 256).foldl (fun (s : State) (t : Nat) => s.wr .VE_CTRL_ACC_WINDOW (b2n (bitOf mask t)) t) s

/-- Registers that take their values from the header, or that a load clears (R52, R110, R674). -/
def State.loadRegs (s : State) (h : ProgHeader) : State :=
  let s := (s.wr .GEY_FRAME_PERIOD_NS_PERIOD h.period).wr .GEY_SLACK_BP_SLACK h.slack
  let s := ((s.rst .GEY_PROG_FRAME_INDEX).rst .GEY_IDLE_TICKS_COUNT).rst .GEY_JOIN_TICKS_COUNT
  let s := (s.wr .PWR_FIXED_OP_OP h.baseOp).wr .PWR_STATUS_OPPORTUNISTIC (b2n h.opportunistic)
  s.setOp s.opNow

/-- A program that passes is loaded (R86, R489, R566, R616). -/
def State.install (s : State) (a : ProgArgs) (p : ProgFile) : State :=
  let u := s.syncOf p.alloc a.sync
  let k := if a.sinter = 0 then none else some (s.sinTableAt p.head p.alloc a.sinter)
  let s := { s.loading a p with
    seq := .loaded
    sync := { s.sync with table := decide (a.sync ≠ 0), decls := u.decls, barParent := u.parent, barChildren := u.children }
    sin := { s.sin with table := k } }
  (s.setCompat a.compat).loadRegs p.head

/-- PREFILLED clears on any PROGRAM_LOAD (R646). -/
def State.dropPrefills (s : State) : State := { s with str := { s.str with prefilled := [] } }

/-- A failed load: recorded with severity INFO; no program is loaded (R99, R789). -/
def State.loadFailed (s : State) (f : LoadFail) : State × Answer := (s.raiseInfo f.err (.cp s.cpPrimary) f.d0 f.d1, .known f.err)

/-- PROGRAM_LOAD (R99, R100): what precedes check 1 changes nothing; from there an earlier program is unloaded. -/
def State.loadProgram (s : State) (a : ProgArgs) : State × Answer :=
  if s.seqFree = false ∨ s.start.hbmBad ≠ [] then s.loadFailed (loadFail .ERR_MBX_STATE 0 0 {})
  else if s.rd .STR_CTRL_MAINT = 1 then s.loadFailed (loadFail .ERR_FUSE_STATE 0 0 {})
  else
    let s := s.unloadProgram.dropPrefills
    match s.allocOf a.handle with
    | none => s.loadFailed (loadFail .ERR_PROG_HEADER 0 1 {})
    | some l =>
      if l.size < a.image + 64 then s.loadFailed (loadFail .ERR_PROG_HEADER 0 1 {})
      else
        let p := s.progFile a l
        match s.planFail a p with
        | some f => s.loadFailed f
        | none => (s.install a p, .ok 0)

/-- PROGRAM_LOAD (R99, R740). -/
def execProgramLoad (tag handle imageOff syncOff stepOff sinterOff powerOff compat : Nat) (s : State) : Res :=
  .next (s.serve 0x20 tag fun s => s.loadProgram ⟨handle, imageOff, syncOff, stepOff, sinterOff, powerOff, compat⟩)

/-! ### PROGRAM_START -/

/-- The first error of R101. -/
def State.startError (s : State) (epoch : Nat) : Option Err :=
  let op := s.opNow
  let period := s.rd .GEY_FRAME_PERIOD_NS_PERIOD
  if s.seq ≠ .loaded then some .ERR_SEQ_STATE
  else if bitsOf epoch 15 0 ≠ 0 ∨ 999999999 < bitsOf epoch 45 16 then some .ERR_EPOCH_FORMAT
  else if timeOfStamp epoch < s.tb + s.rd .GEY_START_LEAD_US_LEAD * 1000 * tbPerNs then some .ERR_START_LEAD
  else if op < s.baseOp ∨ s.topOp < op then some .ERR_MODE_OP
  else if wholeCycles period op = false then some .ERR_PERIOD_CYCLES
  else if s.time.state = .isolated ∧ 1 < s.rd .FAB_JOB_SIZE_SIZE then some .ERR_TIME_ISOLATED
  else if s.rd .PWR_PACE_ROUND_ROUND * period < 100000 then some .ERR_PACE_ROUND
  else none

/-- Each declared counter's count becomes its BASE (R509). -/
def SyncUnit.copyBase (u : SyncUnit) : SyncUnit :=
  u.decls.foldl (fun (u : SyncUnit) (d : SyncDecl) => if d.kind = 0 then u.setBas d.id (u.cnt d.id) else u) u

/-- Resident fills of every tile that has a resident region begin (R254). -/
def State.beginFills (s : State) : State :=
  (List.range 256).foldl (fun (s : State) (t : Nat) => if s.physOf t < 272 ∧ !s.fills.contains t then s.beginFill t else s) s

/-- A program started (R102, R254, R509, R689). -/
def State.startProgram (s : State) (p : ProgHeader) (epoch : Nat) : State :=
  let s := { s with seq := .armed, bodies := 0, sync := s.sync.copyBase }
  let s := (s.wr .GEY_EPOCH_STAMP_LO (epoch % 2 ^ 64)).wr .GEY_EPOCH_HI_STAMP_HI (epoch / 2 ^ 64)
  let s := ((s.wr .GEY_STEP_COUNT_STEP p.stepStart).wr .PWR_STATUS_OP_AGREED s.opNow).wr .PWR_STATUS_DIL 0
  (s.setPwr { s.pwr with level := 0, boundary := 0, round := none, decision := none }).beginFills

/-- PROGRAM_START (R101, R102): an ERR_TIME_ISOLATED was recorded when it arose. -/
def State.startCommand (s : State) (epoch tag : Nat) : State × Answer :=
  match s.startError epoch, s.prog with
  | some .ERR_TIME_ISOLATED, _ => (s, .known .ERR_TIME_ISOLATED)
  | some e, _ => (s.raiseInfo e (.cp s.cpPrimary) tag 0, .known e)
  | none, some p => (s.startProgram p epoch, .ok 0)
  | none, none => (s, .fail .ERR_SEQ_STATE tag)

/-- PROGRAM_START (R101, R102). -/
def execProgramStart (tag epoch : Nat) (s : State) : Res := .next (s.serve 0x21 tag fun s => s.startCommand epoch tag)

end Sys2Proof.Machine
end

