-- ==== Sys2Proof/Machine/Tick.lean ====
section
/-! DEFINITION. The Geyser tick (02, R68-R108): overruns, commit, aborts, the kind of the tick, the frame that begins. -/

set_option autoImplicit false

namespace Sys2Proof.Machine

open Sys2Proof

/-! ### Overruns and late lists (R90, R104-R106) -/

/-- The sequencer enters HALT_STEP as on an overrun (R106). -/
def State.haltStep (s : State) : State := if s.seq = .running then { s with seq := .haltStep } else s

/-- One engine's overrun is recorded (R105). -/
def State.noteOverrun (s : State) (e : Nat) : State :=
  let r := s.engine e
  match s.slotNow e with
  | none => s
  | some sl =>
    (s.raiseRec .ERR_FRAME_OVERRUN Err.ERR_FRAME_OVERRUN.severity (.engine e) none (some (waiterId e r.idx 0)) sl.start sl.budget
      ).setEngine e { r with overrun := true }

/-- Engines still running a slot at a boundary tick, each recorded once, ascending (R104, R105). -/
def State.overruns (s : State) : State :=
  let l := (s.engines.filter fun p => p.2.running && !p.2.overrun).map (·.1)
  if l.isEmpty then s else (l.foldl State.noteOverrun s).haltStep

/-- Engines whose slot list for the frame that would begin is late (R90). -/
def State.fetchLate (s : State) (p : ProgHeader) (f : Nat) (late : List Nat) : State :=
  let l := late.filter fun e => !(s.frameSlots p f e).isEmpty
  if l.isEmpty then s else (l.foldl (fun (s : State) (e : Nat) => s.raise .ERR_FETCH_LATE (.engine e)) s).haltStep

/-- Tiles whose resident fill is not complete at the tick that it must precede (R255). -/
def State.fillsLate (s : State) : State :=
  if s.fills.isEmpty then s
  else (s.fills.foldl (fun (s : State) (t : Nat) => s.raiseSlot .ERR_RES_FILL_LATE t (s.slotIdx t) 0 (s.rd .VE_RES_SIZE_SIZE t)) s).haltStep

/-! ### The entry to BODY_FIRST (R274, R168, R510, R561, R593, R631) -/

/-- The VE of a logical tile at body entry (R274, R275). -/
def State.enterTile (s : State) (t : Nat) : State :=
  let s := s.setVe t { s.veOf t with halted := false }
  if 272 ≤ s.physOf t then s
  else
    let x := s.tile t
    let s := if x.ftq.isEmpty then s
      else (s.bump .FTQ_RESIDUE_COUNT x.ftq.length t).raiseSlot .ERR_FTQ_RESIDUE t (s.slotIdx t) 0 x.ftq.length
    s.setTile t { x with t := [], s := [], a := [], p := [], w := [], wLost := [], c := [], ftq := [], ftqSeq := 0 }

/-- Alive counters of every channel (R469). -/
def State.clearAlive (s : State) : State :=
  (List.range 1024).foldl (fun (s : State) (k : Nat) => (s.wr .SE_PCH_STATE_TX_ALIVE 0 k).wr .SE_PCH_STATE_RX_ALIVE 0 k) s

/-- A tick with frame count n starts BODY_FIRST. -/
def State.enterBody (s : State) (n : Nat) : State :=
  let aborted := s.step.aborted
  let s := (List.range 256).foldl State.enterTile s
  let s := s.statClearAll.clearAlive
  let s := (s.redBodyEntry 0).redBodyEntry 1
  let s := s.sinBodyEntry (!aborted)
  let s := { s with fab := { s.fab with bodyCount := some n } }
  let s := (List.range 19).foldl State.purgeStale s
  { s with
    stepError := false, aborted := false
    sync := { s.sync with entryDue := true, entryAfterAbort := aborted }
    step := { s.step with complete := [], nonfinite := [], aborted := false } }

/-! ### The frame that begins -/

/-- A program frame of the step body; an error stops a tile's stream only within the step (R349). -/
def ProgHeader.inBody (p : ProgHeader) (f : Nat) : Bool := decide (p.bodyFirst ≤ f ∧ f ≤ p.bodyLast)

/-- The records of a slot as they are fetched from the image (R453, R543). -/
def State.fetchStore (s : State) (sl : Slot) : List RecordStore :=
  let a := s.listBase sl
  let n := if sl.kind = 1 then 32 * sl.records
    else if sl.kind = 3 then ((s.redAddrs sl).map fun x => (s.redRecAt x).bytes).foldl (· + ·) 0 else 0
  let bad := ((List.range n).map (a + ·)).filter fun x => (s.firstPoisoned [x]).isSome
  if n = 0 then [] else [⟨a, s.ldBytes a n, bad⟩]

/-- The slots of a directory entry before the first that stands in a poisoned codeword (R449, log entry 91). -/
def State.goodSlots (s : State) (p : ProgHeader) (d : DirEntry) : List Slot :=
  (s.slotList p d).take
    (((List.range d.slots).find? fun i => (s.firstPoisoned ((List.range 16).map (p.base + d.slotOff + 16 * i + ·))).isSome).getD d.slots)

/-- An engine at the start of a frame: its slot list and its records swap in (R78, R453). -/
def State.fetchEngine (s : State) (p : ProgHeader) (n : Nat) (d : DirEntry) : EngineRun :=
  let l := s.goodSlots p d
  { EngineRun.reset with slots := l, startedFrame := n, store := l.flatMap s.fetchStore }

/-- ERR_MEM_UE for a slot list that the fetch found poisoned (R449): engine, slot, address. -/
def State.noteFetch (s : State) (p : ProgHeader) (d : DirEntry) : State :=
  let k := (s.goodSlots p d).length
  if k = d.slots then s else s.raiseSlot .ERR_MEM_UE d.engine k 0 (p.base + d.slotOff + 16 * k)

/-- The slot lists of a program frame and the records of their slots swap in (R78, R84, R453). -/
def State.loadLists (s : State) (p : ProgHeader) (f n : Nat) : State :=
  let s := { s with engines := [] }
  let l := s.directory p f
  let es : Tab EngineRun := l.foldl (fun (t : Tab EngineRun) (d : DirEntry) =>
    tabSet EngineRun.reset d.engine (s.fetchEngine p n d) t) []
  let s := l.foldl (fun (s : State) (d : DirEntry) => s.noteFetch p d) s
  let s := { s with engines := es, xfer := s.xfer.filterMap fun (q : Nat × XferEng) =>
      let x : XferEng := { q.2 with next := 0, skip := [] }
      if x = .reset then none else some (q.1, x) }
  let s := [0, 1].foldl (fun (s : State) (h : Nat) => s.setRed h { s.redHalf h with next := 0 }) s
  (List.range 256).foldl (fun (s : State) (t : Nat) => s.setVe t { s.veOf t with
    ended := false, stall := 0, halted := (s.veOf t).halted && p.inBody f }) s

/-- The declared power of a program frame (R678, R679). -/
def State.declared (s : State) (p : ProgHeader) (f : Nat) : Nat :=
  match p.powerAddr with | some a => s.ldNat (a + 2 * f) 2 | none => 3200

/-- An ADVANCE tick with frame count n enters program frame f (R72, R86). -/
def State.advanceFrame (s : State) (p : ProgHeader) (f n : Nat) : State :=
  let s := { s with seq := .running, seqRun := { s.seqRun with live := true, intervals := 1 } }
  let s := if f = p.bodyFirst then (s.rotateAll true).enterBody n else s
  let fe := s.frameEntry p f
  let s := ((s.loadLists p f n).wr .GEY_PROG_FRAME_INDEX f).wr .PWR_DECL_W_DECL (s.declared p f)
  let commit := bitOf fe.flags 0 && match s.step.table with | some t => t.train | none => false
  { s with
    frameFlags := fe.flags % 4
    step := { s.step with commitStart := if commit then some n else none, voted := false } }

/-- The frame that begins runs no program work (R72, R73). -/
def State.idleFrame (s : State) : State :=
  { s.bump .GEY_IDLE_TICKS_COUNT with seqRun := { s.seqRun with live := false, intervals := 0 } }

/-- The program has run its last frame (R86, R511). -/
def State.stopProgram (s : State) : State :=
  let s := { s with seq := .stopped, engines := [], frameFlags := 0, sync := { s.sync with endCheckDue := true } }
  (s.setPwr { s.pwr with round := none, decision := none }).event 3

/-- Boundary tick c is IDLE under level l (R684). -/
def diluted (l c : Nat) : Bool := decide (c * l / 16 < (c + 1) * l / 16)

/-- The boundary tick's number moves on. -/
def State.nextBoundary (s : State) : State := s.setPwr { s.pwr with boundary := s.pwr.boundary + 1 }

/-- The program frame that an ADVANCE tick enters from the frame that GEY_PROG_FRAME names, with the bodies completed. -/
def State.advanceNext (s : State) (p : ProgHeader) (n : Nat) (late : List Nat) : State :=
  let cur := s.rd .GEY_PROG_FRAME_INDEX
  let next := s.nextFrame p cur
  let s := { s with bodies := s.bodiesAfter p cur }
  match next with
  | none => s.stopProgram.idleFrame
  | some f =>
    let s := s.fetchLate p f late
    if s.seq = .haltStep then s.idleFrame else s.advanceFrame p f n

/-- The restart that is scheduled for this frame count, or the epoch: a frame entered from outside the program's order. -/
def State.enterAt (s : State) (p : ProgHeader) (f n : Nat) (late : List Nat) : State :=
  let s := { s with seq := .running, seqRun := { s.seqRun with restart := none } }
  let s := (s.fillsLate).fetchLate p f late
  if s.seq = .haltStep then s.idleFrame else s.advanceFrame p f n

/-- The kind of a boundary tick is decided and its frame entered (R74, R86, R88, R684); dilution does not put off the stop after the
last frame (R86). -/
def State.boundaryTick (s : State) (p : ProgHeader) (n : Nat) (late : List Nat) : State :=
  let idle := diluted (s.rd .PWR_STATUS_DIL) s.pwr.boundary
  let s := s.nextBoundary
  match s.seq with
  | .armed => s.enterAt p 0 n late
  | .haltStep => if s.seqRun.restart = some n then s.enterAt p p.bodyFirst n late else s.idleFrame
  | .running =>
    if idle && (s.nextFrame p (s.rd .GEY_PROG_FRAME_INDEX)).isSome then s.idleFrame else s.advanceNext p n late
  | _ => s.idleFrame

/-- The commit tick is the one whose frame count follows the COMMIT frame's (R599). -/
def State.commitDue (s : State) (n : Nat) : State :=
  match s.step.commitStart with
  | some f => if n = f + 1 then (s.commitTick n).1 else s
  | none => s

/-- Whether the tick is a JOIN (R74): decided by the point in force in the last cycle before it. -/
def State.joins (s : State) (op : Nat) : Bool :=
  s.seq == .running && s.seqRun.live && s.seqRun.intervals == 1 && decide (op < s.baseOp) && s.seqRun.aborts.isEmpty

/-- Lanes whose corrected symbols exceeded their limit in the frame that ended (R524): byte l of the port's FAB_LANE_ERR counts
them, up to 0xFF (R562). -/
def State.countFec (s : State) (fec : List Nat) : State :=
  fec.foldl (fun (s : State) (k : Nat) =>
    let v := s.rd .FAB_LANE_ERR_FRAMES (k / 4)
    let lo := 8 * (k % 4)
    if bitsOf v (lo + 7) lo = 0xFF then s else s.wr .FAB_LANE_ERR_FRAMES (v + 2 ^ lo) (k / 4)) s

/-- What every tick does besides (R53, R524, R643, R649, R662, R685); rotations of a tick that starts BODY_FIRST come before it. -/
def State.tickWork (s : State) (n : Nat) : State :=
  let s := (s.removeLanes).addLanes
  let s := if s.seqFree || s.seq == .armed || (s.seq == .haltStep && s.aborted) then s.takeoverStep else s
  let s := s.rotateAll false
  (s.timeTick.sendProbes).powerRound n

/-- The tick with frame count n. -/
def State.geyserTick (s : State) (p : ProgHeader) (n : Nat) (late fec : List Nat) : State :=
  let op := s.opNow
  let s := s.advanceTime (s.tickTime n)
  let s := (s.endFrame s.tb).countFec fec
  let joins := s.joins op
  let s := (s.enterFrame n (if joins then s.frameCycle else 0)).powerTick n
  if joins then
    let s := (s.commitDue n).bump .GEY_JOIN_TICKS_COUNT
    ({ s with seqRun := { s.seqRun with intervals := 2 } }).tickWork n
  else
    let s := s.overruns.boundary
    let s := (if s.seqRun.live then s.checkDeclared else s).commitDue n
    ((s.acceptAborts n).boundaryTick p n late).tickWork n

/-- The next tick of the program's grid, where a program runs or is armed. -/
def State.tickNow (s : State) (late fec : List Nat) : State :=
  match s.prog with
  | none => s
  | some p =>
    if s.seq = .armed then s.geyserTick p 0 late fec
    else if s.inBody then s.geyserTick p (s.frameCount + 1) late fec
    else s

/-- The next crossing of the idle grid, while no program runs (R70). -/
def State.idleNow (s : State) (fec : List Nat) : State :=
  let n := s.tb / idlePeriod + 1
  if !(s.seqFree || (s.seq == .armed && decide (n * idlePeriod < s.epoch))) then s
  else
    let s := s.advanceTime (n * idlePeriod)
    let s := (s.endFrame s.tb).countFec fec
    let s := ((s.enterFrame (n % 2 ^ 64) 0).powerTick n).boundary.nextBoundary
    s.idleFrame.tickWork n

end Sys2Proof.Machine
end

