-- ==== Sys2Proof/Machine/RegView.lean ====
section
/-! DEFINITION. What a read of a register sees: fields that are kept as they stand, and fields that the state of a unit
gives (R14, and the register tables). -/

set_option autoImplicit false

namespace Sys2Proof.Machine

open Sys2Proof

/-- SEQ_STATE's code (R110). -/
def SeqState.code : SeqState → Nat
  | .empty => 0 | .loaded => 1 | .armed => 2 | .running => 3 | .haltStep => 4 | .stopped => 5

/-- A weight set's code (R236). -/
def SetState.code : SetState → Nat
  | .empty => 0 | .loading => 1 | .loaded => 2

/-- A physical tile's code (R669). -/
def PtState.code : PtState → Nat
  | .active => 0 | .spare => 1 | .spareTest => 2 | .failed => 3

/-- The kind of the next tick: 0 ADVANCE, 1 JOIN, 2 IDLE (R72, R74, R88); 0 while no program is loaded, as at reset. -/
def State.nextKind (s : State) : Nat :=
  match s.seq, s.prog with
  | .running, some p =>
    if s.joins s.opNow then 1
    else if diluted (s.rd .PWR_STATUS_DIL) s.pwr.boundary then 2
    else if (s.nextFrame p (s.rd .GEY_PROG_FRAME_INDEX)).isSome then 0 else 2
  | .haltStep, _ => if s.seqRun.restart = some (s.frameCount + 1) then 0 else 2
  | .armed, _ => if s.nextTick = s.epoch then 0 else 2
  | .empty, _ => 0
  | _, _ => 2

/-- Seconds spent in HOLDOVER or HOLDOVER_EXPIRED (R63, R110). -/
def State.holdoverS (s : State) : Nat :=
  if s.time.state = .holdover ∨ s.time.state = .holdoverExpired then min 0xFFFF ((s.tb - s.time.holdoverFrom) / tbPerSec) else 0

/-- An engine runs a slot of a kind. -/
def State.inSlot (s : State) (e kind : Nat) : Bool :=
  match s.slotNow e with | some sl => sl.kind == kind | none => false

/-- The slot index of a running slot; 0 with none. -/
def State.slotShown (s : State) (e : Nat) : Nat := if (s.slotNow e).isSome then s.slotIdx e else 0

/-- A Caldera bank of a logical tile. -/
def State.bankOf (s : State) (t b : Nat) : Bank := tabGet Bank.reset b (s.tile t).banks
/-- A weight set of a logical tile. -/
def State.setOf (s : State) (t w : Nat) : WeightSet := tabGet WeightSet.reset w (s.tile t).sets

/-- A tile's fields (R236, R295). -/
def State.viewTile (s : State) (f : Fld) (t : Nat) : Nat :=
  let x := s.tile t
  let vent := x.cal.any fun o => match o.cmd with | .vent .. => true | _ => false
  let rows := (List.range 4).map fun k => bitsOf x.rowmap (3 * k + 2) (3 * k)
  let head := x.ftq.head?
  match f with
  | .CAL_STATUS_VENT_BUSY => b2n vent
  | .CAL_STATUS_ROW_SPARE_IN => b2n (rows.contains 4)
  | .CAL_STATUS_BANK_INT => ((List.range 4).map fun b => b2n (s.bankOf t b).int * 2 ^ b).foldl (· + ·) 0
  | .CAL_STATUS_WSET1 => (s.setOf t 1).state.code
  | .CAL_STATUS_WSET0 => (s.setOf t 0).state.code
  | .CAL_STATUS_BANK3 => (s.bankOf t 3).state.code
  | .CAL_STATUS_BANK2 => (s.bankOf t 2).state.code
  | .CAL_STATUS_BANK1 => (s.bankOf t 1).state.code
  | .CAL_STATUS_BANK0 => (s.bankOf t 0).state.code
  | .CAL_ROWMAP_FAILED_ROW => bitsOf x.rowmap 14 12
  | .CAL_ROWMAP_LROW3 => bitsOf x.rowmap 11 9
  | .CAL_ROWMAP_LROW2 => bitsOf x.rowmap 8 6
  | .CAL_ROWMAP_LROW1 => bitsOf x.rowmap 5 3
  | .CAL_ROWMAP_LROW0 => bitsOf x.rowmap 2 0
  | .CAL_FEED_DLY_DLY4 => bitsOf x.feedDly 9 8
  | .CAL_FEED_DLY_DLY3 => bitsOf x.feedDly 7 6
  | .CAL_FEED_DLY_DLY2 => bitsOf x.feedDly 5 4
  | .CAL_FEED_DLY_DLY1 => bitsOf x.feedDly 3 2
  | .CAL_FEED_DLY_DLY0 => bitsOf x.feedDly 1 0
  | .VE_STATUS_SLOT => s.slotShown t
  | .VE_STATUS_IN_SLOT => b2n (s.inSlot t 0)
  | .VE_STATUS_STALL => if s.fills.contains t then 7 else (s.veOf t).stall
  | .VE_PC_BUNDLE => (s.veOf t).pc
  | .FTQ_STATUS_POPPING => (s.veOf t).popping.length
  | .FTQ_STATUS_POSTED => x.ftq.length
  | .FTQ_STATUS_RESERVED => x.ftqReserved
  | .FTQ_STATUS_FREE => s.ftqFree t
  | .FTQ_HEAD_BANK => match head with | some e => e.bank | none => 0
  | .FTQ_HEAD_KIND => match head with | some e => e.kind.code | none => 0
  | .FTQ_HEAD_SEQ => match head with | some e => e.seq | none => 0
  | f => s.rd f t

/-- The fields of stream engine n, of update engine n and of a reduction half (R481, R563, R609). -/
def State.viewEngine (s : State) (f : Fld) (n : Nat) : Nat :=
  let se := 0x100 + n
  let ue := 0x110 + n
  match f with
  | .SE_STATUS_OPS => s.opsNow se
  | .SE_STATUS_ACTIVE => (s.xeng se).active.length
  | .SE_STATUS_IN_SLOT => b2n (s.inSlot se 1)
  | .SE_DESC_HEAD_SLOT => s.slotShown se
  | .SE_DESC_HEAD_RECORD => (s.xeng se).next
  | .SE_SB_STATUS_HELD => s.sbHeld n
  | .SE_SB_STATUS_FILLING => s.sbFilling n
  | .SE_SB_STATUS_FREE => s.sbFree n
  | .UE_STATUS_ACTIVE => (s.xeng ue).active.length
  | .UE_STATUS_PASS => (s.ueRun n).pass
  | .UE_STATUS_IN_SLOT => b2n (s.slotNow ue).isSome
  | .UE_SHARD_UPROG => (s.ueRun n).uprog
  | .UE_SHARD_SHARD => (s.ueRun n).shard
  | .UE_SEGMENT_INDEX => (s.ueRun n).seg
  | .RED_STATUS_ACTIVE => (s.redHalf n).actives.length
  | .RED_STATUS_IN_SLOT => b2n (s.inSlot (redEngine n) 3)
  | .RED_BUF_USED_UNITS => s.redUnitsUsed n
  | f => s.rd f n

/-- A signed value in 64 bits. -/
def signed64 (v : Int) : Nat := (v % (2 ^ 64 : Nat)).toNat

/-- The fields of the synchronisation unit (R516). -/
def State.viewSync (s : State) (f : Fld) (i : Nat) : Nat :=
  let u := s.sync
  let bid := 0x010000 + i
  match f with
  | .SYNC_STATUS_ENTRIES => u.decls.length
  | .SYNC_STATUS_TABLE => b2n u.table
  | .SYNC_WAITERS_COUNT => (u.waits.filter fun w => w.state == .registered).length
  | .SYNC_ISSUED_COUNT => u.issued
  | .SYNC_CONSUMED_COUNT => u.consumed
  | .SYNC_NET_COUNT => u.net
  | .SYNC_LOST_COUNT => u.lost
  | .SYNC_CLEARED_COUNT => signed64 u.cleared
  | .SYNC_INFLIGHT_COUNT => u.inflightSum
  | .SYNC_BAR_PARENT_PORT => u.barParent
  | .SYNC_BAR_CHILDREN_PORTS => u.barChildren
  | .SYNC_BARRIER_COUNT => u.barrier
  | .SYNC_COUNT_COUNT => if (u.decl i).isSome then u.cnt i else 0
  | .SYNC_BASE_BASE => if (u.decl i).isSome then u.bas i else 0
  | .SYNC_BAR_GEN => if (u.decl bid).isSome then (u.bar bid).gen else 0
  | .SYNC_BAR_KIND => match u.decl bid with | some d => d.kind | none => 0
  | .SYNC_BAR_MEMBERS => match u.decl bid with | some d => d.members | none => 0
  | .SYNC_BAR_REPORTED => if (u.decl bid).isSome then b2n (u.bar bid).reported else 0
  | .SYNC_BAR_ARRIVALS => if (u.decl bid).isSome then (u.bar bid).arrivals else 0
  | .SYNC_ATTR_DECLARED => b2n (u.decl i).isSome
  | .SYNC_ATTR_CONSUMER => match u.decl i with | some d => d.consumer | none => 0
  | f => s.rd f i

/-- The fields of self-test and repair (R669). -/
def State.viewStr (s : State) (f : Fld) (i : Nat) : Nat :=
  let u := s.str
  let sel := s.softOf (s.rd .STR_REP_SEL_DIE)
  match f with
  | .STR_STATUS_DEGRADED => ((List.range 16).map fun c => b2n (s.isDegraded c) * 2 ^ c).foldl (· + ·) 0
  | .STR_STATUS_SLICE_RUN => b2n (!u.slices.isEmpty)
  | .STR_SLICE_RES_RESULT => u.result.1
  | .STR_SLICE_RES_PTILE => u.result.2.1
  | .STR_SLICE_RES_SLICE => u.result.2.2
  | .STR_PREFILL_DONE => b2n u.prefillDone
  | .STR_REPAIR_SOFT_DIE_B => (s.softOf 1).length
  | .STR_REPAIR_SOFT_DIE_A => (s.softOf 0).length
  | .STR_FUSE_FREE_DIE_B => 2048 - (tabGet [] 1 u.fuses).length
  | .STR_FUSE_FREE_DIE_A => 2048 - (tabGet [] 0 u.fuses).length
  | .STR_SPARE_LANE_BAD => u.spareBad
  | .STR_SPARE_LANE_USED => u.spareUsed
  | .STR_PTILE_STATE => (s.pt i).state.code
  | .STR_PTILE_TESTED => b2n (s.pt i).tested
  | .STR_PTILE_REPAIRABLE => b2n (s.pt i).repairable
  | .STR_PTILE_POS => if (s.pt i).state = .active then (s.pt i).pos else 0
  | .STR_PTILE_LAST_FAIL => (s.pt i).lastFail
  | .STR_PTILE_PASSED => (s.pt i).passed
  | .STR_CLUSTER_SPARE_PT => (s.spareOf i).getD 0x1FF
  | .STR_CLUSTER_PREFILLED => b2n (tabGet none i u.prefilled).isSome
  | .STR_CLUSTER_DEGRADED => b2n (s.isDegraded i)
  | .STR_REP_ENTRY_ENTRY => match sel[s.rd .STR_REP_SEL_INDEX]? with | some e => e.bits | none => 0
  | .STR_REP_FUSED_FUSED => match sel[s.rd .STR_REP_SEL_INDEX]? with | some e => b2n e.fused | none => 0
  | f => s.rd f i

/-- The fields of the time base, power, island, arbiters and other units (R110, R482, R562, R610, R640, R714, R751, R784). -/
def State.viewOther (s : State) (f : Fld) (i : Nat) : Nat :=
  let inst := s.rd .RES_INST_SEL_INST
  match f with
  | .GEY_STATUS_JOINED => b2n (s.seqRun.live && s.seqRun.intervals == 2)
  | .GEY_STATUS_NEXT_TICK => s.nextKind
  | .GEY_STATUS_IN_GUARD => b2n (s.start.coresUp && s.inGuard)
  | .GEY_STATUS_TB_STATE => s.time.state.code
  | .GEY_STATUS_SEQ_STATE => s.seq.code
  | .GEY_TB_NOW_STAMP_LO => stampOf s.tb
  | .GEY_TB_NOW_HI_STAMP_HI => stampOf s.tb / 2 ^ 64
  | .GEY_HOLDOVER_S_SECONDS => s.holdoverS
  | .RES_GRANTS_COUNT => tabGet 0 inst s.res.grants
  | .RES_DONE_COUNT => tabGet 0 inst s.res.done
  | .RES_INFLIGHT_COUNT => tabGet 0 inst s.res.grants - tabGet 0 inst s.res.done
  | .RES_LOCK_OWNER => match s.lockOf inst with | some k => k.owner | none => 0
  | .RES_LOCK_BEATS => match s.lockOf inst with | some k => k.beats | none => 0
  | .FAB_OCCUPIED_ENTRIES => ((List.range 4).map fun v => s.occupied i v * 2 ^ (9 * v)).foldl (· + ·) 0
  | .STEP_STATUS_TRAIN => match s.step.table with | some t => b2n t.train | none => 0
  | .SIN_STATUS_RESTORING => b2n (s.sin.restore.isSome || !s.sin.chains.isEmpty)
  | .SIN_STATUS_HOLDER => b2n s.sinHolder
  | .SIN_STATUS_TABLE => b2n s.sin.table.isSome
  | .PWR_STATUS_ALERT => b2n s.inAlert
  | .PWR_VMIN_V_SET => s.vSet (i / 8) (i % 8)
  | .MBX_PENDING_COUNT => s.mbx.cmds.length
  | .GLB_SIDEBAND_THERM_LOW => s.rd .FUM_THERM_ASSERTED
  | .GLB_SIDEBAND_ALERT_LOW => b2n s.alertLow
  | .GLB_SIDEBAND_PPS_IN => b2n (Config.ppsInLevel s.tb)
  | f => s.rd f i

/-- The value that a read of a field of a register sees. -/
def State.viewField (s : State) (r : Reg) (f : Fld) (i : Nat) : Nat :=
  let q := regRow r
  let v :=
    match q.domain with
    | .tile => s.viewTile f i
    | .streamEngine | .updateEngine | .reduction => s.viewEngine f i
    | .sync => s.viewSync f i
    | _ => if q.base = 0x05000000 then s.viewStr f i else s.viewOther f i
  v % 2 ^ fldWidth f

end Sys2Proof.Machine
end

