-- ==== Sys2Proof/Machine/SelfTestRows.lean ====
section
/-! DEFINITION. The commands of self-test and repair (14) that are not mailbox commands. -/

set_option autoImplicit false

namespace Sys2Proof.Machine

open Sys2Proof

/-- SLICE_START (R654): a write of STR_SLICE with GO. `keyLeft`: the read-back of the zeroed key store finds a bit
(R655). -/
def execSliceStart (p slice : Nat) (keyLeft : Bool) (s : State) : Res :=
  let s := (s.wr .STR_SLICE_PTILE p).wr .STR_SLICE_SLICE slice
  if s.rd .STR_CTRL_BIST_EN = 0 ∨ (s.pt p).state ≠ .spare then .next (s.setResult 0 0 0)
  else
    let s := s.dropPrefill (clusterOfPt p)
    if keyLeft then
      let s := s.setPt p { s.pt p with state := .failed, tested := false }
      .next ((s.noteCluster (clusterOfPt p) p).raise .ERR_SCAN_CLEAR (.ptile p) slice)
    else
      let x := s.ptile p
      let s := (s.setPt p { s.pt p with state := .spareTest }).wipeTile p
      .next { s with str := { s.str with slices := s.str.slices ++ [⟨p, slice, s.tb, x.rowmap, x.feedDly⟩] } }

/-- SLICE_COMPLETE (R654): the slice on a tile ends with a match or a mismatch of the MISR. -/
def execSliceComplete (p : Nat) (pass : Bool) (misr : Nat) (rowsOk : Bool) (s : State) : Res :=
  match s.sliceOf p with
  | none => .next s
  | some r =>
    let s := (s.endSlice r).bump .STR_SLICES_RUN_COUNT
    if pass then
      let s := s.setPt p { s.pt p with state := .spare }
      .next ((s.passSlice p r.slice).setResult 1 p r.slice)
    else
      let s := (s.failTile p r.slice (s.repairableBy p r.slice rowsOk)).setResult 2 p r.slice
      .next (s.raise .ERR_BIST_FAIL (.ptile p) r.slice misr)

/-- Units of the time base in the budget of a slice: 2 ms (R654). -/
def sliceBudget : Nat := 2000000 * tbPerNs

/-- SLICE_BUDGET_EXPIRE (R654): a slice not finished within 2 ms is stopped. -/
def execSliceBudgetExpire (p : Nat) (s : State) : Res :=
  match s.sliceOf p with
  | none => .next s
  | some r =>
    let s := ((s.advanceTime (r.since + sliceBudget)).endSlice r).failTile p r.slice false
    .next (s.raise .ERR_BIST_BUDGET (.ptile p) r.slice)

/-- PREFILL_START (R645): a write of STR_PREFILL with GO. -/
def execPrefillStart (p pos : Nat) (s : State) : Res :=
  let s := (s.wr .STR_PREFILL_PTILE p).wr .STR_PREFILL_POS pos
  if (s.pt p).state = .spare then
    .next { s with str := { s.str with prefill := some (p, pos), prefillDone := false } }
  else .next s

/-- PREFILL_COMPLETE (R645): the image of the position stands in the spare, and PREFILLED is set. -/
def execPrefillComplete (s : State) : Res :=
  match s.str.prefill with
  | none => .next s
  | some (p, pos) =>
    let c := clusterOfPt p
    let s := { s with str := { s.str with prefill := none, prefillDone := true } }
    if (s.pt p).state = .spare then
      let s := s.copyResident (tileOfPos c pos) p
      .next { s with str := { s.str with prefilled := tabSet none c (some pos) s.str.prefilled } }
    else .next s

/-- ROWMAP_WRITE (R661): a write of STR_ROWMAP_WR with GO: the maps that R227 produces, where R228 lets them take
effect, or any under a running slice (R230). -/
def execRowmapWrite (p dly rowmap : Nat) (s : State) : Res :=
  let s := ((s.wr .STR_ROWMAP_WR_PTILE p).wr .STR_ROWMAP_WR_DLY dly).wr .STR_ROWMAP_WR_ROWMAP rowmap
  let legal := (s.ptile p).rowmap == noRepairMap && s.calIdle p &&
    (List.range 5).any fun f => repairedMap f == rowmap && repairedDly f == dly
  .next (if legal || (s.sliceOf p).isSome then s.setMaps p rowmap dly else s)

/-- SPARE_LANE_TEST (R658): a minute's loopback test of a port's spare circuit ends. -/
def execSpareLaneTest (p : Nat) (bitError : Bool) (s : State) : Res :=
  if bitError && s.spareLaneFree p then
    .next ({ s with str := { s.str with spareBad := s.str.spareBad ||| 2 ^ p } }.raise .ERR_SPARE_LANE_BAD (.port p))
  else .next s

/-- DROPPED_LANE_TEST_END (R658): a failure lies on the die, and the lane repair follows. -/
def execDroppedLaneTestEnd (p lane : Nat) (failed : Bool) (s : State) : Res :=
  if tabGet false (p * 4 + lane) s.str.laneTest then
    let s := { s with str := { s.str with laneTest := tabSet false (p * 4 + lane) false s.str.laneTest } }
    .next (if failed && s.spareLaneFree p then s.startLaneRepair p lane else s)
  else .next s

/-- LANE_REPAIR_TRAINED (R662): the spare circuit has trained; the lane is added at the next tick, or the second one
when fewer than 512 cycles are left. -/
def execLaneRepairTrained (p : Nat) (s : State) : Res :=
  match tabGet none p s.str.laneRepair with
  | none => .next s
  | some lane =>
    let n := if s.cyclesLeft < 512 then 2 else 1
    let s := { s with str := { s.str with
        laneRepair := tabSet none p none s.str.laneRepair, laneAdd := s.str.laneAdd ++ [(p, lane, n)] } }
    .next (s.raise .ERR_LANE_REPAIRED (.port p) lane)

/-- MAINT_SET_WRITE (R664): accepted only while the sequencer is EMPTY and no job is joined. -/
def execMaintSetWrite (s : State) : Res :=
  if s.seq = .empty ∧ s.rd .FAB_JOB_SIZE_SIZE = 0 then .next (s.wr .STR_CTRL_MAINT 1) else .next s

end Sys2Proof.Machine
end

