-- ==== Sys2Proof/Machine/TickRows.lean ====
section
/-! DEFINITION. Slots that start (02, R82-R103), droop, energy, alerts, caps and the pace group's messages (15). -/

set_option autoImplicit false

namespace Sys2Proof.Machine

open Sys2Proof

/-! ### Slots (R84, R103) -/

/-- Checks 9, 10 and 11 of R99 on slot i of a list, made as it is fetched (R103). Of two slots that overlap the earlier one fails,
which the spec leaves open (log entry 86). -/
def State.slotBounds (s : State) (l : List Slot) (i : Nat) (sl : Slot) : Bool :=
  let fits := match l[i + 1]? with
    | some x => decide (sl.start + sl.budget ≤ x.start)
    | none => decide (sl.start + sl.budget + s.slack ≤ s.frameCycles s.baseOp)
  decide (1 ≤ sl.budget) && (!sl.xmod || decide (256 ≤ sl.start)) && fits

/-- A bundle-stream slot starts on a logical tile (R259, R260). -/
def State.startBundles (s : State) (t : Nat) (sl : Slot) : State :=
  let entry := bitsOf sl.payload 21 4
  let s := s.setTile t ((s.tile t).setSr 31 (BitVec.ofNat 64 (bitsOf sl.payload 63 32)))
  if 0x300000 ≤ entry * 16 then
    ((s.raiseSlot .ERR_VE_ENTRY t (s.slotIdx t) 0 (entry * 16)).setVe t { s.veOf t with pc := entry, ended := true }).settleTile t
  else (s.setVe t { s.veOf t with pc := entry, ended := false }).settleTile t

/-- What a slot of each kind does at its start (R82, R260, R452, R543, R584, R628). -/
def State.startKind (s : State) (e : Nat) (sl : Slot) : State :=
  match sl.kind with
  | 0 => if e < 256 then s.startBundles e sl else s
  | 1 => if 0x100 ≤ e ∧ e < 0x120 then (s.setXeng e { s.xeng e with next := 0 }).settleXfer e else s
  | 2 => if 0x110 ≤ e ∧ e < 0x120 then s.ueStart (e - 0x110) sl else s
  | 3 => if e = 0x120 ∨ e = 0x121 then
      (s.setRed (e - 0x120) { s.redHalf (e - 0x120) with next := 0 }).settleRed (e - 0x120) else s
  | _ => s

/-- An engine may start its next slot: its program frame runs, no late list or fill holds it, its tile is there. -/
def State.slotReady (s : State) (e : Nat) : Bool :=
  let r := s.engine e
  s.seqRun.live && !r.running && !r.blocked && (decide (256 ≤ e) || (decide (s.physOf e < 272) && !s.takeoverStaged e))

/-- SLOT_START (R84): an engine starts its next slot at the later of START and the end of the slot before. -/
def execSlotStart (e : Nat) (s : State) : Res :=
  let r := s.engine e
  match r.slots[r.idx]? with
  | none => .next s
  | some sl =>
    if !s.slotReady e then .next s
    else if !s.slotBounds r.slots r.idx sl then
      .next ((s.raiseSlot .ERR_SLOT_BOUNDS e r.idx).setEngine e { r with idx := r.idx + 1 }).haltStep
    else if s.cyclesLeft < sl.start - s.frameCycle then .next s
    else
      let s := s.advanceTo sl.start
      .next ((s.setEngine e { r with running := true, isOver := false, wait := .none }).startKind e sl)

/-! ### Droop (R97, R697, R698) -/

/-- DROOP_SKIP (R97): a die skips this cycle, or cycle 1 where this is cycle 0. -/
def execDroopSkip (h : Nat) (s : State) : Res :=
  let s := s.advanceTo 1
  let s := (s.advanceCycles 1).bump .GEY_SKIP_TOTAL_COUNT
  .next (s.setPwr { s.pwr with skips := tabSet 0 h (tabGet 0 h s.pwr.skips + 1) s.pwr.skips })

/-- DROOP_HEAVY (R698): eight heavy frames running. -/
def execDroopHeavy (h : Nat) (s : State) : Res :=
  if tabGet 0 h s.pwr.heavy < 8 ∨ tabGet false h s.pwr.heavyNoted = true then .next s
  else .next ((s.setPwr { s.pwr with heavyNoted := tabSet false h true s.pwr.heavyNoted }).raise .ERR_DROOP_HEAVY powerSrc h)

/-! ### Energy (R675) -/

/-- Units of the time base in a sample: 40 ns. -/
def sampleTime : Nat := 40 * tbPerNs

/-- The part of a sample before the last tick joins the frame that the tick ended (R675). -/
def State.amendFrame (s : State) (energy coreA coreB : Nat) : State :=
  match s.pwr.history with
  | [] => s
  | f :: r =>
    let f := { f with energy := f.energy + energy }
    let s := s.setPwr { s.pwr with history := f :: r }
    let a := s.rd .PWR_FRAME_CORE_UJ_DIE_A * 1000 + coreA
    let b := s.rd .PWR_FRAME_CORE_UJ_DIE_B * 1000 + coreB
    let s := s.showFrameEnergy f.energy a b
    if s.fum.acc.frames = 0 then s else s.setFum { s.fum with acc := { s.fum.acc with energy := s.fum.acc.energy + energy } }

/-- ENERGY_SAMPLE (R675): a voltage in mV and a current in mA of the 48 V input, and the core energy of each die in nJ, over the
40 ns that end now. -/
def execEnergySample (mv ma coreA coreB : Nat) (s : State) : Res :=
  let s := s.advanceTime (s.pwr.lastSample + sampleTime)
  let e := mv * ma
  let before := if s.tb - sampleTime < s.pwr.lastTick then s.pwr.lastTick + sampleTime - s.tb else 0
  let part := fun (x : Nat) => x * before / sampleTime
  let total := e + s.pwr.rest
  let s := s.bump .PWR_ENERGY_NJ_COUNT (total / energyPerNj)
  let core := tabSet 0 0 (tabGet 0 0 s.pwr.core + (coreA - part coreA)) s.pwr.core
  let s := s.setPwr { s.pwr with
    lastSample := s.tb, rest := total % energyPerNj, energy := s.pwr.energy + (e - part e)
    core := tabSet 0 1 (tabGet 0 1 core + (coreB - part coreB)) core }
  .next (if before = 0 then s else s.amendFrame (part e) (part coreA) (part coreB))

/-! ### Caps, points, guardbands, alerts -/

/-- SET_CAP (R680). -/
def State.setCap (s : State) (w : Nat) : State × Answer :=
  let v := clampNat 600 3200 w
  let s := s.wr .PWR_CAP_W_CAP v
  (if v = w then s else s.raise .ERR_CAP_CLAMP powerSrc w v, .ok v)

/-- SET_CAP (R680, R737). -/
def execSetCap (tag watts : Nat) (s : State) : Res := .next (s.serve 0x30 tag fun s => s.setCap watts)

/-- SET_FIXED_OP (R674): OP0 to OP6. -/
def State.setFixedOp (s : State) (op tag : Nat) : State × Answer :=
  if op ≤ 6 then (s.wr .PWR_FIXED_OP_OP op, .ok 0) else (s, .fail .ERR_MBX_STATE tag)

/-- SET_FIXED_OP (R674, R737). -/
def execSetFixedOp (tag op : Nat) (s : State) : Res := .next (s.serve 0x31 tag fun s => s.setFixedOp op tag)

/-- PWR_GB_WRITE (R672): the guardband of a die, at least its floor. -/
def execPwrGbWrite (h gb : Nat) (s : State) : Res :=
  let floor := s.rd (if h = 0 then .PWR_GB_FLOOR_FLOOR_A else .PWR_GB_FLOOR_FLOOR_B)
  let old := s.gbNow h
  let v := max floor gb
  let s := s.wr (gbFld h) v
  let s := s.setPwr { s.pwr with gb := tabSet none h (if old = v then none else some old) s.pwr.gb }
  .next (if gb < floor then s.raise .ERR_GB_FLOOR powerSrc h gb else s)

/-- PWR_ALERT_CLEAR_WRITE (R695): bits of LATCH written 1 clear where their source condition is absent. -/
def execPwrAlertClearWrite (bits : Nat) (s : State) : Res :=
  let keep := (List.range 5).filter fun k => bitOf (s.rd .PWR_ALERT_LATCH) k && !(bitOf bits k && !bitOf (s.rd .PWR_ALERT_LEVEL) k)
  .next (s.wr .PWR_ALERT_LATCH ((keep.map (2 ^ ·)).foldl (· + ·) 0))

/-- POWER_ALERT (R693): the conditions of sources 0 to 3 now present; RULE follows the rules. PWR_ALERT_N is ignored in STANDBY
and DORMANT (R774), where the other sources have no power. -/
def execPowerAlert (level : Nat) (s : State) : Res :=
  let s := s.wr .GLB_SIDEBAND_PWR_ALERT_N (1 - level % 2)
  if s.powerState < 3 then .next s
  else .next (s.alertLevel (level % 16 + bitsOf (s.rd .PWR_ALERT_LEVEL) 4 4 * 16))

/-- CAP_FORCED (R692): the average exceeded the cap by more than 5 % at two round ticks running. -/
def execCapForced (s : State) : Res :=
  if s.pwr.isOver < 2 ∨ s.capForced = true then .next s
  else
    let s := s.setPwr { s.pwr with within := false }
    .next ((s.wr .PWR_STATUS_CAP_FORCED 1).raise .ERR_CAP_FORCED powerSrc (s.rd .PWR_AVG_W_AVG) (s.rd .PWR_CAP_W_CAP))

/-! ### Pace messages (R686, R688) -/

/-- A pace message of a UNIT. -/
def paceMsg (unit : Nat) (m : Msg) : Bool := m.kind == 10 && m.unit == unit

/-- PACE_REPORT (R686): the oldest report in a receive buffer. -/
def execPaceReport (p : Nat) (s : State) : Res :=
  match s.peekRx p (paceMsg 1) with
  | none => .next s
  | some m => .next ((s.popRx p (paceMsg 1)).takePaceReport p m)

/-- PACE_DECISION (R688): the oldest decision in a receive buffer. -/
def execPaceDecision (p : Nat) (s : State) : Res :=
  match s.peekRx p (paceMsg 2) with
  | none => .next s
  | some m => .next ((s.popRx p (paceMsg 2)).takePaceDecision p m)

end Sys2Proof.Machine
end

