-- ==== Sys2Proof/Machine/Registers.lean ====
section
/-! DEFINITION. Register accesses (00, R9-R20; R744), the residual arbiters' grants (R472), and the host's accesses through
its BARs (R768, R769). -/

set_option autoImplicit false

namespace Sys2Proof.Machine

open Sys2Proof

/-! ### Addresses (R9, R744) -/

/-- Where a block offset stands: register, element index over all units, and whether in the high word. -/
structure RegPlace where
  reg : Reg
  index : Nat
  high : Bool
deriving DecidableEq, Repr

/-- Where an offset meets a register, if it does. -/
def regHit (off : Nat) (r : Reg) : Option RegPlace :=
  let q := regRow r
  let d := off - q.base
  let u := if q.unitStride = 0 then 0 else d / q.unitStride
  let o := d - u * q.unitStride
  let e := if q.stride = 0 then 0 else (o - q.off) / q.stride
  let w := o - q.off - e * q.stride
  if off < q.base ∨ q.units ≤ u ∨ o < q.off ∨ q.count ≤ e then none
  else if w = 0 then some ⟨r, u * q.count + e, false⟩
  else if w = 4 ∧ q.wide = true then some ⟨r, u * q.count + e, true⟩
  else none

/-- The register at an offset from the register base. -/
def regAt (off : Nat) : Option RegPlace := allRegs.findSome? (regHit off)

/-- The element that a register's per-half fields stand for: RED_HALF_SEL selects it (R563). -/
def State.regIndex (s : State) (r : Reg) (i : Nat) : Nat :=
  if (regRow r).domain = .reduction ∧ r ≠ .RED_HALF_SEL then s.rd .RED_HALF_SEL_HALF else i

/-- The value of a register as its fields show it (R13, R14): write-only and reserved fields read 0. -/
def State.regValue (s : State) (r : Reg) (i : Nat) : Nat :=
  (regRow r).fields.foldl (fun (v : Nat) (f : Fld) =>
    if (fldRow f).acc = .wo then v else v + s.viewField r f (s.regIndex r i) * 2 ^ (fldRow f).lo) 0

/-! ### Reads (R14, R16-R18, R50, R515) -/

/-- The registers that a read of a first register latches with it (R50, R515, R563, R627, R676). -/
def bookRegs : Reg → List Reg
  | .GEY_TB_NOW => [.GEY_TB_NOW_HI]
  | .GEY_EPOCH => [.GEY_EPOCH_HI]
  | .SYNC_ISSUED => [.SYNC_ISSUED, .SYNC_CONSUMED, .SYNC_NET, .SYNC_LOST, .SYNC_CLEARED, .SYNC_INFLIGHT, .SYNC_BARRIER]
  | .RED_EXPECTED => [.RED_ABSENT, .RED_STAGED, .RED_FOLDED, .RED_DISCARDED, .RED_CANCELLED]
  | .SIN_EXPECTED => [.SIN_EXPECTED, .SIN_INFLIGHT, .SIN_HELD, .SIN_APPLIED, .SIN_CANCELLED]
  | .PWR_FRAME_ENERGY_NJ => [.PWR_FRAME_TAG, .PWR_FRAME_CORE_UJ]
  | _ => []

/-- Block offset of a register that stands once. -/
def regOffset (r : Reg) : Nat := (regRow r).base + (regRow r).off

/-- Key of a latch: requester and block offset. -/
def latchKey (req off : Nat) : Nat := req * 2 ^ 32 + off

/-- A requester's latched book register, if it has latched it. -/
def State.bookLatch (s : State) (req : Nat) (r : Reg) : Option Nat := tabGet none (latchKey req (regOffset r)) s.bus.book

/-- The registers of a book latched for a requester. -/
def State.latchBook (s : State) (req : Nat) (r : Reg) : State :=
  (bookRegs r).foldl (fun (s : State) (x : Reg) =>
    s.setBus { s.bus with book := tabSet none (latchKey req (regOffset x)) (some (s.regValue x 0)) s.bus.book }) s

/-- The value that a requester's read of a register sees: the latched one of a book, else the current one. -/
def State.seenValue (s : State) (req : Nat) (r : Reg) (i : Nat) : Nat :=
  match s.bookLatch req r with
  | some v => if bookRegs r = [] then v else s.regValue r i
  | none => s.regValue r i

/-- Fields that a read clears (R14, R16): to the value that they hold at release, 0 but for the smallest margin. -/
def State.clearRoc (s : State) (r : Reg) (i : Nat) : State :=
  (regRow r).fields.foldl (fun (s : State) (f : Fld) =>
    if (fldRow f).acc = .roc then s.wr f (fldRow f).reset (s.regIndex r i) else s) s

/-- The high word of a register latched by a 32-bit read of the low word (R18). -/
def State.latchHalf (s : State) (req off : Nat) (v : Option Nat) : State :=
  s.setBus { s.bus with half := tabSet none (latchKey req off) v s.bus.half }

/-- A requester's read at an offset, of 64 bits or of 32. An offset outside every register reads 0 (R744). -/
def State.regRead (s : State) (req off : Nat) (wide : Bool) : State :=
  match regAt off with
  | none => s.replyTo req (.data 0)
  | some p =>
    let s := if p.high then s else s.latchBook req p.reg
    let v := s.seenValue req p.reg p.index
    let s' := s.clearRoc p.reg p.index
    if p.high then
      let w := (tabGet none (latchKey req (off - 4)) s.bus.half).getD (v / 2 ^ 32)
      (s'.latchHalf req (off - 4) none).replyTo req (.data w)
    else if wide then s'.replyTo req (.data v)
    else
      let s' := if (regRow p.reg).wide then s'.latchHalf req off (some (v / 2 ^ 32)) else s'
      s'.replyTo req (.data (v % 2 ^ 32))

/-! ### Writes (R13-R15, R20) -/

/-- What a write carries: the low word, the high word, or all of a register. -/
inductive WriteHalf where
  | low | high | all
deriving DecidableEq, Repr

/-- Whether a write reaches a field. -/
def WriteHalf.reaches (h : WriteHalf) (f : Fld) : Bool :=
  match h with
  | .all => true
  | .low => decide ((fldRow f).lo < 32)
  | .high => decide (32 ≤ (fldRow f).hi)

/-- The register's bits after a write of its half (R20). -/
def WriteHalf.merge (h : WriteHalf) (old v : Nat) : Nat :=
  match h with
  | .all => v % 2 ^ 64
  | .low => old / 2 ^ 32 * 2 ^ 32 + v % 2 ^ 32
  | .high => v % 2 ^ 32 * 2 ^ 32 + old % 2 ^ 32

/-- Low bits that a field reads as 0 whatever is written (R295, R751, R785). -/
def State.lowZeros (s : State) (f : Fld) : Nat :=
  match f with
  | .VE_RES_SRC_ADDR => 6
  | .MBX_CMD_BASE_ADDR => 8
  | .MBX_RSP_BASE_ADDR => 6
  | .HA_BAR2_BASE_BASE => 34 + s.rd .HA_BAR2_SIZE_LOG2
  | _ => 0

/-- A write of one field by its access type (R14); `w` the register's bits. -/
def State.writeField (s : State) (i w : Nat) (f : Fld) : State :=
  let q := fldRow f
  let v := bitsOf w q.hi q.lo
  match q.acc with
  | .rw => let z := 2 ^ s.lowZeros f; s.rangeWrite f (v / z * z) i
  | .rw1c => s.wr f (s.rd f i - (s.rd f i &&& v)) i
  | .rw1s => s.wr f (s.rd f i ||| v) i
  | _ => s

/-- A write of every field that it reaches. -/
def State.writeFields (s : State) (r : Reg) (i w : Nat) (h : WriteHalf) : State :=
  (regRow r).fields.foldl (fun (s : State) (f : Fld) => if h.reaches f then s.writeField (s.regIndex r i) w f else s) s

/-- Registers that accept writes only while the sequencer is EMPTY, LOADED or STOPPED (R295, R640, R685). -/
def writeNeedsFree : Reg → Bool
  | .VE_RES_SIZE | .VE_RES_SRC | .SIN_SECURE_STEPS | .PWR_PACE_ROUND => true
  | _ => false

/-- Registers that ignore writes while MBX_CTRL.ENABLE is 1 (R727). -/
def ringReg : Reg → Bool
  | .MBX_CMD_BASE | .MBX_CMD_SIZE | .MBX_RSP_BASE | .MBX_RSP_SIZE => true
  | _ => false

/-- The state of a row's effect. -/
def stateAfter (s : State) (r : Res) : State := match r with | .next t => t | _ => s

/-- A write of a register that has no row of its own: ignored where its chapter says so, else by its fields' access types;
with what else the chapter gives it. -/
def State.writePlain (s : State) (req : Nat) (r : Reg) (i w : Nat) (h : WriteHalf) : State :=
  if (writeNeedsFree r && !s.seqFree) || (ringReg r && s.rd .MBX_CTRL_ENABLE == 1) || (r == .HA_ATU && decide (2 < req)) then s
  else
    let s := s.writeFields r i w h
    match r with
    | .VE_FLAGS => s.orFlags .VE_FLAGS_FLAGS (s.veOf i).lateSet i
    | .VE_RES_SIZE | .VE_RES_SRC =>
      if tabGet none (clusterOfTile i) s.str.prefilled = some (i % 16) then s.dropPrefill (clusterOfTile i) else s
    | .FUM_RULE_CFG | .FUM_RULE_LIM =>
      { s with fum := { s.fum with rules := tabSet RuleRun.reset i { tabGet RuleRun.reset i s.fum.rules with count := 0 } s.fum.rules } }
    | _ => s

/-- A write of a register at an element (R14): a register with a row of its own has that row's effect. -/
def State.writeReg (s : State) (req : Nat) (r : Reg) (i v : Nat) (h : WriteHalf) : State :=
  let w := h.merge (s.regValue r i) v
  match r with
  | .RES_CTRL => s.writeResCtrl req (bitsOf w 12 8) (bitsOf w 7 0)
  | .RES_SHARE_SE => s.writeShare req i w
  | .RES_SHARE_UE => s.writeShare req (4 + i) w
  | .SYNC_HOST_SIG => if h = .all then stateAfter s (execSyncHostSigWrite (bitsOf v 23 0) (bitsOf v 63 32) s) else s
  | .FAB_COORD => stateAfter s (execFabCoordWrite (bitOf w 16) (w % 2 ^ 16) s)
  | .FAB_CREDIT_VC => stateAfter s (execFabCreditLimitWrite (i / 4) (i % 4) (bitsOf w 24 16) s)
  | .STR_CTRL =>
    if bitOf w 0 then
      let s' := stateAfter s (execMaintSetWrite s)
      if s'.rd .STR_CTRL_MAINT = 1 then s'.writeFields r i w h else s
    else s.writeFields r i w h
  | .STR_SLICE =>
    let s' := s.writeFields r i w h
    if bitOf w 31 then stateAfter s' (execSliceStart (bitsOf w 24 16) (w % 16) false s') else s'
  | .STR_PREFILL =>
    let s' := s.writeFields r i w h
    if bitOf w 31 then stateAfter s' (execPrefillStart (bitsOf w 24 16) (w % 16) s') else s'
  | .STR_ROWMAP_WR =>
    let s' := s.writeFields r i w h
    if bitOf w 63 then stateAfter s' (execRowmapWrite (bitsOf w 56 48) (bitsOf w 41 32) (bitsOf w 14 0) s') else s'
  | .PWR_GB_MV => let s' := stateAfter s (execPwrGbWrite 0 (w % 256) s); stateAfter s' (execPwrGbWrite 1 (bitsOf w 15 8) s')
  | .PWR_ALERT => stateAfter s (execPwrAlertClearWrite (w % 32) s)
  | .CP_KICK => if bitOf w 0 ∧ (req = 1 ∨ req = 2) then stateAfter s (execCpKickWrite (req - 1) s) else s
  | .MBX_CTRL => stateAfter s (execMbxEnableWrite (bitOf w 0) s)
  | .MBX_CMD_TAIL => stateAfter s (execMbxCmdTailWrite (w % 2 ^ 32) s)
  | _ => s.writePlain req r i w h

/-- A requester's write at an offset (R13, R20, R744). -/
def State.regWrite (s : State) (req off v : Nat) (wide : Bool) : State :=
  match regAt off with
  | none => s
  | some p =>
    if (regRow p.reg).wide then s.writeReg req p.reg p.index v (if p.high then .high else if wide then .all else .low)
    else s.writeReg req p.reg p.index (v % 2 ^ 32) .low

/-- The module's registers answer: 48 V is applied (R700). -/
def State.busUp (s : State) : Bool := s.powerState != 0

/-! ### Residual beats (R470, R472, R769) -/

/-- The answer to a residual read of memory: an error response for a poisoned codeword (R449). -/
def State.memReply (s : State) (a n : Nat) : BusReply :=
  match s.firstPoisoned ((List.range n).map fun i => a + i) with
  | some _ => .poisoned
  | none => .data (s.ldNat a n)

/-- A read of n bytes: a register, or memory. -/
def State.readAt (s : State) (rank a n : Nat) : State :=
  if isRegAddr a then s.regRead rank (a - regBase) (n == 8) else s.replyTo rank (s.memReply a n)

/-- A write that its arbiter has taken: a register, or memory. -/
def State.putWrite (s : State) (rank : Nat) (w : LockWrite) : State :=
  if isRegAddr w.addr then s.regWrite rank (w.addr - regBase) (leNat w.bytes) (w.bytes.length == 8) else s.resStore w.addr w.bytes

/-- Writes of a sequence become visible together (R476). -/
def State.applyLock (s : State) (rank : Nat) (l : List LockWrite) : State :=
  l.foldl (fun (s : State) (w : LockWrite) => s.putWrite rank w) s

/-- A read within a locked sequence sees the sequence's own writes (R476); what the read itself does to a register it does to the
target. -/
def State.readLocked (s : State) (k : ResLock) (a n : Nat) : State :=
  let t := (s.applyLock k.owner k.writes).readAt k.owner a n
  let s := s.readAt k.owner a n
  s.setBus { s.bus with reply := t.bus.reply }

/-- What a beat writes, once its arbiter has judged it. -/
def State.beatWrites (s : State) (inst : Nat) (r : ResReq) : State × List LockWrite :=
  match r.write with
  | none => (s, [])
  | some bs => let (s, ok) := s.resJudge inst r.rank r.addr; (s, if ok then [⟨r.addr, bs⟩] else [])

/-- A beat of a locked sequence of n bytes (R476, R477): a write is buffered; the last beat releases the lock. -/
def State.lockBeat (s : State) (inst : Nat) (k : ResLock) (r : ResReq) (n : Nat) : State :=
  if 64 ≤ k.beats then s.tearLong inst k
  else
    let (s, w) := (s.countGrant inst).beatWrites inst r
    let k : ResLock := { k with beats := k.beats + 1, addr := r.addr, writes := k.writes ++ w }
    let s := if r.write.isNone then s.readLocked k r.addr n else s
    if r.lock = .release then (s.setLock inst none).applyLock k.owner k.writes else s.setLock inst (some k)

/-- A beat outside any lock; `take` opens a locked sequence. -/
def State.freeBeat (s : State) (inst : Nat) (r : ResReq) (n : Nat) : State :=
  let (s, w) := (s.countGrant inst).beatWrites inst r
  let s := if r.write.isNone then s.readAt r.rank r.addr n else s
  if r.lock = .take then s.setLock inst (some ⟨r.rank, 1, r.addr, w⟩) else s.applyLock r.rank w

/-- A beat that an arbiter grants. -/
def State.beat (s : State) (inst : Nat) (r : ResReq) (n : Nat) : State :=
  match s.lockOf inst with
  | some k => s.lockBeat inst k r n
  | none => s.freeBeat inst r n

/-! ### Accesses held while a tile is remapped (R36) -/

/-- The logical tile whose register window or operand cache an address lies in. -/
def tileOfAddr (a : Nat) : Option Nat :=
  if isRegAddr a then
    match regAt (a - regBase) with
    | some p => if (regRow p.reg).domain = .tile then some (p.index / (regRow p.reg).count) else none
    | none => none
  else (ocOf a).map (·.1)

/-- An access to an address is held: a takeover of its tile's position is staged. -/
def State.heldAt (s : State) (a : Nat) : Bool :=
  !s.str.takeovers.isEmpty && match tileOfAddr a with | some t => s.takeoverStaged t | none => false

/-- An access held until the remap completes. -/
def State.holdAccess (s : State) (x : HeldAccess) : State := s.setBus { s.bus with held := s.bus.held ++ [x] }

/-- Beats of an access, each with the bytes it writes. -/
def State.beats (s : State) (rank : Nat) : List (Nat × Nat) → Option (List Byte) → State
  | [], _ => s
  | (a, k) :: r, w =>
    (s.beat (s.arbiterOf a) ⟨rank, 0, a, w.map fun bs => bs.take k, .hold⟩ k).beats rank r (w.map fun bs => bs.drop k)

/-- A read of n bytes of memory: each of its beats counted, one answer; it sees the requester's own locked writes (R476). -/
def State.readMem (s : State) (rank a n : Nat) : State :=
  let l := s.beatsOf n a n
  let own := l.flatMap fun q => match s.lockOf (s.arbiterOf q.1) with | some k => k.writes | none => []
  (s.countBeats l).replyTo rank ((s.applyLock rank own).memReply a n)

/-- An access without a place in a sequence of its own: nothing where another holds an arbiter on its way; under the requester's own
lock its beats are beats of the sequence. A register of 64 bits takes two beats (R470). -/
def State.access (s : State) (x : HeldAccess) : State :=
  if isRegAddr x.addr then
    if s.heldUp x.rank [(x.addr, x.bytes)] then s
    else
      let s := if x.bytes = 8 then s.countGrant regFabric else s
      s.beat regFabric ⟨x.rank, 0, x.addr, x.write, .hold⟩ x.bytes
  else
    let l := s.beatsOf x.bytes x.addr x.bytes
    if s.heldUp x.rank l then s
    else if x.write.isSome then s.beats x.rank l x.write
    else s.readMem x.rank x.addr x.bytes

/-- The accesses held reach the tiles whose remap has completed, in order (R36). -/
def State.releaseHeld (s : State) : State :=
  let l := s.bus.held
  let s := s.setBus { s.bus with held := l.filter fun x => s.heldAt x.addr }
  (l.filter fun x => !s.heldAt x.addr).foldl State.access s

/-- An access made now, or held (R36). -/
def State.busAccess (s : State) (x : HeldAccess) : State :=
  let s := s.releaseHeld
  if s.heldAt x.addr then s.holdAccess x else s.access x

/-- A requester's read of the register at an offset. -/
def State.busRead (s : State) (req off : Nat) (wide : Bool) : State :=
  s.busAccess ⟨req, regBase + off, none, if wide then 8 else 4⟩

/-- A requester's write of the register at an offset. -/
def State.busWrite (s : State) (req off v : Nat) (wide : Bool) : State :=
  let n := if wide then 8 else 4
  s.busAccess ⟨req, regBase + off, some (leBytes n v), n⟩

/-- A request cut to one beat of its arbiter (R470): the requester presents the rest again. -/
def oneBeat (inst : Nat) (r : ResReq) : ResReq := { r with write := r.write.map fun bs => bs.take (beatBytes inst - r.addr % beatBytes inst) }

/-- RESIDUAL_GRANT (R471-R473): arbiter `arb` grants one of the requesters of ranks 1 to 10 that wait for it. -/
def execResidualGrant (arb : Nat) (reqs : List ResReq) (s : State) : Res :=
  let s := s.releaseHeld
  match s.granted arb (reqs.filter fun r => s.arbiterOf r.addr == arb && decide (1 ≤ r.rank ∧ r.rank ≤ 10)) with
  | none => .next s
  | some r =>
    let n := beatBytes arb - r.addr % beatBytes arb
    let r := oneBeat arb r
    if s.heldAt r.addr then .next (s.holdAccess ⟨r.rank, r.addr, r.write, n⟩) else .next (s.beat arb r n)

/-! ### Register accesses -/

/-- REGISTER_WRITE (R14): `wide` for a 64-bit write. -/
def execRegisterWrite (req off value : Nat) (wide : Bool) (s : State) : Res :=
  .next (if s.busUp then s.busWrite req off value wide else s)

/-- ROC_READ (R16): a read of the register at an offset; its ROC fields clear. -/
def execRocRead (req off : Nat) (s : State) : Res := .next (if s.busUp then s.busRead req off false else s)

/-- HALF_WORD_READ (R18): a 32-bit read of one word of a 64-bit register. -/
def execHalfWordRead (req off : Nat) (s : State) : Res := .next (if s.busUp then s.busRead req off false else s)

/-- TB_NOW_READ (R50): of GEY_TB_NOW, or of GEY_EPOCH. -/
def execTbNowRead (req : Nat) (ofEpoch wide : Bool) (s : State) : Res :=
  .next (if s.busUp then s.busRead req (regOffset (if ofEpoch then .GEY_EPOCH else .GEY_TB_NOW)) wide else s)

/-- SYNC_ISSUED_READ (R515). -/
def execSyncIssuedRead (req : Nat) (wide : Bool) (s : State) : Res :=
  .next (if s.busUp then s.busRead req (regOffset .SYNC_ISSUED) wide else s)

/-- RED_EXPECTED_READ (R563). -/
def execRedExpectedRead (req : Nat) (s : State) : Res :=
  .next (if s.busUp then s.busRead req (regOffset .RED_EXPECTED) false else s)

/-- SIN_EXPECTED_READ (R627). -/
def execSinExpectedRead (req : Nat) (s : State) : Res :=
  .next (if s.busUp then s.busRead req (regOffset .SIN_EXPECTED) false else s)

/-- PWR_FRAME_ENERGY_READ (R676). -/
def execPwrFrameEnergyRead (req : Nat) (wide : Bool) (s : State) : Res :=
  .next (if s.busUp then s.busRead req (regOffset .PWR_FRAME_ENERGY_NJ) wide else s)

/-! ### BARs (R768, R769) -/

/-- The module address of a BAR offset; none where it is unbacked. -/
def State.barAddr (s : State) (bar off : Nat) : Option Nat :=
  if bar = 0 then some (regBase + off)
  else
    let a := s.rd .HA_BAR2_BASE_BASE + off
    if a < regBase ∧ off < 2 ^ (34 + s.rd .HA_BAR2_SIZE_LOG2) ∧ s.placeOf a ≠ .none then some a else none

/-- An access that nothing backs: recorded at most once a second (R769). -/
def State.unbacked (s : State) (off : Nat) : State :=
  let sec := s.tb / tbPerSec
  if s.bus.addrNoted = some sec then s
  else (s.setBus { s.bus with addrNoted := some sec }).raise .ERR_HOST_ADDR (.die 0) off

/-- Rank of host BAR accesses (R471). -/
def hostRank : Nat := 4

/-- The link to the host is up and the adapter is out of reset. -/
def State.linkUp (s : State) : Bool := s.busUp && s.rd .HA_STATUS_LINK_UP == 1

/-- MSI-X table and pending bits in BAR0 (R768): word of the table, word of the array. -/
def msixWord (off : Nat) : Option Nat := if 0x06002000 ≤ off ∧ off < 0x06002100 then some ((off - 0x06002000) / 4) else none

/-- The pending bits: vectors whose event is held by moderation (R743). -/
def State.msixPending (s : State) : Nat := ((List.range 16).map fun v => b2n (tabGet false v s.mbx.irqHeld) * 2 ^ v).foldl (· + ·) 0

/-- A host read of BAR0: n is 4 or 8 bytes. -/
def State.bar0Read (s : State) (off n : Nat) : State :=
  match msixWord off with
  | some k => s.replyTo hostRank (.data (tabGet 0 k s.bus.msix + if n = 8 then tabGet 0 (k + 1) s.bus.msix * 2 ^ 32 else 0))
  | none =>
    if off = 0x06003000 then s.replyTo hostRank (.data s.msixPending)
    else s.busRead hostRank off (n == 8)

/-- A host write of BAR0. -/
def State.bar0Write (s : State) (off : Nat) (bs : List Byte) : State :=
  match msixWord off with
  | some k =>
    let t := tabSet 0 k (leNat (bs.take 4)) s.bus.msix
    s.setBus { s.bus with msix := if bs.length = 8 then tabSet 0 (k + 1) (leNat (bs.drop 4)) t else t }
  | none => s.busWrite hostRank off (leNat bs) (bs.length == 8)

/-- HOST_BAR_READ (R768, R769): n bytes at an offset of BAR0 or BAR2. -/
def execHostBarRead (bar off n : Nat) (s : State) : Res :=
  if !s.linkUp then .next s
  else
    match s.barAddr bar off with
    | none => .next ((s.unbacked off).replyTo hostRank .abort)
    | some a =>
      .next (if bar = 0 then s.bar0Read off n else s.busAccess ⟨hostRank, a, none, n⟩)

/-- HOST_BAR_WRITE (R768, R769). -/
def execHostBarWrite (bar off : Nat) (data : List Byte) (s : State) : Res :=
  if !s.linkUp then .next s
  else
    match s.barAddr bar off with
    | none => .next (s.unbacked off)
    | some a =>
      .next (if bar = 0 then s.bar0Write off data else s.busAccess ⟨hostRank, a, some data, data.length⟩)

/-! ### Ticks, with the accesses that a remap at them sets free (R36) -/

/-- GEYSER_TICK (R68): the next tick of the program's grid. `late`: engines whose slot list is not complete (R90); `fec`:
4 × port + lane of the lanes over their limit. -/
def execGeyserTick (late fec : List Nat) (s : State) : Res := .next (s.tickNow late fec).releaseHeld

/-- IDLE_TICK (R70): the next crossing of the idle grid, while no program runs. -/
def execIdleTick (fec : List Nat) (s : State) : Res := .next (s.idleNow fec).releaseHeld

end Sys2Proof.Machine
end

