-- ==== Sys2Proof/Machine/Restore.lean ====
section
/-! DEFINITION. RESTORE (13, R636-R639): the target's phases, what the sources send, and the Sinter messages that a
restore receives. -/

set_option autoImplicit false

namespace Sys2Proof.Machine

open Sys2Proof

/-! ### Sources -/

/-- A copy's bytes sent to a rank: OBJ names the allocation, AUX the byte offset within the page. -/
def State.sendCopy (s : State) (dst : Nat) (q : Nat × Nat × Nat) : State :=
  match s.currentAddr q.1 q.2.1 with
  | none => s
  | some a =>
    let bs := s.ldBytes a q.2.2
    let ps := pieces granBytes bs.length bs
    ps.zipIdx.foldl (fun (s : State) (x : List Byte × Nat) =>
      (s.bump .SIN_SENT_COUNT).present
        { msgPlain 9 2 (s.coordOfRank dst) q.1 0 (q.2.1 + granBytes * x.2) x.1 with unit := 4, last := x.2 + 1 == ps.length } .first none) s

/-- The committed copy of a rank's record sent to a rank (R636): its header tells its length. -/
def State.sendHeldRecord (s : State) (dst r : Nat) : State :=
  match s.recAddr r (s.recCopy r) with
  | none => s
  | some a => s.sendRecord none dst r (s.ldBytes a (64 + 32 * s.ldNat (a + 6) 2))

/-- A source's part in RESTORE (R636, R637): records, chains of the groups, copies. -/
def State.restoreSource (s : State) (rank : Nat) (recs : List Nat) (copies : List (Nat × Nat × Nat)) (chains : State → State) : State :=
  let s := recs.foldl (fun (s : State) (r : Nat) => s.sendHeldRecord rank r) s
  copies.foldl (fun (s : State) (q : Nat × Nat × Nat) => s.sendCopy rank q) (chains s)

/-- Its places in the chains of every group that holds the rank being restored. -/
def State.fullChains (s : State) (rank : Nat) (lost : List Nat) : State :=
  s.sinGroups.zipIdx.foldl (fun (s : State) (p : SinGroup × Nat) => s.startChain p.2 p.1 rank lost 0 p.1.len) s

/-- Its place in the chain over blocks of a named group. -/
def State.blockChain (s : State) (rank group first blocks : Nat) (lost : List Nat) : State :=
  match s.sinGroups.zipIdx.find? fun p => p.1.id == group with
  | some (g, gi) => s.startChain gi g rank lost first blocks
  | none => s

/-! ### The target -/

/-- The RESTORE under way replaced. -/
def State.setRestore (s : State) (r : Option Restore) : State := s.setSin { s.sin with restore := r }

/-- RESTORE ends as it answers. -/
def State.endRestore (s : State) (r : Restore) (a : Answer) : State := (s.setRestore none).answer 0x40 r.tag a

/-- A group that parity cannot rebuild and of which an owned shard has no live co-owner (R639). -/
def State.restoreLost (s : State) (lost : List Nat) : Option Nat :=
  (s.sinGroups.zipIdx.find? fun p => decide (2 < (p.1.lostAt lost).length) &&
    match s.step.table with
    | some t => t.shards.any fun e => e.role == 0 && e.group == p.2 && lost.contains e.partner
    | none => false).map fun p => p.1.id

/-- Blocks that the chains of the groups bring to the target. -/
def State.fullBlocks (s : State) (lost : List Nat) : Nat :=
  ((s.sinGroups.filter fun g => !(g.chain s.rank lost).isEmpty).map (·.len)).foldl (· + ·) 0

/-- Ranges whose CRC differs from the co-owner's (R638): bytes. -/
def State.verifyBad (s : State) (l : List (Nat × Nat × Nat)) : List Nat :=
  l.filterMap fun q =>
    match s.sinGroups[q.1]? with
    | none => none
    | some g => match g.ranges[q.2.1]? with
      | none => none
      | some r =>
        match s.currentAddr r.handle r.offset with
        | some a => if crc32c (s.ldBytes a (granBytes * r.blocks)) = q.2.2 then none else some (granBytes * r.blocks)
        | none => none

/-- The record's bytes in order. -/
def Restore.bytes (r : Restore) : List Byte := r.record.flatMap (·.2)

/-- A field of the record (R629). -/
def Restore.field (r : Restore) (o n : Nat) : Nat := leNat ((r.bytes.drop o).take n)

/-- The CRC of the record, its field taken as 0 (R629). -/
def recordCrcOk (bs : List Byte) : Bool :=
  leNat ((bs.drop 0x24).take 4) == crc32c (bs.take 0x24 ++ leBytes 4 0 ++ bs.drop 0x28)

/-- Statistics slot and scale descriptor of each SCALEW target of the program. -/
def State.scaleTargets (s : State) : List (Nat × Nat) :=
  match s.prog, s.step.table with
  | some p, some t =>
    t.shards.zipIdx.flatMap fun q =>
      ((s.shardSlots p q.2).filter fun x => x.slot.pass == 1).flatMap fun x =>
        ((uWords (t.uprogs.getD x.slot.uprog []) 2).filter fun w => ueOp w == 3).map fun w =>
          let d := s.desc (q.1.stream (ueS w))
          (d.statSlot, d.scaleLink)
  | _, _ => []

/-- Address of a one-element descriptor's element on the current page. -/
def State.currentElem (s : State) (id : Nat) : Nat :=
  let d := s.desc id
  s.addrOf { d with cls := 0 } (List.replicate d.rank 0)

/-- Phase 5 on one statistics slot: live and shadow of the record, the SCALEW targets that follow it, then the promotion; the
shadow of the module's table stands. -/
def State.restoreStat (targets : List (Nat × Nat)) (bs : List Byte) (s : State) (slot : Nat) : State :=
  let a := s.policy.statBase + 32 * slot
  let shadow := s.ldBytes (a + 16) 16
  let s := s.putBytes a ((bs.drop (64 + 32 * slot)).take 32)
  let next := BitVec.ofNat 8 (bitsOf (s.statRead a).word 31 24)
  let s := targets.foldl (fun (s : State) (t : Nat × Nat) =>
    if t.1 = slot then s.putBytes (s.currentElem t.2) [next] else s) s
  (s.statPromoteSlot slot).putBytes (a + 16) shadow

/-- Phase 6: counters. A body that was a securing body was its step's last securing (R631). -/
def State.restoreCounters (s : State) (r : Restore) : State :=
  let step := r.field 8 4
  let s := s.wr .GEY_STEP_COUNT_STEP (step + 1)
  let s := { s with policy := { s.policy with salt := r.field 0x10 8 } }.loadKeys
  let s := s.wr .SIN_LAST_SECURE_STEP (if bitOf (r.field 0x20 4) 0 then step else r.field 0x0C 4)
  s.wr .STEP_TOKEN_TOKEN (r.field 0x18 8)

/-- Phase 7: HALT_STEP under the job's epoch, the frame count from the time base (R68). -/
def State.restoreJoin (s : State) (r : Restore) : State :=
  let s := (s.wr .GEY_EPOCH_STAMP_LO (r.epoch % 2 ^ 64)).wr .GEY_EPOCH_HI_STAMP_HI (r.epoch / 2 ^ 64)
  let n := (s.tb - s.epoch) / s.period
  let s := s.enterFrame n ((s.tb - s.tickTime n) * opFreq s.opNow / cycleUnits)
  { s with
    seq := .haltStep, aborted := true
    seqRun := { s.seqRun with live := false, intervals := 0, restart := none }
    step := { s.step with aborted := true, commitStart := none } }

/-- Phases 5 to 7 of FULL. -/
def State.restoreFinish (s : State) (r : Restore) : State :=
  let bs := r.bytes
  let slots := min s.policy.statSlots (r.field 6 2)
  let s := (List.range slots).foldl (State.restoreStat s.scaleTargets bs) s
  ((s.restoreCounters r).restoreJoin r).endRestore r (.ok r.written)

/-- The target goes on once everything that it waits for has come: phase 4 takes the co-owner's bytes where a CRC differs; then
phases 5 to 7. BLOCK ends. -/
def State.restoreStep (s : State) : State :=
  match s.sin.restore with
  | none => s
  | some r =>
    if r.needRecords ≠ [] ∨ r.needRebuild ≠ 0 ∨ r.needCopy ≠ 0 then s
    else if !r.full then s.endRestore r (.ok r.written)
    else
      let bad := s.verifyBad r.crcs
      if bad = [] then s.restoreFinish r
      else (s.raiseSin .ERR_RESTORE_VERIFY none bad.length).setRestore (some { r with crcs := [], needCopy := bad.foldl (· + ·) 0 })

/-- RESTORE on its target (R636, R639): accepted, it clears the synchronisation unit (R513) and waits for what the sources send. -/
def State.restoreTarget (s : State) (r : Restore) : State × Answer :=
  match s.restoreLost r.lost with
  | some g => (s.raiseSin .ERR_RESTORE_LOST (some g), .known .ERR_RESTORE_LOST)
  | none => ((s.syncClear.setRestore (some r)).restoreStep, .running)

/-- RESTORE_FULL (R636): `target` the role, `rank` the rank being restored, `lost` the lost ranks, `step` the GEY_STEP_COUNT of
the sources, `epoch` the job's epoch; `recs` the ranks whose records come (target, beside its own) or are sent (source);
`copy` the bytes that come by partner copy and `crcs` the co-owners' CRCs of ranges (group entry, range, CRC); `copies` what a
source sends (handle, page offset, bytes). -/
def State.restoreFull (s : State) (tag : Nat) (target : Bool) (rank : Nat) (lost : List Nat) (step epoch : Nat)
    (recs : List Nat) (copy : Nat) (crcs copies : List (Nat × Nat × Nat)) : State × Answer :=
  if target then
    if s.seq ≠ .loaded ∨ s.sin.table.isNone = true then (s, .fail .ERR_RESTORE_STEP tag)
    else s.restoreTarget ⟨tag, true, step, epoch, lost, crcs, [], none, s.rank :: (recs.filter fun x => x != s.rank),
      s.fullBlocks lost, copy, 0⟩
  else if s.seq ≠ .haltStep then (s, .fail .ERR_RESTORE_STEP tag)
  else (s.syncClear.restoreSource rank recs copies fun s => s.fullChains rank lost, .ok 0)

/-- RESTORE_FULL (R636). -/
def execRestoreFull (tag : Nat) (target : Bool) (rank : Nat) (lost : List Nat) (step epoch : Nat) (recs : List Nat) (copy : Nat)
    (crcs copies : List (Nat × Nat × Nat)) (s : State) : Res :=
  .next (s.serve 0x40 tag fun s => s.restoreFull tag target rank lost step epoch recs copy crcs copies)

/-- RESTORE_BLOCK (R636): phase 2 for blocks of a group, or phase 3 for `copy` bytes. Its target may be a module that holds the
program in HALT_STEP. -/
def State.restoreBlock (s : State) (tag : Nat) (target : Bool) (rank group first blocks : Nat) (lost : List Nat) (copy : Nat)
    (copies : List (Nat × Nat × Nat)) : State × Answer :=
  if target then
    if s.seq ≠ .loaded ∧ s.seq ≠ .haltStep then (s, .fail .ERR_RESTORE_STEP tag)
    else s.restoreTarget ⟨tag, false, 0, 0, lost, [], [], none, [], if copy = 0 then blocks else 0, copy, 0⟩
  else if s.seq ≠ .haltStep then (s, .fail .ERR_RESTORE_STEP tag)
  else (s.syncClear.restoreSource rank [] copies fun s =>
    if copies = [] then s.blockChain rank group first blocks lost else s, .ok 0)

/-- RESTORE_BLOCK (R636). -/
def execRestoreBlock (tag : Nat) (target : Bool) (rank group first blocks : Nat) (lost : List Nat) (copy : Nat)
    (copies : List (Nat × Nat × Nat)) (s : State) : Res :=
  .next (s.serve 0x40 tag fun s => s.restoreBlock tag target rank group first blocks lost copy copies)

/-! ### Messages -/

/-- The own record is whole: its CRC and its STEP, compared as R109 says, decide phase 1 (R636). -/
def State.ownRecordWhole (s : State) (r : Restore) : State :=
  let s := if recordCrcOk r.bytes then s.stepWindow (r.field 8 4 + 1) r.step else s
  if recordCrcOk r.bytes = true ∧ (r.field 8 4 + 1) % 2 ^ 32 = r.step then
    (s.setRestore (some { r with needRecords := r.needRecords.filter fun x => x != s.rank })).restoreStep
  else s.endRestore r (.fail .ERR_RESTORE_STEP r.tag)

/-- A part of the own record. -/
def State.ownRecordPart (s : State) (r : Restore) (m : Msg) : State :=
  let r := { r with
    record := tabPut m.index m.payload r.record
    recordLen := if m.last then some (m.index + m.payload.length) else r.recordLen }
  if r.recordLen = some r.bytes.length then s.ownRecordWhole r else s.setRestore (some r)

/-- A part of a record that the target held: it goes to the committed copy. -/
def State.heldRecordPart (s : State) (r : Restore) (m : Msg) : State :=
  let size := match s.sin.table with | some t => t.recBytes | none => 0
  match (if m.index + m.payload.length ≤ size then s.recAddr m.obj (s.recCopy m.obj) else none) with
  | none => s.raiseSin .ERR_SINTER_MSG none m.index (s.rankOfCoord m.src)
  | some a =>
    let s := s.putBytes (a + m.index) m.payload
    let (n, t) := tabGet (0, none) m.obj s.sin.recParts
    let n := n + m.payload.length
    let t := if m.last then some (m.index + m.payload.length) else t
    if t = some n then
      (s.setSin { s.sin with
        recParts := tabDel m.obj s.sin.recParts
        restore := some { r with needRecords := r.needRecords.filter fun x => x != m.obj } }).restoreStep
    else s.setSin { s.sin with recParts := tabPut m.obj (n, t) s.sin.recParts }

/-- SINTER_RECORD_RECEIVE (R629, R636): the oldest RECORD in a receive buffer. -/
def execSinterRecordReceive (q : Nat) (s : State) : Res :=
  match s.peekRx q recordMsg with
  | none => .next s
  | some m =>
    let s := s.popRx q recordMsg
    match s.sin.restore with
    | some r =>
      if r.needRecords.contains m.obj then
        .next (if m.obj = s.rank then s.ownRecordPart r m else s.heldRecordPart r m)
      else .next (s.takeRecord m)
    | none => .next (s.takeRecord m)

/-- Bytes written by RESTORE (R640). -/
def State.countRebuilt (s : State) (r : Restore) (n : Nat) : State :=
  (s.bump .SIN_REBUILT_BYTES n).setRestore (some { r with written := r.written + n })

/-- Pending valid maps of a group entry cleared. -/
def State.clearPending (s : State) (gi : Nat) : State :=
  s.setSin { s.sin with valid := s.sin.valid.filter fun p => !(decide (p.1 / 131072 / 4 = gi ∧ 2 ≤ p.1 / 131072 % 4)) }

/-- A rebuilt block written into the current page, or into the parity buffer (R636, R637); beyond the ranges there is nothing
to write. -/
def State.putRebuilt (s : State) (gi : Nat) (g : SinGroup) (r : Restore) (m : Msg) : State :=
  let k := m.index / granBytes
  if g.parity then ((s.putBytes (s.areaAddr g s.parityBuf k) m.payload).clearPending gi).countRebuilt r m.payload.length
  else match s.blockAddr g k with
    | some a => (s.putBytes a m.payload).countRebuilt r m.payload.length
    | none => s.setRestore (some r)

/-- SINTER_REBUILD_RECEIVE (R637). -/
def execSinterRebuildReceive (q : Nat) (s : State) : Res :=
  match s.peekRx q (sinMsg 3) with
  | none => .next s
  | some m =>
    let s := s.popRx q (sinMsg 3)
    match s.sin.restore, s.sinGroups.zipIdx.find? fun p => p.1.id == m.obj with
    | some r, some (g, gi) =>
      if r.needRebuild = 0 ∨ m.index % granBytes ≠ 0 ∨ g.len * granBytes < m.index + m.payload.length then
        .next (s.raiseSin .ERR_SINTER_MSG (some m.obj) m.index (s.rankOfCoord m.src))
      else .next (s.putRebuilt gi g { r with needRebuild := r.needRebuild - 1 } m).restoreStep
    | _, _ => .next (s.raiseSin .ERR_SINTER_MSG (some m.obj) m.index (s.rankOfCoord m.src))

/-- A copy's bytes lie inside the page. -/
def State.copyInside (s : State) (m : Msg) : Bool :=
  match s.allocOf m.obj with | some a => decide (m.aux + m.payload.length ≤ a.span) | none => false

/-- SINTER_COPY_RECEIVE (R636): partner bytes written into the current page at the same handle and offset. -/
def execSinterCopyReceive (q : Nat) (s : State) : Res :=
  match s.peekRx q (sinMsg 4) with
  | none => .next s
  | some m =>
    let s := s.popRx q (sinMsg 4)
    match s.sin.restore, s.currentAddr m.obj m.aux with
    | some r, some a =>
      if r.needCopy = 0 ∨ s.copyInside m = false then .next (s.raiseSin .ERR_SINTER_MSG (some m.obj) m.aux (s.rankOfCoord m.src))
      else .next ((s.putBytes a m.payload).countRebuilt { r with needCopy := r.needCopy - m.payload.length } m.payload.length).restoreStep
    | _, _ => .next (s.raiseSin .ERR_SINTER_MSG (some m.obj) m.aux (s.rankOfCoord m.src))

end Sys2Proof.Machine
end

