-- ==== Sys2Proof/Machine/RowsA.lean ====
section
/-! DEFINITION. The A-slot commands (R308-R327): each presents a bundle that carries it in its A slot. -/

set_option autoImplicit false

namespace Sys2Proof.Machine

open Sys2Proof

/-- FADD (R309): A-slot floating-point addition. -/
def execFadd (t : Nat) (w : BitVec 36) (b : Beside) (s : State) : Res := s.issueOfA t 0x01 w b
/-- FSUB (R309): A-slot floating-point subtraction. -/
def execFsub (t : Nat) (w : BitVec 36) (b : Beside) (s : State) : Res := s.issueOfA t 0x02 w b
/-- FMUL (R309): A-slot floating-point multiplication. -/
def execFmul (t : Nat) (w : BitVec 36) (b : Beside) (s : State) : Res := s.issueOfA t 0x03 w b
/-- FMA (R309): A-slot fused multiply-add with one rounding. -/
def execFma (t : Nat) (w : BitVec 36) (b : Beside) (s : State) : Res := s.issueOfA t 0x04 w b
/-- FNMA (R309): A-slot negated fused multiply-add with one rounding. -/
def execFnma (t : Nat) (w : BitVec 36) (b : Beside) (s : State) : Res := s.issueOfA t 0x05 w b
/-- FMIN (R311): A-slot IEEE minimum. -/
def execFmin (t : Nat) (w : BitVec 36) (b : Beside) (s : State) : Res := s.issueOfA t 0x06 w b
/-- FMAX (R311): A-slot IEEE maximum. -/
def execFmax (t : Nat) (w : BitVec 36) (b : Beside) (s : State) : Res := s.issueOfA t 0x07 w b
/-- FABS (R309): A-slot absolute value. -/
def execFabs (t : Nat) (w : BitVec 36) (b : Beside) (s : State) : Res := s.issueOfA t 0x08 w b
/-- FNEG (R309): A-slot negation. -/
def execFneg (t : Nat) (w : BitVec 36) (b : Beside) (s : State) : Res := s.issueOfA t 0x09 w b
/-- FCPYS (R309): A-slot copy-sign. -/
def execFcpys (t : Nat) (w : BitVec 36) (b : Beside) (s : State) : Res := s.issueOfA t 0x0A w b
/-- FMANT (R312): A-slot significand in [1, 2). -/
def execFmant (t : Nat) (w : BitVec 36) (b : Beside) (s : State) : Res := s.issueOfA t 0x0B w b
/-- FMANT2 (R312): A-slot significand in [1, 4) with even exponent shift. -/
def execFmant2 (t : Nat) (w : BitVec 36) (b : Beside) (s : State) : Res := s.issueOfA t 0x0C w b
/-- FRND (R313): A-slot round to integral value. -/
def execFrnd (t : Nat) (w : BitVec 36) (b : Beside) (s : State) : Res := s.issueOfA t 0x0D w b
/-- FSCALE (R313): A-slot scaling by a power of two from a scalar. -/
def execFscale (t : Nat) (w : BitVec 36) (b : Beside) (s : State) : Res := s.issueOfA t 0x0E w b
/-- FDIV_FIN (R326): A-slot final division checking the estimate and delivering the rounded quotient. -/
def execFdivFin (t : Nat) (w : BitVec 36) (b : Beside) (s : State) : Res := s.issueOfA t 0x0F w b
/-- FSQRT_FIN (R326): A-slot final square root checking the estimate and delivering the rounded root. -/
def execFsqrtFin (t : Nat) (w : BitVec 36) (b : Beside) (s : State) : Res := s.issueOfA t 0x10 w b
/-- MOV (R309): A-slot bit copy. -/
def execMov (t : Nat) (w : BitVec 36) (b : Beside) (s : State) : Res := s.issueOfA t 0x11 w b
/-- SEL (R316): A-slot selection by predicate. -/
def execSel (t : Nat) (w : BitVec 36) (b : Beside) (s : State) : Res := s.issueOfA t 0x12 w b
/-- IADD (R314): A-slot INT32 addition fitted under OVF. -/
def execIadd (t : Nat) (w : BitVec 36) (b : Beside) (s : State) : Res := s.issueOfA t 0x18 w b
/-- ISUB (R314): A-slot INT32 subtraction fitted under OVF. -/
def execIsub (t : Nat) (w : BitVec 36) (b : Beside) (s : State) : Res := s.issueOfA t 0x19 w b
/-- IMUL (R314): A-slot INT32 multiplication fitted under OVF. -/
def execImul (t : Nat) (w : BitVec 36) (b : Beside) (s : State) : Res := s.issueOfA t 0x1A w b
/-- IMIN (R309): A-slot signed minimum. -/
def execImin (t : Nat) (w : BitVec 36) (b : Beside) (s : State) : Res := s.issueOfA t 0x1B w b
/-- IMAX (R309): A-slot signed maximum. -/
def execImax (t : Nat) (w : BitVec 36) (b : Beside) (s : State) : Res := s.issueOfA t 0x1C w b
/-- AND (R314): A-slot bitwise and. -/
def execAnd (t : Nat) (w : BitVec 36) (b : Beside) (s : State) : Res := s.issueOfA t 0x1D w b
/-- OR (R314): A-slot bitwise or. -/
def execOr (t : Nat) (w : BitVec 36) (b : Beside) (s : State) : Res := s.issueOfA t 0x1E w b
/-- XOR (R314): A-slot bitwise exclusive or. -/
def execXor (t : Nat) (w : BitVec 36) (b : Beside) (s : State) : Res := s.issueOfA t 0x1F w b
/-- SHL (R309): A-slot left shift. -/
def execShl (t : Nat) (w : BitVec 36) (b : Beside) (s : State) : Res := s.issueOfA t 0x20 w b
/-- SHR (R309): A-slot logical right shift. -/
def execShr (t : Nat) (w : BitVec 36) (b : Beside) (s : State) : Res := s.issueOfA t 0x21 w b
/-- SRA (R309): A-slot arithmetic right shift. -/
def execSra (t : Nat) (w : BitVec 36) (b : Beside) (s : State) : Res := s.issueOfA t 0x22 w b
/-- FCMP_EQ (R315): A-slot quiet equality comparison into a predicate. -/
def execFcmpEq (t : Nat) (w : BitVec 36) (b : Beside) (s : State) : Res := s.issueOfA t 0x28 w b
/-- FCMP_LT (R315): A-slot less-than comparison into a predicate. -/
def execFcmpLt (t : Nat) (w : BitVec 36) (b : Beside) (s : State) : Res := s.issueOfA t 0x29 w b
/-- FCMP_LE (R315): A-slot less-or-equal comparison into a predicate. -/
def execFcmpLe (t : Nat) (w : BitVec 36) (b : Beside) (s : State) : Res := s.issueOfA t 0x2A w b
/-- FCMP_UN (R315): A-slot unordered comparison into a predicate. -/
def execFcmpUn (t : Nat) (w : BitVec 36) (b : Beside) (s : State) : Res := s.issueOfA t 0x2B w b
/-- ICMP_EQ (R315): A-slot integer equality into a predicate. -/
def execIcmpEq (t : Nat) (w : BitVec 36) (b : Beside) (s : State) : Res := s.issueOfA t 0x2C w b
/-- ICMP_LT (R315): A-slot signed less-than into a predicate. -/
def execIcmpLt (t : Nat) (w : BitVec 36) (b : Beside) (s : State) : Res := s.issueOfA t 0x2D w b
/-- RMAX (R317): A-slot row maximum written into every element of the row. -/
def execRmax (t : Nat) (w : BitVec 36) (b : Beside) (s : State) : Res := s.issueOfA t 0x30 w b
/-- RMIN (R317): A-slot row minimum written into every element of the row. -/
def execRmin (t : Nat) (w : BitVec 36) (b : Beside) (s : State) : Res := s.issueOfA t 0x31 w b
/-- BCOL (R317): A-slot broadcast of a column across each row. -/
def execBcol (t : Nat) (w : BitVec 36) (b : Beside) (s : State) : Res := s.issueOfA t 0x32 w b
/-- RED_ADD (R318): A-slot row reduction adding row elements into a wide row accumulator. -/
def execRedAdd (t : Nat) (w : BitVec 36) (b : Beside) (s : State) : Res := s.issueOfA t 0x34 w b
/-- RED_SQ (R318): A-slot row reduction adding squares into a wide row accumulator. -/
def execRedSq (t : Nat) (w : BitVec 36) (b : Beside) (s : State) : Res := s.issueOfA t 0x35 w b
/-- RED_CSQ (R318): A-slot row reduction adding squared differences into a wide row accumulator. -/
def execRedCsq (t : Nat) (w : BitVec 36) (b : Beside) (s : State) : Res := s.issueOfA t 0x36 w b
/-- RED_GET (R318): A-slot rounding of a wide row accumulator into one column. -/
def execRedGet (t : Nat) (w : BitVec 36) (b : Beside) (s : State) : Res := s.issueOfA t 0x37 w b
/-- RED_CLR (R318): A-slot clear of a wide row accumulator and its lost marks. -/
def execRedClr (t : Nat) (w : BitVec 36) (b : Beside) (s : State) : Res := s.issueOfA t 0x38 w b
/-- CVT (R319): A-slot conversion between formats with scaling and statistics. -/
def execCvt (t : Nat) (w : BitVec 36) (b : Beside) (s : State) : Res := s.issueOfA t 0x3C w b

end Sys2Proof.Machine
end

