-- ==== Sys2Proof/Machine/RowsC.lean ====
section
/-! DEFINITION. The C-slot commands (R336-R347): each presents a bundle that carries it in its C slot. -/

set_option autoImplicit false

namespace Sys2Proof.Machine

open Sys2Proof

/-- VE_END (R343): C-slot marker of the last bundle of a slot. -/
def execVeEnd (t : Nat) (w : BitVec 27) (b : Beside) (s : State) : Res := s.issueOfC t 0x01 w b
/-- BR (R342): C-slot conditional branch. -/
def execBr (t : Nat) (w : BitVec 27) (b : Beside) (s : State) : Res := s.issueOfC t 0x02 w b
/-- SALU (R338): C-slot 64-bit scalar or address operation selected by SOP. -/
def execSalu (t : Nat) (w : BitVec 27) (b : Beside) (s : State) : Res := s.issueOfC t 0x03 w b
/-- PRED (R341): C-slot predicate operation or mask generation. -/
def execPred (t : Nat) (w : BitVec 27) (b : Beside) (s : State) : Res := s.issueOfC t 0x05 w b
/-- SYNC_SIG (R346): C-slot signal of a synchronisation object, optionally fenced. -/
def execSyncSig (t : Nat) (w : BitVec 27) (b : Beside) (s : State) : Res := s.issueOfC t 0x06 w b
/-- SYNC_WAIT (R344): C-slot wait on a synchronisation object that holds the bundle. -/
def execSyncWait (t : Nat) (w : BitVec 27) (b : Beside) (s : State) : Res := s.issueOfC t 0x07 w b
/-- FLAGS_RD (R347): C-slot read of VE_FLAGS into a scalar register. -/
def execFlagsRd (t : Nat) (w : BitVec 27) (b : Beside) (s : State) : Res := s.issueOfC t 0x08 w b
/-- FLAGS_CLR (R347): C-slot clear of the flags named by a mask. -/
def execFlagsClr (t : Nat) (w : BitVec 27) (b : Beside) (s : State) : Res := s.issueOfC t 0x09 w b
/-- CAL_WLOAD (R187): C-slot command queuing a weight-set load. -/
def execCalWload (t : Nat) (w : BitVec 27) (b : Beside) (s : State) : Res := s.issueOfC t 0x10 w b
/-- CAL_MM (R199): C-slot command queuing a matrix multiply. -/
def execCalMm (t : Nat) (w : BitVec 27) (b : Beside) (s : State) : Res := s.issueOfC t 0x11 w b
/-- CAL_ACCLOAD (R199): C-slot command queuing an accumulator load. -/
def execCalAccload (t : Nat) (w : BitVec 27) (b : Beside) (s : State) : Res := s.issueOfC t 0x12 w b
/-- CAL_DRAIN (R199): C-slot command queuing a drain of a bank. -/
def execCalDrain (t : Nat) (w : BitVec 27) (b : Beside) (s : State) : Res := s.issueOfC t 0x13 w b
/-- VENT_MV (R199): C-slot command queuing a Vent path multiply. -/
def execVentMv (t : Nat) (w : BitVec 27) (b : Beside) (s : State) : Res := s.issueOfC t 0x14 w b
/-- LI (R340): C-slot load of a sign-extended immediate. -/
def execLi (t : Nat) (w : BitVec 25) (b : Beside) (s : State) : Res := s.issueOfI t 0x00 w b
/-- ADDI (R340): C-slot addition of a sign-extended immediate. -/
def execAddi (t : Nat) (w : BitVec 25) (b : Beside) (s : State) : Res := s.issueOfI t 0x01 w b
/-- LSH16 (R340): C-slot shift left by 16 and insertion of an immediate. -/
def execLsh16 (t : Nat) (w : BitVec 25) (b : Beside) (s : State) : Res := s.issueOfI t 0x02 w b
/-- AGET (R340): C-slot copy of an address register into a scalar register. -/
def execAget (t : Nat) (w : BitVec 25) (b : Beside) (s : State) : Res := s.issueOfI t 0x03 w b

/-- NOP (R300): presents a bundle whose named slot is all zero. -/
def execNop (t : Nat) (slot : BundleSlot) (b : Beside) (s : State) : Res :=
  .next (s.issueBundle t (besideWord b slot 0) slot b.upset)

end Sys2Proof.Machine
end

