-- ==== Sys2Proof/Machine/RowsFM.lean ====
section
/-! DEFINITION. The F-slot and M-slot commands (R328-R335): each presents a bundle that carries it in its slot. -/

set_option autoImplicit false

namespace Sys2Proof.Machine

open Sys2Proof

/-- SEED (R329): F-slot seed function from the seed tables. -/
def execSeed (t : Nat) (w : BitVec 19) (b : Beside) (s : State) : Res := s.issueOfF t 0x01 w b
/-- SCAN_LR (R379): F-slot linear-recurrence scan along each row with carry. -/
def execScanLr (t : Nat) (w : BitVec 19) (b : Beside) (s : State) : Res := s.issueOfF t 0x02 w b
/-- SCAN_CGET (R330): F-slot copy of a carry register into a register column. -/
def execScanCget (t : Nat) (w : BitVec 19) (b : Beside) (s : State) : Res := s.issueOfF t 0x03 w b
/-- SCAN_CPUT (R330): F-slot copy of a register column into a carry register. -/
def execScanCput (t : Nat) (w : BitVec 19) (b : Beside) (s : State) : Res := s.issueOfF t 0x04 w b
/-- LD (R332): M-slot load of rows from the operand cache into a tile register. -/
def execLd (t : Nat) (w : BitVec 26) (b : Beside) (s : State) : Res := s.issueOfM t 0x01 w b
/-- ST (R332): M-slot store of tile-register rows to the operand cache. -/
def execSt (t : Nat) (w : BitVec 26) (b : Beside) (s : State) : Res := s.issueOfM t 0x02 w b
/-- FTQ_POP (R270): M-slot pop of the oldest posted FTQ entry into a register. -/
def execFtqPop (t : Nat) (w : BitVec 26) (b : Beside) (s : State) : Res := s.issueOfM t 0x03 w b
/-- AWIN_RD (R286): M-slot read of an accumulator bank through the compatibility window. -/
def execAwinRd (t : Nat) (w : BitVec 26) (b : Beside) (s : State) : Res := s.issueOfM t 0x04 w b
/-- AWIN_CLR (R287): M-slot clear of an accumulator bank through the compatibility window. -/
def execAwinClr (t : Nat) (w : BitVec 26) (b : Beside) (s : State) : Res := s.issueOfM t 0x05 w b
/-- LDS (R335): M-slot load of a granule into four scalar registers. -/
def execLds (t : Nat) (w : BitVec 26) (b : Beside) (s : State) : Res := s.issueOfM t 0x06 w b
/-- STS (R335): M-slot store of four scalar registers as a granule. -/
def execSts (t : Nat) (w : BitVec 26) (b : Beside) (s : State) : Res := s.issueOfM t 0x07 w b

end Sys2Proof.Machine
end

