-- ==== Sys2Proof/Machine/Dispatch.lean ====
section
/-! DEFINITION. The meaning of each command: one arm per constructor, one direct call. -/

namespace Sys2Proof.Machine

open Sys2Proof

/-- The effect of a command on everything but the queue of waiting commands. -/
def exec (i : Instr) (s : State) : Host.Outcome State Fault Refusal :=
  match i with
  | .deviceInfo tag handle offset nonce => Sys2Proof.Machine.execDeviceInfo tag handle offset nonce s
  | .policyLoad tag blk => Sys2Proof.Machine.execPolicyLoad tag blk s
  | .timeStatus tag => Sys2Proof.Machine.execTimeStatus tag s
  | .errlogRead tag first number handle offset persistent => Sys2Proof.Machine.execErrlogRead tag first number handle offset persistent s
  | .alloc tag handle kind place bytes symmetric paged => Sys2Proof.Machine.execAlloc tag handle kind place bytes symmetric paged s
  | .free tag isDesc handle => Sys2Proof.Machine.execFree tag isDesc handle s
  | .descCreate tag descId blk => Sys2Proof.Machine.execDescCreate tag descId blk s
  | .programLoad tag handle imageOff syncOff stepOff sinterOff powerOff compat => Sys2Proof.Machine.execProgramLoad tag handle imageOff syncOff stepOff sinterOff powerOff compat s
  | .programStart tag epoch => Sys2Proof.Machine.execProgramStart tag epoch s
  | .stepCommit tag step token => Sys2Proof.Machine.execStepCommit tag step token s
  | .stepCommitCatchup tag => Sys2Proof.Machine.execStepCommitCatchup tag s
  | .stepAbort tag restart => Sys2Proof.Machine.execStepAbort tag restart s
  | .abortOpRecord tag e slotIdx rec => Sys2Proof.Machine.execAbortOpRecord tag e slotIdx rec s
  | .abortOpTag tag target => Sys2Proof.Machine.execAbortOpTag tag target s
  | .secureNow tag step => Sys2Proof.Machine.execSecureNow tag step s
  | .setCap tag watts => Sys2Proof.Machine.execSetCap tag watts s
  | .setFixedOp tag op => Sys2Proof.Machine.execSetFixedOp tag op s
  | .paceGroupJoin tag handle offset terms => Sys2Proof.Machine.execPaceGroupJoin tag handle offset terms s
  | .paceGroupLeave tag => Sys2Proof.Machine.execPaceGroupLeave tag s
  | .telemetrySubscribe tag handle offset entries rank => Sys2Proof.Machine.execTelemetrySubscribe tag handle offset entries rank s
  | .restoreFull tag asTarget rank lost step epoch recs copy crcs copies => Sys2Proof.Machine.execRestoreFull tag asTarget rank lost step epoch recs copy crcs copies s
  | .restoreBlock tag asTarget rank group firstBlock blocks lost copy copies => Sys2Proof.Machine.execRestoreBlock tag asTarget rank group firstBlock blocks lost copy copies s
  | .spareAdopt tag coord rank => Sys2Proof.Machine.execSpareAdopt tag coord rank s
  | .bistScheduleFull tag fails => Sys2Proof.Machine.execBistScheduleFull tag fails s
  | .bistSchedulePeriodic tag gapMs rotEn bistEn => Sys2Proof.Machine.execBistSchedulePeriodic tag gapMs rotEn bistEn s
  | .repairApply tag h word => Sys2Proof.Machine.execRepairApply tag h word s
  | .fuseBurn tag h bad => Sys2Proof.Machine.execFuseBurn tag h bad s
  | .resetDomainSecondaryCp tag => Sys2Proof.Machine.execResetDomainSecondaryCp tag s
  | .resetDomainModuleCore tag => Sys2Proof.Machine.execResetDomainModuleCore tag s
  | .resetDomainPort tag unit => Sys2Proof.Machine.execResetDomainPort tag unit s
  | .resetDomainStreamEngine tag n => Sys2Proof.Machine.execResetDomainStreamEngine tag n s
  | .resetDomainUpdateEngine tag n => Sys2Proof.Machine.execResetDomainUpdateEngine tag n s
  | .resetDomainReduction tag => Sys2Proof.Machine.execResetDomainReduction tag s
  | .resetDomainHostAdapter tag => Sys2Proof.Machine.execResetDomainHostAdapter tag s
  | .moduleCoreResetEffect bad => Sys2Proof.Machine.execModuleCoreResetEffect bad s
  | .sleepStandby tag => Sys2Proof.Machine.execSleepStandby tag s
  | .sleepDormant tag => Sys2Proof.Machine.execSleepDormant tag s
  | .wake tag => Sys2Proof.Machine.execWake tag s
  | .fwUpdate tag handle offset bytes adv => Sys2Proof.Machine.execFwUpdate tag handle offset bytes adv s
  | .mbxCmdTailWrite count => Sys2Proof.Machine.execMbxCmdTailWrite count s
  | .mbxFetch => Sys2Proof.Machine.execMbxFetch s
  | .mbxResponsePost => Sys2Proof.Machine.execMbxResponsePost s
  | .mbxEnableWrite enable => Sys2Proof.Machine.execMbxEnableWrite enable s
  | .mctpMessage entry => Sys2Proof.Machine.execMctpMessage entry s
  | .smbusAlertResponse => Sys2Proof.Machine.execSmbusAlertResponse s
  | .smbusArp addr => Sys2Proof.Machine.execSmbusArp addr s
  | .msixModerationEnd v => Sys2Proof.Machine.execMsixModerationEnd v s
  | .cpKickWrite h => Sys2Proof.Machine.execCpKickWrite h s
  | .watchdogExpire h => Sys2Proof.Machine.execWatchdogExpire h s
  | .controlIslandBoot copyOk => Sys2Proof.Machine.execControlIslandBoot copyOk s
  | .errlogWrite => Sys2Proof.Machine.execErrlogWrite s
  | .powerApplied slotId perst => Sys2Proof.Machine.execPowerApplied slotId perst s
  | .powerRemoved => Sys2Proof.Machine.execPowerRemoved s
  | .startupRails => Sys2Proof.Machine.execStartupRails s
  | .railStageSettled bad => Sys2Proof.Machine.execRailStageSettled bad s
  | .railSettleTimeout second => Sys2Proof.Machine.execRailSettleTimeout second s
  | .startupMemoryDone badStacks fails => Sys2Proof.Machine.execStartupMemoryDone badStacks fails s
  | .startupReady => Sys2Proof.Machine.execStartupReady s
  | .wakeComplete => Sys2Proof.Machine.execWakeComplete s
  | .brownoutRestart => Sys2Proof.Machine.execBrownoutRestart s
  | .pcieLinkRequest perst => Sys2Proof.Machine.execPcieLinkRequest perst s
  | .hostAdapterReset cause => Sys2Proof.Machine.execHostAdapterReset cause s
  | .pcieLinkEvent speed width flit l0p => Sys2Proof.Machine.execPcieLinkEvent speed width flit l0p s
  | .slotIdChange slotId => Sys2Proof.Machine.execSlotIdChange slotId s
  | .jtagInstructionLoad h code => Sys2Proof.Machine.execJtagInstructionLoad h code s
  | .hostBarRead bar barOff len => Sys2Proof.Machine.execHostBarRead bar barOff len s
  | .hostBarWrite bar barOff sent => Sys2Proof.Machine.execHostBarWrite bar barOff sent s
  | .hostCompletionTimeout e k => Sys2Proof.Machine.execHostCompletionTimeout e k s
  | .residualGrant arb reqs => Sys2Proof.Machine.execResidualGrant arb reqs s
  | .lockGapTear arb => Sys2Proof.Machine.execLockGapTear arb s
  | .registerWrite req regOff regVal wide => Sys2Proof.Machine.execRegisterWrite req regOff regVal wide s
  | .rocRead req regOff => Sys2Proof.Machine.execRocRead req regOff s
  | .halfWordRead req regOff => Sys2Proof.Machine.execHalfWordRead req regOff s
  | .tbNowRead req ofEpoch wide => Sys2Proof.Machine.execTbNowRead req ofEpoch wide s
  | .syncIssuedRead req wide => Sys2Proof.Machine.execSyncIssuedRead req wide s
  | .redExpectedRead req => Sys2Proof.Machine.execRedExpectedRead req s
  | .sinExpectedRead req => Sys2Proof.Machine.execSinExpectedRead req s
  | .pwrFrameEnergyRead req wide => Sys2Proof.Machine.execPwrFrameEnergyRead req wide s
  | .resShareWrite reqRank reg value => Sys2Proof.Machine.execResShareWrite reqRank reg value s
  | .fabCoordWrite valid coord => Sys2Proof.Machine.execFabCoordWrite valid coord s
  | .fabCreditLimitWrite p vc limit => Sys2Proof.Machine.execFabCreditLimitWrite p vc limit s
  | .pwrGbWrite h gb => Sys2Proof.Machine.execPwrGbWrite h gb s
  | .pwrAlertClearWrite bits => Sys2Proof.Machine.execPwrAlertClearWrite bits s
  | .syncHostSigWrite id count => Sys2Proof.Machine.execSyncHostSigWrite id count s
  | .maintSetWrite => Sys2Proof.Machine.execMaintSetWrite s
  | .geyserTick late fec => Sys2Proof.Machine.execGeyserTick late fec s
  | .idleTick fec => Sys2Proof.Machine.execIdleTick fec s
  | .timeProbe p hops anchored backup off => Sys2Proof.Machine.execTimeProbe p hops anchored backup off s
  | .timeAlignReject => Sys2Proof.Machine.execTimeAlignReject s
  | .ppsInEdge => Sys2Proof.Machine.execPpsInEdge s
  | .ppsOutEdge => Sys2Proof.Machine.execPpsOutEdge s
  | .holdoverEnter => Sys2Proof.Machine.execHoldoverEnter s
  | .holdoverExpire => Sys2Proof.Machine.execHoldoverExpire s
  | .slotStart e => Sys2Proof.Machine.execSlotStart e s
  | .guardHeldLaunch => Sys2Proof.Machine.execGuardHeldLaunch s
  | .droopSkip h => Sys2Proof.Machine.execDroopSkip h s
  | .droopHeavy h => Sys2Proof.Machine.execDroopHeavy h s
  | .powerAlert level => Sys2Proof.Machine.execPowerAlert level s
  | .capForced => Sys2Proof.Machine.execCapForced s
  | .energySample mv ma coreA coreB => Sys2Proof.Machine.execEnergySample mv ma coreA coreB s
  | .sensorSample samples => Sys2Proof.Machine.execSensorSample samples s
  | .fumaroleRuleFire rule => Sys2Proof.Machine.execFumaroleRuleFire rule s
  | .sensorSnapshot => Sys2Proof.Machine.execSensorSnapshot s
  | .telemetryDeliver => Sys2Proof.Machine.execTelemetryDeliver s
  | .paceReport p => Sys2Proof.Machine.execPaceReport p s
  | .paceDecision p => Sys2Proof.Machine.execPaceDecision p s
  | .syncSignalApply sigs => Sys2Proof.Machine.execSyncSignalApply sigs s
  | .syncWaitRegister e => Sys2Proof.Machine.execSyncWaitRegister e s
  | .syncWaitRelease e => Sys2Proof.Machine.execSyncWaitRelease e s
  | .syncWaitTimeout e => Sys2Proof.Machine.execSyncWaitTimeout e s
  | .barrierReport p => Sys2Proof.Machine.execBarrierReport p s
  | .barrierRelease p => Sys2Proof.Machine.execBarrierRelease p s
  | .syncBodyEntry => Sys2Proof.Machine.execSyncBodyEntry s
  | .syncProgramEndCheck => Sys2Proof.Machine.execSyncProgramEndCheck s
  | .transferStart e => Sys2Proof.Machine.execTransferStart e s
  | .hbmOperationComplete e k ev => Sys2Proof.Machine.execHbmOperationComplete e k ev s
  | .transferComplete e k => Sys2Proof.Machine.execTransferComplete e k s
  | .sendSegmentReceive q n => Sys2Proof.Machine.execSendSegmentReceive q n s
  | .sendAckReceive q => Sys2Proof.Machine.execSendAckReceive q s
  | .gatherRequestReceive q => Sys2Proof.Machine.execGatherRequestReceive q s
  | .gatherResponseReceive q => Sys2Proof.Machine.execGatherResponseReceive q s
  | .patrolScrub inst ev => Sys2Proof.Machine.execPatrolScrub inst ev s
  | .residentFillComplete t => Sys2Proof.Machine.execResidentFillComplete t s
  | .messageArrive p m replays => Sys2Proof.Machine.execMessageArrive p m replays s
  | .creditReturn p vc => Sys2Proof.Machine.execCreditReturn p vc s
  | .laneFail p lane replay => Sys2Proof.Machine.execLaneFail p lane replay s
  | .laneDropNotice p lane replay => Sys2Proof.Machine.execLaneDropNotice p lane replay s
  | .portSignalLoss p => Sys2Proof.Machine.execPortSignalLoss p s
  | .portSignalDetect p => Sys2Proof.Machine.execPortSignalDetect p s
  | .portTrainingComplete p lanes coord nport => Sys2Proof.Machine.execPortTrainingComplete p lanes coord nport s
  | .ledgerAuditExchange p rx cret occ => Sys2Proof.Machine.execLedgerAuditExchange p rx cret occ s
  | .ledgerAudit => Sys2Proof.Machine.execLedgerAudit s
  | .redRecordStart h => Sys2Proof.Machine.execRedRecordStart h s
  | .redPartReceive q h => Sys2Proof.Machine.execRedPartReceive q h s
  | .redDeadline h => Sys2Proof.Machine.execRedDeadline h s
  | .redAckReceive q => Sys2Proof.Machine.execRedAckReceive q s
  | .commitVote => Sys2Proof.Machine.execCommitVote s
  | .sinterCapture => Sys2Proof.Machine.execSinterCapture s
  | .sinterResecure => Sys2Proof.Machine.execSinterResecure s
  | .sinterDeltaReceive q => Sys2Proof.Machine.execSinterDeltaReceive q s
  | .sinterFreshReceive q => Sys2Proof.Machine.execSinterFreshReceive q s
  | .sinterRecordReceive q => Sys2Proof.Machine.execSinterRecordReceive q s
  | .sinterRebuildReceive q => Sys2Proof.Machine.execSinterRebuildReceive q s
  | .sinterCopyReceive q => Sys2Proof.Machine.execSinterCopyReceive q s
  | .parityApply => Sys2Proof.Machine.execParityApply s
  | .sliceStart pt slice keyLeft => Sys2Proof.Machine.execSliceStart pt slice keyLeft s
  | .sliceComplete pt pass misr rowsOk => Sys2Proof.Machine.execSliceComplete pt pass misr rowsOk s
  | .sliceBudgetExpire pt => Sys2Proof.Machine.execSliceBudgetExpire pt s
  | .prefillStart pt pos => Sys2Proof.Machine.execPrefillStart pt pos s
  | .prefillComplete => Sys2Proof.Machine.execPrefillComplete s
  | .rowmapWrite pt dly rowmap => Sys2Proof.Machine.execRowmapWrite pt dly rowmap s
  | .spareLaneTest p bitError => Sys2Proof.Machine.execSpareLaneTest p bitError s
  | .droppedLaneTestEnd p lane failed => Sys2Proof.Machine.execDroppedLaneTestEnd p lane failed s
  | .laneRepairTrained p => Sys2Proof.Machine.execLaneRepairTrained p s
  | .nop t slot b => Sys2Proof.Machine.execNop t slot b s
  | .fadd t w b => Sys2Proof.Machine.execFadd t w b s
  | .fsub t w b => Sys2Proof.Machine.execFsub t w b s
  | .fmul t w b => Sys2Proof.Machine.execFmul t w b s
  | .fma t w b => Sys2Proof.Machine.execFma t w b s
  | .fnma t w b => Sys2Proof.Machine.execFnma t w b s
  | .fmin t w b => Sys2Proof.Machine.execFmin t w b s
  | .fmax t w b => Sys2Proof.Machine.execFmax t w b s
  | .fabs t w b => Sys2Proof.Machine.execFabs t w b s
  | .fneg t w b => Sys2Proof.Machine.execFneg t w b s
  | .fcpys t w b => Sys2Proof.Machine.execFcpys t w b s
  | .fmant t w b => Sys2Proof.Machine.execFmant t w b s
  | .fmant2 t w b => Sys2Proof.Machine.execFmant2 t w b s
  | .frnd t w b => Sys2Proof.Machine.execFrnd t w b s
  | .fscale t w b => Sys2Proof.Machine.execFscale t w b s
  | .fdivFin t w b => Sys2Proof.Machine.execFdivFin t w b s
  | .fsqrtFin t w b => Sys2Proof.Machine.execFsqrtFin t w b s
  | .mov t w b => Sys2Proof.Machine.execMov t w b s
  | .sel t w b => Sys2Proof.Machine.execSel t w b s
  | .iadd t w b => Sys2Proof.Machine.execIadd t w b s
  | .isub t w b => Sys2Proof.Machine.execIsub t w b s
  | .imul t w b => Sys2Proof.Machine.execImul t w b s
  | .imin t w b => Sys2Proof.Machine.execImin t w b s
  | .imax t w b => Sys2Proof.Machine.execImax t w b s
  | .and t w b => Sys2Proof.Machine.execAnd t w b s
  | .or t w b => Sys2Proof.Machine.execOr t w b s
  | .xor t w b => Sys2Proof.Machine.execXor t w b s
  | .shl t w b => Sys2Proof.Machine.execShl t w b s
  | .shr t w b => Sys2Proof.Machine.execShr t w b s
  | .sra t w b => Sys2Proof.Machine.execSra t w b s
  | .fcmpEq t w b => Sys2Proof.Machine.execFcmpEq t w b s
  | .fcmpLt t w b => Sys2Proof.Machine.execFcmpLt t w b s
  | .fcmpLe t w b => Sys2Proof.Machine.execFcmpLe t w b s
  | .fcmpUn t w b => Sys2Proof.Machine.execFcmpUn t w b s
  | .icmpEq t w b => Sys2Proof.Machine.execIcmpEq t w b s
  | .icmpLt t w b => Sys2Proof.Machine.execIcmpLt t w b s
  | .rmax t w b => Sys2Proof.Machine.execRmax t w b s
  | .rmin t w b => Sys2Proof.Machine.execRmin t w b s
  | .bcol t w b => Sys2Proof.Machine.execBcol t w b s
  | .redAdd t w b => Sys2Proof.Machine.execRedAdd t w b s
  | .redSq t w b => Sys2Proof.Machine.execRedSq t w b s
  | .redCsq t w b => Sys2Proof.Machine.execRedCsq t w b s
  | .redGet t w b => Sys2Proof.Machine.execRedGet t w b s
  | .redClr t w b => Sys2Proof.Machine.execRedClr t w b s
  | .cvt t w b => Sys2Proof.Machine.execCvt t w b s
  | .seed t w b => Sys2Proof.Machine.execSeed t w b s
  | .scanLr t w b => Sys2Proof.Machine.execScanLr t w b s
  | .scanCget t w b => Sys2Proof.Machine.execScanCget t w b s
  | .scanCput t w b => Sys2Proof.Machine.execScanCput t w b s
  | .ld t w b => Sys2Proof.Machine.execLd t w b s
  | .st t w b => Sys2Proof.Machine.execSt t w b s
  | .ftqPop t w b => Sys2Proof.Machine.execFtqPop t w b s
  | .awinRd t w b => Sys2Proof.Machine.execAwinRd t w b s
  | .awinClr t w b => Sys2Proof.Machine.execAwinClr t w b s
  | .lds t w b => Sys2Proof.Machine.execLds t w b s
  | .sts t w b => Sys2Proof.Machine.execSts t w b s
  | .veEnd t w b => Sys2Proof.Machine.execVeEnd t w b s
  | .br t w b => Sys2Proof.Machine.execBr t w b s
  | .salu t w b => Sys2Proof.Machine.execSalu t w b s
  | .li t w b => Sys2Proof.Machine.execLi t w b s
  | .addi t w b => Sys2Proof.Machine.execAddi t w b s
  | .lsh16 t w b => Sys2Proof.Machine.execLsh16 t w b s
  | .aget t w b => Sys2Proof.Machine.execAget t w b s
  | .pred t w b => Sys2Proof.Machine.execPred t w b s
  | .syncSig t w b => Sys2Proof.Machine.execSyncSig t w b s
  | .syncWait t w b => Sys2Proof.Machine.execSyncWait t w b s
  | .flagsRd t w b => Sys2Proof.Machine.execFlagsRd t w b s
  | .flagsClr t w b => Sys2Proof.Machine.execFlagsClr t w b s
  | .calWload t w b => Sys2Proof.Machine.execCalWload t w b s
  | .calWloadStart t => Sys2Proof.Machine.execCalWloadStart t s
  | .weightSetLoaded t => Sys2Proof.Machine.execWeightSetLoaded t s
  | .calMm t w b => Sys2Proof.Machine.execCalMm t w b s
  | .calMmStart t => Sys2Proof.Machine.execCalMmStart t s
  | .calMmComplete t fault => Sys2Proof.Machine.execCalMmComplete t fault s
  | .calAccload t w b => Sys2Proof.Machine.execCalAccload t w b s
  | .calAccloadStart t => Sys2Proof.Machine.execCalAccloadStart t s
  | .calAccloadComplete done => Sys2Proof.Machine.execCalAccloadComplete done s
  | .calDrain t w b => Sys2Proof.Machine.execCalDrain t w b s
  | .calDrainStart t => Sys2Proof.Machine.execCalDrainStart t s
  | .calDrainPost post => Sys2Proof.Machine.execCalDrainPost post s
  | .ventMv t w b => Sys2Proof.Machine.execVentMv t w b s
  | .ventMvStart t => Sys2Proof.Machine.execVentMvStart t s
  | .ventMvComplete done => Sys2Proof.Machine.execVentMvComplete done s
  | .ueNop n w => Sys2Proof.Machine.execUeNop n w s
  | .ueLd n w => Sys2Proof.Machine.execUeLd n w s
  | .ueSt n w => Sys2Proof.Machine.execUeSt n w s
  | .ueScalew n w => Sys2Proof.Machine.execUeScalew n w s
  | .ueFadd n w => Sys2Proof.Machine.execUeFadd n w s
  | .ueFsub n w => Sys2Proof.Machine.execUeFsub n w s
  | .ueFmul n w => Sys2Proof.Machine.execUeFmul n w s
  | .ueFma n w => Sys2Proof.Machine.execUeFma n w s
  | .ueFnma n w => Sys2Proof.Machine.execUeFnma n w s
  | .ueFdiv n w => Sys2Proof.Machine.execUeFdiv n w s
  | .ueFsqrt n w => Sys2Proof.Machine.execUeFsqrt n w s
  | .ueFmin n w => Sys2Proof.Machine.execUeFmin n w s
  | .ueFmax n w => Sys2Proof.Machine.execUeFmax n w s
  | .ueSqacc n w => Sys2Proof.Machine.execUeSqacc n w s
  | .ueSadd n w => Sys2Proof.Machine.execUeSadd n w s
  | .ueSmul n w => Sys2Proof.Machine.execUeSmul n w s
  | .ueSfma n w => Sys2Proof.Machine.execUeSfma n w s
  | .ueSdiv n w => Sys2Proof.Machine.execUeSdiv n w s
  | .ueSsqrt n w => Sys2Proof.Machine.execUeSsqrt n w s
  | .ueSpowi n w => Sys2Proof.Machine.execUeSpowi n w s
  | .sinterRecordAcknowledged q => Sys2Proof.Machine.execSinterRecordAcknowledged q s

end Sys2Proof.Machine
end

