-- ==== Sys2Proof/Machine/Time.lean ====
section
/-! DEFINITION. The passage of core cycles (R46, R52, R84) when no command waits. -/

set_option autoImplicit false

namespace Sys2Proof.Machine

open Sys2Proof

/-- A core cycle in which no command arrives: a bundle that waits tries to issue again (R262); with 48 V removed no time passes
(R699). -/
def State.idleCycle (s : State) : State :=
  if s.rd .FUM_STATUS_STATE = 0 then s else s.busyTiles.foldl State.retryTile (s.advanceCycles 1)

end Sys2Proof.Machine
end

