-- ==== Sys2Proof/Safety.lean ====
section
/-! DEFINITION. What counts as a safe step and a safe run, and what every state of a run holds, in the terms that
claims use. -/

set_option autoImplicit false

namespace Sys2Proof

/-- A step that stops with neither a fault nor a refusal. -/
def Machine.completes (r : Host.Outcome Machine.State Machine.Fault Machine.Refusal) : Prop :=
  ∃ t, r = .next t

/-- A run of k steps that stops with neither a fault nor a refusal. -/
def Machine.safeRun (k : Nat) (s : Machine.State) : Prop := Machine.completes (core.run k s)

/-- Every register field holds a value of its width (the register tables' bit ranges, R7). -/
def Machine.RegsFit (regs : Tab Nat) : Prop :=
  ∀ f i, Machine.tabGet (Machine.fldReset f i) (Machine.fldKey f i) regs < 2 ^ Machine.fldWidth f

/-- A well-formed state: module memory and host memory are in canonical form, and every register field holds a value of
its width. -/
def Machine.State.wf (s : Machine.State) : Prop :=
  Machine.Memory.wf s.mem = true ∧ Machine.Memory.wf s.hostMem = true ∧ Machine.RegsFit s.regs

/-! ### What a frame says -/

/-- No byte of module memory and none of host memory differs. -/
def Machine.SameMem (s t : Machine.State) : Prop :=
  (∀ c, Machine.memGet t.mem c = Machine.memGet s.mem c) ∧ ∀ a, Machine.memGet t.hostMem a = Machine.memGet s.hostMem a

/-- Every register field reads as before but those of a list, each with its element. -/
def Machine.SameRegs (l : List (Fld × Nat)) (s t : Machine.State) : Prop := ∀ f i, (f, i) ∉ l → t.rd f i = s.rd f i

/-- Every physical tile stands as before but those of a list. -/
def Machine.SameTiles (l : List Nat) (s t : Machine.State) : Prop := ∀ p, p ∉ l → t.ptile p = s.ptile p

/-- Memory, tiles and every register field but those of a list stand as before. -/
def Machine.OnlyRegs (l : List (Fld × Nat)) (s t : Machine.State) : Prop :=
  Machine.SameMem s t ∧ Machine.SameTiles [] s t ∧ Machine.SameRegs l s t

/-! ### Register accesses that nothing holds back -/

/-- No access is held, no remap of the register's tile is staged (R36), and no locked sequence holds the register fabric (R476): an
access at an offset is a plain one. -/
def Machine.State.regFree (s : Machine.State) (off : Nat) : Prop :=
  s.bus.held = [] ∧ s.heldAt (Machine.regBase + off) = false ∧ s.lockOf Machine.regFabric = none ∧ off < 2 ^ 40

/-- The state once a register access's one beat, or the two of a 64-bit access, is granted and counted (R470, R473, R474). -/
def Machine.State.afterGrant (s : Machine.State) (wide : Bool) : Machine.State :=
  (if wide then s.countGrant Machine.regFabric else s).countGrant Machine.regFabric

end Sys2Proof
end

