-- ==== Sys2Proof/Certificates/Slice0/Obligations.lean ====
section
/-! DEFINITION. The statements for the provers. -/

set_option autoImplicit false

open Sys2Proof Sys2Proof.Machine

/-! ### Words of the statements -/

/-- The command runs to a next state of which P holds. -/
def Runs (c : Instr) (s : State) (P : State → Prop) : Prop := ∃ t, exec c s = .next t ∧ P t

/-- Outside the bytes at the addresses of A, both memories read as before. -/
def StoresOnly (A : Nat → Prop) (s t : State) : Prop :=
  (∀ c, (∀ a, A a → s.placeOf a ≠ .cell c) → memGet t.mem c = memGet s.mem c) ∧
    ∀ h, (∀ a w, A a → s.placeOf a = .host w → s.hostBus w ≠ some h) → memGet t.hostMem h = memGet s.hostMem h

/-- Both memories, every tile and every register field outside l are unchanged, but for the stalled cycles that vector engines count
while a command lets core cycles pass (R295). -/
def OnlyRegsInTime (l : List (Fld × Nat)) (s t : State) : Prop :=
  SameMem s t ∧ SameTiles [] s t ∧ ∀ f i, (f, i) ∉ l → f ≠ .VE_STALL_CYC_COUNT → t.rd f i = s.rd f i

/-- An address of the n bytes from a on. -/
def InRange (a n x : Nat) : Prop := a ≤ x ∧ x < a + n

/-- A record of error e enters its collector queue (or is dropped where that queue is full), and no other record. -/
def Records (s s' : State) (e : Err) : Prop := ∃ r : ErrRec, r.code = e.code ∧ s'.errq = (s.enqueueErr r).errq

/-- A step runs the command at the front of the queue with the queue's rest, and a core cycle where none waits. The model's own choices in it, which are no rule of the spec: log entries 1, 2. -/
def Obligations.StepRunsFront : Prop :=
  (∀ (s : State) (c : Instr) (rest : List Instr), s.pending = c :: rest →
      Sys2Proof.Machine.step s = Sys2Proof.Machine.exec c { s with pending := rest }) ∧
    ∀ s : State, s.pending = [] → Sys2Proof.Machine.step s = .next s.idleCycle

/-- Every command answers a next state in every state: none faults and none is refused. The model's own choices in it, which are no rule of the spec: log entry 5. -/
def Obligations.EveryCommandCompletes : Prop :=
  ∀ (c : Instr) (s : State), ∃ t, Sys2Proof.Machine.exec c s = .next t

/-- Every step keeps both memories in canonical form and every register field within its bits. The model's own choices in it, which are no rule of the spec: log entries 3, 24. -/
def Obligations.StepKeepsWellFormed : Prop :=
  ∀ s t : State, s.wf → Sys2Proof.Machine.step s = .next t → t.wf

/-- The state after reset is well-formed, its queue is empty, and every register field reads as its reset value. The model's own choices in it, which are no rule of the spec: log entries 3, 4, 17, 18, 19, 20, 74. -/
def Obligations.ResetIsWellFormed : Prop :=
  State.reset.wf ∧ State.reset.pending = [] ∧ (∀ f i, State.reset.rd f i = fldReset f i) ∧
    (∀ a, memGet State.reset.mem a = memDefault ∧ memGet State.reset.hostMem a = memDefault) ∧
    State.reset.seq = .empty ∧ State.reset.prog = none

/-- No command adds to the queue of waiting commands or takes from it, whatever it does. The model's own choices in it, which are no rule of the spec: log entry 22. -/
def Obligations.CommandsKeepTheQueue : Prop :=
  ∀ (c : Instr) (s t : State), s.wf → Sys2Proof.Machine.exec c s = .next t → t.wf ∧ t.pending = s.pending

/-! ### Registers -/

/-- A read of element i of register r clears element j of field f. -/
def clearedByRead (s : State) (r : Reg) (i : Nat) (f : Fld) (j : Nat) : Prop :=
  f ∈ (regRow r).fields ∧ (fldRow f).acc = .roc ∧ j = s.regIndex r i

/-- Registers whose write has an effect beside that of its fields' access types, stated apart. -/
def ownWrite : List Reg :=
  [.VE_FLAGS, .RES_CTRL, .RES_SHARE_SE, .RES_SHARE_UE, .SYNC_HOST_SIG, .FAB_COORD, .FAB_CREDIT_VC, .STR_CTRL, .STR_SLICE, .STR_PREFILL,
    .STR_ROWMAP_WR, .PWR_GB_MV, .PWR_ALERT, .CP_KICK, .MBX_CTRL, .MBX_CMD_TAIL, .VE_RES_SIZE, .VE_RES_SRC, .FUM_RULE_CFG,
    .FUM_RULE_LIM]

/-- What element j of field f holds in t after its bits were written as b in s (R14). -/
def writtenAs (s t : State) (f : Fld) (j b : Nat) : Prop :=
  let q := fldRow f
  match q.acc with
  | .rw =>
    let c := b / 2 ^ s.lowZeros f * 2 ^ s.lowZeros f
    if q.min ≤ c ∧ c ≤ q.max then t.rd f j = c
    else if rangeOpen f then q.min ≤ t.rd f j ∧ t.rd f j ≤ q.max
    else t.rd f j = clampNat q.min q.max c
  | .rw1c => t.rd f j = s.rd f j - (s.rd f j &&& b)
  | .rw1s => t.rd f j = s.rd f j ||| b
  | _ => t.rd f j = s.rd f j

/-- A 32-bit read of a register's low word answers its value, clears its read-to-clear fields and nothing else. The model's own choices in it, which are no rule of the spec: log entries 52, 76. -/
def Obligations.RegisterReadAnswersAndClears : Prop :=
  (∀ (s : State) (req off : Nat) (r : Reg) (i : Nat), s.busUp = true → s.regFree off → regAt off = some ⟨r, i, false⟩ →
    bookRegs r = [] → s.bookLatch req r = none → ∀ c ∈ [Instr.rocRead req off, Instr.halfWordRead req off],
      ∃ t, exec c s = .next t ∧ t.bus.reply = some (req, .data ((s.afterGrant false).regValue r i % 2 ^ 32)) ∧
        (∀ f j, clearedByRead s r i f j → t.rd f j = (fldRow f).reset) ∧
        (∀ f j, ¬clearedByRead s r i f j → (f, j) ≠ (.RES_STARVE_GRANTS_COUNT, 0) → t.rd f j = s.rd f j) ∧
        SameMem s t ∧ SameTiles [] s t) ∧
    ∀ (s : State) (req off : Nat), s.busUp = true → s.bus.held = [] → off < 2 ^ 40 →
      ∀ c ∈ [Instr.rocRead req off, Instr.halfWordRead req off],
        if s.heldAt (regBase + off) then exec c s = .next (s.holdAccess ⟨req, regBase + off, none, 4⟩)
        else ∀ k, s.lockOf regFabric = some k → k.owner ≠ req → exec c s = .next s

/-- A 32-bit read of a low word latches the high word; the requester's next 32-bit read of the high word returns it. -/
def Obligations.HalfWordReadLatchesTheHighWord : Prop :=
  (∀ (s : State) (req off : Nat) (r : Reg) (i : Nat), s.busUp = true → s.regFree off → regAt off = some ⟨r, i, false⟩ →
      (regRow r).wide = true → bookRegs r = [] → s.bookLatch req r = none → let v := (s.afterGrant false).regValue r i
        ∃ t, exec (.halfWordRead req off) s = .next t ∧ t.bus.reply = some (req, .data (v % 2 ^ 32)) ∧
          tabGet none (latchKey req off) t.bus.half = some (v / 2 ^ 32) ∧ SameMem s t ∧ SameTiles [] s t) ∧
    ∀ (s : State) (req off : Nat) (r : Reg) (i v : Nat), s.busUp = true → s.regFree (off + 4) → regAt (off + 4) = some ⟨r, i, true⟩ →
      tabGet none (latchKey req off) s.bus.half = some v →
        ∃ t, exec (.halfWordRead req (off + 4)) s = .next t ∧ t.bus.reply = some (req, .data v) ∧
          tabGet none (latchKey req off) t.bus.half = none ∧ SameMem s t ∧ SameTiles [] s t

/-- A read of GEY_TB_NOW or GEY_EPOCH latches the whole stamp for the requester, and a following read of the HI register returns its bits 95:64. -/
def Obligations.StampReadLatchesTheWholeStamp : Prop :=
  (∀ (s : State) (req : Nat) (wide : Bool), s.busUp = true → s.regFree (regOffset .GEY_TB_NOW) → let v := stampOf s.tb
      ∃ t, exec (.tbNowRead req false wide) s = .next t ∧
        t.bus.reply = some (req, .data (v % 2 ^ (if wide then 64 else 32))) ∧
        t.bookLatch req .GEY_TB_NOW_HI = some (v / 2 ^ 64 % 2 ^ 32) ∧
        (wide = false → tabGet none (latchKey req (regOffset .GEY_TB_NOW)) t.bus.half = some (v % 2 ^ 64 / 2 ^ 32)) ∧
        OnlyRegs [(.RES_STARVE_GRANTS_COUNT, 0)] s t) ∧
    (∀ (s : State) (req : Nat) (wide : Bool), s.busUp = true → s.regFree (regOffset .GEY_EPOCH) →
      let v := (s.afterGrant wide).regValue .GEY_EPOCH 0
      ∃ t, exec (.tbNowRead req true wide) s = .next t ∧
        t.bus.reply = some (req, .data (if wide then v else v % 2 ^ 32)) ∧
        t.bookLatch req .GEY_EPOCH_HI = some ((s.afterGrant wide).regValue .GEY_EPOCH_HI 0) ∧
        (wide = false → tabGet none (latchKey req (regOffset .GEY_EPOCH)) t.bus.half = some (v / 2 ^ 32)) ∧
        OnlyRegs [(.RES_STARVE_GRANTS_COUNT, 0)] s t) ∧
    ∀ (s : State) (req v : Nat), s.busUp = true → ∀ r ∈ [Reg.GEY_TB_NOW_HI, Reg.GEY_EPOCH_HI],
      s.regFree (regOffset r) → s.bookLatch req r = some v →
        ∃ t, exec (.rocRead req (regOffset r)) s = .next t ∧ t.bus.reply = some (req, .data (v % 2 ^ 32)) ∧
          OnlyRegs [(.RES_STARVE_GRANTS_COUNT, 0)] s t

/-- A read of the first register of a book latches the whole book for its requester, and later reads return the latched values. The model's own choices in it, which are no rule of the spec: log entry 76. -/
def Obligations.BookReadLatchesTheBook : Prop :=
  (∀ (s : State) (req : Nat) (wide : Bool), s.busUp = true →
      ∀ p ∈ [(Instr.syncIssuedRead req wide, Reg.SYNC_ISSUED, wide), (Instr.redExpectedRead req, Reg.RED_EXPECTED, false),
        (Instr.sinExpectedRead req, Reg.SIN_EXPECTED, false), (Instr.pwrFrameEnergyRead req wide, Reg.PWR_FRAME_ENERGY_NJ, wide)],
        s.regFree (regOffset p.2.1) → let u := s.afterGrant p.2.2
        ∃ t, exec p.1 s = .next t ∧
          t.bus.reply = some (req, .data (if p.2.2 then u.regValue p.2.1 0 else u.regValue p.2.1 0 % 2 ^ 32)) ∧
          (∀ x ∈ bookRegs p.2.1, t.bookLatch req x = some (u.regValue x 0)) ∧ OnlyRegs [(.RES_STARVE_GRANTS_COUNT, 0)] s t) ∧
    ∀ (s : State) (req v : Nat) (x : Reg), s.busUp = true → s.regFree (regOffset x) → s.bookLatch req x = some v →
      x ∈ [Reg.SYNC_CONSUMED, .SYNC_NET, .SYNC_LOST, .SYNC_CLEARED, .SYNC_INFLIGHT, .SYNC_BARRIER, .RED_ABSENT, .RED_STAGED,
        .RED_FOLDED, .RED_DISCARDED, .RED_CANCELLED, .SIN_INFLIGHT, .SIN_HELD, .SIN_APPLIED, .SIN_CANCELLED, .PWR_FRAME_TAG,
        .PWR_FRAME_CORE_UJ] →
        ∃ t, exec (.rocRead req (regOffset x)) s = .next t ∧ t.bus.reply = some (req, .data (v % 2 ^ 32)) ∧
          OnlyRegs [(.RES_STARVE_GRANTS_COUNT, 0)] s t

/-- A register write changes each field that it reaches as its access type says, and nothing else. The model's own choices in it, which are no rule of the spec: log entries 12, 24, 52, 76. -/
def Obligations.RegisterWriteFollowsAccessTypes : Prop :=
  ∀ (s : State) (req off v : Nat) (wide : Bool) (r : Reg) (i : Nat) (high : Bool), s.wf → s.busUp = true → s.regFree off →
    regAt off = some ⟨r, i, high⟩ → r ∉ ownWrite → (writeNeedsFree r = true → s.seqFree = true) →
    (ringReg r = true → s.rd .MBX_CTRL_ENABLE = 0) → (r = .HA_ATU → req ≤ 2) →
      let h : WriteHalf := if (regRow r).wide then if high then .high else if wide then .all else .low else .low
      let u := s.afterGrant wide
      let w := h.merge (u.regValue r i) (if (regRow r).wide then v else v % 2 ^ 32)
      ∃ t, exec (.registerWrite req off v wide) s = .next t ∧
        (∀ f ∈ (regRow r).fields, h.reaches f = true → writtenAs u t f (s.regIndex r i) (bitsOf w (fldRow f).hi (fldRow f).lo)) ∧
        (∀ f j, ¬(f ∈ (regRow r).fields ∧ h.reaches f = true ∧ j = s.regIndex r i) →
          (f, j) ≠ (.RES_STARVE_GRANTS_COUNT, 0) → t.rd f j = s.rd f j) ∧
        SameMem s t ∧ SameTiles [] s t

/-- The windows owned by the background and the eight share registers fit the rotation. -/
def sharesFit (s : State) : Prop := ownedWindows (s.rd .RES_CTRL_BG_WINDOWS) s.shareRegs ≤ 200

/-- The field of share register k: 0 to 3 the stream engines', 4 to 7 the update engines'. -/
def shareFld (k : Nat) : Fld × Nat := if k < 4 then (.RES_SHARE_SE_SHARE, k) else (.RES_SHARE_UE_SHARE, k - 4)

/-- RES_SHARE_WRITE stores a share that fits the 200-window rotation, refuses one that does not, and keeps the rotation whole. The model's own choices in it, which are no rule of the spec: log entries 12, 45. -/
def Obligations.ShareWritesKeepTheRotation : Prop :=
  (∀ (s : State) (rank k v : Nat), s.seqFree = true → k < 8 → v < 2 ^ 32 →
      ownedWindows (s.rd .RES_CTRL_BG_WINDOWS) (setAt s.shareRegs k v) ≤ 200 →
        Runs (.resShareWrite rank (k + 1) v) s fun t => t.rd (shareFld k).1 (shareFld k).2 = v ∧ OnlyRegs [shareFld k] s t) ∧
    (∀ (s : State) (rank k v : Nat), s.seqFree = true → k < 8 → v < 2 ^ 32 →
      200 < ownedWindows (s.rd .RES_CTRL_BG_WINDOWS) (setAt s.shareRegs k v) →
        exec (.resShareWrite rank (k + 1) v) s = .next (s.raiseArb .ERR_SHARE_SUM regFabric rank)) ∧
    (∀ (s : State) (rank k v : Nat), s.seqFree = false → exec (.resShareWrite rank (k + 1) v) s = .next s) ∧
    ∀ (s : State) (rank reg v : Nat), s.wf → sharesFit s → Runs (.resShareWrite rank reg v) s sharesFit

/-- Writes of the coordinate, a credit limit, a guardband, the alert latch and MAINT take effect where their rules allow, and only there. The model's own choices in it, which are no rule of the spec: log entries 58, 67, 69. -/
def Obligations.OwnRegisterWritesTakeEffect : Prop :=
  (∀ (s : State) (v : Bool) (c : Nat), c < 2 ^ 16 →
      if (List.range 18).any (fun p => decide (3 ≤ s.portState p)) then exec (.fabCoordWrite v c) s = .next s
      else Runs (.fabCoordWrite v c) s fun t => t.rd .FAB_COORD_VALID = b2n v ∧ t.rd .FAB_COORD_COORD = c ∧
        OnlyRegs [(.FAB_COORD_VALID, 0), (.FAB_COORD_COORD, 0)] s t) ∧
    (∀ (s : State) (p vc n : Nat), vc < 4 →
      let k := p * 4 + vc
      let total := ((List.range 4).map fun v => if v = vc then n else s.rd .FAB_CREDIT_VC_LIMIT (p * 4 + v)).sum
      if (s.portState p = 0 ∨ s.portState p = 1 ∨ s.seqFree = true) ∧ total ≤ 256 then
        Runs (.fabCreditLimitWrite p vc n) s fun t => t.rd .FAB_CREDIT_VC_LIMIT k = n ∧
          OnlyRegs [(.FAB_CREDIT_VC_LIMIT, k), (.FAB_CREDIT_VC_AVAIL, k)] s t ∧
          (s.rd .FAB_CREDIT_VC_LIMIT k = s.rd .FAB_CREDIT_VC_AVAIL k → t.rd .FAB_CREDIT_VC_AVAIL k = n)
      else exec (.fabCreditLimitWrite p vc n) s = .next s) ∧
    (∀ (s : State) (h gb : Nat), s.wf → h < 2 → gb < 256 →
      let floor := s.rd (if h = 0 then .PWR_GB_FLOOR_FLOOR_A else .PWR_GB_FLOOR_FLOOR_B)
      Runs (.pwrGbWrite h gb) s fun t => t.rd (gbFld h) = max floor gb ∧
        OnlyRegs [(gbFld h, 0), (.ERRLOG_DROPPED_COUNT, 0)] s t ∧ (floor ≤ gb → t.errq = s.errq)) ∧
    (∀ (s : State) (bits : Nat), Runs (.pwrAlertClearWrite bits) s fun t =>
      (∀ k < 5, bitOf (t.rd .PWR_ALERT_LATCH) k =
        (bitOf (s.rd .PWR_ALERT_LATCH) k && !(bitOf bits k && !bitOf (s.rd .PWR_ALERT_LEVEL) k))) ∧
      OnlyRegs [(.PWR_ALERT_LATCH, 0)] s t) ∧
    ∀ s : State, if s.seq = .empty ∧ s.rd .FAB_JOB_SIZE_SIZE = 0
      then Runs .maintSetWrite s fun t => t.rd .STR_CTRL_MAINT = 1 ∧ OnlyRegs [(.STR_CTRL_MAINT, 0)] s t
      else exec .maintSetWrite s = .next s

/-- Requesters that wait at arbiter arb with ranks of R471, no access of any of which a remap holds. -/
def waitAt (s : State) (arb : Nat) (reqs : List ResReq) : Prop :=
  s.bus.held = [] ∧ ∀ r ∈ reqs, s.arbiterOf r.addr = arb ∧ 1 ≤ r.rank ∧ r.rank ≤ 10 ∧ s.heldAt r.addr = false

/-- The bytes of a beat at an address: up to the next multiple of the arbiter's beat (R470). -/
def beatLen (arb a : Nat) : Nat := beatBytes arb - a % beatBytes arb

/-- No locked sequence holds an arbiter on the way of the n bytes at an address, and no remap holds the access (R36, R476). -/
def pathFree (s : State) (a n : Nat) : Prop :=
  s.bus.held = [] ∧ s.heldAt a = false ∧ ∀ q ∈ s.beatsOf n a n, s.lockOf (s.arbiterOf q.1) = none

/-- An arbiter with no lock grants its highest-ranked waiter, or the longest waiter on the starvation grant, and does that one beat. The model's own choices in it, which are no rule of the spec: log entry 52. -/
def Obligations.ArbiterGrantsTheRightWaiter : Prop :=
  (∀ (s : State) (arb : Nat) (reqs : List ResReq), s.lockOf arb = none → reqs ≠ [] → waitAt s arb reqs → ∃ r ∈ reqs,
      (if s.starved arb then ∀ x ∈ reqs, x.waited ≤ r.waited else ∀ x ∈ reqs, r.rank ≤ x.rank) ∧
        exec (.residualGrant arb reqs) s = .next (s.freeBeat arb (oneBeat arb r) (beatLen arb r.addr))) ∧
    (∀ (s : State) (arb : Nat) (r : ResReq), s.lockOf arb = none → waitAt s arb [r] → r.lock = .none →
      isRegAddr r.addr = false →
        Runs (.residualGrant arb [r]) s fun t =>
          (match r.write with
          | none => t.bus.reply = some (r.rank, s.memReply r.addr (beatLen arb r.addr)) ∧ SameMem s t
          | some bs =>
            let b := bs.take (beatLen arb r.addr)
            (if (s.countGrant arb).discards r.rank r.addr = none then
              t.mem = (s.stBytes r.addr b).mem ∧ t.hostMem = (s.stBytes r.addr b).hostMem else SameMem s t) ∧
              StoresOnly (InRange r.addr b.length) s t) ∧
          SameTiles [] s t ∧ SameRegs [(.RES_STARVE_GRANTS_COUNT, 0), (.ERRLOG_DROPPED_COUNT, 0)] s t ∧
          tabGet 0 arb t.res.grants = (tabGet 0 arb s.res.grants + 1) % 2 ^ 64 ∧
          tabGet 0 arb t.res.done = (tabGet 0 arb s.res.done + 1) % 2 ^ 64) ∧
    ∀ (s : State) (r : ResReq), s.lockOf regFabric = none → waitAt s regFabric [r] → r.lock = .none → isRegAddr r.addr = true →
      exec (.residualGrant regFabric [r]) s = .next (match r.write with
        | none => (s.countGrant regFabric).regRead r.rank (r.addr - regBase) false
        | some bs => (s.countGrant regFabric).regWrite r.rank (r.addr - regBase) (leNat (bs.take (beatLen regFabric r.addr))) false)

/-- A locked sequence's writes reach memory together at its last beat, its reads see them, and a sequence torn by a gap or by its 65th beat writes nothing. The model's own choices in it, which are no rule of the spec: log entry 52. -/
def Obligations.LockedSequenceIsAllOrNothing : Prop :=
  (∀ (s : State) (arb : Nat) (r : ResReq) (k : ResLock) (bs : List Byte), s.lockOf arb = some k → r.rank = k.owner →
      waitAt s arb [r] → r.write = some bs → r.lock ≠ .release → k.beats < 64 →
        Runs (.residualGrant arb [r]) s fun t => SameMem s t ∧ SameTiles [] s t ∧
          ∃ k', t.lockOf arb = some k' ∧ k'.owner = k.owner ∧ k'.beats = k.beats + 1 ∧
            k'.writes = k.writes ++ if (s.countGrant arb).discards r.rank r.addr = none
              then [⟨r.addr, bs.take (beatLen arb r.addr)⟩] else []) ∧
    (∀ (s : State) (arb : Nat) (r : ResReq) (k : ResLock), s.lockOf arb = some k → r.rank = k.owner → waitAt s arb [r] →
      r.write = none → isRegAddr r.addr = false → (∀ w ∈ k.writes, isRegAddr w.addr = false) → r.lock ≠ .release → k.beats < 64 →
        Runs (.residualGrant arb [r]) s fun t => SameMem s t ∧ SameTiles [] s t ∧
          t.bus.reply = some (k.owner, (k.writes.foldl (fun (x : State) (w : LockWrite) => x.resStore w.addr w.bytes) s).memReply r.addr
            (beatLen arb r.addr)) ∧
          ∃ k', t.lockOf arb = some k' ∧ k'.owner = k.owner ∧ k'.beats = k.beats + 1 ∧ k'.writes = k.writes) ∧
    (∀ (s : State) (arb : Nat) (r : ResReq) (k : ResLock) (bs : List Byte), s.lockOf arb = some k → r.rank = k.owner →
      waitAt s arb [r] → r.write = some bs → r.lock = .release → k.beats < 64 → isRegAddr r.addr = false →
      (∀ w ∈ k.writes, isRegAddr w.addr = false) → (s.countGrant arb).discards r.rank r.addr = none →
        let all := k.writes ++ [⟨r.addr, bs.take (beatLen arb r.addr)⟩]
        let u := all.foldl (fun (x : State) (w : LockWrite) => x.stBytes w.addr w.bytes) s
        Runs (.residualGrant arb [r]) s fun t => t.lockOf arb = none ∧ t.mem = u.mem ∧ t.hostMem = u.hostMem ∧ SameTiles [] s t) ∧
    ∀ (s : State) (arb : Nat) (k : ResLock), s.lockOf arb = some k →
      (exec (.lockGapTear arb) s = .next (s.tearLong arb k) ∧
        (s.tearLong arb k).lockOf arb = none ∧ SameMem s (s.tearLong arb k) ∧ SameTiles [] s (s.tearLong arb k) ∧
        SameRegs [(.RES_TEAR_COUNT_LONG, 0), (.ERRLOG_DROPPED_COUNT, 0)] s (s.tearLong arb k) ∧
        (s.tearLong arb k).bus.reply = some (k.owner, .torn) ∧ Records s (s.tearLong arb k) .ERR_LOCK_LONG) ∧
      ∀ r : ResReq, r.rank = k.owner → waitAt s arb [r] → 64 ≤ k.beats →
        exec (.residualGrant arb [r]) s = .next (s.tearLong arb k)

/-- A host access through BAR2 reaches the module address behind it and nothing else, one through BAR0 a register or MSI-X word; an unbacked one is discarded. The model's own choices in it, which are no rule of the spec: log entries 52, 75, 76. -/
def Obligations.HostReachesMemoryThroughItsWindow : Prop :=
  (∀ (s : State) (off n a : Nat), s.linkUp = true → s.barAddr 2 off = some a → a + n ≤ regBase →
      (pathFree s a n →
        Runs (.hostBarRead 2 off n) s fun t => t.bus.reply = some (hostRank, s.memReply a n) ∧ SameMem s t ∧ SameTiles [] s t ∧
          SameRegs [(.RES_STARVE_GRANTS_COUNT, 0)] s t) ∧
      (s.bus.held = [] → s.heldAt a = true → exec (.hostBarRead 2 off n) s = .next (s.holdAccess ⟨hostRank, a, none, n⟩)) ∧
      (s.bus.held = [] → s.heldAt a = false → s.heldUp hostRank (s.beatsOf n a n) = true → exec (.hostBarRead 2 off n) s = .next s)) ∧
    (∀ (s : State) (off a : Nat) (bs : List Byte), s.linkUp = true → s.barAddr 2 off = some a → a + bs.length ≤ regBase →
      (pathFree s a bs.length →
        Runs (.hostBarWrite 2 off bs) s fun t => StoresOnly (InRange a bs.length) s t ∧ SameTiles [] s t ∧
          SameRegs [(.RES_STARVE_GRANTS_COUNT, 0), (.ERRLOG_DROPPED_COUNT, 0)] s t ∧
          (s.seqHolds = false → (∀ x, InRange a bs.length x → inWaily x = false) →
            t.mem = (s.stBytes a bs).mem ∧ t.hostMem = (s.stBytes a bs).hostMem)) ∧
      (s.bus.held = [] → s.heldAt a = true →
        exec (.hostBarWrite 2 off bs) s = .next (s.holdAccess ⟨hostRank, a, some bs, bs.length⟩)) ∧
      (s.bus.held = [] → s.heldAt a = false → s.heldUp hostRank (s.beatsOf bs.length a bs.length) = true →
        exec (.hostBarWrite 2 off bs) s = .next s)) ∧
    (∀ (s : State) (off n : Nat) (bs : List Byte), s.linkUp = true → s.barAddr 2 off = none →
      (Runs (.hostBarRead 2 off n) s fun t => t.bus.reply = some (hostRank, .abort) ∧ SameMem s t ∧ SameTiles [] s t) ∧
        Runs (.hostBarWrite 2 off bs) s fun t => SameMem s t ∧ SameTiles [] s t) ∧
    (∀ (s : State) (off n : Nat) (bs : List Byte), s.linkUp = true → s.regFree off → msixWord off = none → off ≠ 0x06003000 →
      exec (.hostBarRead 0 off n) s = .next ((s.afterGrant (n == 8)).regRead hostRank off (n == 8)) ∧
        exec (.hostBarWrite 0 off bs) s = .next ((s.afterGrant (bs.length == 8)).regWrite hostRank off
          (leNat bs % 256 ^ (if bs.length == 8 then 8 else 4)) (bs.length == 8))) ∧
    (∀ (s : State) (off k : Nat) (bs : List Byte), s.linkUp = true → msixWord off = some k → bs.length = 4 →
      (Runs (.hostBarRead 0 off 4) s fun t => t.bus.reply = some (hostRank, .data (tabGet 0 k s.bus.msix)) ∧ OnlyRegs [] s t) ∧
        Runs (.hostBarWrite 0 off bs) s fun t => tabGet 0 k t.bus.msix = leNat bs ∧
          (∀ j, j ≠ k → tabGet 0 j t.bus.msix = tabGet 0 j s.bus.msix) ∧ OnlyRegs [] s t) ∧
    ∀ (s : State) (e k : Nat) (x : Xfer), (s.xeng e).active[k]? = some x →
      if x.failed = false ∧ (s.inHost (s.desc x.words.src) = true ∨ (x.words.mode = 0 ∧ s.inHost (s.desc x.words.dst) = true)) then
        Runs (.hostCompletionTimeout e k) s fun t =>
          (t.xeng e).active[k]? = some { x with failed := true, data := [], scaleData := [], rest := [] } ∧
          t.rd .HA_WIN_ERR_COUNT = (s.bump .HA_WIN_ERR_COUNT).rd .HA_WIN_ERR_COUNT ∧
          SameMem s t ∧ SameTiles [] s t ∧ SameRegs [(.HA_WIN_ERR_COUNT, 0), (.ERRLOG_DROPPED_COUNT, 0)] s t ∧
          Records (s.bump .HA_WIN_ERR_COUNT) t .ERR_HOST_CPL
      else exec (.hostCompletionTimeout e k) s = .next s

/-! ### Vector engine -/

/-- The tile can issue the bundle now: it takes one, VE_PC lies in the operand cache, every check of R348 passes, and nothing
makes the bundle wait. -/
def Ready (s : State) (t : Nat) (b : BundleWord) : Prop :=
  s.canIssue t = true ∧ (s.veOf t).pc * 16 < 0x300000 ∧ firstFail [staticChecks b, check8 (s.tile t) t b] = none ∧
    s.waitCause t b = 0 ∧ bitsOf b.c 31 27 ≠ 7

/-- The instruction's own bundle: NOPs beside it, no upset. -/
def aloneA (op : Nat) (w : BitVec 36) : BundleWord := besideWord Beside.nops .a (op * 2 ^ 36 + w.toNat)
/-- As `aloneA`, for the F slot. -/
def aloneF (op : Nat) (w : BitVec 19) : BundleWord := besideWord Beside.nops .f (op * 2 ^ 19 + w.toNat)
/-- As `aloneA`, for the M slot. -/
def aloneM (op : Nat) (w : BitVec 26) : BundleWord := besideWord Beside.nops .m (op * 2 ^ 26 + w.toNat)
/-- As `aloneA`, for the C slot. -/
def aloneC (op : Nat) (w : BitVec 27) : BundleWord := besideWord Beside.nops .c (op * 2 ^ 27 + w.toNat)
/-- As `aloneA`, for the C slot's immediate forms. -/
def aloneI (iop : Nat) (w : BitVec 25) : BundleWord := besideWord Beside.nops .c (4 * 2 ^ 27 + iop * 2 ^ 25 + w.toNat)

/-- A bundle of logical tile t issued that writes the registers of o and nothing else: VE_PC moves on, the bundle is counted,
the flags of o are ORed into VE_FLAGS. -/
def WritesTile (s s' : State) (t : Nat) (o : VeOut) : Prop :=
  s'.tile t = (s.tile t).apply o ∧ s'.rd .VE_FLAGS_FLAGS t = s.rd .VE_FLAGS_FLAGS t ||| o.flags.toNat ∧
    (s'.veOf t).pc = (s.veOf t).pc + 1 ∧ SameMem s s' ∧ SameTiles [s.physOf t] s s' ∧
    SameRegs [(.VE_FLAGS_FLAGS, t), (.VE_BUNDLES_COUNT, t)] s s' ∧ s'.sync = s.sync ∧ s'.errq = s.errq

/-- A-slot commands by opcode. -/
def aCommands : List (Nat × (Nat → BitVec 36 → Beside → Instr)) :=
  [(0x01, .fadd), (0x02, .fsub), (0x03, .fmul), (0x04, .fma), (0x05, .fnma), (0x06, .fmin), (0x07, .fmax), (0x08, .fabs),
    (0x09, .fneg), (0x0A, .fcpys), (0x0B, .fmant), (0x0C, .fmant2), (0x0D, .frnd), (0x0E, .fscale), (0x0F, .fdivFin),
    (0x10, .fsqrtFin), (0x11, .mov), (0x12, .sel), (0x18, .iadd), (0x19, .isub), (0x1A, .imul), (0x1B, .imin), (0x1C, .imax),
    (0x1D, .and), (0x1E, .or), (0x1F, .xor), (0x20, .shl), (0x21, .shr), (0x22, .sra), (0x28, .fcmpEq), (0x29, .fcmpLt),
    (0x2A, .fcmpLe), (0x2B, .fcmpUn), (0x2C, .icmpEq), (0x2D, .icmpLt), (0x30, .rmax), (0x31, .rmin), (0x32, .bcol),
    (0x34, .redAdd), (0x35, .redSq), (0x36, .redCsq), (0x37, .redGet), (0x38, .redClr), (0x3C, .cvt)]
/-- F-slot commands by opcode. -/
def fCommands : List (Nat × (Nat → BitVec 19 → Beside → Instr)) := [(1, .seed), (2, .scanLr), (3, .scanCget), (4, .scanCput)]
/-- M-slot commands by opcode. -/
def mCommands : List (Nat × (Nat → BitVec 26 → Beside → Instr)) :=
  [(1, .ld), (2, .st), (3, .ftqPop), (4, .awinRd), (5, .awinClr), (6, .lds), (7, .sts)]
/-- C-slot commands by opcode, the immediate forms apart. -/
def cCommands : List (Nat × (Nat → BitVec 27 → Beside → Instr)) :=
  [(0x01, .veEnd), (0x02, .br), (0x03, .salu), (0x05, .pred), (0x06, .syncSig), (0x07, .syncWait), (0x08, .flagsRd),
    (0x09, .flagsClr), (0x10, .calWload), (0x11, .calMm), (0x12, .calAccload), (0x13, .calDrain), (0x14, .ventMv)]
/-- The immediate forms by IOP. -/
def iCommands : List (Nat × (Nat → BitVec 25 → Beside → Instr)) := [(0, .li), (1, .addi), (2, .lsh16), (3, .aget)]

/-- A command presents this bundle, in this slot, with this upset, to logical tile t. -/
def Presents (c : Instr) (t : Nat) (b : BundleWord) (own : BundleSlot) (u : VeUpset) : Prop :=
  (∃ p ∈ aCommands, ∃ w x, c = p.2 t w x ∧ b = besideWord x .a (p.1 * 2 ^ 36 + w.toNat) ∧ own = .a ∧ u = x.upset) ∨
    (∃ p ∈ fCommands, ∃ w x, c = p.2 t w x ∧ b = besideWord x .f (p.1 * 2 ^ 19 + w.toNat) ∧ own = .f ∧ u = x.upset) ∨
    (∃ p ∈ mCommands, ∃ w x, c = p.2 t w x ∧ b = besideWord x .m (p.1 * 2 ^ 26 + w.toNat) ∧ own = .m ∧ u = x.upset) ∨
    (∃ p ∈ cCommands, ∃ w x, c = p.2 t w x ∧ b = besideWord x .c (p.1 * 2 ^ 27 + w.toNat) ∧ own = .c ∧ u = x.upset) ∨
    (∃ p ∈ iCommands, ∃ w x, c = p.2 t w x ∧ b = besideWord x .c (4 * 2 ^ 27 + p.1 * 2 ^ 25 + w.toNat) ∧ own = .c ∧
      u = x.upset) ∨
    ∃ sl x, c = .nop t sl x ∧ b = besideWord x sl 0 ∧ own = sl ∧ u = x.upset

/-- Element e of a tile register under a view. -/
def elemOf (v : View) (r : TileReg) (e : Nat) : Nat := (v.elems r).getD e 0

/-- The element-wise A-slot instructions: opcode, command, and what one element becomes from its A-slot word w, its operands
a, b, c and FSCALE's n. -/
def elementOps : List (Nat × (Nat → BitVec 36 → Beside → Instr) × (Nat → Nat → Nat → Nat → Int → Nat × FlagSet)) :=
  [(0x01, .fadd, fun w a b _ _ => elFadd (aFmt w) (aRnd w) a b), (0x02, .fsub, fun w a b _ _ => elFsub (aFmt w) (aRnd w) a b),
    (0x03, .fmul, fun w a b _ _ => elFmul (aFmt w) (aRnd w) a b), (0x04, .fma, fun w a b c _ => elFma (aFmt w) (aRnd w) a b c),
    (0x05, .fnma, fun w a b c _ => elFnma (aFmt w) (aRnd w) a b c), (0x06, .fmin, fun w a b _ _ => elFmin (aFmt w) a b),
    (0x07, .fmax, fun w a b _ _ => elFmax (aFmt w) a b), (0x08, .fabs, fun w a _ _ _ => elFabs (aFmt w) a),
    (0x09, .fneg, fun w a _ _ _ => elFneg (aFmt w) a), (0x0A, .fcpys, fun w a b _ _ => elFcpys (aFmt w) a b),
    (0x0B, .fmant, fun w a _ _ _ => elFmant (aFmt w) a), (0x0C, .fmant2, fun w a _ _ _ => elFmant2 (aFmt w) a),
    (0x0D, .frnd, fun w a _ _ _ => elFrnd (aFmt w) (aRnd w) a),
    (0x0E, .fscale, fun w a _ _ n => elFscale (aFmt w) (aRnd w) a n),
    (0x0F, .fdivFin, fun w a b c _ => elFdivFin (aFmt w) (aRnd w) a b c),
    (0x10, .fsqrtFin, fun w a b _ _ => elFsqrtFin (aFmt w) (aRnd w) a b), (0x11, .mov, fun _ a _ _ _ => (a, fNone)),
    (0x18, .iadd, fun w a b _ _ => fitInt 32 (bitOf w 2) (i32 a + i32 b)),
    (0x19, .isub, fun w a b _ _ => fitInt 32 (bitOf w 2) (i32 a - i32 b)),
    (0x1A, .imul, fun w a b _ _ => fitInt 32 (bitOf w 2) (i32 a * i32 b)),
    (0x1B, .imin, fun _ a b _ _ => (if i32 b < i32 a then b else a, fNone)),
    (0x1C, .imax, fun _ a b _ _ => (if i32 a < i32 b then b else a, fNone)), (0x1D, .and, fun _ a b _ _ => (a &&& b, fNone)),
    (0x1E, .or, fun _ a b _ _ => (a ||| b, fNone)), (0x1F, .xor, fun _ a b _ _ => (a ^^^ b, fNone)),
    (0x20, .shl, fun _ a b _ _ => (a * 2 ^ (b % 32) % 2 ^ 32, fNone)), (0x21, .shr, fun _ a b _ _ => (a / 2 ^ (b % 32), fNone)),
    (0x22, .sra, fun _ a b _ _ => (ofSigned 32 (i32 a / 2 ^ (b % 32)), fNone))]

/-- A vector-engine command issues its bundle when the tile is ready; a failed check stops the tile; else nothing or a wait. The model's own choices in it, which are no rule of the spec: log entries 2, 23, 35, 36, 37, 81, 82. -/
def Obligations.BundlesIssueOrAreRefused : Prop :=
  ∀ (s : State) (c : Instr) (t : Nat) (b : BundleWord) (own : BundleSlot) (u : VeUpset), Presents c t b own u →
    (Ready s t b → exec c s = .next (s.fireBundle t b own u)) ∧
    (s.canIssue t = false → exec c s = .next s) ∧
    (s.canIssue t = true → 0x300000 ≤ (s.veOf t).pc * 16 →
      exec c s = .next ((s.opError t .ERR_VE_ADDR (ocAddr t ((s.veOf t).pc * 16))).haltTile t)) ∧
    (∀ f, s.canIssue t = true → (s.veOf t).pc * 16 < 0x300000 →
      firstFail [staticChecks b, check8 (s.tile t) t b] = some f → exec c s = .next (s.failBundle t f)) ∧
    (s.canIssue t = true → (s.veOf t).pc * 16 < 0x300000 → firstFail [staticChecks b, check8 (s.tile t) t b] = none →
      (s.waitCause t b ≠ 0 → (bitsOf b.c 31 27 ≠ 7 ∨ s.waitCause t b = 2 ∨ s.waitCause t b = 3) →
        exec c s = .next (s.keepBundle t b own u .none (s.waitCause t b))) ∧
      (bitsOf b.c 31 27 = 7 → s.waitCause t b ≠ 2 → s.waitCause t b ≠ 3 → exec c s = .next (s.holdBundle t (s.tile t) b own u)))

/-- An element-wise A-slot instruction gives every governed element its result and leaves or clears the others, and nothing else. The model's own choices in it, which are no rule of the spec: log entry 2. -/
def Obligations.ElementwiseResults : Prop :=
  ∀ p ∈ elementOps, ∀ (s : State) (t : Nat) (w : BitVec 36), s.wf → Ready s t (aloneA p.1 w) →
    let W := p.1 * 2 ^ 36 + w.toNat
    let x := s.tile t
    let v := aView W
    let gov := v.governed (x.pr (fieldOf W fPR))
    let res := fun e => p.2.2 W ((operandA x W).getD e 0) ((operandB x W).getD e 0) ((operandC x W).getD e 0)
      (toSigned 32 (x.sr (fieldOf W fTB)).toNat)
    Runs (p.2.1 t w Beside.nops) s fun s' =>
      (∀ e < v.count, elemOf v ((s'.tile t).tr (fieldOf W fTD)) e =
        if gov e then (res e).1 % 2 ^ v.width else if bitOf W 6 then 0 else elemOf v (x.tr (fieldOf W fTD)) e) ∧
      s'.rd .VE_FLAGS_FLAGS t = s.rd .VE_FLAGS_FLAGS t |||
        (flagsOr ((List.range v.count).map fun e => if gov e then (res e).2 else fNone)).toNat ∧
      (s'.veOf t).pc = (s.veOf t).pc + 1 ∧ (∀ n, n ≠ fieldOf W fTD → (s'.tile t).tr n = x.tr n) ∧
      s'.tile t = { x with t := (s'.tile t).t } ∧ SameMem s s' ∧ SameTiles [s.physOf t] s s' ∧
      SameRegs [(.VE_FLAGS_FLAGS, t), (.VE_BUNDLES_COUNT, t)] s s' ∧ s'.sync = s.sync ∧ s'.errq = s.errq

/-- SEL takes each element by its predicate bit, and a comparison sets each predicate bit by its words' elements, or leaves it. The model's own choices in it, which are no rule of the spec: log entry 2. -/
def Obligations.SelectAndCompareResults : Prop :=
  (∀ (s : State) (t : Nat) (w : BitVec 36), s.wf → Ready s t (aloneA 0x12 w) →
      let W := 0x12 * 2 ^ 36 + w.toNat
      let x := s.tile t
      let v := aView W
      Runs (.sel t w Beside.nops) s fun s' => WritesTile s s' t (aSelect x W) ∧
        (∀ n, n ≠ fieldOf W fTD → (s'.tile t).tr n = x.tr n) ∧
        ∀ e < v.count, elemOf v ((s'.tile t).tr (fieldOf W fTD)) e =
          if v.governed (x.pr (fieldOf W fPR)) e then (operandA x W).getD e 0 else (operandB x W).getD e 0) ∧
    ∀ p ∈ [(0x28, Instr.fcmpEq), (0x29, .fcmpLt), (0x2A, .fcmpLe), (0x2B, .fcmpUn), (0x2C, .icmpEq), (0x2D, .icmpLt)],
      ∀ (s : State) (t : Nat) (w : BitVec 36), s.wf → Ready s t (aloneA p.1 w) →
        let W := p.1 * 2 ^ 36 + w.toNat
        let x := s.tile t
        let v := aView W
        let pr := x.pr (fieldOf W fPR)
        let pd := bitsOf W 29 27
        Runs (p.2 t w Beside.nops) s fun s' => WritesTile s s' t (aCompare x W) ∧
          (s'.tile t).pr 0 = BitVec.allOnes 1024 ∧ (∀ n, n ≠ pd → (s'.tile t).pr n = x.pr n) ∧ (s'.tile t).t = x.t ∧
          (pd ≠ 0 → ∀ e < 1024, ((s'.tile t).pr pd).getLsbD e =
            if (if v = .w64 then pr.getLsbD (e - e % 2) else pr.getLsbD e) then
              (wordElems v e).all fun i => (aCompareElem W ((operandA x W).getD i 0) ((operandB x W).getD i 0)).1
            else if bitOf W 6 then false else (x.pr pd).getLsbD e)

/-- Row maxima, minima, broadcasts and row reductions write their destination from the governed elements, and nothing else. The model's own choices in it, which are no rule of the spec: log entry 2. -/
def Obligations.RowOperationsWriteTheirRegisters : Prop :=
  (∀ p ∈ [(0x30, Instr.rmax, aRowExtreme), (0x31, .rmin, aRowExtreme), (0x32, .bcol, aBroadcastCol), (0x34, .redAdd, aReduce),
        (0x35, .redSq, aReduce), (0x36, .redCsq, aReduce), (0x37, .redGet, aRedGet), (0x38, .redClr, fun _ w => aRedClr w)],
      ∀ (s : State) (t : Nat) (w : BitVec 36), s.wf → Ready s t (aloneA p.1 w) →
        Runs (p.2.1 t w Beside.nops) s fun s' => WritesTile s s' t (p.2.2 (s.tile t) (p.1 * 2 ^ 36 + w.toNat))) ∧
    (∀ p ∈ [(0x30, Instr.rmax), (0x31, .rmin)], ∀ (s : State) (t : Nat) (w : BitVec 36), s.wf → Ready s t (aloneA p.1 w) →
      let W := p.1 * 2 ^ 36 + w.toNat
      let v := aView W
      let x := s.tile t
      let rows := governedRows v (x.pr (fieldOf W fPR)) (operandA x W)
      Runs (p.2 t w Beside.nops) s fun s' => ∀ r < 32, ∀ c < v.cols,
        elemOf v ((s'.tile t).tr (fieldOf W fTD)) (r * v.cols + c) =
          (rowExtreme (aType W) (p.1 = 0x30) (rows.getD r [])).1 % 2 ^ v.width) ∧
    ∀ (s : State) (t : Nat) (w : BitVec 36), s.wf → Ready s t (aloneA 0x38 w) →
      Runs (.redClr t w Beside.nops) s fun s' => ∀ r < 32,
        (s'.tile t).wr (fieldOf (0x38 * 2 ^ 36 + w.toNat) fBS) r = 0 ∧
          (s'.tile t).wLostAt (fieldOf (0x38 * 2 ^ 36 + w.toNat) fBS) r = false

/-- CVT writes its converted registers and folds its elements into its statistics slot, or records ERR_STAT_SLOT and has no effect. The model's own choices in it, which are no rule of the spec: log entries 2, 41, 42, 80. -/
def Obligations.ConversionWritesAndCounts : Prop :=
  ∀ (s : State) (t : Nat) (w : BitVec 36), s.wf → Ready s t (aloneA 0x3C w) →
    let W := 0x3C * 2 ^ 36 + w.toNat
    let c := cvtResult (s.drawCtx t) (s.tile t) W
    if s.statBad c.slot then
      Runs (.cvt t w Beside.nops) s fun s' => s'.tile t = s.tile t ∧ SameMem s s' ∧ SameTiles [] s s' ∧
        SameRegs [(.VE_BUNDLES_COUNT, t), (.ERRLOG_DROPPED_COUNT, 0)] s s' ∧ (s'.veOf t).pc = (s.veOf t).pc + 1 ∧
        Records s s' .ERR_STAT_SLOT
    else
      Runs (.cvt t w Beside.nops) s fun s' => s'.tile t = (s.tile t).apply c.out ∧
        s'.rd .VE_FLAGS_FLAGS t = s.rd .VE_FLAGS_FLAGS t ||| c.out.flags.toNat ∧ (s'.veOf t).pc = (s.veOf t).pc + 1 ∧
        s'.mem = (s.statRecord c.slot c.stats).mem ∧ s'.hostMem = (s.statRecord c.slot c.stats).hostMem ∧
        StoresOnly (InRange (s.statAddr c.slot) 16) s s' ∧ SameTiles [s.physOf t] s s' ∧
        SameRegs [(.VE_FLAGS_FLAGS, t), (.VE_BUNDLES_COUNT, t), (.ERRLOG_DROPPED_COUNT, 0)] s s' ∧
        (s.sin.captured = false → if c.scaleClamp then Records s s' .ERR_SCALE_CLAMP else s'.errq = s.errq)

/-- SEED, SCAN.LR, SCAN.CGET and SCAN.CPUT write their registers, count themselves, and change nothing else. The model's own choices in it, which are no rule of the spec: log entries 2, 16. -/
def Obligations.FunctionSlotResults : Prop :=
  (∀ p ∈ [(1, Instr.seed, fSeed, some Fld.VE_SEEDS_COUNT), (2, .scanLr, fScan, some .VE_SCANS_COUNT), (3, .scanCget, fCget, none),
        (4, .scanCput, fCput, none)],
      ∀ (s : State) (t : Nat) (w : BitVec 19), s.wf → Ready s t (aloneF p.1 w) →
        let o := p.2.2.1 (s.tile t) (p.1 * 2 ^ 19 + w.toNat)
        Runs (p.2.1 t w Beside.nops) s fun s' => s'.tile t = (s.tile t).apply o ∧
          s'.rd .VE_FLAGS_FLAGS t = s.rd .VE_FLAGS_FLAGS t ||| o.flags.toNat ∧ (s'.veOf t).pc = (s.veOf t).pc + 1 ∧
          (∀ f, p.2.2.2 = some f → s'.rd f t = (s.rd f t + 1) % 2 ^ 64) ∧ SameMem s s' ∧ SameTiles [s.physOf t] s s' ∧
          (∀ f i, ¬(i = t ∧ (f = .VE_FLAGS_FLAGS ∨ f = .VE_BUNDLES_COUNT ∨ some f = p.2.2.2)) → s'.rd f i = s.rd f i) ∧
          s'.sync = s.sync ∧ s'.errq = s.errq) ∧
    (∀ (s : State) (t : Nat) (w : BitVec 19), s.wf → Ready s t (aloneF 3 w) →
      Runs (.scanCget t w Beside.nops) s fun s' => ∀ r < 32, ∀ c < 32,
        elemOf .w32 ((s'.tile t).tr (bitsOf w.toNat 18 14)) (r * 32 + c) =
          if c = bitsOf w.toNat 8 4 then ((s.tile t).cr (bitsOf w.toNat 3 1) r).toNat
          else elemOf .w32 ((s.tile t).tr (bitsOf w.toNat 18 14)) (r * 32 + c)) ∧
    ∀ (s : State) (t : Nat) (w : BitVec 19), s.wf → Ready s t (aloneF 4 w) →
      Runs (.scanCput t w Beside.nops) s fun s' => (∀ r < 32, ((s'.tile t).cr (bitsOf w.toNat 3 1) r).toNat =
        elemOf .w32 ((s.tile t).tr (bitsOf w.toNat 13 9)) (r * 32 + bitsOf w.toNat 8 4)) ∧ (s'.tile t).t = (s.tile t).t

/-- LD and LDS load the addressed bytes into their registers, advance the address register, and leave all of memory as it is. The model's own choices in it, which are no rule of the spec: log entries 2, 9, 34, 51, 82. -/
def Obligations.LoadsReadTheOperandCache : Prop :=
  (∀ (s : State) (t off : Nat) (w : BitVec 26), s.wf → Ready s t (aloneM 1 w) →
      let W := 2 ^ 26 + w.toNat
      let x := s.tile t
      let n := mBytes W
      let r := bitsOf W 25 21
      tileOffset t (x.ar (bitsOf W 20 17)).toNat n = some off → s.poisonedIn (ocCell (s.physOf t) off) n = none →
        Runs (.ld t w Beside.nops) s fun s' =>
          WritesTile s s' t { VeOut.none with
            t := [(r, BitVec.ofNat 32768 (setBits (x.tr r).toNat (bitsOf W 16 12 * 1024 + n * 8 - 1) (bitsOf W 16 12 * 1024)
              (memNat s.mem (ocCell (s.physOf t) off) n)))], a := mInc x W n } ∧
          (∀ k, k ≠ r → (s'.tile t).tr k = x.tr k) ∧ (s'.tile t).s = x.s ∧ (s'.tile t).p = x.p) ∧
    (∀ (s : State) (t off : Nat) (w : BitVec 26), s.wf → Ready s t (aloneM 6 w) →
      let W := 6 * 2 ^ 26 + w.toNat
      let x := s.tile t
      let r := bitsOf W 25 21
      tileOffset t (x.ar (bitsOf W 20 17)).toNat 32 = some off → s.poisonedIn (ocCell (s.physOf t) off) 32 = none →
        Runs (.lds t w Beside.nops) s fun s' =>
          (∀ i < 4, ((s'.tile t).sr (r + i)).toNat = memNat s.mem (ocCell (s.physOf t) off + 8 * i) 8) ∧
          (∀ k, ¬(r ≤ k ∧ k < r + 4) → (s'.tile t).sr k = x.sr k) ∧
          (s'.tile t).ar (bitsOf W 20 17) =
            (if bitOf W 6 then x.ar (bitsOf W 20 17) + 32 else x.ar (bitsOf W 20 17)) ∧
          (∀ k, k ≠ bitsOf W 20 17 → (s'.tile t).ar k = x.ar k) ∧ (s'.tile t).t = x.t ∧ (s'.tile t).p = x.p ∧
          SameMem s s' ∧ SameTiles [s.physOf t] s s' ∧ SameRegs [(.VE_BUNDLES_COUNT, t)] s s') ∧
    ∀ p ∈ [(1, Instr.ld), (6, .lds)], ∀ (s : State) (t off q : Nat) (w : BitVec 26), s.wf → Ready s t (aloneM p.1 w) →
      let W := p.1 * 2 ^ 26 + w.toNat
      tileOffset t ((s.tile t).ar (bitsOf W 20 17)).toNat (mBytes W) = some off →
      s.poisonedIn (ocCell (s.physOf t) off) (mBytes W) = some q →
        Runs (p.2 t w Beside.nops) s fun s' => s'.tile t = s.tile t ∧ SameMem s s' ∧ SameTiles [] s s' ∧
          SameRegs [(.VE_BUNDLES_COUNT, t), (.ERRLOG_DROPPED_COUNT, 0)] s s' ∧ Records s s' .ERR_MEM_UE

/-- ST and STS store their registers' bytes at the addressed bytes of the operand cache and no other byte of memory. The model's own choices in it, which are no rule of the spec: log entries 2, 37, 82, 83. -/
def Obligations.StoresWriteOnlyTheirBytes : Prop :=
  ∀ p ∈ [(2, Instr.st), (7, .sts)], ∀ (s : State) (t off : Nat) (w : BitVec 26), s.wf → Ready s t (aloneM p.1 w) →
    let W := p.1 * 2 ^ 26 + w.toNat
    let x := s.tile t
    let n := mBytes W
    let r := bitsOf W 25 21
    let c := ocCell (s.physOf t) off
    tileOffset t (x.ar (bitsOf W 20 17)).toNat n = some off →
      if s.residentWrite t off then
        Runs (p.2 t w Beside.nops) s fun s' => s'.tile t = s.tile t ∧ SameMem s s' ∧ SameTiles [] s s' ∧
          SameRegs [(.VE_BUNDLES_COUNT, t), (.ERRLOG_DROPPED_COUNT, 0)] s s' ∧ Records s s' .ERR_RES_WRITE
      else
        Runs (p.2 t w Beside.nops) s fun s' =>
          (∀ i < n, (memGet s'.mem (c + i)).toNat =
            if p.1 = 2 then (x.tr r).toNat / 2 ^ (bitsOf W 16 12 * 1024) / 2 ^ (8 * i) % 256
            else (x.sr (r + i / 8)).toNat / 2 ^ (8 * (i % 8)) % 256) ∧
          (∀ a, (a < c ∨ c + n ≤ a) → memGet s'.mem a = memGet s.mem a) ∧ (∀ a, memGet s'.hostMem a = memGet s.hostMem a) ∧
          (s'.tile t).ar (bitsOf W 20 17) =
            (if bitOf W 6 then x.ar (bitsOf W 20 17) + BitVec.ofNat 48 n else x.ar (bitsOf W 20 17)) ∧
          (∀ k, k ≠ bitsOf W 20 17 → (s'.tile t).ar k = x.ar k) ∧ s'.tile t = { x with a := (s'.tile t).a } ∧
          SameTiles [s.physOf t] s s' ∧ SameRegs [(.VE_BUNDLES_COUNT, t)] s s' ∧ s'.errq = s.errq

/-- FTQ.POP takes the oldest entry, and AWIN.RD and AWIN.CLR read or clear a bank through the window. The model's own choices in it, which are no rule of the spec: log entries 2, 36, 40. -/
def Obligations.QueueAndWindowReads : Prop :=
  (∀ (s : State) (t : Nat) (w : BitVec 26) (e : FtqEntry) (rest : List FtqEntry), s.wf → Ready s t (aloneM 3 w) →
      (s.tile t).ftq = e :: rest →
        if bitsOf w.toNat 20 18 < 4 ∧ bitsOf w.toNat 20 18 ≠ e.kind.code then
          Runs (.ftqPop t w Beside.nops) s fun s' => s'.tile t = s.tile t ∧ SameMem s s' ∧ SameTiles [] s s' ∧
            Records s s' .ERR_FTQ_KIND
        else
          Runs (.ftqPop t w Beside.nops) s fun s' =>
            s'.tile t = ({ s.tile t with ftq := rest } : Tile).setTr (bitsOf w.toNat 25 21) e.data ∧ SameMem s s' ∧
              SameTiles [s.physOf t] s s' ∧ SameRegs [(.VE_BUNDLES_COUNT, t)] s s' ∧ s'.errq = s.errq) ∧
    (∀ (s : State) (t : Nat) (w : BitVec 26), s.wf → Ready s t (aloneM 4 w) → s.rd .VE_CTRL_ACC_WINDOW t ≠ 0 →
      (s.tile t).windowBusy (bitsOf w.toNat 20 19) = false →
        Runs (.awinRd t w Beside.nops) s fun s' =>
          WritesTile s s' t (awinOut (bitsOf w.toNat 25 21) ((s.tile t).bank (bitsOf w.toNat 20 19)))) ∧
    (∀ (s : State) (t : Nat) (w : BitVec 26), s.wf → Ready s t (aloneM 5 w) → s.rd .VE_CTRL_ACC_WINDOW t ≠ 0 →
      (s.tile t).windowBusy (bitsOf w.toNat 20 19) = false →
        Runs (.awinClr t w Beside.nops) s fun s' => (s'.tile t).bank (bitsOf w.toNat 20 19) = Bank.reset ∧
          (∀ k, k ≠ bitsOf w.toNat 20 19 → (s'.tile t).bank k = (s.tile t).bank k) ∧
          s'.tile t = { s.tile t with banks := (s'.tile t).banks } ∧ SameMem s s' ∧ SameTiles [s.physOf t] s s' ∧
          SameRegs [(.VE_BUNDLES_COUNT, t)] s s') ∧
    ∀ p ∈ [(4, Instr.awinRd), (5, .awinClr)], ∀ (s : State) (t : Nat) (w : BitVec 26), s.wf → Ready s t (aloneM p.1 w) →
      s.rd .VE_CTRL_ACC_WINDOW t = 0 ∨ (s.tile t).windowBusy (bitsOf w.toNat 20 19) = true →
        Runs (p.2 t w Beside.nops) s fun s' => s'.tile t = s.tile t ∧ SameMem s s' ∧ SameTiles [] s s' ∧
          SameRegs [(.VE_BUNDLES_COUNT, t), (.ERRLOG_DROPPED_COUNT, 0)] s s' ∧
          Records s s' (if s.rd .VE_CTRL_ACC_WINDOW t = 0 then .ERR_AWIN_MODE else .ERR_AWIN_BUSY)

/-- NOP, SALU, LI, ADDI, LSH16, AGET, PRED and FLAGS.RD write the register they name, and nothing else. The model's own choices in it, which are no rule of the spec: log entry 2. -/
def Obligations.ScalarSlotResults : Prop :=
  (∀ (s : State) (t : Nat) (sl : BundleSlot), s.wf → Ready s t (besideWord Beside.nops sl 0) →
      Runs (.nop t sl Beside.nops) s fun s' => WritesTile s s' t VeOut.none) ∧
    (∀ (s : State) (t : Nat) (w : BitVec 27), s.wf → Ready s t (aloneC 3 w) →
      Runs (.salu t w Beside.nops) s fun s' => WritesTile s s' t (cSalu (s.tile t) (3 * 2 ^ 27 + w.toNat))) ∧
    (∀ p ∈ [(0, Instr.li), (1, .addi), (2, .lsh16), (3, .aget)], ∀ (s : State) (t : Nat) (w : BitVec 25), s.wf →
      Ready s t (aloneI p.1 w) →
        let x := s.tile t
        let d := bitsOf w.toNat 24 20
        let imm := toSigned 20 (bitsOf w.toNat 19 0)
        Runs (p.2 t w Beside.nops) s fun s' =>
          WritesTile s s' t { VeOut.none with
            s := [(d, BitVec.ofNat 64 (match p.1 with
            | 0 => ofSigned 64 imm
            | 1 => ofSigned 64 ((x.sr d).toNat + imm)
            | 2 => (x.sr d).toNat * 2 ^ 16 % 2 ^ 64 + bitsOf w.toNat 15 0
            | _ => (x.ar (bitsOf w.toNat 3 0)).toNat))]
            flags := if p.1 = 1 ∧ ¬(-2 ^ 63 ≤ toSigned 64 (x.sr d).toNat + imm ∧ toSigned 64 (x.sr d).toNat + imm < 2 ^ 63)
              then fIOV else fNone } ∧ (∀ n, n ≠ d → (s'.tile t).sr n = x.sr n)) ∧
    (∀ (s : State) (t : Nat) (w : BitVec 27), s.wf → Ready s t (aloneC 5 w) →
      Runs (.pred t w Beside.nops) s fun s' => WritesTile s s' t (cPred (s.tile t) (5 * 2 ^ 27 + w.toNat)) ∧
        (s'.tile t).pr 0 = BitVec.allOnes 1024) ∧
    ∀ (s : State) (t : Nat) (w : BitVec 27), s.wf → Ready s t (aloneC 8 w) →
      Runs (.flagsRd t w Beside.nops) s fun s' => WritesTile s s' t
        { VeOut.none with s := [(bitsOf w.toNat 26 22, BitVec.ofNat 64 (s.rd .VE_FLAGS_FLAGS t))] }

/-- BR, FLAGS.CLR, VE.END, SYNC.SIG and SYNC.WAIT do what their rules say and leave registers and memory alone. The model's own choices in it, which are no rule of the spec: log entries 2, 35, 36. -/
def Obligations.ControlSlotEffects : Prop :=
  (∀ (s : State) (t : Nat) (w : BitVec 27), s.wf → Ready s t (aloneC 2 w) →
      Runs (.br t w Beside.nops) s fun s' => s'.tile t = s.tile t ∧ SameMem s s' ∧ SameTiles [] s s' ∧
        (s'.veOf t).pc = (if branchTaken (s.tile t) (2 * 2 ^ 27 + w.toNat) then bitsOf w.toNat 17 0 else (s.veOf t).pc + 1) ∧
        SameRegs [(.VE_BUNDLES_COUNT, t)] s s') ∧
    (∀ (s : State) (t : Nat) (w : BitVec 27), s.wf → Ready s t (aloneC 9 w) →
      Runs (.flagsClr t w Beside.nops) s fun s' => s'.tile t = s.tile t ∧ SameMem s s' ∧ SameTiles [] s s' ∧
        (∀ k, bitOf (s'.rd .VE_FLAGS_FLAGS t) k = if decide (k < 9) && bitOf w.toNat k
          then ((s.veOf t).age 1).lateSet.getLsbD k else bitOf (s.rd .VE_FLAGS_FLAGS t) k) ∧
        SameRegs [(.VE_BUNDLES_COUNT, t), (.VE_FLAGS_FLAGS, t)] s s') ∧
    (∀ (s : State) (t : Nat) (w : BitVec 27), s.wf → Ready s t (aloneC 1 w) → (s.tile t).cal = [] → (s.veOf t).fenced = [] →
      Runs (.veEnd t w Beside.nops) s fun s' => s'.tile t = s.tile t ∧ SameMem s s' ∧ SameTiles [] s s' ∧
        (s'.engine t).running = false ∧ (s'.engine t).idx = (s.engine t).idx + 1 ∧
        SameRegs [(.VE_BUNDLES_COUNT, t), (.GEY_MARGIN_MIN_MARGIN, 0)] s s') ∧
    (∀ (s : State) (t : Nat) (w : BitVec 27), s.wf → Ready s t (aloneC 6 w) →
      (bitOf w.toNat 21 = false ∨ (s.tile t).wideDrains = 0) →
        let so := soOf (s.tile t) (6 * 2 ^ 27 + w.toNat)
        Runs (.syncSig t w Beside.nops) s fun s' => s'.tile t = s.tile t ∧ SameMem s s' ∧ SameTiles [] s s' ∧
          s'.sync = (s.sendSignal (.engine t) (bitsOf so 23 0) (bitsOf so 63 32)).sync ∧
          SameRegs [(.VE_BUNDLES_COUNT, t)] s s') ∧
    ∀ (s : State) (t : Nat) (w : BitVec 27), s.canIssue t = true → (s.veOf t).pc * 16 < 0x300000 →
      firstFail [staticChecks (aloneC 7 w), check8 (s.tile t) t (aloneC 7 w)] = none →
        let so := soOf (s.tile t) (7 * 2 ^ 27 + w.toNat)
        Runs (.syncWait t w Beside.nops) s fun s' => SameMem s s' ∧ SameTiles [] s s' ∧ SameRegs [] s s' ∧
          (s'.veOf t).held = some ⟨BitVec.ofNat 128 (aloneC 7 w).bits, .c, .none⟩ ∧ (s'.veOf t).wait = .sent ∧ (s'.veOf t).pc = (s.veOf t).pc ∧
          s'.sync.waits = s.sync.waits ++
            [⟨t, s.slotIdx t, 0, bitsOf so 23 0, bitsOf so 63 32, bitOf w.toNat 21, bitsOf w.toNat 20 13, .sent, true⟩]

/-! ### Caldera and the Vent path -/

/-- The C-slot commands that queue work for Caldera or the Vent path. -/
def calCommands : List (Nat × (Nat → BitVec 27 → Beside → Instr)) :=
  [(0x10, .calWload), (0x11, .calMm), (0x12, .calAccload), (0x13, .calDrain), (0x14, .ventMv)]

/-- The events that end a bank-filling command: command, which command of the tile it ends, and the counter of its steps. -/
def fillEnds (t : Nat) : List (Instr × (CalOp → Bool) × Fld) :=
  [(.calMmComplete t .none, startedOf .feed, .CAL_STEPS_COUNT), (.calAccloadComplete ⟨t, false⟩, isAccloadStarted, .CAL_STEPS_COUNT),
    (.ventMvComplete ⟨t, false⟩, startedOf .vent, .VENT_STEPS_COUNT)]

/-- The events that end a bank-filling command with a parity error in its bank. -/
def fillUpsets (t : Nat) : List (Instr × (CalOp → Bool)) :=
  [(.calMmComplete t .accParity, startedOf .feed), (.calAccloadComplete ⟨t, true⟩, isAccloadStarted),
    (.ventMvComplete ⟨t, true⟩, startedOf .vent)]

/-- The command runs to a state of which P holds, whereupon the bundle that tile t holds tries to issue again; where the tile holds
none that state is the next one. -/
def RunsRetrying (c : Instr) (t : Nat) (s : State) (P : State → Prop) : Prop :=
  ∃ m, exec c s = .next (m.retryTile t) ∧ ((s.veOf t).held = none → exec c s = .next m) ∧ P m

/-- Only the storage of logical tile t, the fields of l, and what a slot's end writes have changed. -/
def OnlyTile (t : Nat) (l : List (Fld × Nat)) (s s' : State) : Prop :=
  SameMem s s' ∧ SameTiles [s.physOf t] s s' ∧ SameRegs (l ++ [(.GEY_MARGIN_MIN_MARGIN, 0)]) s s' ∧ s'.errq = s.errq

/-- CAL.WLOAD, CAL.MM, CAL.ACCLOAD, CAL.DRAIN and VENT.MV queue their command last, with the register values of the issue cycle. The model's own choices in it, which are no rule of the spec: log entries 2, 36. -/
def Obligations.MatrixCommandsQueueInOrder : Prop :=
  ∀ p ∈ calCommands, ∀ (s : State) (t : Nat) (w : BitVec 27), s.wf → Ready s t (aloneC p.1 w) →
    ∃ c, calOf (s.tile t) (p.1 * 2 ^ 27 + w.toNat) = some c ∧ (s.tile t).queueFull c = false ∧
      Runs (p.2 t w Beside.nops) s fun s' =>
        s'.tile t = { s.tile t with cal := (s.tile t).cal ++ [CalOp.issued c (s.slotIdx t) (s.feedBusy (s.tile t)) false] } ∧
          (s'.veOf t).pc = (s.veOf t).pc + 1 ∧ SameMem s s' ∧ SameTiles [s.physOf t] s s' ∧
          SameRegs [(.VE_BUNDLES_COUNT, t)] s s' ∧ s'.errq = s.errq ∧ s'.sync = s.sync

/-- A Caldera or Vent command that may start and passes its checks takes its set or bank; one that fails a check is dropped. The model's own choices in it, which are no rule of the spec: log entries 38, 39, 84. -/
def Obligations.MatrixCommandsStart : Prop :=
  (∀ (s : State) (t : Nat) (o : CalOp) (w bt nc : Nat) (sc : Bool) (src scl k : Nat), s.opReady t .weight = some o →
      o.cmd = .wload w bt nc sc src scl k →
        (checkWload t bt sc src scl k = none →
          s.calPoison t (ringOf k) (src - ocAddr t 0) (bitsOf k 24 16 * imageKw (tyOf bt) * 4 * (tyOf bt).width) = none →
          (s.tile t).wideMeetsRing t (ringOf k) (src - ocAddr t 0) (bitsOf k 24 16 * imageKw (tyOf bt) * 4 * (tyOf bt).width) = false →
          (s.tile t).wideMeetsRing t (ringOf k) (scl - ocAddr t 0)
            (if sc then (bitsOf k 24 16 * imageKw (tyOf bt) + 31) / 32 * 32 else 0) = false →
            RunsRetrying (.calWloadStart t) t s fun s' =>
              ((s'.tile t).wset w).state = .loading ∧ ((s'.tile t).wset w).btype = bt ∧ ((s'.tile t).wset w).ncols = nc + 1 ∧
                ((s'.tile t).wset w).klen = bitsOf k 24 16 ∧ ((s'.tile t).wset w).scaled = sc ∧
                (∀ v, v ≠ w → (s'.tile t).wset v = (s.tile t).wset v) ∧ (s'.tile t).banks = (s.tile t).banks ∧
                (s'.tile t).t = (s.tile t).t ∧ OnlyTile t [] s s') ∧
        ∀ e d, checkWload t bt sc src scl k = some (e, d) → exec (.calWloadStart t) s = .next ((s.failOp t .weight o e d).retryTile t)) ∧
    (∀ (s : State) (t : Nat) (o : CalOp) (b w ty rows : Nat) (acc sc : Bool) (src scl k : Nat), s.opReady t .feed = some o →
      o.cmd = .mm b w ty rows acc sc src scl k →
        (checkMm (s.tile t) t b w ty acc sc src scl k = none →
          s.calPoison t (ringOf k) (src - ocAddr t 0) (if bitsOf k 24 16 = 0 then 0 else (bitsOf k 24 16 + 3) *
            lineBytes (tyOf ty) (pairKs (tyOf ty) (tyOf ((s.tile t).wset w).btype))) = none →
          (s.tile t).wideMeetsRing t (ringOf k) (src - ocAddr t 0) (if bitsOf k 24 16 = 0 then 0 else (bitsOf k 24 16 + 3) *
            lineBytes (tyOf ty) (pairKs (tyOf ty) (tyOf ((s.tile t).wset w).btype))) = false →
          (s.tile t).wideMeetsRing t (ringOf k) (scl - ocAddr t 0) (if sc then (bitsOf k 24 16 *
            pairKs (tyOf ty) (tyOf ((s.tile t).wset w).btype) + 31) / 32 * 32 else 0) = false →
            RunsRetrying (.calMmStart t) t s fun s' => ((s'.tile t).bank b).state = .busy ∧
              (∀ c, c ≠ b → (s'.tile t).bank c = (s.tile t).bank c) ∧ (s'.tile t).sets = (s.tile t).sets ∧
              (s'.tile t).t = (s.tile t).t ∧ (s'.tile t).ftq = (s.tile t).ftq ∧ OnlyTile t [] s s') ∧
        ∀ e d, checkMm (s.tile t) t b w ty acc sc src scl k = some (e, d) →
          exec (.calMmStart t) s = .next ((s.failOp t .feed o e d).retryTile t)) ∧
    (∀ (s : State) (t : Nat) (o : CalOp) (b fmt r src : Nat), s.opReady t .port = some o → o.cmd = .accload b fmt r src →
      (checkAccload t fmt src = none → o.upset = false →
        s.calPoison t ⟨0, 0⟩ (src - ocAddr t 0) (if fmt = 3 then 8192 else if fmt = 5 then 16384 else 0) = none →
        (s.tile t).wideMeets t (src - ocAddr t 0) (if fmt = 3 then 8192 else if fmt = 5 then 16384 else 0) = false →
          RunsRetrying (.calAccloadStart t) t s fun s' => (s'.tile t).bank b = accloadBank s (s.tile t) t fmt r src ∧
            (∀ c, c ≠ b → (s'.tile t).bank c = (s.tile t).bank c) ∧ (s'.tile t).t = (s.tile t).t ∧ OnlyTile t [] s s') ∧
      (checkAccload t fmt src = none → o.upset = true →
        exec (.calAccloadStart t) s = .next ((s.failParity t .port o r).retryTile t)) ∧
      ∀ e d, checkAccload t fmt src = some (e, d) → exec (.calAccloadStart t) s = .next ((s.failOp t .port o e d).retryTile t)) ∧
    (∀ (s : State) (t : Nat) (o : CalOp) (b fmt rnd : Nat) (sat ovf : Bool) (dst tag px : Nat), s.opReady t .port = some o →
      o.cmd = .drain b fmt rnd sat ovf dst tag px →
        (checkDrain (s.tile t) t b fmt rnd dst = none → s.drainPads t o = false → drainEntries fmt ≤ s.ftqFree t →
          RunsRetrying (.calDrainStart t) t s fun s' => (s'.tile t).bank b = { (s.tile t).bank b with state := .draining } ∧
            (∀ c, c ≠ b → (s'.tile t).bank c = (s.tile t).bank c) ∧
            (s'.tile t).ftqReserved = (s.tile t).ftqReserved + drainEntries fmt ∧ (s'.tile t).ftq = (s.tile t).ftq ∧
            OnlyTile t [] s s') ∧
        (checkDrain (s.tile t) t b fmt rnd dst = none → s.ftqFree t < drainEntries fmt →
          exec (.calDrainStart t) s = .next (s.retryTile t)) ∧
        ∀ e d, checkDrain (s.tile t) t b fmt rnd dst = some (e, d) →
          exec (.calDrainStart t) s = .next ((s.failOp t .port o e d).retryTile t)) ∧
    ∀ (s : State) (t : Nat) (o : CalOp) (b v ty rows : Nat) (acc : Bool) (k : Nat), s.opReady t .vent = some o →
      o.cmd = .vent b v ty rows acc k →
        (checkVent (s.tile t) b ty acc k = none → ventBytes (ventK k) ≤ ventReady t (s.ventOf (ventK k).engine) →
          o.upset = true → exec (.ventMvStart t) s = .next ((s.failParity t .vent o v).retryTile t)) ∧
        (checkVent (s.tile t) b ty acc k = none → ventReady t (s.ventOf (ventK k).engine) < ventBytes (ventK k) →
          exec (.ventMvStart t) s = .next s) ∧
        (checkVent (s.tile t) b ty acc k = none → ventBytes (ventK k) ≤ ventReady t (s.ventOf (ventK k).engine) →
          o.upset = false → RunsRetrying (.ventMvStart t) t s fun s' => ((s'.tile t).bank b).state = .busy ∧
            (∀ c, c ≠ b → (s'.tile t).bank c = (s.tile t).bank c) ∧ (s'.tile t).t = (s.tile t).t ∧
            (∀ n, n ≠ (ventK k).engine → s'.ventOf n = s.ventOf n) ∧ OnlyTile t [] s s') ∧
        ∀ e d, checkVent (s.tile t) b ty acc k = some (e, d) → exec (.ventMvStart t) s = .next ((s.failOp t .vent o e d).retryTile t)

/-- A load, multiply or Vent multiply that completes leaves the list and its set LOADED or its bank HELD. The model's own choices in it, which are no rule of the spec: log entries 38, 39, 40. -/
def Obligations.MatrixCommandsComplete : Prop :=
  (∀ (s : State) (t w : Nat) (o : CalOp), (s.tile t).cal.find? (startedOf .weight) = some o →
      (∃ bt nc sc src scl k, o.cmd = .wload w bt nc sc src scl k) →
        RunsRetrying (.weightSetLoaded t) t s fun s' => (s'.tile t).wset w = { (s.tile t).wset w with state := .loaded } ∧
          (∀ v, v ≠ w → (s'.tile t).wset v = (s.tile t).wset v) ∧ (s'.tile t).banks = (s.tile t).banks ∧
          (s'.tile t).cal = dropFirst (startedOf .weight) (s.tile t).cal ∧ (s'.tile t).t = (s.tile t).t ∧ OnlyTile t [] s s') ∧
    (∀ (s : State) (t b : Nat) (o : CalOp), s.wf → ∀ p ∈ fillEnds t, (s.tile t).cal.find? p.2.1 = some o → o.cmd.bank = some b →
        RunsRetrying p.1 t s fun s' =>
          let rest := dropFirst p.2.1 (s.tile t).cal
          (s'.tile t).cal = rest ∧ s'.rd .CAL_FLAGS_FLAGS t = s.rd .CAL_FLAGS_FLAGS t ||| (flagsOr (o.runs.map (·.1))).toNat ∧
            s'.rd p.2.2 t = (s.rd p.2.2 t + o.runs.length) % 2 ^ 64 ∧
            (s'.tile t).bank b = (if (rest.any fun q => q.started && q.cmd.onBank b) = false ∧ ((s.tile t).bank b).state = .busy
              then { (s.tile t).bank b with state := .held } else (s.tile t).bank b) ∧
            (∀ c, c ≠ b → (s'.tile t).bank c = (s.tile t).bank c) ∧ (s'.tile t).sets = (s.tile t).sets ∧
            (s'.tile t).t = (s.tile t).t ∧
            OnlyTile t [(.CAL_FLAGS_FLAGS, t), (p.2.2, t), (.CAL_TRUNC_STEPS_COUNT, t), (.CAL_BUSY_CYC_COUNT, t)] s s') ∧
    (∀ (s : State) (t b : Nat) (o : CalOp), ∀ p ∈ fillUpsets t, (s.tile t).cal.find? p.2 = some o → o.cmd.bank = some b →
      RunsRetrying p.1 t s fun s' => (s'.tile t).bank b = Bank.reset ∧ (∀ c, c ≠ b → (s'.tile t).bank c = (s.tile t).bank c) ∧
        (s'.tile t).cal = dropFirst p.2 (s.tile t).cal ∧ Records s s' .ERR_ACC_PARITY ∧ SameMem s s' ∧ SameTiles [s.physOf t] s s') ∧
    ∀ (s : State) (t b : Nat) (o : CalOp), (s.tile t).cal.find? (startedOf .feed) = some o → o.cmd.bank = some b →
      (∀ f e, ((∃ n, f = CalFault.setParity n) ∧ e = Err.ERR_WSET_PARITY) ∨
          ((∃ row stamp, f = .feedParity row stamp) ∧ e = .ERR_FEED_PARITY) →
        RunsRetrying (.calMmComplete t f) t s fun s' => (s'.tile t).bank b = Bank.reset ∧
          (∀ c, c ≠ b → (s'.tile t).bank c = (s.tile t).bank c) ∧ (s'.tile t).cal = dropFirst (startedOf .feed) (s.tile t).cal ∧
          Records s s' e ∧ SameMem s s' ∧ SameTiles [s.physOf t] s s') ∧
      ∀ row stamp, exec (.calMmComplete t (.feedSkew row stamp)) s = .next ((s.mmFault t b o (.feedSkew row stamp)).retryTile t)

/-- A drain posts its rounded entry last in the FTQ and empties its bank, or writes its 16 KiB and no other byte. The model's own choices in it, which are no rule of the spec: log entries 38, 40, 52. -/
def Obligations.DrainsPostInOrder : Prop :=
  (∀ (s : State) (t b fmt rnd : Nat) (sat ovf : Bool) (dst tag px : Nat) (o : CalOp),
      (s.tile t).cal.find? isPortStarted = some o → o.cmd = .drain b fmt rnd sat ovf dst tag px → fmt ≠ 3 → fmt ≠ 5 →
        let x := s.tile t
        RunsRetrying (.calDrainPost ⟨t, .none⟩) t s fun s' =>
          (s'.tile t).ftq = x.ftq ++ [⟨if fmt = 4 then .int32 else .float32, x.ftqSeq, b,
            View.w32.reg (drainRows (s.drawCtx t) (x.bank b) fmt rnd sat ovf tag px 0 32).1⟩] ∧
          (s'.tile t).ftqSeq = (x.ftqSeq + 1) % 65536 ∧ (s'.tile t).ftqReserved = x.ftqReserved - 1 ∧
          (s'.tile t).bank b = Bank.reset ∧ (∀ c, c ≠ b → (s'.tile t).bank c = x.bank c) ∧
          (s'.tile t).cal = dropFirst isPortStarted x.cal ∧ (s'.tile t).t = x.t ∧ OnlyTile t [(.CAL_FLAGS_FLAGS, t)] s s') ∧
    (∀ (s : State) (t b rnd : Nat) (sat ovf : Bool) (dst tag px : Nat) (o : CalOp),
      (s.tile t).cal.find? isPortStarted = some o → o.cmd = .drain b 3 rnd sat ovf dst tag px →
        let x := s.tile t
        RunsRetrying (.calDrainPost ⟨t, .none⟩) t s fun s' =>
          (s'.tile t).ftq = x.ftq ++ [⟨if o.posted = 0 then .fp64Low else .fp64High, x.ftqSeq, b, View.w64.reg
            (drainRows (s.drawCtx t) (x.bank b) 3 rnd sat ovf tag px (if o.posted = 0 then 0 else 16) 16).1⟩] ∧
          (s'.tile t).bank b = (if o.posted = 0 then x.bank b else Bank.reset) ∧
          (∀ c, c ≠ b → (s'.tile t).bank c = x.bank c) ∧
          (if o.posted = 0 then (s'.tile t).cal.length = x.cal.length else (s'.tile t).cal = dropFirst isPortStarted x.cal) ∧
          OnlyTile t [(.CAL_FLAGS_FLAGS, t)] s s') ∧
    (∀ (s : State) (t b fmt rnd : Nat) (sat ovf : Bool) (dst tag px : Nat) (o : CalOp),
      (s.tile t).cal.find? isPortStarted = some o → o.cmd = .drain b fmt rnd sat ovf dst tag px →
        RunsRetrying (.calDrainPost ⟨t, .accParity⟩) t s fun s' => (s'.tile t).bank b = Bank.reset ∧
          (∀ c, c ≠ b → (s'.tile t).bank c = (s.tile t).bank c) ∧ (s'.tile t).ftq = (s.tile t).ftq ∧
          (s'.tile t).ftqReserved = (s.tile t).ftqReserved - (drainEntries fmt - o.posted) ∧
          (s'.tile t).cal = dropFirst isPortStarted (s.tile t).cal ∧ Records s s' .ERR_ACC_PARITY ∧ SameMem s s' ∧
          SameTiles [s.physOf t] s s') ∧
    ∀ (s : State) (t b rnd : Nat) (sat ovf : Bool) (dst tag px : Nat) (o : CalOp),
      (s.tile t).cal.find? isPortStarted = some o → o.cmd = .drain b 5 rnd sat ovf dst tag px →
      s.residentWrite t (dst - ocAddr t 0) = false →
        let x := s.tile t
        let c := ocCell (s.physOf t) (dst - ocAddr t 0)
        RunsRetrying (.calDrainPost ⟨t, .none⟩) t s fun s' =>
          (∀ n < 1024, memNat s'.mem (c + 16 * n) 16 = if n / 32 < (x.bank b).rows ∧ n % 32 < (x.bank b).cols then
            ((x.bank b).accs.getD n 0).toNat else 0) ∧
          (∀ a, (a < c ∨ c + 16384 ≤ a) → memGet s'.mem a = memGet s.mem a) ∧ (∀ a, memGet s'.hostMem a = memGet s.hostMem a) ∧
          (s'.tile t).bank b = Bank.reset ∧ (∀ d, d ≠ b → (s'.tile t).bank d = x.bank d) ∧
          (s'.tile t).cal = dropFirst isPortStarted x.cal ∧ (s'.tile t).ftq = x.ftq ∧ SameTiles [s.physOf t] s s' ∧
          SameRegs [(.CAL_FLAGS_FLAGS, t), (.GEY_MARGIN_MIN_MARGIN, 0)] s s'

/-! ### Update engines -/

/-- What each instruction of R588 does before the position moves on. -/
def UeEffect (p : Nat × (Nat → BitVec 58 → Instr) × (State → Nat → Nat → UeRun → ShardEntry → State)) : Prop :=
  p ∈ [(0x00, .ueNop, fun s _ _ _ _ => s), (0x01, .ueLd, fun s n w r e => s.ueLd n w r e), (0x02, .ueSt, fun s n w r e => s.ueSt n w r e),
    (0x03, .ueScalew, fun s n w _ e => s.ueScale n w e),
    (0x08, .ueFadd, fun s n w r _ => s.ueTwo n r w fun a b => numAdd (ueMode w) a b),
    (0x09, .ueFsub, fun s n w r _ => s.ueTwo n r w fun a b => numAdd (ueMode w) a (numNeg b)),
    (0x0A, .ueFmul, fun s n w r _ => s.ueTwo n r w fun a b => numMul a b),
    (0x0B, .ueFma, fun s n w r _ => s.ueThree n r w fun a b c => numFma (ueMode w) a b c),
    (0x0C, .ueFnma, fun s n w r _ => s.ueThree n r w fun a b c => numFma (ueMode w) (numNeg a) b c),
    (0x0D, .ueFdiv, fun s n w r _ => s.ueTwo n r w fun a b => numDiv a b),
    (0x0E, .ueFsqrt, fun s n w r _ => s.ueTwo n r (setBits w 34 34 0) fun a _ => numSqrt a),
    (0x0F, .ueFmin, fun s n w r _ => s.ueTwo n r w numMin), (0x10, .ueFmax, fun s n w r _ => s.ueTwo n r w numMax),
    (0x11, .ueSqacc, fun s n w r e => s.ueSqacc n w r e),
    (0x18, .ueSadd, fun s n w r _ => s.ueScalar n r w (numAdd (ueMode w) (r.kval (ueA w)) (r.kval (ueB w)))),
    (0x19, .ueSmul, fun s n w r _ => s.ueScalar n r w (numMul (r.kval (ueA w)) (r.kval (ueB w)))),
    (0x1A, .ueSfma, fun s n w r _ => s.ueScalar n r w (numFma (ueMode w) (r.kval (ueA w)) (r.kval (ueB w)) (r.kval (ueC w)))),
    (0x1B, .ueSdiv, fun s n w r _ => s.ueScalar n r w (numDiv (r.kval (ueA w)) (r.kval (ueB w)))),
    (0x1C, .ueSsqrt, fun s n w r _ => s.ueScalar n r w (numSqrt (r.kval (ueA w)))),
    (0x1D, .ueSpowi, fun s n w r _ => (s.setUe n (r.setK (ueD w) (spowi (r.kreg (ueA w)) (r.kreg (ueB w))).1)).orFlags
      .UE_FLAGS_FLAGS (spowi (r.kreg (ueA w)) (r.kreg (ueB w))).2 n)]

/-- The next instruction of the run stands in the same section and segment. -/
def MidSection (s : State) (n : Nat) (r : UeRun) (e : ShardEntry) : Prop :=
  let h := s.ueHeader r.uprog
  if r.preDone then r.seg < ceilDiv (s.ueCount e) segElems ∧ r.pos + 1 < (if r.pass = 1 then normLen h else updLen h)
  else r.pos + 1 < preLen h

/-- Engine n runs this instruction, which R590 admits, within a section. -/
def UeReady (s : State) (n w : Nat) (r : UeRun) (e : ShardEntry) : Prop :=
  s.ueActive n = some (r, e) ∧ s.ueInstrOk e r.section w = true ∧ MidSection s n r e

/-- Engine n's run is r with its position moved on, its flags gained those of f, and nothing else has changed. -/
def UeLeaves (s s' : State) (n : Nat) (r : UeRun) (f : FlagSet) : Prop :=
  s'.ueRun n = { r with pos := r.pos + 1 } ∧ (∀ m, m ≠ n → s'.ueRun m = s.ueRun m) ∧
    s'.rd .UE_FLAGS_FLAGS n = s.rd .UE_FLAGS_FLAGS n ||| f.toNat ∧ OnlyRegs [(.UE_FLAGS_FLAGS, n)] s s' ∧ s'.errq = s.errq

/-- Opcode, command, and what an element becomes from sources a, b, c under a word. -/
def UeElement (p : Nat × (Nat → BitVec 58 → Instr) × (Nat → Machine.Num → Machine.Num → Machine.Num → Machine.Num × FlagSet)) : Prop :=
  p ∈ [(0x08, .ueFadd, fun w a b _ => numAdd (ueMode w) a b), (0x09, .ueFsub, fun w a b _ => numAdd (ueMode w) a (numNeg b)),
    (0x0A, .ueFmul, fun _ a b _ => numMul a b), (0x0B, .ueFma, fun w a b c => numFma (ueMode w) a b c),
    (0x0C, .ueFnma, fun w a b c => numFma (ueMode w) (numNeg a) b c), (0x0D, .ueFdiv, fun _ a b _ => numDiv a b),
    (0x0E, .ueFsqrt, fun _ a _ _ => numSqrt a), (0x0F, .ueFmin, fun _ a b _ => numMin a b), (0x10, .ueFmax, fun _ a b _ => numMax a b)]

/-- The value at position i of a source: element i of a vector register, or a scalar register. -/
def ueSourceAt (r : UeRun) (w : Nat) (scalar : Bool) (k i : Nat) : Machine.Num :=
  if scalar then fmt64.decode (r.kreg k) else (ueFmt w).decode ((r.vec k).getD i 0 % 2 ^ (ueFmt w).bits)

/-- Engine n's run is r with vector register d holding the elements of res, 512 of them where every register holds 512. -/
def UeVector (s s' : State) (n : Nat) (r : UeRun) (d : Nat) (res : Nat → Nat × FlagSet) : Prop :=
  ∃ l : List Nat, UeLeaves s s' n (r.setVec d l) (flagsOr ((List.range l.length).map fun i => (res i).2)) ∧
    (∀ i < l.length, l.getD i 0 = (res i).1) ∧ ((∀ k, (r.vec k).length = segElems) → l.length = segElems)

/-- An update-engine instruction that its microprogram admits does its work and moves the position on; a refused one writes nothing. The model's own choices in it, which are no rule of the spec: log entries 2, 62. -/
def Obligations.UpdateInstructionsRunOrAreRefused : Prop :=
  ∀ p, UeEffect p → ∀ (s : State) (n : Nat) (w : BitVec 58),
    let W := p.1 * 2 ^ 58 + w.toNat
    ((p.1 = 2 ∨ p.1 = 3) → s.ueWaits n W = true → exec (p.2.1 n w) s = .next (s.setStall (0x110 + n) 6)) ∧
    (∀ r e, s.ueActive n = some (r, e) → ((p.1 = 2 ∨ p.1 = 3) → s.ueWaits n W = false) →
      (s.ueOver n e = false → s.ueInstrOk e r.section W = true → exec (p.2.1 n w) s = .next ((p.2.2 s n W r e).ueNext n e)) ∧
      (s.ueOver n e = false → s.ueInstrOk e r.section W = false →
        exec (p.2.1 n w) s = .next ((s.raiseSlot .ERR_UPROG (0x110 + n) (s.slotIdx (0x110 + n)) 0 W).ueNext n e)) ∧
      (s.ueOver n e = true → exec (p.2.1 n w) s = .next (s.ueSettle n e))) ∧
    (s.ueActive n = none → exec (p.2.1 n w) s = .next s)

/-- A vector instruction of an update engine writes each of its 512 results into its register and nothing else. The model's own choices in it, which are no rule of the spec: log entry 62. -/
def Obligations.UpdateVectorResults : Prop :=
  (∀ p, UeElement p → ∀ (s : State) (n : Nat) (w : BitVec 58) (r : UeRun) (e : ShardEntry), s.wf →
      let W := p.1 * 2 ^ 58 + w.toNat
      UeReady s n W r e →
        let res := fun i => (ueFmt W).finish (ueMode W) 0 (p.2.2 W (ueSourceAt r W false (ueA W) i)
          (ueSourceAt r W (p.1 ≠ 0x0E && ueKB W) (ueB W) i) (ueSourceAt r W (ueKC W) (ueC W) i))
        Runs (p.2.1 n w) s fun s' => UeVector s s' n r (ueD W) res) ∧
    (∀ (s : State) (n : Nat) (w : BitVec 58) (r : UeRun) (e : ShardEntry), s.wf →
      let W := 0x11 * 2 ^ 58 + w.toNat
      UeReady s n W r e →
        let ts := ((r.vec (ueA W)).take (min segElems (s.ueCount e - segElems * r.seg))).map fun b =>
          squareTerm ((ueFmt W).decode (b % 2 ^ (ueFmt W).bits))
        let o := cubeStep r.norm (ts.map (·.1))
        Runs (.ueSqacc n w) s fun s' => UeLeaves s s' n { r with norm := o.acc, normLost := r.normLost || o.lost }
          (flagsOr (ts.map (·.2)) ||| o.flags)) ∧
    ∀ (s : State) (n : Nat) (w : BitVec 58) (r : UeRun) (e : ShardEntry), s.wf → UeReady s n w.toNat r e →
      Runs (.ueNop n w) s fun s' => UeLeaves s s' n r fNone

/-- A scalar instruction of an update engine writes its FP64 result into its scalar register and nothing else. The model's own choices in it, which are no rule of the spec: log entry 62. -/
def Obligations.UpdateScalarResults : Prop :=
  (∀ p ∈ [(0x18, Instr.ueSadd, fun w a b (_ : Machine.Num) => numAdd (ueMode w) a b), (0x19, .ueSmul, fun _ a b _ => numMul a b),
        (0x1A, .ueSfma, fun w a b c => numFma (ueMode w) a b c), (0x1B, .ueSdiv, fun _ a b _ => numDiv a b),
        (0x1C, .ueSsqrt, fun _ a _ _ => numSqrt a)],
      ∀ (s : State) (n : Nat) (w : BitVec 58) (r : UeRun) (e : ShardEntry), s.wf →
        let W := p.1 * 2 ^ 58 + w.toNat
        UeReady s n W r e →
          let o := fmt64.finish (ueMode W) 0 (p.2.2 W (r.kval (ueA W)) (r.kval (ueB W)) (r.kval (ueC W)))
          Runs (p.2.1 n w) s fun s' => UeLeaves s s' n (r.setK (ueD W) o.1) o.2 ∧ (s'.ueRun n).kreg (ueD W) = o.1 ∧
            (∀ k, k ≠ ueD W → (s'.ueRun n).kreg k = r.kreg k) ∧ (s'.ueRun n).v = r.v) ∧
    ∀ (s : State) (n : Nat) (w : BitVec 58) (r : UeRun) (e : ShardEntry), s.wf →
      let W := 0x1D * 2 ^ 58 + w.toNat
      UeReady s n W r e →
        let o := spowi (r.kreg (ueA W)) (r.kreg (ueB W))
        Runs (.ueSpowi n w) s fun s' => UeLeaves s s' n (r.setK (ueD W) o.1) o.2 ∧ (s'.ueRun n).kreg (ueD W) = o.1 ∧
          (∀ k, k ≠ ueD W → (s'.ueRun n).kreg k = r.kreg k) ∧ (s'.ueRun n).v = r.v

/-- UE_LD loads a segment and changes no memory; UE_ST and UE_SCALEW change no byte outside those that they store. The model's own choices in it, which are no rule of the spec: log entries 9, 41, 62. -/
def Obligations.UpdateMemoryInstructions : Prop :=
  (∀ (s : State) (n : Nat) (w : BitVec 58) (r : UeRun) (e : ShardEntry), s.wf →
      let W := 2 ^ 58 + w.toNat
      let d := s.desc (e.stream (ueS W))
      UeReady s n W r e → s.ueStreamFail (e.stream (ueS W)) = none →
      s.firstPoisoned ((s.readLocs d (segWindow d r.seg)).filterMap fun l => match l with | .here a => some a | _ => none) = none →
        let ys := (segWindow d r.seg).map fun i => ueLoad W d (s.srcElem [] d (s.srcPos d i))
        Runs (.ueLd n w) s fun s' =>
          s'.ueRun n = { r.setVec (ueD W) (padSeg (ys.map (·.1))) with pos := r.pos + 1 } ∧
          s'.rd .UE_FLAGS_FLAGS n = s.rd .UE_FLAGS_FLAGS n ||| (flagsOr (ys.map (·.2))).toNat ∧
          OnlyRegs [(.UE_FLAGS_FLAGS, n), (.UE_NONFINITE_COUNT, n)] s s' ∧ s'.errq = s.errq) ∧
    (∀ (s : State) (n : Nat) (w : BitVec 58) (r : UeRun) (e : ShardEntry), s.wf →
      let W := 2 * 2 ^ 58 + w.toNat
      let d := s.desc (e.stream (ueS W))
      let (lo, hi) := stRange d (s.ueCount e) r.seg
      let win := (d.window.drop lo).take (hi - lo)
      let run := s.stConvert (0x110 + n) W d win (tabGet [] r.pos r.tail ++ (r.vec (ueA W)).take (s.ueCount e - segElems * r.seg))
      let out := unitBytesOf (s.unitsAt d win run.elems) ++ unitBytesOf run.scales
      s.ueActive n = some (r, e) → s.ueOver n e = false → s.ueInstrOk e r.section W = true → s.ueWaits n W = false →
      s.ueStreamFail (e.stream (ueS W)) = none →
        exec (.ueSt n w) s = .next ((s.ueSt n W r e).ueNext n e) ∧ SameTiles [] s (s.ueSt n W r e) ∧
          StoresOnly (fun a => (∃ p ∈ out, p.1 = a) ∨ InRange (s.statAddr d.statSlot) 16 a) s (s.ueSt n W r e) ∧
          (s.statBad d.statSlot = true → SameMem s (s.ueSt n W r e) ∧ Records s (s.ueSt n W r e) .ERR_STAT_SLOT)) ∧
    ∀ (s : State) (n : Nat) (w : BitVec 58) (r : UeRun) (e : ShardEntry), s.wf →
      let W := 3 * 2 ^ 58 + w.toNat
      let d := s.desc (e.stream (ueS W))
      s.ueActive n = some (r, e) → s.ueOver n e = false → s.ueInstrOk e r.section W = true → s.ueWaits n W = false →
      s.ueBadDesc [e.stream (ueS W)] = none → d.statSlot ≠ 0xFFFF → s.statBad d.statSlot = false →
      d.scaleMode ≠ 0 → s.descLive d.scaleLink = true → s.residentByte (s.firstAddr d.scaleLink) = none →
        exec (.ueScalew n w) s = .next ((s.ueScale n W e).ueNext n e) ∧ SameTiles [] s (s.ueScale n W e) ∧
          StoresOnly (fun a => a = s.firstAddr d.scaleLink) s (s.ueScale n W e) ∧
          (∀ c, s.placeOf (s.firstAddr d.scaleLink) = .cell c → memGet (s.ueScale n W e).mem c =
            BitVec.ofNat 8 (bitsOf (s.statRead (s.policy.statBase + d.statSlot * 32)).word 31 24))

/-! ### Synchronisation -/

/-- The books of R514 are level: the counts issued are in flight, held by counters, consumed, lost, cleared or taken by
barriers. -/
def BooksLevel (u : SyncUnit) : Prop :=
  (u.issued : Int) = u.inflightSum + u.net + u.consumed + u.lost + u.cleared + u.barrier

/-- What the loaded table and the registered waits keep: counter declarations and consuming waits name no barrier's ID, no
engine has two waits, and the table of counts is in canonical form. -/
def SyncSound (u : SyncUnit) : Prop :=
  tabWf 0 u.count = true ∧ (u.waits.map (·.engine)).Nodup ∧ (∀ d ∈ u.decls, d.kind = 0 → isBarrier d.id = false) ∧
    ∀ w ∈ u.waits, w.state = .registered → w.consume = true → isBarrier w.obj = false

/-- The commands of the synchronisation unit. -/
def SyncCommand (c : Instr) : Prop :=
  (∃ sigs, c = .syncSignalApply sigs) ∨ (∃ e, c = .syncWaitRegister e) ∨ (∃ e, c = .syncWaitTimeout e) ∨ (∃ p, c = .barrierReport p) ∨
    (∃ p, c = .barrierRelease p) ∨ c = .syncBodyEntry ∨ c = .syncProgramEndCheck ∨ ∃ id n, c = .syncHostSigWrite id n

/-- The signals in flight that reach their objects with the k-th and those at the places `more`; with `false`, those that stay. -/
def signalsOf (s : State) (k : Nat) (more : List Nat) (goes : Bool) : List SigMsg :=
  (s.sync.inflight.zipIdx.filter fun q => ((q.2 == k || more.contains q.2) && !s.signalHeld q.1) == goes).map (·.1)

/-- Sum of the counts of signals to an object. -/
def countTo (l : List SigMsg) (o : Nat) : Nat := (((l.filter fun m => m.obj == o).map (·.count))).foldl (· + ·) 0

/-- The waits that expire before one: those with a lower waiter ID that have expired with it. -/
def expireBefore (s : State) (w : SyncWait) : List SyncWait :=
  s.sync.expiredWaits.filter fun x => decide (x.waiter < w.waiter)

/-- No command of the synchronisation unit makes, loses or doubles a count: level books stay level. The model's own choices in it, which are no rule of the spec: log entries 56, 57. -/
def Obligations.SynchronisationBooksStayLevel : Prop :=
  ∀ (c : Instr) (s : State), SyncCommand c → SyncSound s.sync → BooksLevel s.sync →
    Runs c s fun t => SyncSound t.sync ∧ BooksLevel t.sync

/-- The synchronisation unit's books are level and its unit sound after reset. The model's own choices in it, which are no rule of the spec: log entry 56. -/
def Obligations.ResetBooksAreLevel : Prop :=
  BooksLevel State.reset.sync ∧ SyncSound State.reset.sync ∧ State.reset.sync.decls = [] ∧ State.reset.sync.waits = []

/-- Signals of a cycle add their counts once, a consuming wait takes its threshold with the test, and an expired wait takes nothing. The model's own choices in it, which are no rule of the spec: log entries 22, 55, 57. -/
def Obligations.SignalsAndWaits : Prop :=
  (∀ (s : State) (id n : Nat), Runs (.syncHostSigWrite id n) s fun t => t.sync.issued = s.sync.issued + n ∧
      t.sync.inflight = s.sync.inflight ++ [⟨id, n, .host, true⟩] ∧ t.sync.count = s.sync.count ∧ OnlyRegs [] s t) ∧
    (∀ (s : State) (k : Nat) (more : List Nat), tabWf 0 s.sync.count = true → Runs (.syncSignalApply ⟨k, more⟩) s fun t =>
      let ms := signalsOf s k more true
      t.sync.inflight = signalsOf s k more false ∧ SameMem s t ∧ SameTiles [] s t ∧
        (∀ o, (∀ m ∈ ms, m.obj ≠ o) → t.sync.cnt o = s.sync.cnt o) ∧
        ∀ o d, s.sync.decl o = some d → d.kind = 0 → isCounter o = true → s.sync.cnt o + countTo ms o ≤ maxCount →
          (∃ m ∈ ms, m.obj = o) → ∃ taken, t.sync.cnt o + taken = s.sync.cnt o + countTo ms o ∧
            (taken ≠ 0 → ∃ w ∈ s.sync.waits, w.obj = o ∧ w.state = .registered ∧ w.consume = true ∧ w.thr = taken) ∧
            ((∀ m ∈ ms, m.obj = o) → t.sync.consumed = s.sync.consumed + taken ∧ t.sync.lost = s.sync.lost ∧ t.errq = s.errq ∧
              OnlyRegs [] s t)) ∧
    (∀ (s : State) (e : Nat) (w : SyncWait), s.sync.waitOf e = some w → w.state = .sent →
      (s.sync.entryDue = false ∨ w.fresh = false) →
        (s.sync.waitRefusal w = none → Runs (.syncWaitRegister e) s fun t => OnlyRegs [] s t ∧ t.errq = s.errq ∧
          t.sync = (s.sync.setWaitState e .registered).test w.obj ∧
          (w.thr ≤ s.sync.level w.obj → ∃ v ∈ t.sync.waits, v.engine = e ∧ v.state = .satisfied)) ∧
        ∀ r, s.sync.waitRefusal w = some r →
          exec (.syncWaitRegister e) s = .next ((s.raiseObj r (.engine e) w.obj).waitFails e)) ∧
    (∀ (s : State) (e : Nat) (w : SyncWait) (h : HeldBundle), s.sync.waitOf e = some w → w.state = .satisfied → isTile e = true →
      (s.veOf e).held = some h → bitsOf (bundleOf h.bits.toNat).c 31 27 = 7 →
        let s₁ := { s with sync := s.sync.dropWait e }.setVe e (s.veOf e).dropped
        let b := bundleOf h.bits.toNat
        (s₁.waitCause e b = 0 → exec (.syncWaitRelease e) s = .next (s₁.fireBundle e b h.own h.upset)) ∧
          (s₁.waitCause e b ≠ 0 → exec (.syncWaitRelease e) s =
            .next (s₁.keepBundle e b h.own h.upset .released (s₁.waitCause e b)))) ∧
    (∀ (s : State) (e : Nat) (w : SyncWait), s.sync.waitOf e = some w → w.state = .satisfied → isTile e = false →
      Runs (.syncWaitRelease e) s fun t => (t.engine e).wait = .released ∧ t.sync = s.sync.dropWait e ∧
        (∀ d, d ≠ e → t.engine d = s.engine d) ∧ OnlyRegs [] s t) ∧
    ∀ (s : State) (e : Nat) (w : SyncWait), s.sync.waitOf e = some w → w.expired = true →
      Runs (.syncWaitTimeout e) s fun t => t = ((expireBefore s w).foldl State.waitExpires s).waitExpires w ∧
        (∀ v ∈ t.sync.waits, v ∈ s.sync.waits) ∧ t.sync.count = s.sync.count ∧ t.sync.consumed = s.sync.consumed ∧
        t.sync.bars = s.sync.bars ∧ SameMem s t ∧ SameTiles [] s t ∧
        (expireBefore s w = [] → t.sync.waits = (s.sync.dropWait e).waits ∧ Records s t .ERR_SYNC_TIMEOUT)

/-- A report notes its child once, a release from the parent raises GEN by 1, and a message that does not fit the tree changes no barrier. The model's own choices in it, which are no rule of the spec: log entry 56. -/
def Obligations.BarrierTreeMovesOneGeneration : Prop :=
  (∀ (s : State) (p : Nat) (m : Msg) (d : SyncDecl), s.peekRx p (fun m => m.kind == 7) = some m →
      s.staleTag m.tag = false → s.jobBarrier m.obj = some d →
        let b := s.sync.bar m.obj
        let s₁ := s.popRx p fun m => m.kind == 7
        let u := s.sync.setBar m.obj { b with children := b.children ||| 2 ^ p }
        (bitOf s.sync.barChildren p = true → m.aux = b.gen + 1 → bitOf b.children p = false →
          exec (.barrierReport p) s = .next ({ s₁ with sync := u }.jobStep d) ∧
          (u.reportReady d = false → Runs (.barrierReport p) s fun t => t.sync = u ∧ SameMem s t ∧ SameTiles [] s t)) ∧
        ((bitOf s.sync.barChildren p = false ∨ m.aux ≠ b.gen + 1 ∨ bitOf b.children p = true) →
          Runs (.barrierReport p) s fun t => t.sync = s.sync ∧ Records s t .ERR_SYNC_TREE ∧ SameMem s t ∧ SameTiles [] s t)) ∧
    (∀ (s : State) (p : Nat) (m : Msg), s.staleTag m.tag = false → s.jobBarrier m.obj = none →
      (s.peekRx p (fun m => m.kind == 7) = some m →
        Runs (.barrierReport p) s fun t => t.sync = s.sync ∧ Records s t .ERR_SYNC_TREE ∧ SameMem s t ∧ SameTiles [] s t) ∧
      (s.peekRx p (fun m => m.kind == 8) = some m →
        Runs (.barrierRelease p) s fun t => t.sync = s.sync ∧ Records s t .ERR_SYNC_TREE ∧ SameMem s t ∧ SameTiles [] s t)) ∧
    (∀ (s : State) (p : Nat) (m : Msg) (d : SyncDecl), s.peekRx p (fun m => m.kind == 8) = some m →
      s.staleTag m.tag = false → s.jobBarrier m.obj = some d →
        let b := s.sync.bar m.obj
        (p = s.sync.barParent → m.aux = b.gen + 1 → m.aux ≤ maxCount → b.reported = true → b.arrivals < d.members →
          Runs (.barrierRelease p) s fun t => t.sync.bar m.obj = { b with gen := b.gen + 1, reported := false, children := 0 } ∧
            (∀ o, o ≠ m.obj → t.sync.bar o = s.sync.bar o) ∧ SameMem s t ∧ SameTiles [] s t) ∧
        ((p ≠ s.sync.barParent ∨ m.aux ≠ b.gen + 1 ∨ b.reported = false) →
          Runs (.barrierRelease p) s fun t => t.sync = s.sync ∧ Records s t .ERR_SYNC_TREE ∧ SameMem s t ∧ SameTiles [] s t)) ∧
    ∀ (s : State) (p : Nat) (m : Msg), s.staleTag m.tag = true →
      (s.peekRx p (fun m => m.kind == 7) = some m → Runs (.barrierReport p) s fun t => t.sync.bars = s.sync.bars ∧
        t.rd .SYNC_STALE_COUNT_COUNT = min (s.rd .SYNC_STALE_COUNT_COUNT + 1) (2 ^ 32 - 1) ∧ SameMem s t) ∧
      (s.peekRx p (fun m => m.kind == 8) = some m → Runs (.barrierRelease p) s fun t => t.sync.bars = s.sync.bars ∧
        t.rd .SYNC_STALE_COUNT_COUNT = min (s.rd .SYNC_STALE_COUNT_COUNT + 1) (2 ^ 32 - 1) ∧ SameMem s t)

/-- At a body's entry every declared counter returns to its BASE and every barrier to rest; the program-end check changes no count. The model's own choices in it, which are no rule of the spec: log entries 29, 57. -/
def Obligations.BodyEntryRestoresEveryObject : Prop :=
  (∀ s : State, s.sync.entryDue = true → (∀ m ∈ s.sync.inflight, m.fresh = true) →
      Runs .syncBodyEntry s fun t =>
        (∀ d ∈ s.sync.decls, d.kind = 0 → t.sync.cnt d.id = s.sync.bas d.id) ∧
        (∀ o, t.sync.bar o = Barrier.reset) ∧ t.sync.waits = s.sync.waits.filter (fun w => w.fresh) ∧
        t.sync.entryDue = false ∧ 20 ≤ t.frameCycle ∧ SameMem s t ∧ SameTiles [] s t) ∧
    ∀ s : State, s.sync.endCheckDue = true → (∀ m ∈ s.sync.inflight, m.fresh = true) →
      Runs .syncProgramEndCheck s fun t => t.sync = { s.sync with endCheckDue := false } ∧ 20 ≤ t.frameCycle ∧ SameMem s t ∧
        SameTiles [] s t ∧ ∀ f i, f ≠ .VE_STALL_CYC_COUNT → (f, i) ≠ (.ERRLOG_DROPPED_COUNT, 0) → t.rd f i = s.rd f i

/-! ### Transfers and memory -/

/-- Every register field reads as before but those of a list, at every index. -/
def KeepFlds (l : List Fld) (s t : State) : Prop := ∀ f i, f ∉ l → t.rd f i = s.rd f i

/-- No transfer list but that of engine e differs. -/
def OtherLists (e : Nat) (s t : State) : Prop := ∀ d, d ≠ e → t.xeng d = s.xeng d

/-- The last byte that a list of stores puts into a cell stands there, for every store outside a protected resident region. -/
def StoredLast (l : List (Nat × Byte)) (s t : State) : Prop :=
  ∀ (l₁ l₂ : List (Nat × Byte)) (a c : Nat) (b : Byte), l = l₁ ++ (a, b) :: l₂ → s.placeOf a = .cell c →
    s.residentByte a = none → (∀ p ∈ l₂, s.placeOf p.1 ≠ .cell c) → memGet t.mem c = b

/-- A list of active transfers but for how many operations of each still wait for room in the operation table. -/
def unissued (l : List Xfer) : List Xfer := l.map fun x => { x with toIssue := 0 }

/-- Engine e may try record i of its slot sl, whose words are r: it stands next in order, passes its checks and its wait is
over. -/
def MayTry (s : State) (e : Nat) (sl : Slot) (r : XWords) : Prop :=
  let x := s.xeng e
  s.slotNow e = some sl ∧ sl.kind = 1 ∧ (s.engine e).isOver = false ∧ sl.allStarted x.next = false ∧ (s.slotIdx e, x.next) ∉ x.skip ∧
    s.badRecord e (s.recordAddr sl x.next) 32 = none ∧
    r = s.recordAt sl x.next ∧ payloadOk (match s.prog with | some p => p.bytes | none => 0) sl.payload = true ∧
    s.recordOk e r = true ∧ x.active.length < activeLimit e ∧ (r.waitObj = 0 ∨ (s.engine e).wait = .released) ∧
    s.xDescsOk r = true ∧ s.ckptBroken (s.xReads r) (s.xWrites r) = none

/-- The check of a protected transfer that receives from a host allocation. -/
def TagChecked (s : State) (x : Xfer) : Prop :=
  x.words.mode = 0 ∧ x.words.protect = true ∧ s.inHost (s.desc x.words.src) = true

/-- The tag left for the transfer's channel has its CRC and the next alive value. -/
def TagFits (s : State) (e : Nat) (x : Xfer) : Prop :=
  let ch := engNum e * 64 + x.words.pch
  x.crc = s.rd .SE_PCH_RX_TAG_CRC ch ∧ (s.rd .SE_PCH_RX_TAG_ALIVE ch + 65536 - s.rd .SE_PCH_STATE_RX_ALIVE ch) % 65536 = 1

/-- A transfer starts in list order, loses one operation at a time, and stores its bytes and signals at its completion. The model's own choices in it, which are no rule of the spec: log entries 46, 47, 48, 50, 91. -/
def Obligations.TransfersStartRunAndComplete : Prop :=
  (∀ (s : State) (e : Nat) (sl : Slot) (r : XWords), MayTry s e sl r →
      let x := s.xeng e
      let i := s.slotIdx e
      (s.xStall e i r = 0 → Runs (.transferStart e) s fun t =>
          let y := t.xeng e
          y.next = x.next + 1 ∧ y.active.length = x.active.length + 1 ∧
            (unissued y.active).take x.active.length = unissued x.active ∧
            (∃ z, y.active[x.active.length]? = some z ∧ z.slot = i ∧ z.record = x.next ∧ z.words = r ∧ z.reads = s.xReads r ∧
              z.writes = s.xWrites r) ∧
            OtherLists e s t ∧ SameTiles [] s t ∧ StoresOnly (InRange (s.statAddr (s.desc r.dst).statSlot) 16) s t) ∧
        (s.xStall e i r ≠ 0 → exec (.transferStart e) s = .next (s.setStall e (s.xStall e i r)))) ∧
    (∀ (s : State) (e k : Nat) (x : Xfer) (ev : MemEvent), (s.xeng e).active[k]? = some x → 0 < x.inTable →
      Runs (.hbmOperationComplete e k ev) s fun t =>
        (∃ y, (t.xeng e).active[k]? = some y ∧ y.opsLeft = x.opsLeft - 1 ∧ y.slot = x.slot ∧ y.record = x.record ∧
          y.data = x.data ∧ y.scaleData = x.scaleData ∧
          (y.failed = true ↔ x.failed = true ∨ ∃ i c, ev = .uncorrectable i ∧ x.src[i]? = some c)) ∧
          (∀ j, j ≠ k → (unissued (t.xeng e).active)[j]? = (unissued (s.xeng e).active)[j]?) ∧
          (∀ i c, ev = .uncorrectable i → x.src[i]? = some c →
            tabGet false (codewordOf c) t.poison = true ∧ Records s t .ERR_MEM_UE) ∧
          OtherLists e s t ∧ SameMem s t ∧ SameTiles [] s t) ∧
    (∀ (s : State) (e k : Nat) (ev : MemEvent), (s.xeng e).active[k]? = none →
      Runs (.hbmOperationComplete e k ev) s fun t => (t.xeng e).draining = (s.xeng e).draining - 1 ∧
        unissued (t.xeng e).active = unissued (s.xeng e).active ∧ OtherLists e s t ∧ SameMem s t ∧ SameTiles [] s t) ∧
    ∀ (s : State) (e k : Nat) (x : Xfer), (s.xeng e).active[k]? = some x → x.isOver = true →
      let all := x.data ++ x.scaleData
      (x.failed = false → (TagChecked s x → TagFits s e x) → Runs (.transferComplete e k) s fun t =>
          unissued (t.xeng e).active = unissued ((s.xeng e).active.eraseIdx k) ∧ StoredLast all s t ∧
            StoresOnly (fun a => ∃ b, (a, b) ∈ all) s t ∧
            t.sync.inflight = s.sync.inflight ++ (if x.words.mode ≠ 3 ∧ x.words.sigObj ≠ 0 then
              [⟨x.words.sigObj, x.words.sigCount, .engine e, true⟩] else []) ∧
            (x.words.mode = 4 → ∀ v ∈ s.ventOf (engNum e), v.owner = some (x.slot, x.record) →
              { v with held := true, owner := none } ∈ t.ventOf (engNum e)) ∧
            (isStream e = true →
              t.rd .SE_TRANSFERS_COUNT (engNum e) = (s.bump .SE_TRANSFERS_COUNT 1 (engNum e)).rd .SE_TRANSFERS_COUNT (engNum e)) ∧
            OtherLists e s t ∧ SameTiles [] s t ∧
            KeepFlds [.SE_STATUS_STALL, .UE_STATUS_STALL, .SE_OPS_PEAK_PEAK, .SE_PCH_STATE_RX_ALIVE, .SE_PCH_TX_TAG_CRC, .SE_PCH_TX_TAG_ALIVE,
              .SE_TRANSFERS_COUNT, .SE_BYTES_RD_COUNT, .SE_BYTES_WR_COUNT, .STEP_STATUS_RETAINED, .GEY_MARGIN_MIN_MARGIN,
              .ERRLOG_DROPPED_COUNT] s t) ∧
        ((x.failed = true ∨ TagChecked s x ∧ x.crc ≠ s.rd .SE_PCH_RX_TAG_CRC (engNum e * 64 + x.words.pch)) →
          Runs (.transferComplete e k) s fun t =>
            unissued (t.xeng e).active = unissued ((s.xeng e).active.eraseIdx k) ∧ t.sync = s.sync ∧ (x.failed = false → Records s t .ERR_CRC) ∧
              StoresOnly (fun a => ∃ b, (a, b) ∈ all) s t ∧ OtherLists e s t ∧ SameTiles [] s t)

/-- Segment m added to an arriving SEND. -/
def withSegment (b : Inbound) (m : Msg) : Inbound :=
  { b with
    ext := (match m.ext with | some x => some x | none => b.ext)
    sig := (match m.sig with | some x => some x | none => b.sig)
    segs := tabPut m.index m.payload b.segs
    last := if m.last then some (m.index, m.aux) else b.last }

/-- The transfer that the acknowledgement m is for. -/
def ackFits (s : State) (m : Msg) (x : Xfer) : Bool :=
  decide (x.words.mode = 3 ∧ s.coordOfRank x.words.peer = m.src ∧ x.words.dst = m.obj) && x.rest.isEmpty &&
    decide (x.sent = m.index + 1) && !x.acked

/-- SEND segments are kept until the last has come and then stored once; acknowledgements and gather answers reach the one transfer they name. The model's own choices in it, which are no rule of the spec: log entries 8, 48, 49, 93. -/
def Obligations.SendsAndGathersArrive : Prop :=
  (∀ (s : State) (q n : Nat) (m : Msg), s.peekRx q (fun m => m.kind == 1 && m.unit == n) = some m →
      let s₁ := s.popRx q fun m => m.kind == 1 && m.unit == n
      let b := s.inboundOf n m.src m.obj
      let b' := withSegment b m
      b.bad = false → (b.slots.contains (m.index / 32) = true ∨ 0 < s.sbFree n) → s.inboundWaits n m = false →
      ((∀ x, m.ext = some x → s₁.sendPairFail m.obj m.src x = none) →
        ((b'.whole = false ∨ b'.ext = none) → Runs (.sendSegmentReceive q n) s fun t => t.inboundOf n m.src m.obj = b' ∧
          t.sync = s.sync ∧ t.xfer = s.xfer ∧ SameMem s t ∧ SameTiles [] s t) ∧
        (b'.whole = true → b'.ext ≠ none → ((b'.sig.getD ⟨0, 0, 0, false⟩).protect = false) →
          let g := b'.sig.getD ⟨0, 0, 0, false⟩
          let out := s₁.sendOut (s₁.desc m.obj) (s₁.sendRun n b')
          Runs (.sendSegmentReceive q n) s fun t => StoredLast out s t ∧
            StoresOnly (fun a => (∃ v, (a, v) ∈ out) ∨ InRange (s.statAddr (s.desc m.obj).statSlot) 16 a) s t ∧
            (∀ i ∈ t.inbound, i.matches n m.src m.obj = false) ∧
            t.sync.inflight = s.sync.inflight ++ (if g.obj ≠ 0 ∧ (s.inBody && s.staleTag m.tag) = false then
              [⟨g.obj, g.count, .engine (0x100 + n), true⟩] else []) ∧ t.xfer = s.xfer ∧ SameTiles [] s t)) ∧
      ∀ x err d, m.ext = some x → s₁.sendPairFail m.obj m.src x = some (err, d) → Runs (.sendSegmentReceive q n) s fun t =>
        Records s t err ∧ t.sync = s.sync ∧ t.xfer = s.xfer ∧ SameMem s t ∧ SameTiles [] s t) ∧
    (∀ (s : State) (q : Nat) (m : Msg), s.peekRx q (fun m => m.kind == 2) = some m →
      let e := 0x100 + m.unit % 16
      Runs (.sendAckReceive q) s fun t =>
        (∀ k x, m.last = true → (s.xeng e).active[k]? = some x → ackFits s m x = true →
          (∀ j < k, ∀ y, (s.xeng e).active[j]? = some y → ackFits s m y = false) →
            (t.xeng e).active = (s.xeng e).active.set k { x with acked := true }) ∧
        (m.last = false → ∀ d, t.xeng d = s.xeng d) ∧ OtherLists e s t ∧ t.sync = s.sync ∧ SameMem s t ∧ SameTiles [] s t) ∧
    (∀ (s : State) (q : Nat) (m : Msg), s.peekRx q (fun m => m.kind == 3) = some m →
      let s₁ := s.popRx q fun m => m.kind == 3
      let off := m.aux % 2 ^ 40
      let len := m.aux / 2 ^ 40
      ∃ bs, (s.allocOf m.obj = none → bs = []) ∧
        (∀ a, s.allocOf m.obj = some a → off + len ≤ a.span → (∀ i < len, s.firstPoisoned [s.pageBase a false + off + i] = none) →
          bs = s.ldBytes (s.pageBase a false + off) len) ∧
        exec (.gatherRequestReceive q) s =
          .next (s₁.present { msgPlain 4 1 m.src m.obj m.index m.aux bs with unit := m.unit } .first none)) ∧
    ∀ (s : State) (q : Nat) (m : Msg), s.peekRx q (fun m => m.kind == 4) = some m →
      let e := 0x100 + m.unit % 32
      let l := (s.xeng e).active.map fun x => { x with reqs := answerReq m.index m.payload x.reqs }
      ((∀ k x, ((s.xeng e).active.findIdx? fun x => x.reqs.any fun r => r.num == m.index) = some k → l[k]? = some x →
          answered x.reqs = false) →
        Runs (.gatherResponseReceive q) s fun t => (t.xeng e).active = l ∧ OtherLists e s t ∧ SameMem s t ∧ SameTiles [] s t) ∧
      ∀ k x, ((s.xeng e).active.findIdx? fun x => x.reqs.any fun r => r.num == m.index) = some k → l[k]? = some x →
        answered x.reqs = true → x.formed = false →
          Runs (.gatherResponseReceive q) s fun t =>
            (∃ y, (t.xeng e).active[k]? = some y ∧ y.formed = true ∧ y.slot = x.slot ∧ y.record = x.record ∧ y.reqs = x.reqs) ∧
              (∀ j, j ≠ k → (unissued (t.xeng e).active)[j]? = (unissued l)[j]?) ∧ OtherLists e s t ∧ SameTiles [] s t ∧
              StoresOnly (InRange (s.statAddr (s.desc x.words.dst).statSlot) 16) s t

/-- The patrol scrubber visits codeword after codeword and poisons what it cannot correct; a resident fill writes its tile's region and no other byte. The model's own choices in it, which are no rule of the spec: log entries 6, 34, 51, 52, 92. -/
def Obligations.ScrubbingAndResidentFills : Prop :=
  (∀ (s : State) (inst : Nat) (ev : MemEvent), s.lockOf inst ≠ none → exec (.patrolScrub inst ev) s = .next s) ∧
    (∀ (s : State) (inst : Nat) (ev : MemEvent), s.lockOf inst = none →
      let o := s.rd .SE_SCRUB_POS_OFFSET inst
      let c := s.scrubCell inst
      let i := memInstance c
      Runs (.patrolScrub inst ev) s fun t =>
        (inst < 16 → t.rd .SE_SCRUB_POS_OFFSET inst = (if o + 32 < 0x000C00000000 then o + 32 else 0) ∧
          t.rd .SE_SCRUB_PASSES_COUNT inst = (if o + 32 < 0x000C00000000 then s.rd .SE_SCRUB_PASSES_COUNT inst
            else (s.bump .SE_SCRUB_PASSES_COUNT 1 inst).rd .SE_SCRUB_PASSES_COUNT inst)) ∧
        (16 ≤ inst → tabGet 0 inst t.sramScrub = (let n := tabGet 0 inst s.sramScrub + 8
          if n < (sramRange inst).2 then n else 0)) ∧
        (∀ j, j ≠ inst → t.rd .SE_SCRUB_POS_OFFSET j = s.rd .SE_SCRUB_POS_OFFSET j ∧ tabGet 0 j t.sramScrub = tabGet 0 j s.sramScrub) ∧
        (ev = .none → t.errq = s.errq ∧ t.poison = s.poison) ∧
        (∀ k, ev = .corrected k → t.poison = s.poison ∧
          (i < 16 → t.rd .SE_HBM_CE_COUNT i = (s.bump .SE_HBM_CE_COUNT 1 i).rd .SE_HBM_CE_COUNT i)) ∧
        (∀ k, ev = .uncorrectable k → tabGet false (codewordOf c) t.poison = true ∧
          (tabGet false (codewordOf c) s.poison = false → Records s t .ERR_MEM_POISON ∧
            (i < 16 → t.rd .SE_HBM_UE_COUNT i = (s.bump .SE_HBM_UE_COUNT 1 i).rd .SE_HBM_UE_COUNT i)) ∧
          (tabGet false (codewordOf c) s.poison = true → t.poison = s.poison ∧ t.errq = s.errq)) ∧
        OnlyRegs [(.SE_SCRUB_POS_OFFSET, inst), (.SE_SCRUB_PASSES_COUNT, inst), (.SE_HBM_CE_COUNT, i), (.SE_HBM_UE_COUNT, i),
          (.RES_STARVE_GRANTS_COUNT, 0), (.ERRLOG_DROPPED_COUNT, 0)] s t) ∧
    ∀ (s : State) (u : Nat), u ∈ s.fills → s.physOf u < 272 →
      let n := s.rd .VE_RES_SIZE_SIZE u * 65536
      let c := ocCell (s.physOf u) 0
      (∀ a, s.firstPoisoned ((List.range n).map (s.rd .VE_RES_SRC_ADDR u + ·)) = some a →
        Runs (.residentFillComplete u) s fun t => Records s t .ERR_MEM_UE ∧ t.fills = s.fills ∧ SameMem s t ∧ SameTiles [] s t) ∧
      (s.firstPoisoned ((List.range n).map (s.rd .VE_RES_SRC_ADDR u + ·)) = none → Runs (.residentFillComplete u) s fun t =>
        (∀ j < n, memGet t.mem (c + j) = s.ld (s.rd .VE_RES_SRC_ADDR u + j)) ∧
          (∀ a, (a < c ∨ c + n ≤ a) → memGet t.mem a = memGet s.mem a) ∧ (∀ a, memGet t.hostMem a = memGet s.hostMem a) ∧
          t.fills = s.fills.filter (fun v => v != u) ∧ SameTiles [] s t ∧ SameRegs [] s t ∧ t.errq = s.errq)

/-! ### The fabric and the ledger -/

/-- A message that its destination takes: the VC of its kind and its own check sum. -/
def Sound (m : Msg) : Prop := kindVc m.kind = some m.vc ∧ m.hcrc = msgCrc m

/-- A port that takes a message on VC v: live, coordinate assigned, room in its buffer. -/
def TakesOn (s : State) (p v : Nat) : Prop :=
  s.portLive p = true ∧ s.coordValid = true ∧ s.occupied p v < s.rd .FAB_CREDIT_VC_LIMIT (p * 4 + v)

/-- The count of a saturating or wrapping counter raised by n. -/
def Counts (f : Fld) (n i : Nat) (s t : State) : Prop := t.rd f i = (s.bump f n i).rd f i

/-- A message for this module enters its port's buffer; one in transit leaves by its route when a credit allows; the tick guard holds both. The model's own choices in it, which are no rule of the spec: log entries 59, 85. -/
def Obligations.MessagesMoveAsTheirCreditsAllow : Prop :=
  (∀ (s : State) (p n : Nat) (m : Msg), TakesOn s p m.vc →
      (m.dst = s.coord → Sound m → (m.kind ≤ 6 ∧ s.inBody = true ∧ s.staleTag m.tag = true → False) →
        Runs (.messageArrive p m n) s fun t => t.rxOf p = s.rxOf p ++ [⟨m, false⟩] ∧
          Counts .FAB_RX_MSG_COUNT 1 (p * 4 + m.vc) s t ∧ Counts .FAB_REPLAYS_COUNT n p s t ∧ t.fab.out = s.fab.out ∧
          OnlyRegs [(.FAB_RX_MSG_COUNT, p * 4 + m.vc), (.FAB_REPLAYS_COUNT, p), (.ERRLOG_DROPPED_COUNT, 0)] s t) ∧
      (m.dst = s.coord → ¬ Sound m → Runs (.messageArrive p m n) s fun t => t.rxOf p = s.rxOf p ∧ Records s t .ERR_FAB_HCRC ∧
        Counts .FAB_HCRC_ERR_COUNT 1 p s t ∧ SameMem s t ∧ SameTiles [] s t) ∧
      (m.dst ≠ s.coord → ∀ c, c = (if m.kind = 1 ∨ m.kind = 5 then PortChoice.seg m.index else .first) →
        (s.routePort m.dst c = none → Runs (.messageArrive p m n) s fun t => t.rxOf p = s.rxOf p ∧
          Records s t .ERR_FAB_NO_ROUTE ∧ SameMem s t ∧ SameTiles [] s t) ∧
        ∀ q, s.routePort m.dst c = some q →
          (s.inGuard = true → Runs (.messageArrive p m n) s fun t => t.rxOf p = s.rxOf p ++ [⟨m, true⟩] ∧
            t.txOf q = s.txOf q ++ [⟨m, some p⟩] ∧ t.fab.out = s.fab.out ∧
            OnlyRegs [(.FAB_RX_MSG_COUNT, p * 4 + m.vc), (.FAB_REPLAYS_COUNT, p)] s t) ∧
          (s.wf → s.mayLaunch q m.vc = true → s.txOf q = [] → p < 18 → Runs (.messageArrive p m n) s fun t =>
            t.fab.out = s.fab.out ++ [(q, .msg m), (p, .credit m.vc)] ∧ t.txOf q = [] ∧
            t.rd .FAB_CREDIT_VC_AVAIL (q * 4 + m.vc) = s.rd .FAB_CREDIT_VC_AVAIL (q * 4 + m.vc) - 1 ∧
            Counts .FAB_TX_MSG_COUNT 1 (q * 4 + m.vc) s t ∧ SameMem s t ∧ SameTiles [] s t))) ∧
    (∀ (s : State) (p v : Nat), s.portLive p = true →
      let k := p * 4 + v
      (s.txOf p = [] → Runs (.creditReturn p v) s fun t => Counts .FAB_CREDIT_VC_AVAIL 1 k s t ∧
        Counts .FAB_CRET_RX_COUNT 1 k s t ∧ t.fab = s.fab ∧
        OnlyRegs [(.FAB_CREDIT_VC_AVAIL, k), (.FAB_CRET_RX_COUNT, k)] s t) ∧
      ∀ m, s.txOf p = [⟨m, none⟩] → m.vc = v → s.inGuard = false → s.coordValid = true → s.rd .FAB_CREDIT_VC_AVAIL k = 0 →
        (frameKind m.kind && s.gateShut) = false → Runs (.creditReturn p v) s fun t =>
          t.fab.out = s.fab.out ++ [(p, .msg (s.stampMsg m))] ∧ t.txOf p = [] ∧ t.rd .FAB_CREDIT_VC_AVAIL k = 0 ∧
          OnlyRegs [(.FAB_CREDIT_VC_AVAIL, k), (.FAB_CRET_RX_COUNT, k), (.FAB_TX_MSG_COUNT, k)] s t) ∧
    ∀ s : State, ((∀ p, s.txOf p = []) → Runs .guardHeldLaunch s fun t => t.frameCycle = max s.frameCycle 256 ∧ t.fab = s.fab ∧
        OnlyRegsInTime [] s t) ∧
      ∀ p m, p < 18 → s.txOf p = [⟨m, none⟩] → (∀ q, q ≠ p → s.txOf q = []) → s.portLive p = true → s.coordValid = true →
        0 < s.rd .FAB_CREDIT_VC_AVAIL (p * 4 + m.vc) → (frameKind m.kind && s.gateShut) = false →
          Runs .guardHeldLaunch s fun t => t.frameCycle = max s.frameCycle 256 ∧ t.txOf p = [] ∧
            t.fab.out = s.fab.out ++ [(p, .msg (s.stampMsg m))] ∧
            OnlyRegsInTime [(.FAB_CREDIT_VC_AVAIL, p * 4 + m.vc), (.FAB_TX_MSG_COUNT, p * 4 + m.vc)] s t

/-- A port is ABSENT with no signal, trains when one appears, comes up with the lanes it keeps, and goes DOWN below two. The model's own choices in it, which are no rule of the spec: log entry 58. -/
def Obligations.PortsFollowTheirLanesAndSignals : Prop :=
  (∀ (s : State) (p : Nat), s.portsPowered = true →
      (s.portState p ≠ 1 → Runs (.portSignalLoss p) s fun t => t.portState p = 1 ∧ t.rd .FAB_STATUS_LANE_MASK p = 0 ∧
        Records s t .ERR_FAB_ABSENT ∧ t.rxOf p = s.rxOf p ∧
        OnlyRegs [(.FUM_SIGDET_PORTS, 0), (.FAB_STATUS_STATE, p), (.FAB_STATUS_LANE_MASK, p), (.ERRLOG_DROPPED_COUNT, 0)] s t) ∧
      (s.portState p = 1 → Runs (.portSignalDetect p) s fun t => t.portState p = 2 ∧ t.errq = s.errq ∧ t.fab = s.fab ∧
        OnlyRegs [(.FUM_SIGDET_PORTS, 0), (.FAB_STATUS_STATE, p)] s t) ∧
      ((s.portState p = 0 ∨ s.portState p = 2) → ∀ lanes coord nport, lanes < 16 →
        (laneCount lanes < 2 → Runs (.portTrainingComplete p lanes coord nport) s fun t => t.portState p = 0 ∧
          OnlyRegs [(.FAB_STATUS_STATE, p)] s t) ∧
        (2 ≤ laneCount lanes → s.rd .FAB_NEIGH_LEARNED p = 1 → s.rd .FAB_NEIGH_COORD p ≠ coord →
          Runs (.portTrainingComplete p lanes coord nport) s fun t => t.portState p = 5 ∧
            t.rd .FAB_STATUS_LANE_MASK p = lanes ∧ Records s t .ERR_FAB_NEIGH ∧
            OnlyRegs [(.FAB_STATUS_STATE, p), (.FAB_STATUS_LANE_MASK, p), (.ERRLOG_DROPPED_COUNT, 0)] s t) ∧
        (2 ≤ laneCount lanes → (s.rd .FAB_NEIGH_LEARNED p = 1 → s.rd .FAB_NEIGH_COORD p = coord) →
          coord < 2 ^ fldWidth .FAB_NEIGH_COORD → Runs (.portTrainingComplete p lanes coord nport) s fun t =>
            t.portState p = (if laneCount lanes = 4 then 3 else 4) ∧ t.rd .FAB_STATUS_LANE_MASK p = lanes ∧
            t.rd .FAB_NEIGH_LEARNED p = 1 ∧ t.rd .FAB_NEIGH_COORD p = coord ∧ t.errq = s.errq ∧
            OnlyRegs [(.FAB_STATUS_STATE, p), (.FAB_STATUS_LANE_MASK, p), (.FAB_NEIGH_LEARNED, p), (.FAB_NEIGH_COORD, p),
              (.FAB_NEIGH_PORT, p)] s t))) ∧
    ∀ (s : State) (p lane replay : Nat), s.laneUsed p lane = true →
      ∀ q ∈ [(Instr.laneFail p lane replay, [(p, LinkOut.laneDrop lane)]), (Instr.laneDropNotice p lane replay, [])],
        let gone := (s.fab.drops.filter fun d => d.port == p).length
        let mask := s.rd .FAB_STATUS_LANE_MASK p
        (gone + 3 ≤ laneCount mask → Runs q.1 s fun t =>
          t.fab.drops = s.fab.drops ++ [⟨p, lane, if s.cyclesLeft < 512 then 2 else 1⟩] ∧ t.fab.out = s.fab.out ++ q.2 ∧
          Records s t .ERR_FAB_LANE ∧ OnlyRegs [(.ERRLOG_DROPPED_COUNT, 0)] s t) ∧
        (laneCount mask < gone + 3 → Runs q.1 s fun t => t.portState p = 0 ∧ t.rd .FAB_STATUS_LANE_MASK p = 0 ∧ t.rxOf p = [] ∧
          Counts .FAB_LINK_LOSS_COUNT ((s.rxOf p).length + replay) p s t ∧ t.fab.out = s.fab.out ++ q.2 ∧
          Records s t .ERR_FAB_PORT_DOWN ∧
          OnlyRegs [(.FAB_STATUS_STATE, p), (.FAB_STATUS_LANE_MASK, p), (.FAB_LINK_LOSS_COUNT, p), (.ERRLOG_DROPPED_COUNT, 0)] s t)

/-- An audit is counted, a balanced book records nothing, and one that does not balance is recorded, counted and marked FAILED. The model's own choices in it, which are no rule of the spec: log entry 61. -/
def Obligations.LedgerRecordsWhatDoesNotBalance : Prop :=
  (∀ s : State, Runs .ledgerAudit s fun t => t.rd .LED_STATUS_DONE = 1 ∧ Counts .LED_AUDITS_COUNT 1 0 s t ∧ t.fab = s.fab ∧
      OnlyRegs [(.LED_STATUS_DONE, 0), (.LED_AUDITS_COUNT, 0), (.LED_STATUS_FAILED, 0), (.LED_MISMATCHES_COUNT, 0),
        (.LED_LAST_DETAIL, 0), (.ERRLOG_DROPPED_COUNT, 0)] s t ∧
      ((∀ b ∈ s.fab.latch, b.sum % 2 ^ 32 = b.ref % 2 ^ 32) → t.errq = s.errq ∧
        OnlyRegs [(.LED_STATUS_DONE, 0), (.LED_AUDITS_COUNT, 0)] s t) ∧
      ∀ b, s.fab.latch = [b] → b.sum % 2 ^ 32 ≠ b.ref % 2 ^ 32 → Records s t .ERR_LEDGER_MISMATCH ∧
        Counts .LED_MISMATCHES_COUNT 1 0 s t ∧ t.rd .LED_LAST_DETAIL = b.sum % 2 ^ 32 + b.ref % 2 ^ 32 * 2 ^ 32 ∧
        t.rd .LED_STATUS_FAILED = (s.rd .LED_STATUS_FAILED ||| 2 ^ (b.book - 1)) % 2 ^ fldWidth .LED_STATUS_FAILED) ∧
    ∀ (s : State) (p : Nat) (rx cret occ : List Nat), tabGet false p s.fab.audited = true → s.portLive p = true →
      let sum := fun (v : Nat) (l : CreditLatch) => l.avail + (2 ^ 32 + l.tx - rx.getD v 0 % 2 ^ 32) % 2 ^ 32 + occ.getD v 0 +
        (2 ^ 32 + cret.getD v 0 - l.cretRx % 2 ^ 32) % 2 ^ 32
      ((∀ v < 4, ∀ l, tabGet none (p * 4 + v) s.fab.credit = some l → sum v l % 2 ^ 32 = l.limit) →
        exec (.ledgerAuditExchange p rx cret occ) s = .next s) ∧
      ∀ v < 4, ∀ l, tabGet none (p * 4 + v) s.fab.credit = some l → sum v l % 2 ^ 32 ≠ l.limit →
        (∀ u < 4, u ≠ v → ∀ k, tabGet none (p * 4 + u) s.fab.credit = some k → sum u k % 2 ^ 32 = k.limit) →
          Runs (.ledgerAuditExchange p rx cret occ) s fun t => Records s t .ERR_LEDGER_MISMATCH ∧
            Counts .LED_MISMATCHES_COUNT 1 0 s t ∧ t.rd .LED_STATUS_FAILED % 2 = 1 ∧
            OnlyRegs [(.LED_STATUS_FAILED, 0), (.LED_MISMATCHES_COUNT, 0), (.LED_LAST_DETAIL, 0), (.ERRLOG_DROPPED_COUNT, 0)] s t

/-! ### Reductions -/

/-- Bytes from an address on, as a list of stores. -/
def bytesAt (a : Nat) (bs : List Byte) : List (Nat × Byte) := bs.zipIdx.map fun q => (a + q.2, q.1)

/-- Half h may start record r at address a of its slot sl: it stands next in order, passes its checks, a place is free and its
wait is over. -/
def MayStartRed (s : State) (h : Nat) (sl : Slot) (a : Nat) (r : RedRec) : Prop :=
  let g := s.redHalf h
  s.slotNow (redEngine h) = some sl ∧ sl.kind = 3 ∧ (s.engine (redEngine h)).isOver = false ∧ sl.allStarted g.next = false ∧
    1 ≤ sl.records ∧ sl.records ≤ 1024 ∧ bitsOf sl.payload 4 0 = 0 ∧ s.badRecord (redEngine h) a r.bytes = none ∧
    a = (s.redAddrs sl).getD g.next 0 ∧ r = s.redRecAt a ∧ s.redRecOk sl.xmod r = true ∧ g.actives.length < 16 ∧
    (r.waitObj = 0 ∨ (s.engine (redEngine h)).wait = .released) ∧ g.run r.rid = none

/-- The accumulators of a record whose one entry is a local source. -/
def oneLocal (s : State) (r : RedRec) (v : Nat) : List Acc :=
  let es := s.localElems (entDesc v)
  if r.gf then foldGf (entCoef v) (List.replicate r.len 0) (es.map (·.bits))
  else (foldSum (List.replicate r.len 0) (es.map fun e => (s.desc (entDesc v)).ty.decode e.bits)).1

/-- The values delivered to a local destination, and the bytes that they write. -/
def oneOut (s : State) (r : RedRec) (acc : List Acc) : List (Nat × Byte) :=
  let d := s.desc r.outDesc
  let vals := acc.map fun a => if r.gf then a.toNat % 256 else (accRound fmt32 .rne 0 false 0 a).1
  unitBytesOf (s.windowUnits d ((d.window.zip vals).filterMap fun p =>
    let j := d.dims.map (d.local p.1)
    if s.validPos d j then some (j, p.2) else none))

/-- A reduction waits for its first source, folds a local one at once and stores its rounded result; a missing source is recorded. The model's own choices in it, which are no rule of the spec: log entries 60, 91. -/
def Obligations.ReductionsFoldDeliverAndAnswer : Prop :=
  (∀ (s : State) (h : Nat) (sl : Slot) (a : Nat) (r : RedRec), MayStartRed s h sl a r →
      let g := s.redHalf h
      let i := s.slotIdx (redEngine h)
      (entLocal (s.redEntry r 0) = false → Runs (.redRecordStart h) s fun t =>
          t.redHalf h = ⟨g.next + 1, g.runs.filter (fun x => x.rid != r.rid) ++
            [⟨r.rid, .active, i, g.next, a, r.deadline + 1, [], [], 0, List.replicate r.len 0, false, [], [], false⟩]⟩ ∧
          Counts .RED_EXPECTED_COUNT (redSources (s.redEntries r)) h s t ∧ t.sync = s.sync ∧ t.errq = s.errq ∧
          OnlyRegs [(.RED_EXPECTED_COUNT, h), (.RED_ABSENT_COUNT, h)] s t) ∧
        (r.ncon = 1 → entLocal (s.redEntry r 0) = true → r.isLocal = true →
          s.firstPoisoned (s.localBytes (entDesc (s.redEntry r 0))) = none →
          (s.setEngine (redEngine h) { s.engine (redEngine h) with wait := .none }).padWaits (redEngine h) i
            (s.touch (s.desc r.outDesc)) = false →
          let out := oneOut s r (oneLocal s r (s.redEntry r 0))
          Runs (.redRecordStart h) s fun t => StoredLast out s t ∧ StoresOnly (fun x => ∃ b, (x, b) ∈ out) s t ∧
            Counts .RED_FOLDED_COUNT 1 h s t ∧ Counts .RED_RECORDS_COUNT 1 h s t ∧
            t.sync.inflight = s.sync.inflight ++ (if r.sigObj = 0 then [] else
              [⟨r.sigObj, r.sigCount, .engine (redEngine h), true⟩]) ∧
            (∀ k, k ≠ h → t.redHalf k = s.redHalf k) ∧ SameTiles [] s t)) ∧
    (∀ (s : State) (q h : Nat) (m : Msg), s.peekRx q (fun m => m.kind == 5 && m.unit == h) = some m →
      s.chainOf (m.obj % 2 ^ 14) = none →
      (∀ run b, (s.redHalf h).run (m.obj % 2 ^ 14) = some run → run.phase = .staging →
        bitsOf m.obj 23 14 < (s.redRecAt run.addr).ncon →
        sourceOfRank (s.redEntry (s.redRecAt run.addr) (bitsOf m.obj 23 14)) (s.rankOfCoord m.src) = some b → run.taken = [] →
          let i := bitsOf m.obj 23 14
          let old := (run.source i b).getD ⟨i, b, [], none⟩
          let x : RedSource := { old with
            segs := tabPut m.index m.payload old.segs, last := if m.last then some (m.index, m.aux % 2 ^ 32) else old.last }
          Runs (.redPartReceive q h) s fun t =>
            (t.redHalf h).run run.rid = some { run with
              srcs := run.srcs.filter (fun y => !(y.entry == i && y.backup == b)) ++ [x] } ∧
            (x.whole = true → old.whole = false → Counts .RED_STAGED_COUNT 1 h s t) ∧
            (∀ k, k ≠ h → t.redHalf k = s.redHalf k) ∧ t.sync = s.sync ∧ SameMem s t ∧ SameTiles [] s t) ∧
      (∀ run, (s.redHalf h).run (m.obj % 2 ^ 14) = some run → run.phase = .cancelled → Runs (.redPartReceive q h) s fun t =>
        Counts .RED_LATE_COUNT 1 h s t ∧ t.red = s.red ∧ t.sync = s.sync ∧ SameMem s t ∧ SameTiles [] s t) ∧
      ((s.redHalf h).run (m.obj % 2 ^ 14) = none → s.redFrames h (m.obj % 2 ^ 14) = none →
        Runs (.redPartReceive q h) s fun t => ((∃ r ∈ t.errq, r.code = Err.ERR_RED_UNEXPECTED.code) ∨ 64 ≤ t.errq.length) ∧ t.red = s.red ∧
          t.sync = s.sync ∧ SameMem s t ∧ SameTiles [] s t) ∧
      ∀ run, (s.redHalf h).run (m.obj % 2 ^ 14) = some run → run.phase = .active →
        exec (.redPartReceive q h) s =
          .next (((s.popRx q fun m => m.kind == 5 && m.unit == h).ackPart m).partFor h run m)) ∧
    (∀ (s : State) (h : Nat) (run : RedRun), (s.redHalf h).runs = [run] → run.phase = .active → run.left = 0 →
      run.failed = false → run.folded = 0 → run.taken = [] → run.missing = [] → run.srcs = [] →
      (s.redRecAt run.addr).ncon = 1 → entLocal (s.redEntry (s.redRecAt run.addr) 0) = false →
        Runs (.redDeadline h) s fun t => Records s t .ERR_RED_MISSING ∧ (t.redHalf h).runs = [{ run with missing := [0] }] ∧
          t.sync = s.sync ∧ OnlyRegs [(.ERRLOG_DROPPED_COUNT, 0)] s t) ∧
    ∀ (s : State) (q h : Nat) (m : Msg) (run : RedRun), s.peekRx q (fun m => m.kind == 6) = some m → m.last = true →
      (h = 0 ∨ h = 1 ∧ s.ackedRun 0 m = none) → s.ackedRun h m = some run → run.nonfinite = [] →
        let r := s.redRecAt run.addr
        Runs (.redAckReceive q) s fun t =>
          (t.redHalf h).run run.rid = some { run with phase := .complete, acc := [], srcs := [] } ∧
          Counts .RED_RECORDS_COUNT 1 h s t ∧ t.errq = s.errq ∧
          t.sync.inflight = s.sync.inflight ++ (if r.sigObj = 0 then [] else
            [⟨r.sigObj, r.sigCount, .engine (redEngine h), true⟩]) ∧
          (∀ k, k ≠ h → t.redHalf k = s.redHalf k) ∧ SameMem s t ∧ SameTiles [] s t

/-! ### Sinter -/

/-- The n bytes from address a on lie in interleaved HBM. -/
def InHbm (a n : Nat) : Prop := a + n ≤ 0x00C000000000

/-- A DELTA or FRESH message is XORed into its own buffer and no other byte; a stale or misplaced one changes no byte. The model's own choices in it, which are no rule of the spec: log entries 52, 65. -/
def Obligations.ParityMessagesFoldByExclusiveOr : Prop :=
  (∀ (s : State) (q : Nat) (m : Msg) (fresh : Bool), s.peekRx q (sinMsg (b2n fresh)) = some m →
      (fresh = true → s.sin.drift = false) →
      let c := if fresh then Instr.sinterFreshReceive q else .sinterDeltaReceive q
      let lb := if fresh then 1 else s.pendBuf
      let b := if fresh then s.freshBuf else s.pendBuf
      (s.staleTag m.tag = true → Runs c s fun t => Counts .SIN_STALE_COUNT 1 0 s t ∧ t.sin.valid = s.sin.valid ∧ SameMem s t ∧
        SameTiles [] s t) ∧
      (s.staleTag m.tag = false → s.sinAccepts m = none → Runs c s fun t => Records s t .ERR_SINTER_MSG ∧ t.sin = s.sin ∧
        SameMem s t ∧ SameTiles [] s t) ∧
      ∀ gi g, s.staleTag m.tag = false → s.sinAccepts m = some (gi, g) → InHbm (s.areaAddr g b 0) (granBytes * g.len) →
        let a := s.areaAddr g b 0
        Runs c s fun t =>
          (∀ i < m.payload.length, t.ld (a + m.index + i) =
            (if s.granValid gi lb ((m.index + i) / granBytes) then s.ld (a + m.index + i) else 0) ^^^ m.payload.getD i 0) ∧
          (∀ i < m.payload.length, t.granValid gi lb ((m.index + i) / granBytes) = true) ∧
          (if fresh then tabGet 0 gi t.sin.gotFresh = tabGet 0 gi s.sin.gotFresh + 1
            else tabGet 0 gi t.sin.gotDelta = tabGet 0 gi s.sin.gotDelta + 1) ∧
          StoresOnly (fun x => ∃ i < m.payload.length, InRange (a + (m.index + i) / granBytes * granBytes) granBytes x) s t ∧
          t.errq = s.errq ∧ SameTiles [] s t) ∧
    (∀ (s : State) (gi n : Nat) (g : SinGroup), s.rd .SIN_STATUS_APPLYING = 1 → s.sin.drift = false →
      granuleAt (s.rd .SIN_APPLY_POS_GRANULE) s.sinGroups.zipIdx = some (gi, g, n) →
      InHbm (s.areaAddr g s.parityBuf n) granBytes → s.granTotal ≤ 2 ^ fldWidth .SIN_APPLY_POS_GRANULE →
        let a := s.areaAddr g s.parityBuf n
        let b := s.areaAddr g (5 - s.pendBuf) n
        let k := s.rd .SIN_APPLY_POS_GRANULE + 1
        (s.heldUp sinterRank (s.beatsOf granBytes a granBytes) = true → exec .parityApply s = .next s) ∧
        (s.heldUp sinterRank (s.beatsOf granBytes a granBytes) = false → Runs .parityApply s fun t =>
          (s.granValid gi (5 - s.pendBuf) n = true → ∀ i < granBytes, t.ld (a + i) = s.ld (a + i) ^^^ s.ld (b + i)) ∧
          StoresOnly (fun x => s.granValid gi (5 - s.pendBuf) n = true ∧ InRange a granBytes x) s t ∧
          t.rd .SIN_APPLY_POS_GRANULE = (if k < s.granTotal then k else 0) ∧
          t.rd .SIN_STATUS_APPLYING = (if k < s.granTotal then 1 else 0) ∧ t.errq = s.errq ∧ SameTiles [] s t ∧
          SameRegs [(.SIN_APPLY_POS_GRANULE, 0), (.SIN_STATUS_APPLYING, 0), (.RES_STARVE_GRANTS_COUNT, 0)] s t)) ∧
    (∀ (s : State) (q a : Nat) (m : Msg) (tb : SinTable), s.peekRx q recordMsg = some m → s.sin.restore = none →
      s.sin.table = some tb → s.staleTag m.tag = false →
      let r := s.rankOfCoord m.src
      s.recAddr r (1 - s.recCopy r) = some a → m.obj = r → m.index + m.payload.length ≤ tb.recBytes →
        let n := (tabGet (0, none) r s.sin.recParts).1 + m.payload.length
        let len := if m.last then some (m.index + m.payload.length) else (tabGet (0, none) r s.sin.recParts).2
        Runs (.sinterRecordReceive q) s fun t => StoredLast (bytesAt (a + m.index) m.payload) s t ∧
          StoresOnly (InRange (a + m.index) m.payload.length) s t ∧
          (len = some n → r ∈ t.sin.recGot) ∧
          (len ≠ some n → t.sin.recGot = s.sin.recGot ∧ tabGet (0, none) r t.sin.recParts = (n, len)) ∧ SameTiles [] s t) ∧
    ∀ (s : State) (q k : Nat) (m : Msg) (tb : SinTable), s.peekRx q recordAck = some m → s.sin.capture = some k →
      s.sin.table = some tb →
      let r := s.rankOfCoord m.src
      let k' := k ||| (if r = tb.holder0 then 1 else if r = tb.holder1 then 2 else 0)
      Runs (.sinterRecordAcknowledged q) s fun t => t.sin = { s.sin with capture := if k' = 3 then none else some k' } ∧
        (k' = 3 → (t.engine sinEngine).running = false) ∧ t.errq = s.errq ∧ SameMem s t ∧ SameTiles [] s t

/-- CAPTURE and RESECURE send to both holders; what a RESTORE target receives is written where it belongs and counted. The model's own choices in it, which are no rule of the spec: log entries 64, 66. -/
def Obligations.SinterSendsAndRestores : Prop :=
  (∀ (s : State) (sl : Slot) (tb : SinTable), s.sinSlot = some sl → s.sin.table = some tb → sl.action = 0 →
      s.sin.capture = none →
      ((s.hostAuth && s.authToken.isNone) = true → Runs .sinterCapture s fun t => Records s t .ERR_SINTER_CAPTURE ∧
        t.sin = { s.sin with captured := true } ∧ (t.engine sinEngine).running = false ∧ SameMem s t ∧ SameTiles [] s t) ∧
      ((s.hostAuth && s.authToken.isNone) = false → Runs .sinterCapture s fun t =>
        t.sin = { s.sin with captured := true, capture := some 0 } ∧
        Counts .SIN_SENT_COUNT (2 * (pieces granBytes s.stepRecord.length s.stepRecord).length) 0 s t ∧
        t.engines = s.engines ∧ SameMem s t ∧ SameTiles [] s t)) ∧
    (∀ (s : State) (sl : Slot), s.sinSlot = some sl → sl.action ≠ 0 →
      let n := bitsOf sl.payload 21 0
      Runs .sinterResecure s fun t => (t.engine sinEngine).running = false ∧ SameMem s t ∧ SameTiles [] s t ∧ t.sin = s.sin ∧
        ((sl.action ≠ 1 ∨ s.securing = false) → t.rd .SIN_SENT_COUNT = s.rd .SIN_SENT_COUNT ∧ t.fab = s.fab ∧ t.errq = s.errq) ∧
        ∀ g, sl.action = 1 → s.securing = true → s.sinGroups[bitsOf sl.payload 51 44]? = some g → 1 ≤ n →
          (∀ k < n, ∃ a, s.blockAddr g (bitsOf sl.payload 43 22 + k) = some a ∧
            s.firstPoisoned ((List.range granBytes).map fun i => a + i) = none) → Counts .SIN_SENT_COUNT (2 * n) 0 s t) ∧
    (∀ (s : State) (q gi : Nat) (m : Msg) (r : Restore) (g : SinGroup), s.peekRx q (sinMsg 3) = some m →
      s.sin.restore = some r → (s.sinGroups.zipIdx.find? fun p => p.1.id == m.obj) = some (g, gi) →
      ((r.needRebuild = 0 ∨ m.index % granBytes ≠ 0 ∨ g.len * granBytes < m.index + m.payload.length) →
        Runs (.sinterRebuildReceive q) s fun t => Records s t .ERR_SINTER_MSG ∧ t.sin = s.sin ∧ SameMem s t ∧ SameTiles [] s t) ∧
      ∀ a, 2 ≤ r.needRebuild → m.index % granBytes = 0 → m.index + m.payload.length ≤ g.len * granBytes →
        (if g.parity then a = s.areaAddr g s.parityBuf (m.index / granBytes)
          else s.blockAddr g (m.index / granBytes) = some a) →
          Runs (.sinterRebuildReceive q) s fun t => StoredLast (bytesAt a m.payload) s t ∧
            StoresOnly (InRange a m.payload.length) s t ∧ Counts .SIN_REBUILT_BYTES m.payload.length 0 s t ∧
            t.sin.restore = some { r with needRebuild := r.needRebuild - 1, written := r.written + m.payload.length } ∧
            t.errq = s.errq ∧ SameTiles [] s t) ∧
    ∀ (s : State) (q : Nat) (m : Msg) (r : Restore), s.peekRx q (sinMsg 4) = some m → s.sin.restore = some r →
      ((r.needCopy = 0 ∨ s.copyInside m = false) → Runs (.sinterCopyReceive q) s fun t => Records s t .ERR_SINTER_MSG ∧
        t.sin = s.sin ∧ SameMem s t ∧ SameTiles [] s t) ∧
      ∀ a, s.copyInside m = true → s.currentAddr m.obj m.aux = some a → m.payload.length < r.needCopy →
        Runs (.sinterCopyReceive q) s fun t => StoredLast (bytesAt a m.payload) s t ∧
          StoresOnly (InRange a m.payload.length) s t ∧ Counts .SIN_REBUILT_BYTES m.payload.length 0 s t ∧
          t.sin.restore = some { r with needCopy := r.needCopy - m.payload.length, written := r.written + m.payload.length } ∧
          t.errq = s.errq ∧ SameTiles [] s t

/-! ### Self-test and repair -/

/-- No physical tile's entry but those of a list differs. -/
def SamePts (l : List Nat) (s t : State) : Prop := ∀ p, p ∉ l → t.pt p = s.pt p

/-- A record of error e stands in a collector queue, or one that was full has lost it. -/
def RecordedOrFull (t : State) (e : Err) : Prop := (∃ r ∈ t.errq, r.code = e.code) ∨ 64 ≤ t.errq.length

/-- A slice takes a SPARE tile into SPARE_TEST and returns it to SPARE or FAILED; prefill, maps and lane repairs act on their own unit. The model's own choices in it, which are no rule of the spec: log entries 6, 67. -/
def Obligations.SelfTestMovesItsTile : Prop :=
  (∀ (s : State) (p k : Nat), s.rd .STR_CTRL_BIST_EN ≠ 0 → (s.pt p).state = .spare →
      Runs (.sliceStart p k false) s (fun t => (t.pt p).state = .spareTest ∧
        t.str.slices = s.str.slices ++ [⟨p, k, s.tb, (s.ptile p).rowmap, (s.ptile p).feedDly⟩] ∧
        t.ptile p = { Tile.reset with rowmap := (s.ptile p).rowmap, feedDly := (s.ptile p).feedDly } ∧
        tabGet none (clusterOfPt p) t.str.prefilled = none ∧ SamePts [p] s t ∧ SameTiles [p] s t ∧ SameMem s t ∧
        SameRegs [(.STR_SLICE_PTILE, 0), (.STR_SLICE_SLICE, 0)] s t) ∧
      Runs (.sliceStart p k true) s fun t => (t.pt p).state = .failed ∧ (t.pt p).tested = false ∧
        RecordedOrFull t .ERR_SCAN_CLEAR ∧ SamePts [p] s t ∧ OnlyRegs [(.STR_SLICE_PTILE, 0), (.STR_SLICE_SLICE, 0),
          (.ERRLOG_DROPPED_COUNT, 0)] s t) ∧
    (∀ (s : State) (p misr : Nat) (rows : Bool) (r : SliceRun), s.sliceOf p = some r →
      Runs (.sliceComplete p true misr rows) s (fun t => (t.pt p).state = .spare ∧
        (t.pt p).passed = (s.pt p).passed ||| 2 ^ r.slice ∧ t.str.result = (1, p, r.slice) ∧
        Counts .STR_SLICES_RUN_COUNT 1 0 s t ∧ t.errq = s.errq ∧ SamePts [p] s t ∧
        SameMem s t ∧ SameTiles [p] s t ∧ SameRegs [(.STR_SLICES_RUN_COUNT, 0)] s t) ∧
      Runs (.sliceComplete p false misr rows) s (fun t => (t.pt p).state = .failed ∧ (t.pt p).lastFail = r.slice ∧
        t.str.result = (2, p, r.slice) ∧ Counts .STR_SLICES_RUN_COUNT 1 0 s t ∧ SamePts [p] s t ∧ SameMem s t ∧
        SameTiles [p] s t ∧ RecordedOrFull t .ERR_BIST_FAIL) ∧
      Runs (.sliceBudgetExpire p) s fun t => (t.pt p).state = .failed ∧ (t.pt p).repairable = false ∧
        t.tb = max s.tb (r.since + sliceBudget) ∧ SamePts [p] s t ∧ SameMem s t ∧
        SameTiles [p] s t ∧ RecordedOrFull t .ERR_BIST_BUDGET) ∧
    (∀ (s : State) (p k : Nat), (s.pt p).state = .spare → Runs (.prefillStart p k) s fun t => t.str.prefill = some (p, k) ∧
      t.str.prefillDone = false ∧ SamePts [] s t ∧ OnlyRegs [(.STR_PREFILL_PTILE, 0), (.STR_PREFILL_POS, 0)] s t) ∧
    (∀ (s : State) (p k : Nat), s.str.prefill = some (p, k) → (s.pt p).state = .spare →
      let u := tileOfPos (clusterOfPt p) k
      Runs .prefillComplete s fun t => t.str.prefillDone = true ∧ t.str.prefill = none ∧
        tabGet none (clusterOfPt p) t.str.prefilled = some k ∧
        (∀ j < s.residentBytes u, memGet t.mem (ocCell p 0 + j) = s.ld (s.rd .VE_RES_SRC_ADDR u + j)) ∧
        (∀ a, (a < ocCell p 0 ∨ ocCell p 0 + s.residentBytes u ≤ a) → memGet t.mem a = memGet s.mem a) ∧
        (∀ a, memGet t.hostMem a = memGet s.hostMem a) ∧ SameTiles [] s t ∧ SameRegs [] s t) ∧
    (∀ (s : State) (p dly m : Nat), (s.sliceOf p).isSome = true → Runs (.rowmapWrite p dly m) s fun t =>
      t.ptile p = { s.ptile p with rowmap := m, feedDly := dly } ∧ SameTiles [p] s t ∧ SameMem s t ∧ t.str = s.str ∧
        SameRegs [(.STR_ROWMAP_WR_PTILE, 0), (.STR_ROWMAP_WR_DLY, 0), (.STR_ROWMAP_WR_ROWMAP, 0)] s t) ∧
    (∀ (s : State) (p : Nat), s.spareLaneFree p = true → Runs (.spareLaneTest p true) s fun t =>
      t.str = { s.str with spareBad := s.str.spareBad ||| 2 ^ p } ∧ t.spareLaneFree p = false ∧ Records s t .ERR_SPARE_LANE_BAD ∧
        OnlyRegs [(.ERRLOG_DROPPED_COUNT, 0)] s t) ∧
    (∀ (s : State) (p l : Nat), tabGet false (p * 4 + l) s.str.laneTest = true → s.spareLaneFree p = true →
      Runs (.droppedLaneTestEnd p l true) s fun t => tabGet false (p * 4 + l) t.str.laneTest = false ∧
        tabGet none p t.str.laneRepair = some l ∧ bitOf t.str.spareUsed p = true ∧ OnlyRegs [] s t) ∧
    ∀ (s : State) (p l : Nat), tabGet none p s.str.laneRepair = some l → Runs (.laneRepairTrained p) s fun t =>
      t.str.laneAdd = s.str.laneAdd ++ [(p, l, if s.cyclesLeft < 512 then 2 else 1)] ∧ tabGet none p t.str.laneRepair = none ∧
        Records s t .ERR_LANE_REPAIRED ∧ OnlyRegs [(.ERRLOG_DROPPED_COUNT, 0)] s t

/-! ### Time base, ticks and power -/

/-- A tick runs to a state of which P holds, whereupon register and memory accesses that were held for a takeover go on where it has
taken effect; where none was held that state is the next one. -/
def RunsTick (c : Instr) (s : State) (P : State → Prop) : Prop :=
  ∃ m, exec c s = .next m.releaseHeld ∧ (s.bus.held = [] → exec c s = .next m) ∧ P m

/-- A probe's report is kept by port, a rejected parent is left, PPS edges qualify in the window, and holdover is entered and ends on time. The model's own choices in it, which are no rule of the spec: log entries 11, 25, 26, 87, 88, 89, 96. -/
def Obligations.TimeBaseFollowsItsReference : Prop :=
  (∀ (s : State) (p hops b : Nat) (anc : Bool) (off : Int), (s.portLive p && s.inGuard) = false →
      exec (.timeProbe p hops anc b off) s = .next s) ∧
    (∀ (s : State) (p hops b : Nat) (anc : Bool) (off : Int), s.portLive p = true → s.inGuard = true →
      let old := (s.reportOf p).getD ⟨63, false, 15, 0, 0, 0⟩
      (s.parentPort ≠ some p → Runs (.timeProbe p hops anc b off) s fun t =>
        t.reportOf p = some ⟨hops, anc, b, off, 0, old.barredUntil⟩ ∧ (∀ q, q ≠ p → t.reportOf q = s.reportOf q) ∧
          t.time.state = s.time.state ∧ t.errq = s.errq ∧ OnlyRegs [] s t) ∧
      (s.parentPort = some p → Runs (.timeProbe p hops anc b off) s fun t =>
        t.reportOf p = some ⟨hops, anc, b, off, if s.time.state = .locked ∧ s.misaligned off = true then old.isOver + 1 else 0,
          old.barredUntil⟩ ∧ t.rd .GEY_PARENT_OFFSET_PS_OFFSET = ofSigned 32 off ∧
          t.time.state = (if s.time.state = .locking ∧ s.misaligned off = false then .locked else s.time.state) ∧
          t.errq = s.errq ∧ OnlyRegs [(.GEY_PARENT_OFFSET_PS_OFFSET, 0), (.GEY_FREQ_ADJ_PPB_ADJ, 0)] s t)) ∧
    (∀ (s : State) (p : Nat) (r : Neighbour), s.parentPort = some p → s.reportOf p = some r → 3 ≤ r.isOver →
      Runs .timeAlignReject s fun t => t.parentPort ≠ some p ∧
        t.reportOf p = some { r with isOver := 0, barredUntil := tbPerSec + s.tb } ∧ RecordedOrFull t .ERR_TIME_ALIGN ∧
        OnlyRegs [(.GEY_TIME_PARENT_PORT, 0), (.GEY_TIME_PARENT_HOPS, 0), (.ERRLOG_DROPPED_COUNT, 0)] s t) ∧
    (∀ s : State, s.rd .GEY_CTRL_PPS_IN_EN ≠ 0 →
      Runs .ppsInEdge s fun t => t.rd .GEY_PPS_OFFSET_PS_OFFSET = ofSigned 32 s.ppsOffset ∧
        (s.ppsOffset.natAbs ≤ s.rd .GEY_PPS_WINDOW_NS_WINDOW * 1000 → t.time.accepted = s.time.accepted + 1 ∧
          t.time.outside = [] ∧ t.time.lastAccepted = some s.tb ∧ t.errq = s.errq ∧
          (2 ≤ s.time.accepted → t.rd .GEY_STATUS_PPS_QUALIFIED = 1)) ∧
        (s.rd .GEY_PPS_WINDOW_NS_WINDOW * 1000 < s.ppsOffset.natAbs → t.time.accepted = 0 ∧ t.time.state = s.time.state ∧
          t.time.lastAccepted = s.time.lastAccepted ∧ t.rd .GEY_STATUS_PPS_QUALIFIED = s.rd .GEY_STATUS_PPS_QUALIFIED) ∧
        OnlyRegs [(.GEY_PPS_OFFSET_PS_OFFSET, 0), (.GEY_STATUS_PPS_QUALIFIED, 0), (.GEY_FREQ_ADJ_PPB_ADJ, 0),
          (.ERRLOG_DROPPED_COUNT, 0)] s t) ∧
    (∀ s : State, s.rd .GEY_CTRL_PPS_OUT_EN ≠ 0 → Runs .ppsOutEdge s fun t =>
      t.tb = (if s.time.ppsOut = s.second then (s.second + 1) * tbPerSec else s.tb) ∧ t.time.ppsOut = t.second ∧
        t.errq = s.errq ∧ OnlyRegsInTime [] s t) ∧
    (∀ (s : State) (a : Nat), s.time.lastAccepted = some a → s.time.role = .anchor →
      s.time.state ≠ .holdover → s.time.state ≠ .holdoverExpired → Runs .holdoverEnter s fun t =>
        t.time.state = .holdover ∧ t.time.accepted = 0 ∧ t.time.holdoverFrom = t.tb ∧
        t.tb = max s.tb (tbPerSec + a + s.rd .GEY_PPS_WINDOW_NS_WINDOW * tbPerNs) ∧ t.rd .GEY_STATUS_PPS_QUALIFIED = 0 ∧
        Records s t .ERR_PPS_LOST ∧ OnlyRegsInTime [(.GEY_STATUS_PPS_QUALIFIED, 0), (.ERRLOG_DROPPED_COUNT, 0)] s t) ∧
    ∀ s : State, s.time.state = .holdover → Runs .holdoverExpire s fun t => t.time.state = .holdoverExpired ∧
      t.tb = max s.tb (s.time.holdoverFrom + 60 * tbPerSec) ∧ Records s t .ERR_HOLDOVER_EXPIRED ∧
      OnlyRegsInTime [(.ERRLOG_DROPPED_COUNT, 0)] s t

/-- At the epoch the program starts; a later tick ends an interval, advances one program frame or, after an overrun, runs nothing. The model's own choices in it, which are no rule of the spec: log entries 1, 27, 30, 31, 86, 91. -/
def Obligations.TicksAdvanceJoinOrIdle : Prop :=
  (∀ (s : State) (p : ProgHeader), s.prog = some p → s.seqRun.aborts = [] →
      (s.seq = .armed → s.fills = [] → RunsTick (.geyserTick [] []) s fun t => t.seq = .running ∧ t.seqRun.live = true ∧
        t.frameCount = 0 ∧ t.frameCycle = 0 ∧ t.rd .GEY_PROG_FRAME_INDEX = 0 ∧ t.tb = max s.tb (s.tickTime 0)) ∧
      (s.seq = .running →
        let n := s.frameCount + 1
        (s.seqRun.live = true → s.seqRun.intervals = 1 → s.opNow < s.baseOp → RunsTick (.geyserTick [] []) s fun t =>
          t.seq = .running ∧ t.frameCount = n % 2 ^ 64 ∧ t.seqRun.intervals = 2 ∧ t.engines = s.engines ∧
            t.rd .GEY_PROG_FRAME_INDEX = s.rd .GEY_PROG_FRAME_INDEX ∧ Counts .GEY_JOIN_TICKS_COUNT 1 0 s t ∧
            t.rd .GEY_IDLE_TICKS_COUNT = s.rd .GEY_IDLE_TICKS_COUNT ∧ t.tb = max s.tb (s.tickTime n)) ∧
        (∀ f, s.joins s.opNow = false → (∀ q ∈ s.engines, q.2.running = false) → s.step.commitStart = none →
          s.pwr.decision = none → s.pwr.level = 0 → s.rd .PWR_STATUS_DIL = 0 → s.capForced = false → s.inAlert = false →
          s.nextFrame p (s.rd .GEY_PROG_FRAME_INDEX) = some f → f < 2 ^ 16 → RunsTick (.geyserTick [] []) s fun t =>
            t.seq = .running ∧ t.frameCount = n % 2 ^ 64 ∧ t.frameCycle = 0 ∧ t.rd .GEY_PROG_FRAME_INDEX = f ∧
            t.seqRun.live = true ∧ t.seqRun.intervals = 1 ∧ t.rd .GEY_IDLE_TICKS_COUNT = s.rd .GEY_IDLE_TICKS_COUNT ∧
            t.tb = max s.tb (s.tickTime n)) ∧
        (s.joins s.opNow = false → (∃ q ∈ s.engines, q.2.running = true ∧ q.2.overrun = false) →
          s.seqRun.restart ≠ some n → RunsTick (.geyserTick [] []) s fun t =>
            t.seq = .haltStep ∧ t.frameCount = n % 2 ^ 64 ∧ t.seqRun.live = false ∧ Counts .GEY_IDLE_TICKS_COUNT 1 0 s t ∧
            t.rd .GEY_PROG_FRAME_INDEX = s.rd .GEY_PROG_FRAME_INDEX))) ∧
    (∀ s : State, s.seqFree = true ∨ (s.seq = .armed ∧ (s.tb / idlePeriod + 1) * idlePeriod < s.epoch) →
      RunsTick (.idleTick []) s fun t => t.tb = (s.tb / idlePeriod + 1) * idlePeriod ∧ t.seq = s.seq ∧
        t.frameCount = (s.tb / idlePeriod + 1) % 2 ^ 64 ∧ t.frameCycle = 0 ∧ Counts .GEY_IDLE_TICKS_COUNT 1 0 s t ∧
        SameMem s t) ∧
    ∀ (s : State) (e : Nat) (sl : Slot), (s.engine e).slots[(s.engine e).idx]? = some sl → s.slotReady e = true →
      (s.slotBounds (s.engine e).slots (s.engine e).idx sl = true → s.cyclesLeft < sl.start - s.frameCycle →
        exec (.slotStart e) s = .next s) ∧
      (s.slotBounds (s.engine e).slots (s.engine e).idx sl = true → sl.start - s.frameCycle ≤ s.cyclesLeft →
        let E : EngineRun := { s.engine e with running := true, isOver := false, wait := .none }
        exec (.slotStart e) s = .next (((s.advanceTo sl.start).setEngine e E).startKind e sl) ∧
        ((sl.kind = 4 ∨ (sl.kind = 1 ∧ 0x100 ≤ e ∧ e < 0x120) ∨
            (sl.kind = 3 ∧ (e = 0x120 ∨ e = 0x121))) → Runs (.slotStart e) s fun t => t.engine e = E ∧
          t.frameCycle = max s.frameCycle sl.start ∧ (∀ d, d ≠ e → t.engine d = s.engine d) ∧ t.errq = s.errq ∧ OnlyRegsInTime [] s t) ∧
        (sl.kind = 0 → e < 256 → bitsOf sl.payload 21 4 * 16 < 0x300000 → (s.veOf e).halted = false →
          Runs (.slotStart e) s fun t => t.engine e = E ∧ (t.veOf e).pc = bitsOf sl.payload 21 4 ∧
            (t.veOf e).ended = false ∧ t.tile e = (s.tile e).setSr 31 (BitVec.ofNat 64 (bitsOf sl.payload 63 32)) ∧
            SameMem s t ∧ SameTiles [s.physOf e] s t ∧ ∀ f i, f ≠ .VE_STALL_CYC_COUNT → t.rd f i = s.rd f i)) ∧
      (s.slotBounds (s.engine e).slots (s.engine e).idx sl = false → Runs (.slotStart e) s fun t =>
        t.engine e = { s.engine e with idx := (s.engine e).idx + 1 } ∧ Records s t .ERR_SLOT_BOUNDS ∧
          t.seq = (if s.seq = .running then .haltStep else s.seq) ∧ OnlyRegs [(.ERRLOG_DROPPED_COUNT, 0)] s t)

/-- Samples add energy, alerts latch and fall to OP0, droop costs a cycle, and pace messages combine to one decision. The model's own choices in it, which are no rule of the spec: log entries 10, 27, 68, 69. -/
def Obligations.PowerFollowsSamplesAlertsAndRounds : Prop :=
  (∀ (s : State) (h : Nat), Runs (.droopSkip h) s (fun t => t.frameCycle = max s.frameCycle 1 + 1 ∧
        Counts .GEY_SKIP_TOTAL_COUNT 1 0 s t ∧ tabGet 0 h t.pwr.skips = tabGet 0 h s.pwr.skips + 1 ∧ t.errq = s.errq ∧
        OnlyRegsInTime [(.GEY_SKIP_TOTAL_COUNT, 0)] s t) ∧
      (8 ≤ tabGet 0 h s.pwr.heavy → tabGet false h s.pwr.heavyNoted = false → Runs (.droopHeavy h) s fun t =>
        tabGet false h t.pwr.heavyNoted = true ∧ Records s t .ERR_DROOP_HEAVY ∧ OnlyRegs [(.ERRLOG_DROPPED_COUNT, 0)] s t)) ∧
    (∀ (s : State) (level : Nat), s.wf → 3 ≤ s.powerState →
      let lv := level % 16 + bitsOf (s.rd .PWR_ALERT_LEVEL) 4 4 * 16
      let old := s.rd .PWR_ALERT_LATCH
      Runs (.powerAlert level) s fun t => t.rd .GLB_SIDEBAND_PWR_ALERT_N = 1 - level % 2 ∧ t.rd .PWR_ALERT_LEVEL = lv ∧
        t.rd .PWR_ALERT_LATCH = old ||| lv ∧
        (old = 0 → lv ≠ 0 → t.pwr.hold0 = true ∧ (16 ≤ s.cyclesLeft → t.opNow = 0) ∧ (s.cyclesLeft < 16 → t.pwr.fall = true)) ∧
        ((∀ k < 5, bitOf lv k = true → bitOf old k = true) → t.errq = s.errq ∧ t.opNow = s.opNow ∧ t.pwr = s.pwr) ∧
        SameMem s t ∧ SameTiles [] s t) ∧
    (∀ s : State, 2 ≤ s.pwr.isOver → s.capForced = false → Runs .capForced s fun t => t.capForced = true ∧ t.pwr.within = false ∧
      Records s t .ERR_CAP_FORCED ∧ OnlyRegs [(.PWR_STATUS_CAP_FORCED, 0), (.ERRLOG_DROPPED_COUNT, 0)] s t) ∧
    (∀ (s : State) (mv ma a b : Nat), Runs (.energySample mv ma a b) s fun t =>
      Counts .PWR_ENERGY_NJ_COUNT ((mv * ma + s.pwr.rest) / 25000) 0 s t ∧ t.pwr.rest = (mv * ma + s.pwr.rest) % 25000 ∧
        t.tb = max s.tb (s.pwr.lastSample + sampleTime) ∧ t.pwr.lastSample = t.tb ∧ t.errq = s.errq ∧
        OnlyRegsInTime [(.PWR_ENERGY_NJ_COUNT, 0), (.PWR_FRAME_ENERGY_NJ_ENERGY, 0), (.PWR_FRAME_CORE_UJ_DIE_A, 0),
          (.PWR_FRAME_CORE_UJ_DIE_B, 0)] s t) ∧
    (∀ (s : State) (p : Nat) (m : Msg) (r : PaceRound), s.peekRx p (paceMsg 1) = some m → s.pwr.round = some r →
      let mine := bitOf s.sync.barChildren p = true ∧ bitOf r.children p = false ∧ m.index = r.tick % 2 ^ 32 ∧ r.reported = false
      let r' : PaceRound := { r with
        children := r.children ||| 2 ^ p, op := min r.op (m.aux % 8), level := max r.level (bitsOf m.aux 7 4) }
      (¬ mine → Runs (.paceReport p) s fun t => t.pwr = s.pwr ∧ SameMem s t ∧ SameTiles [] s t) ∧
      (mine → r'.children ≠ s.sync.barChildren → Runs (.paceReport p) s fun t => t.pwr = { s.pwr with round := some r' } ∧
        SameMem s t ∧ SameTiles [] s t) ∧
      (mine → r'.children = s.sync.barChildren → Runs (.paceReport p) s fun t =>
        t.pwr.round = some { r' with reported := true } ∧
        (s.sync.barParent = 0xFF → s.frameCount + 1 < r.tick → t.pwr.decision = some ⟨r.tick, r'.op, r'.level⟩) ∧
        (s.sync.barParent = 0xFF → r.tick ≤ s.frameCount + 1 → t.pwr.decision = s.pwr.decision ∧
          Records s t .ERR_PACE_WITHHELD) ∧ SameMem s t ∧ SameTiles [] s t)) ∧
    ∀ (s : State) (p : Nat) (m : Msg), s.peekRx p (paceMsg 2) = some m →
      (p ≠ s.sync.barParent → Runs (.paceDecision p) s fun t => t.pwr = s.pwr ∧ t.errq = s.errq ∧ SameMem s t ∧ SameTiles [] s t) ∧
      (∀ n, p = s.sync.barParent → s.paceTick m.index = some n → Runs (.paceDecision p) s fun t =>
        t.pwr = { s.pwr with decision := some ⟨n, m.aux % 8, bitsOf m.aux 7 4⟩ } ∧ SameMem s t ∧ SameTiles [] s t) ∧
      (p = s.sync.barParent → s.paceTick m.index = none → Runs (.paceDecision p) s fun t => t.pwr = s.pwr ∧
        Records s t .ERR_PACE_LATE ∧ SameMem s t ∧ SameTiles [] s t)

/-! ### The Fumarole island -/

/-- A sample moves its channel by the median filter and counts its rules; a held rule fires; records wait until every destination has them. The model's own choices in it, which are no rule of the spec: log entry 70. -/
def Obligations.IslandSamplesFiresAndReports : Prop :=
  (∀ (s : State) (c raw : Nat), s.powerState ≠ 0 → c < chanCount → c ≠ 19 → raw < 2 ^ 16 →
      let x : Int := if isTemp c then toSigned 16 raw else (raw : Int)
      Runs (.sensorSample [(c, raw)]) s fun t => t.rd .FUM_VAL_RAW c = raw ∧ t.rd .FUM_VAL_FILT c = t.chanFilt c ∧
        ((s.chan c).samples = [] → t.chan c = ⟨List.replicate 5 x, toSigned 32 (ofSigned 32 (x * 65536))⟩) ∧
        ((s.chan c).samples ≠ [] → t.chan c = ⟨(x :: (s.chan c).samples).take 5,
          filterStep (s.rd .FUM_FILT_K c) (s.chan c).y (medianOf ((x :: (s.chan c).samples).take 5))⟩) ∧
        (∀ d, d ≠ c → t.chan d = s.chan d) ∧
        (∀ r ∈ ruleKeys, c ∈ s.ruleChans r → (t.ruleRun r).count =
          (if s.ruleOn r = true ∧ (∃ d ∈ s.ruleChans r, t.ruleMeets r d = true) then min 255 ((s.ruleRun r).count + 1) else 0)) ∧
        (∀ r ∈ ruleKeys, c ∉ s.ruleChans r → t.ruleRun r = s.ruleRun r) ∧ SameMem s t ∧ SameTiles [] s t) ∧
    (∀ (s : State) (r : Nat), r ∈ ruleKeys → s.powerState ≠ 0 → (s.ruleRun r).active = false → s.ruleOn r = true →
      s.ruleHold r ≤ (s.ruleRun r).count →
        (bitOf (s.ruleActions r) 4 = false → bitOf (s.ruleActions r) 5 = false → Runs (.fumaroleRuleFire r) s fun t =>
          (t.ruleRun r).active = true ∧ (∀ q, q ≠ r → t.ruleRun q = s.ruleRun q) ∧
          (r < 32 → t.rd .FUM_RULE_STAT_ACTIVE r = 1 ∧ Counts .FUM_RULE_STAT_HITS 1 r s t) ∧
          (bitOf (s.ruleActions r) 0 = true → RecordedOrFull t .ERR_RULE_HIT) ∧ t.powerState = s.powerState ∧
          SameMem s t ∧ SameTiles [] s t) ∧
        (bitOf (s.ruleActions r) 4 = true → Runs (.fumaroleRuleFire r) s fun t => t.powerState = 1 ∧
          t.rd .FUM_STATUS_DOWN_CAUSE = r ∧ t.seq = .empty ∧ t.prog = none ∧ t.allocs = [] ∧
          (bitOf (s.ruleActions r) 0 = true → RecordedOrFull t .ERR_RULE_HIT) ∧ (∀ a, memGet t.hostMem a = memGet s.hostMem a))) ∧
    (∀ s : State, s.powerState ≠ 0 → s.rd .FUM_REC_CTRL_SENSOR_PERIOD ≠ 0 → s.fum.recs.length + 3 ≤ recBufferSize →
      Runs .sensorSnapshot s fun t => (∃ l, t.fum.recs = s.fum.recs ++ l ∧ l.map (fun r => (r.typ, r.sub, r.stamp)) =
          [(2, 0, t.tb), (2, 1, t.tb), (2, 2, t.tb)]) ∧
        t.tb = max s.tb (s.fum.snapLast + s.rd .FUM_REC_CTRL_SENSOR_PERIOD * 10000000 * tbPerNs) ∧ t.fum.snapLast = t.tb ∧
        t.rd .FUM_REC_SEQ_SEQ = (s.rd .FUM_REC_SEQ_SEQ + 3) % 2 ^ 32 ∧ t.errq = s.errq ∧
        OnlyRegsInTime [(.FUM_REC_SEQ_SEQ, 0)] s t) ∧
    ∀ s : State, s.powerState = 3 → s.fum.rank = none →
      (s.fum.ring = none → exec .telemetryDeliver s = .next s) ∧
      ∀ base n, s.fum.ring = some (base, n) → (∀ r ∈ s.fum.recs, r.toRing = true ∧ s.ringRoom n r.seq = true) →
        Runs .telemetryDeliver s fun t => t.fum.recs = [] ∧
          StoredLast (s.fum.recs.flatMap fun r => bytesAt (base + r.seq % n * 64) r.bytes) s t ∧
          StoresOnly (fun a => ∃ r ∈ s.fum.recs, InRange (base + r.seq % n * 64) r.bytes.length a) s t ∧
          t.errq = s.errq ∧ SameTiles [] s t ∧ SameRegs [] s t

/-! ### The mailbox, the error log and the control processors -/

/-- The engine takes the entry at the head, checks it once, and posts the oldest finished response to the entry at the tail. The model's own choices in it, which are no rule of the spec: log entries 12, 32, 71. -/
def Obligations.MailboxRingsMoveInOrder : Prop :=
  (∀ (s : State) (b : Bool), Runs (.mbxEnableWrite b) s fun t => t.rd .MBX_CTRL_ENABLE = b2n b ∧ t.mbx = s.mbx ∧
      OnlyRegs [(.MBX_CTRL_ENABLE, 0)] s t) ∧
    (∀ (s : State) (n : Nat),
      let used := (2 ^ 32 + n - s.rd .MBX_CMD_HEAD_COUNT) % 2 ^ 32
      (used ≤ s.ringSize .MBX_CMD_SIZE_LOG2 → Runs (.mbxCmdTailWrite n) s fun t => t.rd .MBX_CMD_TAIL_COUNT = n % 2 ^ 32 ∧
        t.errq = s.errq ∧ OnlyRegs [(.MBX_CMD_TAIL_COUNT, 0)] s t) ∧
      (s.ringSize .MBX_CMD_SIZE_LOG2 < used → Runs (.mbxCmdTailWrite n) s fun t => Records s t .ERR_MBX_RING ∧
        OnlyRegs [(.ERRLOG_DROPPED_COUNT, 0)] s t)) ∧
    (∀ s : State, s.mayFetch = true →
      let h := s.rd .MBX_CMD_HEAD_COUNT
      let bs := hostRead s.hostMem (s.rd .MBX_CMD_BASE_ADDR + h % s.ringSize .MBX_CMD_SIZE_LOG2 * 256) 256
      let e := cmdEntryOf bs
      Runs .mbxFetch s fun t => t.rd .MBX_CMD_HEAD_COUNT = (h + 1) % 2 ^ 32 ∧
        (s.fetchError bs false = none → t.mbx = { s.mbx with
          cmds := s.mbx.cmds ++ [⟨e.tag, e.op, bitOf e.flags 0, false, false, false⟩] } ∧ t.errq = s.errq) ∧
        (∀ x, s.fetchError bs false = some x → Records s t x ∧ Counts .MBX_ERR_COUNT 1 0 s t ∧ t.mbx = { s.mbx with
          finished := s.mbx.finished ++ [⟨e.op, 1, e.tag, x.code, 0, s.tb, false⟩] }) ∧
        OnlyRegs [(.MBX_CMD_HEAD_COUNT, 0), (.MBX_ERR_COUNT, 0), (.ERRLOG_DROPPED_COUNT, 0)] s t) ∧
    (∀ (s : State) (bs : List Byte), s.powerState ≠ 0 →
      let e := cmdEntryOf bs
      Runs (.mctpMessage bs) s fun t =>
        (s.fetchError bs true = none → t.mbx = { s.mbx with
          cmds := s.mbx.cmds ++ [⟨e.tag, e.op, bitOf e.flags 0, false, true, false⟩] } ∧ t.errq = s.errq) ∧
        (∀ x, s.fetchError bs true = some x → Records s t x ∧ Counts .MBX_ERR_COUNT 1 0 s t ∧ t.mbx = { s.mbx with
          smbusOut := s.mbx.smbusOut ++ [⟨e.op, 1, e.tag, x.code, 0, s.tb, true⟩] } ∧ bitOf (t.rd .GLB_ALERT_PEND) 1 = true) ∧
        OnlyRegs [(.MBX_ERR_COUNT, 0), (.GLB_ALERT_PEND, 0), (.ERRLOG_DROPPED_COUNT, 0)] s t) ∧
    (∀ (s : State) (r : Response) (l : List Response), s.mbx.finished = r :: l → s.rd .MBX_CTRL_ENABLE = 1 →
      let a := s.rd .MBX_RSP_BASE_ADDR + s.rd .MBX_RSP_TAIL_COUNT % s.ringSize .MBX_RSP_SIZE_LOG2 * 64
      (s.rspRoom = true → Runs .mbxResponsePost s fun t => (∀ i < 64, memGet t.hostMem (a + i) = r.bytes.getD i 0) ∧
        (∀ x, (x < a ∨ a + 64 ≤ x) → memGet t.hostMem x = memGet s.hostMem x) ∧ (∀ x, memGet t.mem x = memGet s.mem x) ∧
        t.mbx.finished = l ∧ t.rd .MBX_RSP_TAIL_COUNT = (s.rd .MBX_RSP_TAIL_COUNT + 1) % 2 ^ 32 ∧ t.errq = s.errq ∧
        SameTiles [] s t ∧ SameRegs [(.MBX_RSP_TAIL_COUNT, 0)] s t) ∧
      (s.rspRoom = false → s.mbx.full = true → exec .mbxResponsePost s = .next s) ∧
      (s.rspRoom = false → s.mbx.full = false → Runs .mbxResponsePost s fun t => t.mbx = { s.mbx with full := true } ∧
        Records s t .ERR_MBX_RSP_FULL ∧ OnlyRegs [(.ERRLOG_DROPPED_COUNT, 0)] s t)) ∧
    (∀ (s : State) (v : Nat), tabGet false v s.mbx.irqHeld = true → s.rd .MBX_IRQ_EN v = 1 →
      Runs (.msixModerationEnd v) s fun t => tabGet 0 v t.mbx.raised = tabGet 0 v s.mbx.raised + 1 ∧
        tabGet false v t.mbx.irqHeld = false ∧ t.tb = max s.tb (tabGet 0 v s.mbx.irqUntil) ∧
        (∀ w, w ≠ v → tabGet 0 w t.mbx.raised = tabGet 0 w s.mbx.raised) ∧ OnlyRegsInTime [] s t) ∧
    ∀ s : State, (s.alertLow = true → Runs .smbusAlertResponse s fun t => t.alertLow = false ∧
        t.start = { s.start with alertQuiet := true } ∧ OnlyRegs [] s t) ∧
      ∀ a, s.powerState ≠ 0 → Runs (.smbusArp a) s fun t => t.start = { s.start with smbAddr := a } ∧ OnlyRegs [] s t

/-- The oldest record is written to the log's next place; a kicked island runs on, an expired one resets, and boot starts the islands. The model's own choices in it, which are no rule of the spec: log entries 52, 73, 75, 78, 94. -/
def Obligations.ErrorsReachTheLogAndIslandsBoot : Prop :=
  (∀ (s : State) (r : ErrRec), s.hbmReady = true → oldestErr s.errq = some r →
      s.rd .ERRLOG_PROD_COUNT < s.rd .ERRLOG_CONS_COUNT + logSize →
      let a := s.logNext
      let l := s.beatsOf 32 a 32
      (s.heldUp mailboxRank l = true → Runs .errlogWrite s fun t => t.errq = s.errq ∧
        t.tb = max s.tb (r.stamp + 2000 * tbPerNs) ∧ OnlyRegsInTime [] s t) ∧
      (s.heldUp mailboxRank l = false → Runs .errlogWrite s fun t => t.ldBytes a 32 = r.bytes ∧ StoresOnly (InRange a 32) s t ∧
        t.errq = dropFirst (fun x => decide (x = r)) s.errq ∧ t.rd .ERRLOG_PROD_COUNT = (s.rd .ERRLOG_PROD_COUNT + 1) % 2 ^ 64 ∧
        t.rd .ERRLOG_WORST_SEVERITY = max (s.rd .ERRLOG_WORST_SEVERITY) r.severity % 8 ∧
        t.tb = max s.tb (r.stamp + 2000 * tbPerNs) ∧ SameTiles [] s t ∧
        ∀ f i, (f, i) ∉ [(Fld.ERRLOG_PROD_COUNT, 0), (.ERRLOG_WORST_SEVERITY, 0), (.GLB_ALERT_PEND, 0),
          (.RES_STARVE_GRANTS_COUNT, 0)] → f ≠ .VE_STALL_CYC_COUNT → t.rd f i = s.rd f i)) ∧
    (∀ (s : State) (h : Nat), s.cpRuns h = true →
      Runs (.cpKickWrite h) s (fun t => tabGet 0 h t.cp.kicked = s.tb ∧ t.mbx = s.mbx ∧
        (let due := decide (s.cpPrimary = h ∧ s.mbxState = 1 ∧ s.rd .GLB_STARTUP_STEP = 7)
         let f := s.flashSlot (s.rd .CP_BOOT_SLOT)
         (due = false → OnlyRegs [] s t) ∧
         (due = true → t.mbxState = 2 ∧ t.rd .MBX_STATUS_MAJOR = f.field 4 1 ∧ t.rd .MBX_STATUS_MINOR = f.field 5 1 ∧
           OnlyRegs [(.MBX_STATUS_STATE, 0), (.MBX_STATUS_MAJOR, 0), (.MBX_STATUS_MINOR, 0)] s t))) ∧
      ((s.cp.expiries.filter fun e => e.1 == h) = [] → h < 2 → Runs (.watchdogExpire h) s fun t =>
        t.tb = max s.tb (tabGet 0 h s.cp.kicked + s.rd .CP_WDOG_MS_PERIOD * 1000000 * tbPerNs) ∧ t.rd (cpStateFld h) = 0 ∧
        t.cp.expiries = s.cp.expiries ++ [(h, t.tb)] ∧
        Counts (if h = 0 then .CP_WDOG_EXPIRED_DIE_A else .CP_WDOG_EXPIRED_DIE_B) 1 0 s t ∧
        RecordedOrFull t .ERR_CP_WDOG ∧
        (s.cpPrimary = h → t.cpPrimary = 1 - h ∧ Counts .CP_TAKEOVERS_COUNT 1 0 s t ∧
          (s.cpRuns (1 - h) = false → t.mbxState = 1)) ∧
        (s.cpPrimary ≠ h → t.cpPrimary = s.cpPrimary ∧ t.mbx = s.mbx) ∧ SameMem s t ∧ SameTiles [] s t)) ∧
    (∀ (s : State) (ok : Bool), s.start.coresUp = true → s.rd .CP_STATUS_STATE_A < 2 → s.rd .CP_STATUS_STATE_B < 2 →
      s.cp.directory < 2 →
      Runs (.controlIslandBoot ok) s fun t => SameMem s t ∧ SameTiles [] s t ∧
        ((s.flashSlot s.cp.directory).firstFail s.svn = none →
          t.rd .CP_STATUS_STATE_A = 2 ∧ t.rd .CP_STATUS_STATE_B = (if ok then 2 else 3) ∧ t.rd .CP_BOOT_SLOT = s.cp.directory ∧
          t.rd .CP_BOOT_FAILED = 0 ∧ tabGet 0 0 t.cp.kicked = s.tb ∧
          (let f := s.flashSlot s.cp.directory
           t.rd .MBX_STATUS_MAJOR = f.field 4 1 ∧ t.rd .MBX_STATUS_MINOR = f.field 5 1 ∧
            tabGet CpCore.reset 0 t.cp.cores = ⟨(f.body.take (f.field 0x10 4)).take cpSramBytes, f.field 0x14 4⟩) ∧
          (s.rd .GLB_STARTUP_STEP = 4 → t.rd .GLB_STARTUP_STEP = (if s.start.waking then 6 else 5))) ∧
        ((∀ k < 2, ((s.flashSlot k).firstFail s.svn).isSome = true) →
          t.rd .CP_BOOT_SLOT = 3 ∧ t.rd .CP_BOOT_FAILED = 3 ∧ RecordedOrFull t .ERR_BOOT_FAIL ∧
          (s.rd .GLB_STARTUP_STEP = 4 → t.mbxState = 3) ∧ t.rd .CP_STATUS_STATE_A = s.rd .CP_STATUS_STATE_A)) ∧
    (∀ (s : State) (n : Nat), s.powerState ≠ 0 → n ≠ s.start.slotPins → Runs (.slotIdChange n) s fun t =>
      t.start.slotPins = n ∧ t.rd .GLB_STRAPS_CHANGED = 1 ∧ Records s t .ERR_STRAP_CHANGE ∧
        bitOf (t.rd .GLB_ALERT_PEND) 3 = true ∧
        OnlyRegs [(.GLB_STRAPS_CHANGED, 0), (.GLB_ALERT_PEND, 0), (.ERRLOG_DROPPED_COUNT, 0)] s t) ∧
    ∀ (s : State) (h c : Nat), s.powerState = 3 → Runs (.jtagInstructionLoad h c) s fun t =>
      tabGet jtagIdcode h t.start.jtag =
        (if jtagAlways c = true ∨ jtagMaint c = true ∧ s.rd .STR_CTRL_MAINT = 1 then c else 0xFF) ∧
        (c = 0x10 → s.rd .STR_CTRL_MAINT = 1 → tabGet false h t.str.keysCleared = true) ∧
        (jtagMaint c = true → s.rd .STR_CTRL_MAINT ≠ 1 → Records s t .ERR_JTAG_STATE) ∧
        OnlyRegs [(.ERRLOG_DROPPED_COUNT, 0)] s t

/-! ### Power and start-up -/

/-- Removed power leaves reset values, applied power STANDBY; start-up settles stage after stage, trains memory, and becomes READY and ACTIVE. The model's own choices in it, which are no rule of the spec: log entry 74. -/
def Obligations.StartupRunsItsSteps : Prop :=
  (∀ s : State, Runs .powerRemoved s fun t => t.powerState = 0 ∧ t.mbxState = 0 ∧ t.seq = .empty ∧ t.prog = none ∧
      (∀ a, memGet t.mem a = memDefault ∧ memGet t.hostMem a = memGet s.hostMem a) ∧ t.pending = s.pending ∧
      t.str.fuses = s.str.fuses ∧ (∀ f i, (f, i) ∉ [(Fld.FUM_STATUS_STATE, 0), (.MBX_STATUS_STATE, 0)] → t.rd f i = fldReset f i)) ∧
    (∀ (s : State) (slot : Nat) (perst : Bool), s.powerState = 0 → slot < 64 → Runs (.powerApplied slot perst) s fun t =>
      t.powerState = 1 ∧ t.rd .GLB_STARTUP_STEP = 1 ∧ t.rd .GLB_STRAPS_SLOT_ID = slot ∧ t.rd .GLB_SIDEBAND_PERST_N = b2n perst ∧
        t.start.slotPins = slot ∧ t.start.fresh = true ∧ t.pending = s.pending ∧
        (∀ f i, (f, i) ∉ [(Fld.GLB_STRAPS_SLOT_ID, 0), (.GLB_SIDEBAND_PERST_N, 0), (.CP_BOOT_SVN_FUSED, 0)] →
          t.rd f i = fldReset f i)) ∧
    (∀ s : State, s.start.fresh = true → s.start.stage = none → (s.powerState = 1 ∧ s.anyActs 4 = false ∨ s.powerState = 4) →
      Runs .startupRails s fun t => t.powerState = 4 ∧ t.rd .GLB_STARTUP_STEP = 2 ∧ t.start.stage = some 0 ∧ t.start.fresh = false ∧
        t.rd .FUM_STATUS_WAKE_CAUSE = (if s.powerState = 1 then 8 else s.rd .FUM_STATUS_WAKE_CAUSE % 16) ∧ t.tb = s.tb ∧
        SameMem s t ∧ SameTiles [] s t) ∧
    (∀ (s : State) (k : Nat) (bad : List Nat), s.start.stage = some k →
      (k < 7 → Runs (.railStageSettled bad) s fun t => t.start = { s.start with stage := some (k + 1), stageSince := s.tb } ∧
        OnlyRegs [] s t) ∧
      (7 ≤ k → Runs (.railStageSettled bad) s fun t => t.start.stage = none ∧ t.start.coresUp = true ∧
        t.start.haUp = (s.rd .GLB_SIDEBAND_PERST_N == 1) ∧ t.rd .GLB_STARTUP_STEP = 4 ∧ t.opNow = 0 ∧
        t.rd .CP_STATUS_STATE_A = 1 ∧ t.rd .CP_STATUS_STATE_B = 1 ∧ t.mbxState = 1 ∧ SameMem s t) ∧
      ∀ second, k < 8 → s.powerState ≠ 0 → Runs (.railSettleTimeout second) s fun t => t.powerState = 1 ∧
        t.rd .FUM_STATUS_DOWN_CAUSE = 0xA0 + k ∧ RecordedOrFull t .ERR_RAIL_FAIL ∧ t.start.stage = none ∧
        t.tb = max s.tb (s.start.stageSince + 5000000 * tbPerNs) ∧ (∀ a, memGet t.hostMem a = memGet s.hostMem a)) ∧
    (∀ (s : State) (bad : List Nat) (fails : List (Nat × Nat × Nat)), s.rd .GLB_STARTUP_STEP = 5 →
      Runs (.startupMemoryDone bad fails) s fun t => t.rd .GLB_STARTUP_STEP = 6 ∧ t.hbmReady = true ∧ t.start.hbmBad = bad ∧
        t.poison = [] ∧ (∀ a, memGet t.mem a = memDefault ∧ memGet t.hostMem a = memGet s.hostMem a)) ∧
    (∀ s : State, s.rd .GLB_STARTUP_STEP = 6 → ∀ c, c = (if s.start.waking then Instr.wakeComplete else .startupReady) →
      Runs c s fun t => t.rd .GLB_STARTUP_STEP = 7 ∧ t.mbxState = 2 ∧ t.start.waking = false ∧
        t.powerState = (if s.powerState = 4 then 3 else s.powerState) ∧ SameMem s t ∧ SameTiles [] s t) ∧
    (∀ s : State, s.start.inputDown = true → s.powerState = 1 → s.anyActs 4 = false →
      let recent := s.start.restarts.filter fun t => decide (s.tb < 60 * tbPerSec + t)
      (recent.length < 3 → Runs .brownoutRestart s fun t => t.powerState = 4 ∧ t.rd .GLB_STARTUP_STEP = 2 ∧
        t.start.stage = some 0 ∧ t.start.restarts = recent ++ [s.tb] ∧ Counts .GLB_STARTUP_RESTARTS 1 0 s t ∧ SameMem s t ∧
        SameTiles [] s t) ∧
      (3 ≤ recent.length → Runs .brownoutRestart s fun t => t.powerState = 1 ∧ t.start = { s.start with inputDown := false } ∧
        Records s t .ERR_BROWNOUT_HOLD ∧ OnlyRegs [(.ERRLOG_DROPPED_COUNT, 0)] s t)) ∧
    ∀ (s : State) (due : Nat) (bad : List Nat), s.start.coreDue = some due → Runs (.moduleCoreResetEffect bad) s fun t =>
      t.tb = max s.tb due ∧ t.start.coreDue = none ∧ t.start.coresUp = true ∧ t.seq = .empty ∧ t.prog = none ∧ t.fab.job = none ∧
        t.rd .GLB_STARTUP_STEP = 4 ∧ t.mbxState = 1 ∧ t.powerState = s.powerState ∧ (∀ a, memGet t.mem a = memDefault)

/-- A reset of the host adapter empties the rings and leaves MBX_STATUS BOOTING; the link's events show its state. The model's own choices in it, which are no rule of the spec: log entry 75. -/
def Obligations.HostLinkAndAdapterResets : Prop :=
  (∀ (s : State) (c : HaReset), c ≠ .scheduled → s.start.haUp = true → Runs (.hostAdapterReset c) s fun t =>
      t.rd .MBX_CTRL_ENABLE = 0 ∧ t.rd .HA_STATUS_LINK_UP = 0 ∧ t.mbx.finished = [] ∧
        t.mbx.lostTags = s.mbx.lostTags ++ s.mbx.finished.map (fun r => r.tag) ∧
        t.rd .MBX_RSP_LOST_COUNT = s.mbx.finished.length % 2 ^ 32 ∧
        (∀ x ∈ t.mbx.cmds, x.smbus = true ∨ x.lost = true) ∧ t.mbx.cmds.map (fun x => x.tag) = s.mbx.cmds.map (fun x => x.tag) ∧
        t.mbxState = 1 ∧ t.rd .MBX_STATUS_MAJOR = 0 ∧ t.rd .MBX_STATUS_MINOR = 0 ∧ t.start.haUp = (c != .perst) ∧ (c = .perst → t.rd .GLB_SIDEBAND_PERST_N = 0) ∧
        SameMem s t ∧ SameTiles [] s t) ∧
    (∀ (s : State) (due : Nat), s.start.haDue = some due → Runs (.hostAdapterReset .scheduled) s fun t =>
      t.tb = max s.tb due ∧ t.start.haDue = none ∧ t.rd .MBX_CTRL_ENABLE = 0 ∧ t.mbx.finished = [] ∧
        t.mbxState = 1 ∧ (∀ a, memGet t.mem a = memGet s.mem a) ∧ SameTiles [] s t) ∧
    (∀ (s : State) (speed width : Nat) (flit l0p : Bool), s.start.haUp = true → speed < 8 → width < 32 →
      (speed ≠ 0 → Runs (.pcieLinkEvent speed width flit l0p) s fun t => t.rd .HA_STATUS_LINK_UP = 1 ∧
        t.rd .HA_STATUS_SPEED = speed ∧ t.rd .HA_STATUS_WIDTH = width ∧ t.rd .HA_STATUS_FLIT = b2n flit ∧
        t.rd .HA_STATUS_L0P = b2n l0p ∧
        (s.rd .HA_STATUS_LINK_UP = 1 → (s.rd .HA_STATUS_SPEED ≠ speed ∨ s.rd .HA_STATUS_WIDTH ≠ width) →
          Records s t .ERR_PCIE_LINK ∧ Counts .HA_LINK_EVENTS_CHANGES 1 0 s t) ∧
        ((s.rd .HA_STATUS_LINK_UP = 1 → s.rd .HA_STATUS_SPEED = speed ∧ s.rd .HA_STATUS_WIDTH = width) → t.errq = s.errq) ∧
        OnlyRegs [(.HA_STATUS_LINK_UP, 0), (.HA_STATUS_SPEED, 0), (.HA_STATUS_WIDTH, 0), (.HA_STATUS_FLIT, 0), (.HA_STATUS_L0P, 0),
          (.HA_LINK_EVENTS_CHANGES, 0), (.GLB_SIDEBAND_WAKE_LOW, 0), (.ERRLOG_DROPPED_COUNT, 0)] s t) ∧
      (speed = 0 → s.rd .HA_STATUS_LINK_UP = 1 → Runs (.pcieLinkEvent speed width flit l0p) s fun t =>
        t.rd .HA_STATUS_LINK_UP = 0 ∧ t.rd .HA_LINK_EVENTS_DOWNS = 1 ∧ t.rd .MBX_CTRL_ENABLE = 0 ∧ RecordedOrFull t .ERR_PCIE_LINK ∧
          t.mbxState = 1 ∧ SameMem s t ∧ SameTiles [] s t)) ∧
    ∀ (s : State) (perst : Bool), s.powerState ≠ 0 →
      ((perst = false → s.powerState ≠ 2) → s.wakeAllowed 0 = false → Runs (.pcieLinkRequest perst) s fun t =>
        (perst = true → t.rd .GLB_SIDEBAND_PERST_N = 1 ∧ (s.start.coresUp = true → t.start.haUp = true)) ∧
          t.powerState = s.powerState ∧ OnlyRegs [(.GLB_SIDEBAND_PERST_N, 0)] s t) ∧
      ((perst = true ∨ s.powerState = 2) → s.wakeAllowed 0 = true → Runs (.pcieLinkRequest perst) s fun t =>
        t.powerState = 4 ∧ t.rd .FUM_STATUS_WAKE_CAUSE = 1 ∧ (perst = true → t.rd .GLB_SIDEBAND_PERST_N = 1) ∧
          t.start.waking = (s.powerState == 2) ∧ SameMem s t)

/-! ### Mailbox commands -/

/-- The turn of a mailbox command has come and its meaning serves it. -/
def MayServe (s : State) (op tag : Nat) : Prop := s.turnOf op tag = true ∧ s.service op = .run

/-- The command has ended OK with a result: its response joins the finished ones, or goes out over SMBus, or is discarded and
counted where the ring was reset under the command. -/
def Answered (op tag r : Nat) (s t : State) : Prop :=
  let c := s.cmdOf op tag
  let a : Response := ⟨op, 0, tag, 0, r % 2 ^ 256, s.tb, c.smbus⟩
  t.mbx.cmds = s.mbx.cmds.filter (fun x => x.tag != tag) ∧
    (c.lost = true → t.mbx.finished = s.mbx.finished) ∧
    (c.lost = false → c.smbus = true → t.mbx.smbusOut = s.mbx.smbusOut ++ [a] ∧ t.mbx.finished = s.mbx.finished) ∧
    (c.lost = false → c.smbus = false → t.mbx.finished = s.mbx.finished ++ [a])

/-- The command goes on: it stands started, and has no response yet. -/
def GoesOn (tag : Nat) (s t : State) : Prop :=
  (∃ c ∈ t.mbx.cmds, c.tag = tag ∧ c.started = true) ∧ t.mbx.finished = s.mbx.finished

/-- Served, the command ends OK with result r in a state of which P holds. -/
def Serves (c : Instr) (op tag : Nat) (s : State) (r : Nat) (P : State → Prop) : Prop :=
  MayServe s op tag → Runs c s fun t => Answered op tag r s t ∧ P t

/-- The register fields that a response touches. -/
def answerFlds : List (Fld × Nat) := [(.GLB_ALERT_PEND, 0), (.MBX_RSP_LOST_COUNT, 0)]

/-- A register field holds a value, cut to its width. -/
def Shows (t : State) (f : Fld) (i v : Nat) : Prop := t.rd f i = v % 2 ^ fldWidth f

/-- Served with good arguments, the commands that allocate, describe, configure, join and report do so and answer OK with their result. The model's own choices in it, which are no rule of the spec: log entries 15, 32, 44, 45, 52, 71, 72, 77. -/
def Obligations.ServedCommandsAllocateAndReport : Prop :=
  (∀ (s : State) (tag b : Nat) (a : AllocArgs), s.allocError a = none → s.allocBase a = some b →
      Serves (.alloc tag a.handle a.kind a.place a.bytes a.symmetric a.paged) 0x10 tag s b fun t =>
        t.allocs = s.allocs ++ [⟨a.handle, a.kind, a.place, b, a.bytes, a.symmetric, a.paged⟩] ∧ SameMem s t ∧ SameTiles [] s t ∧
          (a.kind ≠ 4 → SameRegs answerFlds s t) ∧
          (a.kind = 4 → ∀ j < atuEntries a.bytes, t.rd .HA_ATU_VALID ((b - hostWindow) / 0x10000000 + j) = 1 ∧
            Shows t .HA_ATU_HOST_BASE ((b - hostWindow) / 0x10000000 + j) ((a.place + j * 0x10000000) / 4096))) ∧
    (∀ (s : State) (tag h : Nat) (l : Alloc), s.allocOf h = some l → s.allocInUse l = false →
      Serves (.free tag false h) 0x11 tag s 0 fun t => t.allocs = s.allocs.filter (fun x => x.handle != h) ∧ SameMem s t ∧
        SameTiles [] s t ∧ (l.kind ≠ 4 → SameRegs answerFlds s t) ∧
        (l.kind = 4 → ∀ j < atuEntries l.size, t.rd .HA_ATU_VALID ((l.base - hostWindow) / 0x10000000 + j) = 0)) ∧
    (∀ (s : State) (tag id : Nat), s.descLive id = true → s.descInUse id = false →
      Serves (.free tag true id) 0x11 tag s 0 fun t => t.descs = s.descs.filter (fun i => i != id) ∧ OnlyRegs answerFlds s t) ∧
    (∀ (s : State) (tag id : Nat) (bs : List Byte), bs.length = 128 → s.descValidate id (leNat bs) = none →
      let c := descCheck (leNat bs)
      Serves (.descCreate tag id bs) 0x12 tag s c fun t => t.descs = s.descs ++ [id] ∧
        t.descRaw id = (leNat bs + c * 2 ^ (8 * 0x7A)) % 2 ^ 1024 ∧ StoresOnly (InRange (descTable + id * 128) 128) s t ∧
        SameTiles [] s t ∧ SameRegs answerFlds s t) ∧
    (∀ (s : State) (tag : Nat) (bs : List Byte),
      let f := byteField (leNat bs)
      s.seqFree = true → policyFormOk (leNat bs) = true → s.coordRefused (f 6 2) = false →
      s.statTableOk (f 0x10 4) (f 0x14 2) (f 0x18 8) = true →
      Serves (.policyLoad tag bs) 0x02 tag s 0 fun t => t.policy.salt = f 8 8 ∧ t.policy.statHandle = f 0x10 4 ∧
        t.policy.statSlots = f 0x14 2 ∧ (∀ l, s.allocOf (f 0x10 4) = some l → t.policy.statBase = l.base + f 0x18 8) ∧
        (60 ≤ f 0x42 2 → f 0x42 2 ≤ 900 → t.policy.secureS = f 0x42 2) ∧ t.policy.sliceGapMs = f 0x44 2 ∧
        (f 6 2 ≠ 0xFFFF → t.rd .FAB_COORD_VALID = 1 ∧ t.rd .FAB_COORD_COORD = f 6 2) ∧
        Shows t .PWR_PACE_ROUND_ROUND 0 (s.rangeValue .PWR_PACE_ROUND_ROUND (f 0x46 2)) ∧
        (∀ p < 272, (s.pt p).state = .active → (t.ptile p).salt = f 8 8) ∧ SameMem s t) ∧
    (∀ (s : State) (tag h off n : Nat) (fr cycle : Bool) (l : Alloc), s.seq = .empty → s.start.hbmBad = [] → s.rd .STR_CTRL_MAINT ≠ 1 →
      s.allocOf h = some l → l.kind < 2 → off + 64 ≤ l.size →
      let j := s.jobTable (l.base + off)
      j.ok (s.rd .FAB_COORD_COORD) = true →
      (cycle = true → MayServe s 0x32 tag → Runs (.paceGroupJoin tag h off ⟨fr, cycle, n⟩) s fun t => RecordedOrFull t .ERR_FAB_ROUTE ∧
        t.fab = s.fab ∧ SameMem s t ∧ SameTiles [] s t) ∧
      (cycle = false → crowded j.size n = true → MayServe s 0x32 tag → Runs (.paceGroupJoin tag h off ⟨fr, cycle, n⟩) s fun t =>
        RecordedOrFull t .ERR_PACE_MODE ∧ t.fab = s.fab ∧ SameMem s t ∧ SameTiles [] s t) ∧
      (cycle = false → crowded j.size n = false →
      Serves (.paceGroupJoin tag h off ⟨fr, cycle, n⟩) 0x32 tag s 0 fun t => t.fab.job = some ⟨h, j.rankMap, j.routes, fr⟩ ∧
        Shows t .FAB_JOB_SIZE_SIZE 0 j.size ∧ Shows t .FAB_JOB_RANK_RANK 0 j.rank ∧ Shows t .FAB_JOB_ID_ID 0 j.id ∧
        t.rd .PWR_STATUS_FREE_RUN = b2n fr ∧ t.seq = s.seq ∧ SameMem s t ∧ SameTiles [] s t)) ∧
    (∀ (s : State) (tag : Nat), s.seqFree = true → s.fab.job.isSome = true →
      Serves (.paceGroupLeave tag) 0x32 tag s 0 fun t => t.fab.job = none ∧ t.rd .FAB_JOB_SIZE_SIZE = 0 ∧ t.seq = .empty ∧
        t.prog = none ∧ (∀ i, t.sync.cnt i = s.sync.cnt i) ∧ SameMem s t ∧ SameTiles [] s t) ∧
    (∀ (s : State) (tag h off : Nat) (nonce : Option (List Byte)), (nonce = none ∨ s.hasKey = true) →
      (s.powerState < 3 → Serves (.deviceInfo tag h off nonce) 0x01 tag s 0 fun t => OnlyRegs answerFlds s t) ∧
      ∀ a, 3 ≤ s.powerState → s.buffer h off (s.infoBytes nonce).length = some a →
        s.bufferHeld h off (s.infoBytes nonce).length = false →
        Serves (.deviceInfo tag h off nonce) 0x01 tag s (s.infoBytes nonce).length fun t =>
          StoresOnly (InRange a (s.infoBytes nonce).length) s t ∧
          ((∀ x, InRange a (s.infoBytes nonce).length x → s.discards (s.cpPrimary + 1) x = none) →
            StoredLast (bytesAt a (s.infoBytes nonce)) s t)) ∧
    (∀ (s : State) (tag : Nat), Serves (.timeStatus tag) 0x03 tag s
      (stampOf s.tb + s.time.state.code * 2 ^ 96 + s.rd .GEY_TIME_PARENT_HOPS * 2 ^ 104 + s.rd .GEY_PARENT_OFFSET_PS_OFFSET * 2 ^ 112)
      fun t => t.tb = s.tb ∧ t.time = s.time ∧ OnlyRegs answerFlds s t) ∧
    (∀ (s : State) (tag first n h off a : Nat),
      let lo := max first (s.rd .ERRLOG_PROD_COUNT - logSize)
      let k := min n (s.rd .ERRLOG_PROD_COUNT - lo)
      n ≤ logSize → s.buffer h off (32 * k) = some a → s.bufferHeld h off (32 * k) = false →
      Serves (.errlogRead tag first n h off false) 0x04 tag s (lo + k + k * 2 ^ 64 + s.rd .ERRLOG_LOST_COUNT * 2 ^ 96) fun t =>
        StoresOnly (InRange a (32 * k)) s t ∧ ((∀ x, InRange a (32 * k) x → s.discards (s.cpPrimary + 1) x = none) →
          StoredLast (bytesAt a ((List.range k).flatMap fun i => s.ldBytes (logBase + (lo + i) % logSize * 32) 32)) s t)) ∧
    (∀ (s : State) (tag first n h off a : Nat),
      let l := (s.cp.history.drop first).take n
      let m := 32 * min n (s.cp.history.length - first)
      n ≤ logSize → s.buffer h off m = some a → s.bufferHeld h off m = false →
      Serves (.errlogRead tag first n h off true) 0x04 tag s
        (first + l.length + l.length * 2 ^ 64 + s.rd .ERRLOG_LOST_COUNT * 2 ^ 96) fun t =>
        StoresOnly (InRange a (l.flatMap id).length) s t ∧
          ((∀ x, InRange a (l.flatMap id).length x → s.discards (s.cpPrimary + 1) x = none) → StoredLast (bytesAt a (l.flatMap id)) s t)) ∧
    (∀ (s : State) (tag w : Nat), Serves (.setCap tag w) 0x30 tag s (clampNat 600 3200 w) fun t =>
      t.rd .PWR_CAP_W_CAP = clampNat 600 3200 w ∧ (clampNat 600 3200 w = w → t.errq = s.errq) ∧
        (clampNat 600 3200 w ≠ w → Records s t .ERR_CAP_CLAMP) ∧
        OnlyRegs ([(.PWR_CAP_W_CAP, 0), (.ERRLOG_DROPPED_COUNT, 0)] ++ answerFlds) s t) ∧
    (∀ (s : State) (tag op : Nat), op ≤ 6 → Serves (.setFixedOp tag op) 0x31 tag s 0 fun t => t.rd .PWR_FIXED_OP_OP = op ∧
      t.errq = s.errq ∧ OnlyRegs ([(.PWR_FIXED_OP_OP, 0)] ++ answerFlds) s t) ∧
    ∀ (s : State) (tag h off n rank : Nat), (rank = 0xFFFF ∨ rank < s.rd .FAB_JOB_SIZE_SIZE) → ∀ ring,
      (h = 0 ∧ s.allocOf 0 = none ∧ ring = none ∨
        ∃ l, s.allocOf h = some l ∧ l.kind = 4 ∧ 1 ≤ n ∧ off + 64 * n ≤ l.size ∧ ring = some (l.base + off, n)) →
      Serves (.telemetrySubscribe tag h off n rank) 0x33 tag s 0 fun t =>
        t.fum = { s.fum with ring := ring, rank := if rank = 0xFFFF then none else some rank } ∧ OnlyRegs answerFlds s t

/-- The vote judges the step once; a good program loads and starts; authorisations, catch-up, aborts, securing and restore act as asked. The model's own choices in it, which are no rule of the spec: log entries 28, 29, 53, 54, 63, 66, 72, 90. -/
def Obligations.ServedCommandsRunTheStep : Prop :=
  (∀ (s : State) (T : StepTable), s.step.table = some T → s.step.commitStart.isSome = true → s.step.voted = false →
      let u := s.sinCountCheck
      Runs .commitVote s fun t => t.step = { s.step with voted := true } ∧ Shows t .STEP_NORM_VALUE 0 (s.normValue T) ∧
        t.rd .STEP_STATUS_RELEASED = 0 ∧ t.rd .STEP_STATUS_ARRIVED = b2n (u.voteCause T).isNone ∧
        (u.voteCause T = none → t.rd .STEP_STATUS_CAUSE = 0 ∧ t.sync.issued = s.sync.issued + 1 ∧
          t.sync.inflight = s.sync.inflight ++ [⟨T.voteBar, 1, .engine stepEngine, true⟩]) ∧
        (∀ k e d, u.voteCause T = some (k, e, d) → t.rd .STEP_STATUS_CAUSE = k ∧ t.sync = s.sync ∧
          ∀ x, e = some x → RecordedOrFull t x) ∧
        t.frameCycle = max s.frameCycle T.voteCycle ∧ SameMem s t ∧ SameTiles [] s t) ∧
    (∀ (s : State) (tag h img sy st si pw cm : Nat) (l : Alloc),
      let a : ProgArgs := ⟨h, img, sy, st, si, pw, cm⟩
      let u := (s.startCmd 0x20 tag).unloadProgram.dropPrefills
      let p := u.progFile a l
      s.seqFree = true → s.start.hbmBad = [] → s.rd .STR_CTRL_MAINT ≠ 1 → s.allocOf h = some l → img + 64 ≤ l.size →
      u.planFail a p = none →
      Serves (.programLoad tag h img sy st si pw cm) 0x20 tag s 0 fun t => t.seq = .loaded ∧ t.prog = some p.head ∧
        t.step.table = (if st = 0 then none else some (u.stepTableAt p.alloc st)) ∧
        t.sin.table = (if si = 0 then none else some (u.sinTableAt p.head p.alloc si)) ∧
        t.sync.decls = (u.syncOf p.alloc sy).decls ∧ (∀ i, t.sync.cnt i = s.sync.cnt i) ∧ t.str.prefilled = [] ∧
        Shows t .GEY_FRAME_PERIOD_NS_PERIOD 0 p.head.period ∧ Shows t .PWR_FIXED_OP_OP 0 p.head.baseOp ∧
        (∀ i < 256, t.rd .VE_CTRL_ACC_WINDOW i = b2n (bitOf cm i)) ∧ SameMem s t ∧ SameTiles [] s t) ∧
    (∀ (s : State) (tag epoch : Nat) (p : ProgHeader), s.startError epoch = none → s.prog = some p →
      Serves (.programStart tag epoch) 0x21 tag s 0 fun t => t.seq = .armed ∧ t.prog = some p ∧ t.bodies = 0 ∧
        Shows t .GEY_EPOCH_STAMP_LO 0 epoch ∧ Shows t .GEY_EPOCH_HI_STAMP_HI 0 (epoch / 2 ^ 64) ∧
        Shows t .GEY_STEP_COUNT_STEP 0 p.stepStart ∧ t.rd .PWR_STATUS_DIL = 0 ∧ t.pwr.level = 0 ∧
        (∀ d ∈ s.sync.decls, d.kind = 0 → t.sync.bas d.id = s.sync.cnt d.id) ∧ (∀ i, t.sync.cnt i = s.sync.cnt i) ∧
        SameMem s t ∧ SameTiles [] s t) ∧
    (∀ (s : State) (tag step token d : Nat), stepAhead step (s.rd .GEY_STEP_COUNT_STEP) = some d → d ≤ 15 →
      (s.step.auth.any fun p => p.1 == step) = false → s.step.auth.length < 16 →
      let q := if s.hostAuth then s.step.auth ++ [(step, token)] else s.step.auth
      Serves (.stepCommit tag step token) 0x22 tag s q.length fun t => t.step = { s.step with auth := q } ∧
        t.rd .STEP_AUTH_QUEUED = q.length ∧ t.errq = s.errq ∧ OnlyRegs ([(.STEP_AUTH_QUEUED, 0)] ++ answerFlds) s t) ∧
    (∀ (s : State) (tag : Nat), s.seq = .haltStep → s.rd .STEP_STATUS_ARRIVED = 1 → s.rd .STEP_STATUS_RETAINED = 1 →
      let q := s.step.auth.filter fun p => p.1 != s.rd .GEY_STEP_COUNT_STEP
      Serves (.stepCommitCatchup tag) 0x22 tag s q.length fun t => t.step.auth = q ∧
        t.rd .GEY_STEP_COUNT_STEP = (s.rd .GEY_STEP_COUNT_STEP + 1) % 2 ^ 32 ∧ t.rd .STEP_STATUS_RETAINED = 0 ∧
        Shows t .STEP_STATUS_CUR_PAGE 0 (1 - s.rd .STEP_STATUS_CUR_PAGE) ∧ Shows t .STEP_LAST_COMMIT_FRAME 0 s.frameCount ∧
        Shows t .STEP_TOKEN_TOKEN 0 (if s.hostAuth then s.authToken.getD 0 else 0) ∧ Counts .STEP_COMMITS_COUNT 1 0 s t ∧
        t.seq = .haltStep) ∧
    (∀ (s : State) (tag restart : Nat), s.inBody = true → MayServe s 0x23 tag →
      Runs (.stepAbort tag restart) s fun t => GoesOn tag s t ∧
        t.seqRun = { s.seqRun with aborts := s.seqRun.aborts ++ [(tag, restart)] } ∧ OnlyRegs [] s t) ∧
    (∀ (s : State) (tag step : Nat), s.sin.table.isSome = true →
      let d := (2 ^ 32 + step - s.rd .GEY_STEP_COUNT_STEP % 2 ^ 32) % 2 ^ 32
      (1 ≤ d ∧ d ≤ 2 ^ 30 ∨ d = 0 ∧ s.seq = .haltStep) →
      Serves (.secureNow tag step) 0x25 tag s 0 fun t => t.sin = { s.sin with secureAt := some step } ∧
        Shows t .SIN_SECURE_AT_STEP 0 step ∧ OnlyRegs ([(.SIN_SECURE_AT_STEP, 0)] ++ answerFlds) s t) ∧
    (∀ (s : State) (tag e slot rec : Nat), (∀ sl, (s.engine e).slots[slot]? = some sl → sl.kind ≠ 1 ∨ sl.records ≤ rec) →
      Serves (.abortOpRecord tag e slot rec) 0x24 tag s notFoundRes fun t => t.xfer = s.xfer ∧ OnlyRegs answerFlds s t) ∧
    (∀ (s : State) (tag e slot rec : Nat) (sl : Slot), (s.engine e).slots[slot]? = some sl → sl.kind = 1 → rec < sl.records →
      let x := s.xeng e
      let done := slot < (s.engine e).idx ∨ slot = (s.engine e).idx ∧ rec < x.next
      let k := x.active.findIdx? fun a => a.slot == slot && a.record == rec
      (∀ i a, k = some i → x.active[i]? = some a →
        (a.acked = true → Serves (.abortOpRecord tag e slot rec) 0x24 tag s completedRes fun t => t.xfer = s.xfer ∧
          OnlyRegs answerFlds s t) ∧
        (a.acked = false → Serves (.abortOpRecord tag e slot rec) 0x24 tag s abortedRes fun t =>
          unissued (t.xeng e).active = unissued (x.active.eraseIdx i) ∧ OtherLists e s t ∧ SameTiles [] s t)) ∧
      (k = none → done → Serves (.abortOpRecord tag e slot rec) 0x24 tag s
        (if x.skip.contains (slot, rec) then abortedRes else completedRes) fun t => t.xfer = s.xfer ∧ OnlyRegs answerFlds s t) ∧
      (k = none → ¬done → Serves (.abortOpRecord tag e slot rec) 0x24 tag s abortedRes fun t => (slot, rec) ∈ (t.xeng e).skip ∧
        (t.xeng e).active = x.active ∧ OtherLists e s t ∧
          (x.skip.contains (slot, rec) = false → ∀ w ∈ t.sync.waits, ¬(w.engine = e ∧ w.slot = slot ∧ w.record = rec)) ∧
          OnlyRegs ([(.SE_STATUS_STALL, engNum e), (.UE_STATUS_STALL, engNum e)] ++ answerFlds) s t)) ∧
    (∀ (s : State) (tag target : Nat), tag ≠ target →
      (s.mbx.find target = none → Serves (.abortOpTag tag target) 0x24 tag s
        (if (s.mbx.finished.any fun r => r.tag == target) then completedRes else notFoundRes) fun t => OnlyRegs answerFlds s t) ∧
      ∀ c, s.mbx.find target = some c → (c.started = false ∨ c.op = 0x40) → c.lost = false → c.smbus = false →
        (s.cmdOf 0x24 tag).lost = false → (s.cmdOf 0x24 tag).smbus = false → MayServe s 0x24 tag →
        Runs (.abortOpTag tag target) s fun t =>
          t.mbx.cmds = s.mbx.cmds.filter (fun x => x.tag != target && x.tag != tag) ∧
          t.mbx.finished = s.mbx.finished ++ [⟨c.op, 2, target, 0, 0, s.tb, false⟩, ⟨0x24, 0, tag, 0, abortedRes, s.tb, false⟩] ∧
          (c.op = 0x40 → t.sin.restore = none) ∧ OnlyRegs [] s t) ∧
    (∀ (s : State) (tag rank step epoch copy : Nat) (lost recs : List Nat) (crcs copies : List (Nat × Nat × Nat)),
      (s.seq = .loaded → s.sin.table.isSome = true → s.restoreLost lost = none → MayServe s 0x40 tag →
        Runs (.restoreFull tag true rank lost step epoch recs copy crcs copies) s fun t => GoesOn tag s t ∧
          t.sync = SyncUnit.reset ∧ t.sin.restore = some ⟨tag, true, step, epoch, lost, crcs, [], none,
            s.rank :: (recs.filter fun x => x != s.rank), s.fullBlocks lost, copy, 0⟩ ∧ t.seq = .loaded ∧ OnlyRegs [] s t) ∧
      (s.seq = .haltStep → Serves (.restoreFull tag false rank lost step epoch recs copy crcs copies) 0x40 tag s 0 fun t =>
        t.sync = SyncUnit.reset ∧ t.seq = .haltStep ∧ SameMem s t ∧ SameTiles [] s t)) ∧
    ∀ (s : State) (tag rank group first blocks copy : Nat) (lost : List Nat) (copies : List (Nat × Nat × Nat)),
      ((s.seq = .loaded ∨ s.seq = .haltStep) → s.restoreLost lost = none →
        (blocks ≠ 0 ∨ copy ≠ 0 → MayServe s 0x40 tag →
          Runs (.restoreBlock tag true rank group first blocks lost copy copies) s fun t => GoesOn tag s t ∧
            t.sync = SyncUnit.reset ∧ t.sin.restore = some ⟨tag, false, 0, 0, lost, [], [], none, [],
              if copy = 0 then blocks else 0, copy, 0⟩ ∧ t.seq = s.seq ∧ OnlyRegs [] s t) ∧
        (blocks = 0 → copy = 0 → Serves (.restoreBlock tag true rank group first blocks lost copy copies) 0x40 tag s 0 fun t =>
          t.sync = SyncUnit.reset ∧ t.sin.restore = none ∧ t.seq = s.seq ∧ OnlyRegs answerFlds s t)) ∧
      (s.seq = .haltStep → Serves (.restoreBlock tag false rank group first blocks lost copy copies) 0x40 tag s 0 fun t =>
        t.sync = SyncUnit.reset ∧ t.seq = .haltStep ∧ SameMem s t ∧ SameTiles [] s t)

/-- Served where they may run, the commands of self-test, repair, fuses, spares, resets, sleep, wake and firmware have their effect. The model's own choices in it, which are no rule of the spec: log entries 14, 67, 72, 74. -/
def Obligations.ServedCommandsTestResetAndSleep : Prop :=
  (∀ (s : State) (tag : Nat) (fails : List (Nat × Nat × Nat)), s.seq = .empty →
      Serves (.bistScheduleFull tag fails) 0x50 tag s (distinct (fails.map fun f => f.1)).length fun t => t.sync = SyncUnit.reset ∧
        t.ve = [] ∧ t.seq = .empty ∧
        (∀ f ∈ fails, f.1 < 272 → (s.pt f.1).state ≠ .failed → (t.pt f.1).state = .failed ∧ RecordedOrFull t .ERR_BIST_FAIL) ∧
        (fails = [] → s.str.takeovers = [] → ∀ p < 272, (s.pt p).state ≠ .failed →
          t.pt p = { s.pt p with tested := true, passed := 0xFFFF, failed := 0 })) ∧
    (∀ (s : State) (tag gap : Nat) (rot bist : Bool), Serves (.bistSchedulePeriodic tag gap rot bist) 0x50 tag s 0 fun t =>
      t.policy = { s.policy with sliceGapMs := gap } ∧ t.rd .STR_CTRL_ROT_EN = b2n rot ∧ t.rd .STR_CTRL_BIST_EN = b2n bist ∧
        OnlyRegs ([(.STR_CTRL_ROT_EN, 0), (.STR_CTRL_BIST_EN, 0)] ++ answerFlds) s t) ∧
    (∀ (s : State) (tag d e : Nat), (s.softOf d).length < 2048 → (s.applyRepair d e false).2 = none →
      Serves (.repairApply tag d e) 0x51 tag s (s.softOf d).length fun t => t.softOf d = s.softOf d ++ [⟨e, false⟩] ∧
        (∀ x, x ≠ d → t.softOf x = s.softOf x) ∧ t.str.fuses = s.str.fuses ∧ SameMem s t) ∧
    (∀ (s : State) (tag d : Nat), s.rd .STR_CTRL_MAINT ≠ 0 → s.fuseRange = true →
      (s.fusesOf d).length + (s.unfused d).length ≤ 2048 →
      Serves (.fuseBurn tag d []) 0x52 tag s (s.unfused d).length fun t => t.unfused d = [] ∧
        t.fusesOf d = s.fusesOf d ++ (s.unfused d).map (fun e => e.bits) ∧ (∀ x, x ≠ d → t.fusesOf x = s.fusesOf x) ∧
        t.errq = s.errq ∧ OnlyRegs answerFlds s t) ∧
    (∀ (s : State) (tag d : Nat) (bad : List Nat), s.rd .STR_CTRL_MAINT ≠ 0 → s.fuseRange = true →
      (s.fusesOf d).length + (s.unfused d).length ≤ 2048 → MayServe s 0x52 tag →
      Runs (.fuseBurn tag d bad) s fun t => Answered 0x52 tag ((s.unfused d).length - (t.unfused d).length) s t ∧
        (∃ l, t.fusesOf d = s.fusesOf d ++ l) ∧ (t.fusesOf d).length ≤ 2048 ∧ SameMem s t ∧ SameTiles [] s t) ∧
    (∀ (s : State) (tag coord rank : Nat), s.seq = .empty → s.fab.job = none → s.time.state = .locked →
      s.rd .GEY_TIME_PARENT_HOPS ≤ 62 →
      Serves (.spareAdopt tag coord rank) 0x41 tag s 0 fun t => t.rd .FAB_COORD_VALID = 1 ∧ Shows t .FAB_COORD_COORD 0 coord ∧
        t.sync = SyncUnit.reset ∧ t.rd .STEP_STATUS_CUR_PAGE = 0 ∧
        (∀ p < 18, t.rxOf p = [] ∧ t.portState p = fldReset .FAB_STATUS_STATE p) ∧
        StoresOnly (InRange s.policy.statBase (s.policy.statSlots * 32)) s t) ∧
    (∀ (s : State) (tag : Nat), s.rd (cpStateFld (1 - s.cpPrimary)) ≠ 3 →
      let d := 1 - s.cpPrimary
      Serves (.resetDomainSecondaryCp tag) 0x60 tag s 0 fun t => t.rd (cpStateFld d) = 1 ∧
        (∀ i < 35, ∀ l, s.lockOf i = some l → t.lockOf i = if l.owner = d + 1 then none else some l) ∧ SameMem s t ∧
        SameTiles [] s t) ∧
    (∀ (s : State) (tag : Nat), (s.seq = .empty ∨ s.seq = .stopped) → s.rd .FAB_JOB_SIZE_SIZE = 0 →
      Serves (.resetDomainModuleCore tag) 0x60 tag s 0 fun t => t.start.coreDue = some (s.tb + 10000000 * tbPerNs) ∧
        OnlyRegs answerFlds s t) ∧
    (∀ (s : State) (tag : Nat), Serves (.resetDomainHostAdapter tag) 0x60 tag s 0 fun t =>
      t.start.haDue = some (s.tb + 1000000 * tbPerNs) ∧ OnlyRegs answerFlds s t) ∧
    (∀ (s : State) (tag p : Nat), p < 18 → Serves (.resetDomainPort tag p) 0x60 tag s 0 fun t => t.rxOf p = [] ∧
      t.portState p = fldReset .FAB_STATUS_STATE p ∧ (∀ q, q ≠ p → t.rxOf q = s.rxOf q ∧ t.portState q = s.portState q) ∧
      SameMem s t ∧ SameTiles [] s t) ∧
    (∀ (s : State) (tag n : Nat), s.seqFree = true →
      (Serves (.resetDomainStreamEngine tag n) 0x60 tag s 0 fun t => t.xeng (0x100 + n) = XferEng.reset ∧
        t.engine (0x100 + n) = EngineRun.reset ∧ (∀ e, e ≠ 0x100 + n → t.xeng e = s.xeng e ∧ t.engine e = s.engine e) ∧
        SameMem s t ∧ SameTiles [] s t) ∧
      (Serves (.resetDomainUpdateEngine tag n) 0x60 tag s 0 fun t => t.xeng (0x110 + n) = XferEng.reset ∧
        t.engine (0x110 + n) = EngineRun.reset ∧ (∀ e, e ≠ 0x110 + n → t.xeng e = s.xeng e ∧ t.engine e = s.engine e) ∧
        SameMem s t ∧ SameTiles [] s t) ∧
      (Serves (.resetDomainReduction tag) 0x60 tag s 0 fun t => t.red = [] ∧ t.engine 0x120 = EngineRun.reset ∧
        t.engine 0x121 = EngineRun.reset ∧ t.xfer = s.xfer ∧ SameMem s t ∧ SameTiles [] s t)) ∧
    (∀ (s : State) (tag : Nat), s.powerState = 3 → (s.seq = .empty ∨ s.seq = .stopped) → s.rd .FAB_JOB_SIZE_SIZE = 0 →
      MayServe s 0x61 tag →
      (Runs (.sleepStandby tag) s fun t => t.powerState = 1 ∧ t.mbxState = 5 ∧ t.rd .GLB_STARTUP_STEP = 1 ∧ t.seq = .empty ∧
        t.mbx.cmds = [] ∧ t.mbx.finished = [] ∧ t.start.coresUp = false ∧ t.hbmReady = false ∧
        ∀ a, memGet t.mem a = memDefault) ∧
      (Runs (.sleepDormant tag) s fun t => t.powerState = 2 ∧ t.mbxState = 5 ∧ t.rd .GLB_STARTUP_STEP = 1 ∧ t.seq = .empty ∧
        t.mbx.cmds = [] ∧ t.mbx.finished = [] ∧ t.start.coresUp = false ∧ t.allocs = s.allocs ∧ t.descs = s.descs ∧
        t.hbmReady = s.hbmReady ∧ ∀ a, memGet t.mem a = if a < hbmEnd then memGet s.mem a else memDefault)) ∧
    (∀ (s : State) (tag : Nat), s.powerState ≠ 3 → s.wakeAllowed 1 = true →
      Serves (.wake tag) 0x62 tag s 0 fun t => t.powerState = 4 ∧ t.rd .FUM_STATUS_WAKE_CAUSE = 2 ∧
        t.start.waking = (s.powerState == 2) ∧ (s.powerState = 2 → t.start.coresUp = true ∧ t.rd .GLB_SIDEBAND_WAKE_LOW = 1) ∧
        (s.powerState = 1 → t.start.fresh = true) ∧ SameMem s t) ∧
    ∀ (s : State) (tag h off n a : Nat) (adv : Bool), (s.seq = .empty ∨ s.mbxState = 3) → (adv = true → s.rd .STR_CTRL_MAINT ≠ 0) →
      s.buffer h off n = some a → n ≤ 24 * 2 ^ 20 →
      let k := 1 - s.cp.directory
      let f : FlashSlot := ⟨(s.ldBytes a n).take 512, (s.ldBytes a n).drop 512⟩
      MayServe s 0x70 tag → Runs (.fwUpdate tag h off n adv) s fun t => t.flashSlot k = f ∧
        (∀ j, j ≠ k → t.flashSlot j = s.flashSlot j) ∧
        (f.firstFail 0 = none → Answered 0x70 tag k s t ∧ t.cp.directory = k ∧ (adv = false → t.cp.svnBurned = s.cp.svnBurned) ∧
          (adv = true → t.svn = max s.svn (f.field 8 1))) ∧
        (f.firstFail 0 ≠ none → t.cp.directory = s.cp.directory ∧ t.cp.svnBurned = s.cp.svnBurned ∧ RecordedOrFull t .ERR_FW_UPDATE) ∧
        OnlyRegs ([(.CP_BOOT_SVN_FUSED, 0), (.ERRLOG_DROPPED_COUNT, 0)] ++ answerFlds) s t
end

