-- ==== Sys2Proof/Laws/Table.lean ====
section
/-! SUPPORT. Laws of sparse tables and memory: what a read gives after a write, and that every operation keeps the
canonical form. -/

set_option autoImplicit false

namespace Sys2Proof.Machine

open Sys2Proof

variable {α : Type}

@[simp] theorem tabGet_nil (d : α) (k : Nat) : tabGet d k ([] : Tab α) = d := rfl

theorem tabGet_tabPut_same (d : α) (k : Nat) (v : α) (t : Tab α) : tabGet d k (tabPut k v t) = v := by
  induction t with
  | nil => simp [tabPut, tabGet]
  | cons p r ih =>
    obtain ⟨j, w⟩ := p
    unfold tabPut
    split
    · simp [tabGet]
    · split
      · simp [tabGet]
      · have h : ¬ j = k := fun e => by simp_all
        simp [tabGet, h, ih]

theorem tabGet_tabPut_other (d : α) {j k : Nat} (h : j ≠ k) (v : α) (t : Tab α) :
    tabGet d j (tabPut k v t) = tabGet d j t := by
  induction t with
  | nil => simp [tabPut, tabGet, Ne.symm h]
  | cons p r ih =>
    obtain ⟨i, w⟩ := p
    unfold tabPut
    split
    · simp [tabGet, Ne.symm h]
    · split
      · subst_vars; simp [tabGet, Ne.symm h]
      · simp only [tabGet, ih]

theorem tabGet_tabDel_same (d : α) (k : Nat) (t : Tab α) : tabGet d k (tabDel k t) = d := by
  induction t with
  | nil => rfl
  | cons p r ih =>
    obtain ⟨i, w⟩ := p
    unfold tabDel
    split
    · exact ih
    · next h => simp [tabGet, h, ih]

theorem tabGet_tabDel_other (d : α) {j k : Nat} (h : j ≠ k) (t : Tab α) :
    tabGet d j (tabDel k t) = tabGet d j t := by
  induction t with
  | nil => rfl
  | cons p r ih =>
    obtain ⟨i, w⟩ := p
    unfold tabDel
    split
    · next e => subst e; simp [tabGet, Ne.symm h, ih]
    · simp only [tabGet, ih]

/-- A read after a write at the same key gives the value written. -/
@[simp] theorem tabGet_tabSet_same [DecidableEq α] (d : α) (k : Nat) (v : α) (t : Tab α) :
    tabGet d k (tabSet d k v t) = v := by
  unfold tabSet
  split
  · next h => rw [tabGet_tabDel_same, h]
  · exact tabGet_tabPut_same d k v t

/-- A write leaves every other key alone. -/
theorem tabGet_tabSet_other [DecidableEq α] (d e : α) {j k : Nat} (h : j ≠ k) (v : α) (t : Tab α) :
    tabGet e j (tabSet d k v t) = tabGet e j t := by
  unfold tabSet
  split
  · exact tabGet_tabDel_other e h t
  · exact tabGet_tabPut_other e h v t

theorem tabGet_tabSet [DecidableEq α] (d : α) (j k : Nat) (v : α) (t : Tab α) :
    tabGet d j (tabSet d k v t) = if j = k then v else tabGet d j t := by
  split
  · next h => subst h; simp
  · next h => exact tabGet_tabSet_other d d h v t

/-! ### The canonical form -/

theorem tabRising_some_none {lo : Nat} {t : Tab α} (h : tabRising (some lo) t = true) : tabRising none t = true := by
  cases t with
  | nil => rfl
  | cons p r => simp only [tabRising, Bool.and_eq_true] at h ⊢; exact h.2

theorem tabRising_weaken {a b : Nat} (hab : a ≤ b) {t : Tab α} (h : tabRising (some b) t = true) :
    tabRising (some a) t = true := by
  cases t with
  | nil => rfl
  | cons p r =>
    simp only [tabRising, Bool.and_eq_true, decide_eq_true_eq] at h ⊢
    exact ⟨by omega, h.2⟩

theorem tabRising_tabDel {k : Nat} {t : Tab α} {lo : Option Nat} (h : tabRising lo t = true) :
    tabRising lo (tabDel k t) = true := by
  induction t generalizing lo with
  | nil => exact h
  | cons p r ih =>
    obtain ⟨i, w⟩ := p
    unfold tabDel
    have hr : tabRising (some i) r = true := by
      cases lo <;> simp_all [tabRising]
    split
    · cases lo with
      | none => exact ih (tabRising_some_none hr)
      | some l =>
        simp only [tabRising, Bool.and_eq_true, decide_eq_true_eq] at h
        exact ih (tabRising_weaken (by omega) hr)
    · cases lo <;> simp_all [tabRising]

theorem tabRising_tabPut {k : Nat} {v : α} {t : Tab α} {lo : Option Nat} (h : tabRising lo t = true)
    (hk : ∀ l, lo = some l → l < k) : tabRising lo (tabPut k v t) = true := by
  induction t generalizing lo with
  | nil => cases lo <;> simp_all [tabPut, tabRising]
  | cons p r ih =>
    obtain ⟨i, w⟩ := p
    have hr : tabRising (some i) r = true := by
      cases lo <;> simp_all [tabRising]
    unfold tabPut
    split
    · cases lo <;> simp_all [tabRising]
    · split
      · subst_vars; cases lo <;> simp_all [tabRising]
      · have hik : i < k := by omega
        have := ih hr (by intro l e; cases e; exact hik)
        cases lo <;> simp_all [tabRising]

theorem tabNone_tabDel [DecidableEq α] {d : α} {k : Nat} {t : Tab α} (h : tabNone d t = true) :
    tabNone d (tabDel k t) = true := by
  induction t with
  | nil => exact h
  | cons p r ih =>
    obtain ⟨i, w⟩ := p
    unfold tabDel
    simp only [tabNone, Bool.and_eq_true] at h
    split
    · exact ih h.2
    · simp only [tabNone, Bool.and_eq_true]; exact ⟨h.1, ih h.2⟩

theorem tabNone_tabPut [DecidableEq α] {d : α} {k : Nat} {v : α} {t : Tab α} (hv : v ≠ d) (h : tabNone d t = true) :
    tabNone d (tabPut k v t) = true := by
  induction t with
  | nil => simp [tabPut, tabNone, hv]
  | cons p r ih =>
    obtain ⟨i, w⟩ := p
    unfold tabPut
    split
    · simp_all [tabNone]
    · split <;> simp_all [tabNone]

/-- A write keeps the canonical form of a table. -/
@[simp] theorem tabWf_tabSet [DecidableEq α] {d : α} {t : Tab α} (k : Nat) (v : α) (h : tabWf d t = true) :
    tabWf d (tabSet d k v t) = true := by
  unfold tabWf at h ⊢
  rw [Bool.and_eq_true] at h ⊢
  unfold tabSet
  split
  · exact ⟨tabRising_tabDel h.1, tabNone_tabDel h.2⟩
  · next hv => exact ⟨tabRising_tabPut h.1 (by simp), tabNone_tabPut hv h.2⟩

theorem tabRising_filter {p : Nat × α → Bool} {t : Tab α} {lo : Option Nat} (h : tabRising lo t = true) :
    tabRising lo (t.filter p) = true := by
  induction t generalizing lo with
  | nil => exact h
  | cons q r ih =>
    obtain ⟨i, w⟩ := q
    have hr : tabRising (some i) r = true := by
      cases lo <;> simp_all [tabRising]
    rw [List.filter_cons]
    split
    · cases lo <;> simp_all [tabRising]
    · cases lo with
      | none => exact ih (tabRising_some_none hr)
      | some l =>
        simp only [tabRising, Bool.and_eq_true, decide_eq_true_eq] at h
        exact ih (tabRising_weaken (by omega) hr)

theorem tabNone_filter [DecidableEq α] {d : α} {p : Nat × α → Bool} {t : Tab α} (h : tabNone d t = true) :
    tabNone d (t.filter p) = true := by
  induction t with
  | nil => exact h
  | cons q r ih =>
    obtain ⟨i, w⟩ := q
    simp only [tabNone, Bool.and_eq_true] at h
    rw [List.filter_cons]
    split
    · simp only [tabNone, Bool.and_eq_true]; exact ⟨h.1, ih h.2⟩
    · exact ih h.2

/-- Dropping entries keeps the canonical form of a table. -/
@[simp] theorem tabWf_filter [DecidableEq α] {d : α} {t : Tab α} (p : Nat × α → Bool) (h : tabWf d t = true) :
    tabWf d (t.filter p) = true := by
  unfold tabWf at h ⊢
  rw [Bool.and_eq_true] at h ⊢
  exact ⟨tabRising_filter h.1, tabNone_filter h.2⟩

/-- A table cut by key reads as before at a key that is kept, and as nothing elsewhere. -/
theorem tabGet_filter (d : α) (k : Nat) (p : Nat → Bool) (t : Tab α) :
    tabGet d k (t.filter fun q => p q.1) = if p k then tabGet d k t else d := by
  induction t with
  | nil => simp
  | cons q r ih =>
    obtain ⟨i, w⟩ := q
    rw [List.filter_cons]
    by_cases hp : p i <;> by_cases hk : i = k <;> simp_all [tabGet]

/-! ### Memory -/

@[simp] theorem Memory.wf_nil : Memory.wf [] = true := rfl

@[simp] theorem Memory.wf_memSet {m : Memory} (a : Nat) (b : Byte) (h : Memory.wf m = true) : Memory.wf (memSet m a b) = true :=
  tabWf_tabSet a b h

/-- A run of stores keeps the canonical form. -/
@[simp] theorem Memory.wf_memWrite (bs : List Byte) {m : Memory} (a : Nat) (h : Memory.wf m = true) :
    Memory.wf (memWrite m a bs) = true := by
  induction bs generalizing m a with
  | nil => exact h
  | cons b r ih => exact ih (a + 1) (Memory.wf_memSet a b h)

@[simp] theorem Memory.wf_filter {m : Memory} (p : Nat × Byte → Bool) (h : Memory.wf m = true) : Memory.wf (m.filter p) = true :=
  tabWf_filter p h

@[simp] theorem memGet_memSet_same (m : Memory) (a : Nat) (b : Byte) : memGet (memSet m a b) a = b :=
  tabGet_tabSet_same _ _ _ _

theorem memGet_memSet_other (m : Memory) {a x : Nat} (h : x ≠ a) (b : Byte) : memGet (memSet m a b) x = memGet m x :=
  tabGet_tabSet_other _ _ h _ _

/-- A run of stores leaves every byte outside it alone. -/
theorem memGet_memWrite_other (bs : List Byte) (m : Memory) (a x : Nat) (h : x < a ∨ a + bs.length ≤ x) :
    memGet (memWrite m a bs) x = memGet m x := by
  induction bs generalizing m a with
  | nil => rfl
  | cons b r ih =>
    simp only [List.length_cons] at h
    rw [memWrite, ih _ _ (by omega), memGet_memSet_other]
    omega

/-- A run of stores leaves at each of its addresses the byte stored there. -/
theorem memGet_memWrite_at (bs : List Byte) (m : Memory) (a i : Nat) (h : i < bs.length) :
    memGet (memWrite m a bs) (a + i) = bs[i] := by
  induction bs generalizing m a i with
  | nil => simp at h
  | cons b r ih =>
    cases i with
    | zero =>
      rw [memWrite, memGet_memWrite_other r _ _ _ (by omega)]
      exact memGet_memSet_same m a b
    | succ i =>
      have := ih (memSet m a b) (a + 1) i (by simpa using h)
      rw [memWrite, show a + (i + 1) = a + 1 + i by omega, this]
      rfl

end Sys2Proof.Machine
end

