-- ==== Sys2Proof/Laws/Keep.lean ====
section
/-! SUPPORT. What every operation over the state keeps: the canonical form of both memories, register fields within
their widths, and the queue of waiting commands. -/

set_option autoImplicit false

namespace Sys2Proof.Machine

open Sys2Proof

/-! ### Register fields -/

theorem fld_ctorIdx_lt (f : Fld) : f.ctorIdx < 512 := by cases f <;> decide

theorem fld_ctorIdx_inj {f g : Fld} (h : f.ctorIdx = g.ctorIdx) : f = g := by
  have hf := Fld.ofNat_ctorIdx f
  have hg := Fld.ofNat_ctorIdx g
  rw [← hf, ← hg, h]

/-- A field and its element are read off their key. -/
theorem fldKey_inj {f g : Fld} {i j : Nat} : fldKey f i = fldKey g j ↔ f = g ∧ i = j := by
  constructor
  · intro h
    have h1 := fld_ctorIdx_lt f
    have h2 := fld_ctorIdx_lt g
    unfold fldKey at h
    exact ⟨fld_ctorIdx_inj (by omega), by omega⟩
  · rintro ⟨rfl, rfl⟩; rfl

/-- The reset value of a field fits it. -/
theorem fldReset_lt (f : Fld) (i : Nat) : fldReset f i < 2 ^ fldWidth f := by
  have hv : i % 4 = 0 ∨ i % 4 = 1 ∨ i % 4 = 2 ∨ i % 4 = 3 := by omega
  cases f <;> first
    | exact Nat.mod_lt _ (by decide)
    | exact of_decide_eq_true rfl
    | (show (if 46 ≤ i then 0 else 4) < 2 ^ 4; split <;> decide)
    | (show [32, 128, 64, 32].getD (i % 4) 0 < 2 ^ 9; rcases hv with h | h | h | h <;> rw [h] <;> decide)

/-! ### The kept parts of a state -/

/-- What every operation keeps, of the parts of a state that it is about; `q` is the queue. -/
structure OkParts (q : List Instr) (regs : Tab Nat) (mem host : Memory) (p : List Instr) : Prop where
  mem : Memory.wf mem = true
  host : Memory.wf host = true
  regs : RegsFit regs
  pend : p = q

/-- A well-formed state whose queue is `q`. -/
def State.Ok (q : List Instr) (s : State) : Prop := OkParts q s.regs s.mem s.hostMem s.pending

/-- An outcome whose next state, if any, is `Ok`. -/
def ResOk (q : List Instr) (r : Res) : Prop :=
  match r with
  | .next s => s.Ok q
  | _ => True

/-- A pair whose state is `Ok`. -/
def FstOk {α : Type} (q : List Instr) (p : State × α) : Prop := p.1.Ok q

@[simp] theorem FstOk_eq {α : Type} (q : List Instr) (p : State × α) : FstOk q p = p.1.Ok q := propext ⟨id, id⟩

@[simp] theorem ResOk_next (q : List Instr) (s : State) : ResOk q (.next s) = s.Ok q := propext ⟨id, id⟩

theorem State.Ok_iff (q : List Instr) (s : State) : s.Ok q ↔ s.wf ∧ s.pending = q :=
  ⟨fun h => ⟨⟨h.mem, h.host, h.regs⟩, h.pend⟩, fun h => ⟨h.1.1, h.1.2.1, h.1.2.2, h.2⟩⟩

@[simp] theorem OkParts_state (q : List Instr) (s : State) : OkParts q s.regs s.mem s.hostMem s.pending = s.Ok q :=
  propext ⟨id, id⟩

/-- Only four fields matter. -/
@[simp ↓] theorem Ok_mk (q : List Instr) (regs mem hostMem poison ceNoted tb tbRem frameCycle time seq prog engines tileMap
    tiles ve vent errq allocs descs policy bus sync str fab step sin mbx cp seqRun pwr fum start xfer inbound gatherNum red
    bodies res sramScrub frameFlags fills aborted hbmReady stepError free pending) :
    State.Ok q (State.mk regs mem hostMem poison ceNoted tb tbRem frameCycle time seq prog engines tileMap tiles ve vent
      errq allocs descs policy bus sync str fab step sin mbx cp seqRun pwr fum start xfer inbound gatherNum red bodies res
      sramScrub frameFlags fills aborted hbmReady stepError free pending) = OkParts q regs mem hostMem pending :=
  propext ⟨id, id⟩

theorem Ok_ite (q : List Instr) (c : Prop) [Decidable c] (a b : State) :
    State.Ok q (if c then a else b) = if c then a.Ok q else b.Ok q := by split <;> rfl

theorem ResOk_ite (q : List Instr) (c : Prop) [Decidable c] (a b : Res) :
    ResOk q (if c then a else b) = if c then ResOk q a else ResOk q b := by split <;> rfl

/-- A state that differs in other fields only. -/
theorem State.Ok.of_parts {q : List Instr} {s t : State} (h : s.Ok q) (hr : t.regs = s.regs) (hm : t.mem = s.mem)
    (hh : t.hostMem = s.hostMem) (hp : t.pending = s.pending) : t.Ok q := by
  unfold State.Ok; rw [hr, hm, hh, hp]; exact h

/-- A fold over a list of an operation that keeps the state. -/
@[simp] theorem foldl_ok {α : Type} {q : List Instr} {f : State → α → State} (hf : ∀ s a, s.Ok q → (f s a).Ok q) (l : List α)
    {s : State} (h : s.Ok q) : (l.foldl f s).Ok q := by
  induction l generalizing s with
  | nil => exact h
  | cons a r ih => exact ih (hf s a h)

/-- A fold that carries a state and a value. -/
@[simp] theorem foldl_fst_ok {α β : Type} {q : List Instr} {f : State × β → α → State × β}
    (hf : ∀ s b a, s.Ok q → (f (s, b) a).1.Ok q) (l : List α) {p : State × β} (h : p.1.Ok q) : (l.foldl f p).1.Ok q := by
  induction l generalizing p with
  | nil => exact h
  | cons a r ih => exact ih (hf p.1 p.2 a h)

/-! ### Register fields -/

theorem RegsFit_wr {regs : Tab Nat} (h : RegsFit regs) (f : Fld) (v i : Nat) :
    RegsFit (tabSet (fldReset f i) (fldKey f i) (v % 2 ^ fldWidth f) regs) := by
  intro g j
  by_cases e : g = f ∧ j = i
  · obtain ⟨rfl, rfl⟩ := e
    rw [tabGet_tabSet_same]
    exact Nat.mod_lt _ (Nat.two_pow_pos _)
  · rw [tabGet_tabSet_other _ _ (fun k => e (fldKey_inj.1 k))]
    exact h g j

theorem RegsFit_filter {regs : Tab Nat} (h : RegsFit regs) (p : Nat → Bool) :
    RegsFit (regs.filter fun q => p q.1) := by
  intro g j
  rw [tabGet_filter]
  split
  · exact h g j
  · exact fldReset_lt g j

theorem RegsFit_nil : RegsFit [] := fun f i => fldReset_lt f i

@[simp] theorem State.wr_ok {q : List Instr} {s : State} (f : Fld) (v i : Nat) (hs : State.Ok q s) :
    State.Ok q (State.wr s f v i) :=
  ⟨hs.mem, hs.host, RegsFit_wr hs.regs f v i, hs.pend⟩

/-- A write of module memory. -/
@[simp] theorem OkParts_memWrite {q : List Instr} {s : State} (a : Nat) (bs : List Byte) (h : s.Ok q) :
    OkParts q s.regs (memWrite s.mem a bs) s.hostMem s.pending :=
  ⟨Memory.wf_memWrite bs a h.mem, h.host, h.regs, h.pend⟩

/-- Entries of module memory dropped. -/
theorem State.Ok.memFilter {q : List Instr} {s t : State} (p : Nat × Byte → Bool) (h : s.Ok q)
    (hr : t.regs = s.regs) (hm : t.mem = s.mem.filter p) (hh : t.hostMem = s.hostMem) (hp : t.pending = s.pending) :
    t.Ok q := by
  unfold State.Ok; rw [hr, hm, hh, hp]
  exact ⟨Memory.wf_filter p h.mem, h.host, h.regs, h.pend⟩

/-- Module memory emptied. -/
theorem State.Ok.memNil {q : List Instr} {s t : State} (h : s.Ok q)
    (hr : t.regs = s.regs) (hm : t.mem = []) (hh : t.hostMem = s.hostMem) (hp : t.pending = s.pending) :
    t.Ok q := by
  unfold State.Ok; rw [hr, hm, hh, hp]
  exact ⟨Memory.wf_nil, h.host, h.regs, h.pend⟩

/-- A run of stores into host memory keeps its canonical form. -/
theorem wf_hostWrite (bs : List Byte) {m : Memory} (a : Nat) (h : Memory.wf m = true) :
    Memory.wf (hostWrite m a bs) = true := by
  induction bs generalizing m a with
  | nil => exact h
  | cons b r ih => exact ih (a + 1) (Memory.wf_memSet a b h)

/-- A run of stores into host memory. -/
@[simp] theorem OkParts_hostWrite {q : List Instr} {s : State} (a : Nat) (bs : List Byte) (h : s.Ok q) :
    OkParts q s.regs s.mem (hostWrite s.hostMem a bs) s.pending :=
  ⟨h.mem, wf_hostWrite bs a h.host, h.regs, h.pend⟩

/-- A write of a byte of module memory. -/
@[simp] theorem OkParts_memSet {q : List Instr} {s : State} (a : Nat) (b : Byte) (h : s.Ok q) :
    OkParts q s.regs (memSet s.mem a b) s.hostMem s.pending :=
  ⟨Memory.wf_memSet a b h.mem, h.host, h.regs, h.pend⟩

/-- A write of a byte of host memory. -/
@[simp] theorem OkParts_hostSet {q : List Instr} {s : State} (a : Nat) (b : Byte) (h : s.Ok q) :
    OkParts q s.regs s.mem (memSet s.hostMem a b) s.pending :=
  ⟨h.mem, Memory.wf_memSet a b h.host, h.regs, h.pend⟩

end Sys2Proof.Machine
end

