-- ==== Sys2Proof/Laws/State.lean ====
section
/-! SUPPORT. What each update of the state leaves alone, field by field and reading by reading, and what a register
field and a table entry read as after a write. -/

set_option autoImplicit false

namespace Sys2Proof.Machine

open Sys2Proof

/-! ### Readings after a write of the same thing -/

theorem State.rd_wr (s : State) (f g : Fld) (v i j : Nat) :
    (s.wr f v i).rd g j = if g = f ∧ j = i then v % 2 ^ fldWidth f else s.rd g j := by
  unfold State.rd State.wr
  dsimp only
  split
  · next h => obtain ⟨rfl, rfl⟩ := h; exact tabGet_tabSet_same _ _ _ _
  · next h => exact tabGet_tabSet_other _ _ (fun k => h (fldKey_inj.1 k)) _ _

/-- A register field reads as the value written, cut to its width. -/
@[simp] theorem State.rd_wr_same (s : State) (f : Fld) (v i : Nat) : (s.wr f v i).rd f i = v % 2 ^ fldWidth f := by
  rw [State.rd_wr, if_pos ⟨rfl, rfl⟩]

/-- Every other register field reads as before. -/
theorem State.rd_wr_other (s : State) {f g : Fld} {i j : Nat} (v : Nat) (h : ¬(g = f ∧ j = i)) :
    (s.wr f v i).rd g j = s.rd g j := by
  rw [State.rd_wr, if_neg h]

@[simp] theorem State.ptile_setPtile (s : State) (p : Nat) (v : Tile) : (s.setPtile p v).ptile p = v :=
  tabGet_tabSet_same _ _ _ _

theorem State.ptile_setPtile_other (s : State) {p r : Nat} (h : r ≠ p) (v : Tile) :
    (s.setPtile p v).ptile r = s.ptile r := tabGet_tabSet_other _ _ h _ _

@[simp] theorem State.tile_setTile (s : State) (t : Nat) (v : Tile) : (s.setTile t v).tile t = v :=
  tabGet_tabSet_same _ _ _ _

@[simp] theorem State.veOf_setVe (s : State) (t : Nat) (v : VeRun) : (s.setVe t v).veOf t = v :=
  tabGet_tabSet_same _ _ _ _

theorem State.veOf_setVe_other (s : State) {t u : Nat} (h : u ≠ t) (v : VeRun) : (s.setVe t v).veOf u = s.veOf u :=
  tabGet_tabSet_other _ _ h _ _

@[simp] theorem State.engine_setEngine (s : State) (e : Nat) (v : EngineRun) : (s.setEngine e v).engine e = v :=
  tabGet_tabSet_same _ _ _ _

theorem State.engine_setEngine_other (s : State) {e d : Nat} (h : d ≠ e) (v : EngineRun) :
    (s.setEngine e v).engine d = s.engine d := tabGet_tabSet_other _ _ h _ _

@[simp] theorem State.xeng_setXeng (s : State) (e : Nat) (v : XferEng) : (s.setXeng e v).xeng e = v :=
  tabGet_tabSet_same _ _ _ _

@[simp] theorem State.redHalf_setRed (s : State) (h : Nat) (v : RedHalf) : (s.setRed h v).redHalf h = v :=
  tabGet_tabSet_same _ _ _ _

@[simp] theorem State.pt_setPt (s : State) (p : Nat) (v : PTile) : (s.setPt p v).pt p = v :=
  tabGet_tabSet_same _ _ _ _

@[simp] theorem State.setMbx_mbx (s : State) (u : MbxUnit) : (s.setMbx u).mbx = u := rfl
@[simp] theorem State.setStep_step (s : State) (u : StepUnit) : (s.setStep u).step = u := rfl
@[simp] theorem State.setSin_sin (s : State) (u : SinUnit) : (s.setSin u).sin = u := rfl
@[simp] theorem State.setRes_res (s : State) (u : ResUnit) : (s.setRes u).res = u := rfl
@[simp] theorem State.setStart_start (s : State) (u : StartUnit) : (s.setStart u).start = u := rfl
@[simp] theorem State.setFum_fum (s : State) (u : FumUnit) : (s.setFum u).fum = u := rfl
@[simp] theorem State.setPwr_pwr (s : State) (u : PwrUnit) : (s.setPwr u).pwr = u := rfl
@[simp] theorem State.setTime_time (s : State) (u : TimeDisc) : (s.setTime u).time = u := rfl
@[simp] theorem State.setBus_bus (s : State) (u : BusUnit) : (s.setBus u).bus = u := rfl

/-! ### What an update leaves alone -/

@[simp] theorem State.wr_mem (s : State) (f : Fld) (v i : Nat) : (s.wr f v i).mem = s.mem := rfl
@[simp] theorem State.wr_hostMem (s : State) (f : Fld) (v i : Nat) : (s.wr f v i).hostMem = s.hostMem := rfl
@[simp] theorem State.wr_poison (s : State) (f : Fld) (v i : Nat) : (s.wr f v i).poison = s.poison := rfl
@[simp] theorem State.wr_ceNoted (s : State) (f : Fld) (v i : Nat) : (s.wr f v i).ceNoted = s.ceNoted := rfl
@[simp] theorem State.wr_tb (s : State) (f : Fld) (v i : Nat) : (s.wr f v i).tb = s.tb := rfl
@[simp] theorem State.wr_tbRem (s : State) (f : Fld) (v i : Nat) : (s.wr f v i).tbRem = s.tbRem := rfl
@[simp] theorem State.wr_frameCycle (s : State) (f : Fld) (v i : Nat) : (s.wr f v i).frameCycle = s.frameCycle := rfl
@[simp] theorem State.wr_time (s : State) (f : Fld) (v i : Nat) : (s.wr f v i).time = s.time := rfl
@[simp] theorem State.wr_seq (s : State) (f : Fld) (v i : Nat) : (s.wr f v i).seq = s.seq := rfl
@[simp] theorem State.wr_prog (s : State) (f : Fld) (v i : Nat) : (s.wr f v i).prog = s.prog := rfl
@[simp] theorem State.wr_engines (s : State) (f : Fld) (v i : Nat) : (s.wr f v i).engines = s.engines := rfl
@[simp] theorem State.wr_tileMap (s : State) (f : Fld) (v i : Nat) : (s.wr f v i).tileMap = s.tileMap := rfl
@[simp] theorem State.wr_tiles (s : State) (f : Fld) (v i : Nat) : (s.wr f v i).tiles = s.tiles := rfl
@[simp] theorem State.wr_ve (s : State) (f : Fld) (v i : Nat) : (s.wr f v i).ve = s.ve := rfl
@[simp] theorem State.wr_vent (s : State) (f : Fld) (v i : Nat) : (s.wr f v i).vent = s.vent := rfl
@[simp] theorem State.wr_errq (s : State) (f : Fld) (v i : Nat) : (s.wr f v i).errq = s.errq := rfl
@[simp] theorem State.wr_allocs (s : State) (f : Fld) (v i : Nat) : (s.wr f v i).allocs = s.allocs := rfl
@[simp] theorem State.wr_descs (s : State) (f : Fld) (v i : Nat) : (s.wr f v i).descs = s.descs := rfl
@[simp] theorem State.wr_policy (s : State) (f : Fld) (v i : Nat) : (s.wr f v i).policy = s.policy := rfl
@[simp] theorem State.wr_bus (s : State) (f : Fld) (v i : Nat) : (s.wr f v i).bus = s.bus := rfl
@[simp] theorem State.wr_sync (s : State) (f : Fld) (v i : Nat) : (s.wr f v i).sync = s.sync := rfl
@[simp] theorem State.wr_str (s : State) (f : Fld) (v i : Nat) : (s.wr f v i).str = s.str := rfl
@[simp] theorem State.wr_fab (s : State) (f : Fld) (v i : Nat) : (s.wr f v i).fab = s.fab := rfl
@[simp] theorem State.wr_step (s : State) (f : Fld) (v i : Nat) : (s.wr f v i).step = s.step := rfl
@[simp] theorem State.wr_sin (s : State) (f : Fld) (v i : Nat) : (s.wr f v i).sin = s.sin := rfl
@[simp] theorem State.wr_mbx (s : State) (f : Fld) (v i : Nat) : (s.wr f v i).mbx = s.mbx := rfl
@[simp] theorem State.wr_cp (s : State) (f : Fld) (v i : Nat) : (s.wr f v i).cp = s.cp := rfl
@[simp] theorem State.wr_seqRun (s : State) (f : Fld) (v i : Nat) : (s.wr f v i).seqRun = s.seqRun := rfl
@[simp] theorem State.wr_pwr (s : State) (f : Fld) (v i : Nat) : (s.wr f v i).pwr = s.pwr := rfl
@[simp] theorem State.wr_fum (s : State) (f : Fld) (v i : Nat) : (s.wr f v i).fum = s.fum := rfl
@[simp] theorem State.wr_start (s : State) (f : Fld) (v i : Nat) : (s.wr f v i).start = s.start := rfl
@[simp] theorem State.wr_xfer (s : State) (f : Fld) (v i : Nat) : (s.wr f v i).xfer = s.xfer := rfl
@[simp] theorem State.wr_inbound (s : State) (f : Fld) (v i : Nat) : (s.wr f v i).inbound = s.inbound := rfl
@[simp] theorem State.wr_gatherNum (s : State) (f : Fld) (v i : Nat) : (s.wr f v i).gatherNum = s.gatherNum := rfl
@[simp] theorem State.wr_red (s : State) (f : Fld) (v i : Nat) : (s.wr f v i).red = s.red := rfl
@[simp] theorem State.wr_bodies (s : State) (f : Fld) (v i : Nat) : (s.wr f v i).bodies = s.bodies := rfl
@[simp] theorem State.wr_res (s : State) (f : Fld) (v i : Nat) : (s.wr f v i).res = s.res := rfl
@[simp] theorem State.wr_sramScrub (s : State) (f : Fld) (v i : Nat) : (s.wr f v i).sramScrub = s.sramScrub := rfl
@[simp] theorem State.wr_frameFlags (s : State) (f : Fld) (v i : Nat) : (s.wr f v i).frameFlags = s.frameFlags := rfl
@[simp] theorem State.wr_fills (s : State) (f : Fld) (v i : Nat) : (s.wr f v i).fills = s.fills := rfl
@[simp] theorem State.wr_aborted (s : State) (f : Fld) (v i : Nat) : (s.wr f v i).aborted = s.aborted := rfl
@[simp] theorem State.wr_hbmReady (s : State) (f : Fld) (v i : Nat) : (s.wr f v i).hbmReady = s.hbmReady := rfl
@[simp] theorem State.wr_stepError (s : State) (f : Fld) (v i : Nat) : (s.wr f v i).stepError = s.stepError := rfl
@[simp] theorem State.wr_free (s : State) (f : Fld) (v i : Nat) : (s.wr f v i).free = s.free := rfl
@[simp] theorem State.wr_pending (s : State) (f : Fld) (v i : Nat) : (s.wr f v i).pending = s.pending := rfl
@[simp] theorem State.wr_ptile (s : State) (f : Fld) (v i : Nat) (p' : Nat) :
    (s.wr f v i).ptile p' = s.ptile p' := rfl
@[simp] theorem State.wr_physOf (s : State) (f : Fld) (v i : Nat) (t' : Nat) :
    (s.wr f v i).physOf t' = s.physOf t' := rfl
@[simp] theorem State.wr_tile (s : State) (f : Fld) (v i : Nat) (t' : Nat) :
    (s.wr f v i).tile t' = s.tile t' := rfl
@[simp] theorem State.wr_veOf (s : State) (f : Fld) (v i : Nat) (t' : Nat) :
    (s.wr f v i).veOf t' = s.veOf t' := rfl
@[simp] theorem State.wr_engine (s : State) (f : Fld) (v i : Nat) (e' : Nat) :
    (s.wr f v i).engine e' = s.engine e' := rfl
@[simp] theorem State.wr_slotNow (s : State) (f : Fld) (v i : Nat) (e' : Nat) :
    (s.wr f v i).slotNow e' = s.slotNow e' := rfl
@[simp] theorem State.wr_slotIdx (s : State) (f : Fld) (v i : Nat) (e' : Nat) :
    (s.wr f v i).slotIdx e' = s.slotIdx e' := rfl
@[simp] theorem State.wr_xeng (s : State) (f : Fld) (v i : Nat) (e' : Nat) :
    (s.wr f v i).xeng e' = s.xeng e' := rfl
@[simp] theorem State.wr_redHalf (s : State) (f : Fld) (v i : Nat) (h' : Nat) :
    (s.wr f v i).redHalf h' = s.redHalf h' := rfl
@[simp] theorem State.wr_placeOf (s : State) (f : Fld) (v i : Nat) (a' : Nat) :
    (s.wr f v i).placeOf a' = s.placeOf a' := rfl
@[simp] theorem State.wr_pt (s : State) (f : Fld) (v i : Nat) (p' : Nat) :
    (s.wr f v i).pt p' = s.pt p' := rfl
@[simp] theorem State.setPtile_regs (s : State) (p : Nat) (v : Tile) : (s.setPtile p v).regs = s.regs := rfl
@[simp] theorem State.setPtile_mem (s : State) (p : Nat) (v : Tile) : (s.setPtile p v).mem = s.mem := rfl
@[simp] theorem State.setPtile_hostMem (s : State) (p : Nat) (v : Tile) : (s.setPtile p v).hostMem = s.hostMem := rfl
@[simp] theorem State.setPtile_poison (s : State) (p : Nat) (v : Tile) : (s.setPtile p v).poison = s.poison := rfl
@[simp] theorem State.setPtile_ceNoted (s : State) (p : Nat) (v : Tile) : (s.setPtile p v).ceNoted = s.ceNoted := rfl
@[simp] theorem State.setPtile_tb (s : State) (p : Nat) (v : Tile) : (s.setPtile p v).tb = s.tb := rfl
@[simp] theorem State.setPtile_tbRem (s : State) (p : Nat) (v : Tile) : (s.setPtile p v).tbRem = s.tbRem := rfl
@[simp] theorem State.setPtile_frameCycle (s : State) (p : Nat) (v : Tile) : (s.setPtile p v).frameCycle = s.frameCycle := rfl
@[simp] theorem State.setPtile_time (s : State) (p : Nat) (v : Tile) : (s.setPtile p v).time = s.time := rfl
@[simp] theorem State.setPtile_seq (s : State) (p : Nat) (v : Tile) : (s.setPtile p v).seq = s.seq := rfl
@[simp] theorem State.setPtile_prog (s : State) (p : Nat) (v : Tile) : (s.setPtile p v).prog = s.prog := rfl
@[simp] theorem State.setPtile_engines (s : State) (p : Nat) (v : Tile) : (s.setPtile p v).engines = s.engines := rfl
@[simp] theorem State.setPtile_tileMap (s : State) (p : Nat) (v : Tile) : (s.setPtile p v).tileMap = s.tileMap := rfl
@[simp] theorem State.setPtile_ve (s : State) (p : Nat) (v : Tile) : (s.setPtile p v).ve = s.ve := rfl
@[simp] theorem State.setPtile_vent (s : State) (p : Nat) (v : Tile) : (s.setPtile p v).vent = s.vent := rfl
@[simp] theorem State.setPtile_errq (s : State) (p : Nat) (v : Tile) : (s.setPtile p v).errq = s.errq := rfl
@[simp] theorem State.setPtile_allocs (s : State) (p : Nat) (v : Tile) : (s.setPtile p v).allocs = s.allocs := rfl
@[simp] theorem State.setPtile_descs (s : State) (p : Nat) (v : Tile) : (s.setPtile p v).descs = s.descs := rfl
@[simp] theorem State.setPtile_policy (s : State) (p : Nat) (v : Tile) : (s.setPtile p v).policy = s.policy := rfl
@[simp] theorem State.setPtile_bus (s : State) (p : Nat) (v : Tile) : (s.setPtile p v).bus = s.bus := rfl
@[simp] theorem State.setPtile_sync (s : State) (p : Nat) (v : Tile) : (s.setPtile p v).sync = s.sync := rfl
@[simp] theorem State.setPtile_str (s : State) (p : Nat) (v : Tile) : (s.setPtile p v).str = s.str := rfl
@[simp] theorem State.setPtile_fab (s : State) (p : Nat) (v : Tile) : (s.setPtile p v).fab = s.fab := rfl
@[simp] theorem State.setPtile_step (s : State) (p : Nat) (v : Tile) : (s.setPtile p v).step = s.step := rfl
@[simp] theorem State.setPtile_sin (s : State) (p : Nat) (v : Tile) : (s.setPtile p v).sin = s.sin := rfl
@[simp] theorem State.setPtile_mbx (s : State) (p : Nat) (v : Tile) : (s.setPtile p v).mbx = s.mbx := rfl
@[simp] theorem State.setPtile_cp (s : State) (p : Nat) (v : Tile) : (s.setPtile p v).cp = s.cp := rfl
@[simp] theorem State.setPtile_seqRun (s : State) (p : Nat) (v : Tile) : (s.setPtile p v).seqRun = s.seqRun := rfl
@[simp] theorem State.setPtile_pwr (s : State) (p : Nat) (v : Tile) : (s.setPtile p v).pwr = s.pwr := rfl
@[simp] theorem State.setPtile_fum (s : State) (p : Nat) (v : Tile) : (s.setPtile p v).fum = s.fum := rfl
@[simp] theorem State.setPtile_start (s : State) (p : Nat) (v : Tile) : (s.setPtile p v).start = s.start := rfl
@[simp] theorem State.setPtile_xfer (s : State) (p : Nat) (v : Tile) : (s.setPtile p v).xfer = s.xfer := rfl
@[simp] theorem State.setPtile_inbound (s : State) (p : Nat) (v : Tile) : (s.setPtile p v).inbound = s.inbound := rfl
@[simp] theorem State.setPtile_gatherNum (s : State) (p : Nat) (v : Tile) : (s.setPtile p v).gatherNum = s.gatherNum := rfl
@[simp] theorem State.setPtile_red (s : State) (p : Nat) (v : Tile) : (s.setPtile p v).red = s.red := rfl
@[simp] theorem State.setPtile_bodies (s : State) (p : Nat) (v : Tile) : (s.setPtile p v).bodies = s.bodies := rfl
@[simp] theorem State.setPtile_res (s : State) (p : Nat) (v : Tile) : (s.setPtile p v).res = s.res := rfl
@[simp] theorem State.setPtile_sramScrub (s : State) (p : Nat) (v : Tile) : (s.setPtile p v).sramScrub = s.sramScrub := rfl
@[simp] theorem State.setPtile_frameFlags (s : State) (p : Nat) (v : Tile) : (s.setPtile p v).frameFlags = s.frameFlags := rfl
@[simp] theorem State.setPtile_fills (s : State) (p : Nat) (v : Tile) : (s.setPtile p v).fills = s.fills := rfl
@[simp] theorem State.setPtile_aborted (s : State) (p : Nat) (v : Tile) : (s.setPtile p v).aborted = s.aborted := rfl
@[simp] theorem State.setPtile_hbmReady (s : State) (p : Nat) (v : Tile) : (s.setPtile p v).hbmReady = s.hbmReady := rfl
@[simp] theorem State.setPtile_stepError (s : State) (p : Nat) (v : Tile) : (s.setPtile p v).stepError = s.stepError := rfl
@[simp] theorem State.setPtile_free (s : State) (p : Nat) (v : Tile) : (s.setPtile p v).free = s.free := rfl
@[simp] theorem State.setPtile_pending (s : State) (p : Nat) (v : Tile) : (s.setPtile p v).pending = s.pending := rfl
@[simp] theorem State.setPtile_rd (s : State) (p : Nat) (v : Tile) (g' : Fld) (j' : Nat) :
    (s.setPtile p v).rd g' j' = s.rd g' j' := rfl
@[simp] theorem State.setPtile_physOf (s : State) (p : Nat) (v : Tile) (t' : Nat) :
    (s.setPtile p v).physOf t' = s.physOf t' := rfl
@[simp] theorem State.setPtile_veOf (s : State) (p : Nat) (v : Tile) (t' : Nat) :
    (s.setPtile p v).veOf t' = s.veOf t' := rfl
@[simp] theorem State.setPtile_engine (s : State) (p : Nat) (v : Tile) (e' : Nat) :
    (s.setPtile p v).engine e' = s.engine e' := rfl
@[simp] theorem State.setPtile_slotNow (s : State) (p : Nat) (v : Tile) (e' : Nat) :
    (s.setPtile p v).slotNow e' = s.slotNow e' := rfl
@[simp] theorem State.setPtile_slotIdx (s : State) (p : Nat) (v : Tile) (e' : Nat) :
    (s.setPtile p v).slotIdx e' = s.slotIdx e' := rfl
@[simp] theorem State.setPtile_xeng (s : State) (p : Nat) (v : Tile) (e' : Nat) :
    (s.setPtile p v).xeng e' = s.xeng e' := rfl
@[simp] theorem State.setPtile_redHalf (s : State) (p : Nat) (v : Tile) (h' : Nat) :
    (s.setPtile p v).redHalf h' = s.redHalf h' := rfl
@[simp] theorem State.setPtile_placeOf (s : State) (p : Nat) (v : Tile) (a' : Nat) :
    (s.setPtile p v).placeOf a' = s.placeOf a' := rfl
@[simp] theorem State.setPtile_hostBus (s : State) (p : Nat) (v : Tile) (w' : Nat) :
    (s.setPtile p v).hostBus w' = s.hostBus w' := rfl
@[simp] theorem State.setPtile_ld (s : State) (p : Nat) (v : Tile) (a' : Nat) :
    (s.setPtile p v).ld a' = s.ld a' := rfl
@[simp] theorem State.setPtile_pt (s : State) (p : Nat) (v : Tile) (p' : Nat) :
    (s.setPtile p v).pt p' = s.pt p' := rfl
@[simp] theorem State.setTile_regs (s : State) (t : Nat) (v : Tile) : (s.setTile t v).regs = s.regs := rfl
@[simp] theorem State.setTile_mem (s : State) (t : Nat) (v : Tile) : (s.setTile t v).mem = s.mem := rfl
@[simp] theorem State.setTile_hostMem (s : State) (t : Nat) (v : Tile) : (s.setTile t v).hostMem = s.hostMem := rfl
@[simp] theorem State.setTile_poison (s : State) (t : Nat) (v : Tile) : (s.setTile t v).poison = s.poison := rfl
@[simp] theorem State.setTile_ceNoted (s : State) (t : Nat) (v : Tile) : (s.setTile t v).ceNoted = s.ceNoted := rfl
@[simp] theorem State.setTile_tb (s : State) (t : Nat) (v : Tile) : (s.setTile t v).tb = s.tb := rfl
@[simp] theorem State.setTile_tbRem (s : State) (t : Nat) (v : Tile) : (s.setTile t v).tbRem = s.tbRem := rfl
@[simp] theorem State.setTile_frameCycle (s : State) (t : Nat) (v : Tile) : (s.setTile t v).frameCycle = s.frameCycle := rfl
@[simp] theorem State.setTile_time (s : State) (t : Nat) (v : Tile) : (s.setTile t v).time = s.time := rfl
@[simp] theorem State.setTile_seq (s : State) (t : Nat) (v : Tile) : (s.setTile t v).seq = s.seq := rfl
@[simp] theorem State.setTile_prog (s : State) (t : Nat) (v : Tile) : (s.setTile t v).prog = s.prog := rfl
@[simp] theorem State.setTile_engines (s : State) (t : Nat) (v : Tile) : (s.setTile t v).engines = s.engines := rfl
@[simp] theorem State.setTile_tileMap (s : State) (t : Nat) (v : Tile) : (s.setTile t v).tileMap = s.tileMap := rfl
@[simp] theorem State.setTile_ve (s : State) (t : Nat) (v : Tile) : (s.setTile t v).ve = s.ve := rfl
@[simp] theorem State.setTile_vent (s : State) (t : Nat) (v : Tile) : (s.setTile t v).vent = s.vent := rfl
@[simp] theorem State.setTile_errq (s : State) (t : Nat) (v : Tile) : (s.setTile t v).errq = s.errq := rfl
@[simp] theorem State.setTile_allocs (s : State) (t : Nat) (v : Tile) : (s.setTile t v).allocs = s.allocs := rfl
@[simp] theorem State.setTile_descs (s : State) (t : Nat) (v : Tile) : (s.setTile t v).descs = s.descs := rfl
@[simp] theorem State.setTile_policy (s : State) (t : Nat) (v : Tile) : (s.setTile t v).policy = s.policy := rfl
@[simp] theorem State.setTile_bus (s : State) (t : Nat) (v : Tile) : (s.setTile t v).bus = s.bus := rfl
@[simp] theorem State.setTile_sync (s : State) (t : Nat) (v : Tile) : (s.setTile t v).sync = s.sync := rfl
@[simp] theorem State.setTile_str (s : State) (t : Nat) (v : Tile) : (s.setTile t v).str = s.str := rfl
@[simp] theorem State.setTile_fab (s : State) (t : Nat) (v : Tile) : (s.setTile t v).fab = s.fab := rfl
@[simp] theorem State.setTile_step (s : State) (t : Nat) (v : Tile) : (s.setTile t v).step = s.step := rfl
@[simp] theorem State.setTile_sin (s : State) (t : Nat) (v : Tile) : (s.setTile t v).sin = s.sin := rfl
@[simp] theorem State.setTile_mbx (s : State) (t : Nat) (v : Tile) : (s.setTile t v).mbx = s.mbx := rfl
@[simp] theorem State.setTile_cp (s : State) (t : Nat) (v : Tile) : (s.setTile t v).cp = s.cp := rfl
@[simp] theorem State.setTile_seqRun (s : State) (t : Nat) (v : Tile) : (s.setTile t v).seqRun = s.seqRun := rfl
@[simp] theorem State.setTile_pwr (s : State) (t : Nat) (v : Tile) : (s.setTile t v).pwr = s.pwr := rfl
@[simp] theorem State.setTile_fum (s : State) (t : Nat) (v : Tile) : (s.setTile t v).fum = s.fum := rfl
@[simp] theorem State.setTile_start (s : State) (t : Nat) (v : Tile) : (s.setTile t v).start = s.start := rfl
@[simp] theorem State.setTile_xfer (s : State) (t : Nat) (v : Tile) : (s.setTile t v).xfer = s.xfer := rfl
@[simp] theorem State.setTile_inbound (s : State) (t : Nat) (v : Tile) : (s.setTile t v).inbound = s.inbound := rfl
@[simp] theorem State.setTile_gatherNum (s : State) (t : Nat) (v : Tile) : (s.setTile t v).gatherNum = s.gatherNum := rfl
@[simp] theorem State.setTile_red (s : State) (t : Nat) (v : Tile) : (s.setTile t v).red = s.red := rfl
@[simp] theorem State.setTile_bodies (s : State) (t : Nat) (v : Tile) : (s.setTile t v).bodies = s.bodies := rfl
@[simp] theorem State.setTile_res (s : State) (t : Nat) (v : Tile) : (s.setTile t v).res = s.res := rfl
@[simp] theorem State.setTile_sramScrub (s : State) (t : Nat) (v : Tile) : (s.setTile t v).sramScrub = s.sramScrub := rfl
@[simp] theorem State.setTile_frameFlags (s : State) (t : Nat) (v : Tile) : (s.setTile t v).frameFlags = s.frameFlags := rfl
@[simp] theorem State.setTile_fills (s : State) (t : Nat) (v : Tile) : (s.setTile t v).fills = s.fills := rfl
@[simp] theorem State.setTile_aborted (s : State) (t : Nat) (v : Tile) : (s.setTile t v).aborted = s.aborted := rfl
@[simp] theorem State.setTile_hbmReady (s : State) (t : Nat) (v : Tile) : (s.setTile t v).hbmReady = s.hbmReady := rfl
@[simp] theorem State.setTile_stepError (s : State) (t : Nat) (v : Tile) : (s.setTile t v).stepError = s.stepError := rfl
@[simp] theorem State.setTile_free (s : State) (t : Nat) (v : Tile) : (s.setTile t v).free = s.free := rfl
@[simp] theorem State.setTile_pending (s : State) (t : Nat) (v : Tile) : (s.setTile t v).pending = s.pending := rfl
@[simp] theorem State.setTile_rd (s : State) (t : Nat) (v : Tile) (g' : Fld) (j' : Nat) :
    (s.setTile t v).rd g' j' = s.rd g' j' := rfl
@[simp] theorem State.setTile_physOf (s : State) (t : Nat) (v : Tile) (t' : Nat) :
    (s.setTile t v).physOf t' = s.physOf t' := rfl
@[simp] theorem State.setTile_veOf (s : State) (t : Nat) (v : Tile) (t' : Nat) :
    (s.setTile t v).veOf t' = s.veOf t' := rfl
@[simp] theorem State.setTile_engine (s : State) (t : Nat) (v : Tile) (e' : Nat) :
    (s.setTile t v).engine e' = s.engine e' := rfl
@[simp] theorem State.setTile_slotNow (s : State) (t : Nat) (v : Tile) (e' : Nat) :
    (s.setTile t v).slotNow e' = s.slotNow e' := rfl
@[simp] theorem State.setTile_slotIdx (s : State) (t : Nat) (v : Tile) (e' : Nat) :
    (s.setTile t v).slotIdx e' = s.slotIdx e' := rfl
@[simp] theorem State.setTile_xeng (s : State) (t : Nat) (v : Tile) (e' : Nat) :
    (s.setTile t v).xeng e' = s.xeng e' := rfl
@[simp] theorem State.setTile_redHalf (s : State) (t : Nat) (v : Tile) (h' : Nat) :
    (s.setTile t v).redHalf h' = s.redHalf h' := rfl
@[simp] theorem State.setTile_placeOf (s : State) (t : Nat) (v : Tile) (a' : Nat) :
    (s.setTile t v).placeOf a' = s.placeOf a' := rfl
@[simp] theorem State.setTile_hostBus (s : State) (t : Nat) (v : Tile) (w' : Nat) :
    (s.setTile t v).hostBus w' = s.hostBus w' := rfl
@[simp] theorem State.setTile_ld (s : State) (t : Nat) (v : Tile) (a' : Nat) :
    (s.setTile t v).ld a' = s.ld a' := rfl
@[simp] theorem State.setTile_pt (s : State) (t : Nat) (v : Tile) (p' : Nat) :
    (s.setTile t v).pt p' = s.pt p' := rfl
@[simp] theorem State.setVe_regs (s : State) (t : Nat) (v : VeRun) : (s.setVe t v).regs = s.regs := rfl
@[simp] theorem State.setVe_mem (s : State) (t : Nat) (v : VeRun) : (s.setVe t v).mem = s.mem := rfl
@[simp] theorem State.setVe_hostMem (s : State) (t : Nat) (v : VeRun) : (s.setVe t v).hostMem = s.hostMem := rfl
@[simp] theorem State.setVe_poison (s : State) (t : Nat) (v : VeRun) : (s.setVe t v).poison = s.poison := rfl
@[simp] theorem State.setVe_ceNoted (s : State) (t : Nat) (v : VeRun) : (s.setVe t v).ceNoted = s.ceNoted := rfl
@[simp] theorem State.setVe_tb (s : State) (t : Nat) (v : VeRun) : (s.setVe t v).tb = s.tb := rfl
@[simp] theorem State.setVe_tbRem (s : State) (t : Nat) (v : VeRun) : (s.setVe t v).tbRem = s.tbRem := rfl
@[simp] theorem State.setVe_frameCycle (s : State) (t : Nat) (v : VeRun) : (s.setVe t v).frameCycle = s.frameCycle := rfl
@[simp] theorem State.setVe_time (s : State) (t : Nat) (v : VeRun) : (s.setVe t v).time = s.time := rfl
@[simp] theorem State.setVe_seq (s : State) (t : Nat) (v : VeRun) : (s.setVe t v).seq = s.seq := rfl
@[simp] theorem State.setVe_prog (s : State) (t : Nat) (v : VeRun) : (s.setVe t v).prog = s.prog := rfl
@[simp] theorem State.setVe_engines (s : State) (t : Nat) (v : VeRun) : (s.setVe t v).engines = s.engines := rfl
@[simp] theorem State.setVe_tileMap (s : State) (t : Nat) (v : VeRun) : (s.setVe t v).tileMap = s.tileMap := rfl
@[simp] theorem State.setVe_tiles (s : State) (t : Nat) (v : VeRun) : (s.setVe t v).tiles = s.tiles := rfl
@[simp] theorem State.setVe_vent (s : State) (t : Nat) (v : VeRun) : (s.setVe t v).vent = s.vent := rfl
@[simp] theorem State.setVe_errq (s : State) (t : Nat) (v : VeRun) : (s.setVe t v).errq = s.errq := rfl
@[simp] theorem State.setVe_allocs (s : State) (t : Nat) (v : VeRun) : (s.setVe t v).allocs = s.allocs := rfl
@[simp] theorem State.setVe_descs (s : State) (t : Nat) (v : VeRun) : (s.setVe t v).descs = s.descs := rfl
@[simp] theorem State.setVe_policy (s : State) (t : Nat) (v : VeRun) : (s.setVe t v).policy = s.policy := rfl
@[simp] theorem State.setVe_bus (s : State) (t : Nat) (v : VeRun) : (s.setVe t v).bus = s.bus := rfl
@[simp] theorem State.setVe_sync (s : State) (t : Nat) (v : VeRun) : (s.setVe t v).sync = s.sync := rfl
@[simp] theorem State.setVe_str (s : State) (t : Nat) (v : VeRun) : (s.setVe t v).str = s.str := rfl
@[simp] theorem State.setVe_fab (s : State) (t : Nat) (v : VeRun) : (s.setVe t v).fab = s.fab := rfl
@[simp] theorem State.setVe_step (s : State) (t : Nat) (v : VeRun) : (s.setVe t v).step = s.step := rfl
@[simp] theorem State.setVe_sin (s : State) (t : Nat) (v : VeRun) : (s.setVe t v).sin = s.sin := rfl
@[simp] theorem State.setVe_mbx (s : State) (t : Nat) (v : VeRun) : (s.setVe t v).mbx = s.mbx := rfl
@[simp] theorem State.setVe_cp (s : State) (t : Nat) (v : VeRun) : (s.setVe t v).cp = s.cp := rfl
@[simp] theorem State.setVe_seqRun (s : State) (t : Nat) (v : VeRun) : (s.setVe t v).seqRun = s.seqRun := rfl
@[simp] theorem State.setVe_pwr (s : State) (t : Nat) (v : VeRun) : (s.setVe t v).pwr = s.pwr := rfl
@[simp] theorem State.setVe_fum (s : State) (t : Nat) (v : VeRun) : (s.setVe t v).fum = s.fum := rfl
@[simp] theorem State.setVe_start (s : State) (t : Nat) (v : VeRun) : (s.setVe t v).start = s.start := rfl
@[simp] theorem State.setVe_xfer (s : State) (t : Nat) (v : VeRun) : (s.setVe t v).xfer = s.xfer := rfl
@[simp] theorem State.setVe_inbound (s : State) (t : Nat) (v : VeRun) : (s.setVe t v).inbound = s.inbound := rfl
@[simp] theorem State.setVe_gatherNum (s : State) (t : Nat) (v : VeRun) : (s.setVe t v).gatherNum = s.gatherNum := rfl
@[simp] theorem State.setVe_red (s : State) (t : Nat) (v : VeRun) : (s.setVe t v).red = s.red := rfl
@[simp] theorem State.setVe_bodies (s : State) (t : Nat) (v : VeRun) : (s.setVe t v).bodies = s.bodies := rfl
@[simp] theorem State.setVe_res (s : State) (t : Nat) (v : VeRun) : (s.setVe t v).res = s.res := rfl
@[simp] theorem State.setVe_sramScrub (s : State) (t : Nat) (v : VeRun) : (s.setVe t v).sramScrub = s.sramScrub := rfl
@[simp] theorem State.setVe_frameFlags (s : State) (t : Nat) (v : VeRun) : (s.setVe t v).frameFlags = s.frameFlags := rfl
@[simp] theorem State.setVe_fills (s : State) (t : Nat) (v : VeRun) : (s.setVe t v).fills = s.fills := rfl
@[simp] theorem State.setVe_aborted (s : State) (t : Nat) (v : VeRun) : (s.setVe t v).aborted = s.aborted := rfl
@[simp] theorem State.setVe_hbmReady (s : State) (t : Nat) (v : VeRun) : (s.setVe t v).hbmReady = s.hbmReady := rfl
@[simp] theorem State.setVe_stepError (s : State) (t : Nat) (v : VeRun) : (s.setVe t v).stepError = s.stepError := rfl
@[simp] theorem State.setVe_free (s : State) (t : Nat) (v : VeRun) : (s.setVe t v).free = s.free := rfl
@[simp] theorem State.setVe_pending (s : State) (t : Nat) (v : VeRun) : (s.setVe t v).pending = s.pending := rfl
@[simp] theorem State.setVe_rd (s : State) (t : Nat) (v : VeRun) (g' : Fld) (j' : Nat) :
    (s.setVe t v).rd g' j' = s.rd g' j' := rfl
@[simp] theorem State.setVe_ptile (s : State) (t : Nat) (v : VeRun) (p' : Nat) :
    (s.setVe t v).ptile p' = s.ptile p' := rfl
@[simp] theorem State.setVe_physOf (s : State) (t : Nat) (v : VeRun) (t' : Nat) :
    (s.setVe t v).physOf t' = s.physOf t' := rfl
@[simp] theorem State.setVe_tile (s : State) (t : Nat) (v : VeRun) (t' : Nat) :
    (s.setVe t v).tile t' = s.tile t' := rfl
@[simp] theorem State.setVe_engine (s : State) (t : Nat) (v : VeRun) (e' : Nat) :
    (s.setVe t v).engine e' = s.engine e' := rfl
@[simp] theorem State.setVe_slotNow (s : State) (t : Nat) (v : VeRun) (e' : Nat) :
    (s.setVe t v).slotNow e' = s.slotNow e' := rfl
@[simp] theorem State.setVe_slotIdx (s : State) (t : Nat) (v : VeRun) (e' : Nat) :
    (s.setVe t v).slotIdx e' = s.slotIdx e' := rfl
@[simp] theorem State.setVe_xeng (s : State) (t : Nat) (v : VeRun) (e' : Nat) :
    (s.setVe t v).xeng e' = s.xeng e' := rfl
@[simp] theorem State.setVe_redHalf (s : State) (t : Nat) (v : VeRun) (h' : Nat) :
    (s.setVe t v).redHalf h' = s.redHalf h' := rfl
@[simp] theorem State.setVe_placeOf (s : State) (t : Nat) (v : VeRun) (a' : Nat) :
    (s.setVe t v).placeOf a' = s.placeOf a' := rfl
@[simp] theorem State.setVe_hostBus (s : State) (t : Nat) (v : VeRun) (w' : Nat) :
    (s.setVe t v).hostBus w' = s.hostBus w' := rfl
@[simp] theorem State.setVe_ld (s : State) (t : Nat) (v : VeRun) (a' : Nat) :
    (s.setVe t v).ld a' = s.ld a' := rfl
@[simp] theorem State.setVe_pt (s : State) (t : Nat) (v : VeRun) (p' : Nat) :
    (s.setVe t v).pt p' = s.pt p' := rfl
@[simp] theorem State.setEngine_regs (s : State) (e : Nat) (v : EngineRun) : (s.setEngine e v).regs = s.regs := rfl
@[simp] theorem State.setEngine_mem (s : State) (e : Nat) (v : EngineRun) : (s.setEngine e v).mem = s.mem := rfl
@[simp] theorem State.setEngine_hostMem (s : State) (e : Nat) (v : EngineRun) : (s.setEngine e v).hostMem = s.hostMem := rfl
@[simp] theorem State.setEngine_poison (s : State) (e : Nat) (v : EngineRun) : (s.setEngine e v).poison = s.poison := rfl
@[simp] theorem State.setEngine_ceNoted (s : State) (e : Nat) (v : EngineRun) : (s.setEngine e v).ceNoted = s.ceNoted := rfl
@[simp] theorem State.setEngine_tb (s : State) (e : Nat) (v : EngineRun) : (s.setEngine e v).tb = s.tb := rfl
@[simp] theorem State.setEngine_tbRem (s : State) (e : Nat) (v : EngineRun) : (s.setEngine e v).tbRem = s.tbRem := rfl
@[simp] theorem State.setEngine_frameCycle (s : State) (e : Nat) (v : EngineRun) : (s.setEngine e v).frameCycle = s.frameCycle := rfl
@[simp] theorem State.setEngine_time (s : State) (e : Nat) (v : EngineRun) : (s.setEngine e v).time = s.time := rfl
@[simp] theorem State.setEngine_seq (s : State) (e : Nat) (v : EngineRun) : (s.setEngine e v).seq = s.seq := rfl
@[simp] theorem State.setEngine_prog (s : State) (e : Nat) (v : EngineRun) : (s.setEngine e v).prog = s.prog := rfl
@[simp] theorem State.setEngine_tileMap (s : State) (e : Nat) (v : EngineRun) : (s.setEngine e v).tileMap = s.tileMap := rfl
@[simp] theorem State.setEngine_tiles (s : State) (e : Nat) (v : EngineRun) : (s.setEngine e v).tiles = s.tiles := rfl
@[simp] theorem State.setEngine_ve (s : State) (e : Nat) (v : EngineRun) : (s.setEngine e v).ve = s.ve := rfl
@[simp] theorem State.setEngine_vent (s : State) (e : Nat) (v : EngineRun) : (s.setEngine e v).vent = s.vent := rfl
@[simp] theorem State.setEngine_errq (s : State) (e : Nat) (v : EngineRun) : (s.setEngine e v).errq = s.errq := rfl
@[simp] theorem State.setEngine_allocs (s : State) (e : Nat) (v : EngineRun) : (s.setEngine e v).allocs = s.allocs := rfl
@[simp] theorem State.setEngine_descs (s : State) (e : Nat) (v : EngineRun) : (s.setEngine e v).descs = s.descs := rfl
@[simp] theorem State.setEngine_policy (s : State) (e : Nat) (v : EngineRun) : (s.setEngine e v).policy = s.policy := rfl
@[simp] theorem State.setEngine_bus (s : State) (e : Nat) (v : EngineRun) : (s.setEngine e v).bus = s.bus := rfl
@[simp] theorem State.setEngine_sync (s : State) (e : Nat) (v : EngineRun) : (s.setEngine e v).sync = s.sync := rfl
@[simp] theorem State.setEngine_str (s : State) (e : Nat) (v : EngineRun) : (s.setEngine e v).str = s.str := rfl
@[simp] theorem State.setEngine_fab (s : State) (e : Nat) (v : EngineRun) : (s.setEngine e v).fab = s.fab := rfl
@[simp] theorem State.setEngine_step (s : State) (e : Nat) (v : EngineRun) : (s.setEngine e v).step = s.step := rfl
@[simp] theorem State.setEngine_sin (s : State) (e : Nat) (v : EngineRun) : (s.setEngine e v).sin = s.sin := rfl
@[simp] theorem State.setEngine_mbx (s : State) (e : Nat) (v : EngineRun) : (s.setEngine e v).mbx = s.mbx := rfl
@[simp] theorem State.setEngine_cp (s : State) (e : Nat) (v : EngineRun) : (s.setEngine e v).cp = s.cp := rfl
@[simp] theorem State.setEngine_seqRun (s : State) (e : Nat) (v : EngineRun) : (s.setEngine e v).seqRun = s.seqRun := rfl
@[simp] theorem State.setEngine_pwr (s : State) (e : Nat) (v : EngineRun) : (s.setEngine e v).pwr = s.pwr := rfl
@[simp] theorem State.setEngine_fum (s : State) (e : Nat) (v : EngineRun) : (s.setEngine e v).fum = s.fum := rfl
@[simp] theorem State.setEngine_start (s : State) (e : Nat) (v : EngineRun) : (s.setEngine e v).start = s.start := rfl
@[simp] theorem State.setEngine_xfer (s : State) (e : Nat) (v : EngineRun) : (s.setEngine e v).xfer = s.xfer := rfl
@[simp] theorem State.setEngine_inbound (s : State) (e : Nat) (v : EngineRun) : (s.setEngine e v).inbound = s.inbound := rfl
@[simp] theorem State.setEngine_gatherNum (s : State) (e : Nat) (v : EngineRun) : (s.setEngine e v).gatherNum = s.gatherNum := rfl
@[simp] theorem State.setEngine_red (s : State) (e : Nat) (v : EngineRun) : (s.setEngine e v).red = s.red := rfl
@[simp] theorem State.setEngine_bodies (s : State) (e : Nat) (v : EngineRun) : (s.setEngine e v).bodies = s.bodies := rfl
@[simp] theorem State.setEngine_res (s : State) (e : Nat) (v : EngineRun) : (s.setEngine e v).res = s.res := rfl
@[simp] theorem State.setEngine_sramScrub (s : State) (e : Nat) (v : EngineRun) : (s.setEngine e v).sramScrub = s.sramScrub := rfl
@[simp] theorem State.setEngine_frameFlags (s : State) (e : Nat) (v : EngineRun) : (s.setEngine e v).frameFlags = s.frameFlags := rfl
@[simp] theorem State.setEngine_fills (s : State) (e : Nat) (v : EngineRun) : (s.setEngine e v).fills = s.fills := rfl
@[simp] theorem State.setEngine_aborted (s : State) (e : Nat) (v : EngineRun) : (s.setEngine e v).aborted = s.aborted := rfl
@[simp] theorem State.setEngine_hbmReady (s : State) (e : Nat) (v : EngineRun) : (s.setEngine e v).hbmReady = s.hbmReady := rfl
@[simp] theorem State.setEngine_stepError (s : State) (e : Nat) (v : EngineRun) : (s.setEngine e v).stepError = s.stepError := rfl
@[simp] theorem State.setEngine_free (s : State) (e : Nat) (v : EngineRun) : (s.setEngine e v).free = s.free := rfl
@[simp] theorem State.setEngine_pending (s : State) (e : Nat) (v : EngineRun) : (s.setEngine e v).pending = s.pending := rfl
@[simp] theorem State.setEngine_rd (s : State) (e : Nat) (v : EngineRun) (g' : Fld) (j' : Nat) :
    (s.setEngine e v).rd g' j' = s.rd g' j' := rfl
@[simp] theorem State.setEngine_ptile (s : State) (e : Nat) (v : EngineRun) (p' : Nat) :
    (s.setEngine e v).ptile p' = s.ptile p' := rfl
@[simp] theorem State.setEngine_physOf (s : State) (e : Nat) (v : EngineRun) (t' : Nat) :
    (s.setEngine e v).physOf t' = s.physOf t' := rfl
@[simp] theorem State.setEngine_tile (s : State) (e : Nat) (v : EngineRun) (t' : Nat) :
    (s.setEngine e v).tile t' = s.tile t' := rfl
@[simp] theorem State.setEngine_veOf (s : State) (e : Nat) (v : EngineRun) (t' : Nat) :
    (s.setEngine e v).veOf t' = s.veOf t' := rfl
@[simp] theorem State.setEngine_xeng (s : State) (e : Nat) (v : EngineRun) (e' : Nat) :
    (s.setEngine e v).xeng e' = s.xeng e' := rfl
@[simp] theorem State.setEngine_redHalf (s : State) (e : Nat) (v : EngineRun) (h' : Nat) :
    (s.setEngine e v).redHalf h' = s.redHalf h' := rfl
@[simp] theorem State.setEngine_placeOf (s : State) (e : Nat) (v : EngineRun) (a' : Nat) :
    (s.setEngine e v).placeOf a' = s.placeOf a' := rfl
@[simp] theorem State.setEngine_hostBus (s : State) (e : Nat) (v : EngineRun) (w' : Nat) :
    (s.setEngine e v).hostBus w' = s.hostBus w' := rfl
@[simp] theorem State.setEngine_ld (s : State) (e : Nat) (v : EngineRun) (a' : Nat) :
    (s.setEngine e v).ld a' = s.ld a' := rfl
@[simp] theorem State.setEngine_pt (s : State) (e : Nat) (v : EngineRun) (p' : Nat) :
    (s.setEngine e v).pt p' = s.pt p' := rfl
@[simp] theorem State.setXeng_regs (s : State) (e : Nat) (v : XferEng) : (s.setXeng e v).regs = s.regs := rfl
@[simp] theorem State.setXeng_mem (s : State) (e : Nat) (v : XferEng) : (s.setXeng e v).mem = s.mem := rfl
@[simp] theorem State.setXeng_hostMem (s : State) (e : Nat) (v : XferEng) : (s.setXeng e v).hostMem = s.hostMem := rfl
@[simp] theorem State.setXeng_poison (s : State) (e : Nat) (v : XferEng) : (s.setXeng e v).poison = s.poison := rfl
@[simp] theorem State.setXeng_ceNoted (s : State) (e : Nat) (v : XferEng) : (s.setXeng e v).ceNoted = s.ceNoted := rfl
@[simp] theorem State.setXeng_tb (s : State) (e : Nat) (v : XferEng) : (s.setXeng e v).tb = s.tb := rfl
@[simp] theorem State.setXeng_tbRem (s : State) (e : Nat) (v : XferEng) : (s.setXeng e v).tbRem = s.tbRem := rfl
@[simp] theorem State.setXeng_frameCycle (s : State) (e : Nat) (v : XferEng) : (s.setXeng e v).frameCycle = s.frameCycle := rfl
@[simp] theorem State.setXeng_time (s : State) (e : Nat) (v : XferEng) : (s.setXeng e v).time = s.time := rfl
@[simp] theorem State.setXeng_seq (s : State) (e : Nat) (v : XferEng) : (s.setXeng e v).seq = s.seq := rfl
@[simp] theorem State.setXeng_prog (s : State) (e : Nat) (v : XferEng) : (s.setXeng e v).prog = s.prog := rfl
@[simp] theorem State.setXeng_engines (s : State) (e : Nat) (v : XferEng) : (s.setXeng e v).engines = s.engines := rfl
@[simp] theorem State.setXeng_tileMap (s : State) (e : Nat) (v : XferEng) : (s.setXeng e v).tileMap = s.tileMap := rfl
@[simp] theorem State.setXeng_tiles (s : State) (e : Nat) (v : XferEng) : (s.setXeng e v).tiles = s.tiles := rfl
@[simp] theorem State.setXeng_ve (s : State) (e : Nat) (v : XferEng) : (s.setXeng e v).ve = s.ve := rfl
@[simp] theorem State.setXeng_vent (s : State) (e : Nat) (v : XferEng) : (s.setXeng e v).vent = s.vent := rfl
@[simp] theorem State.setXeng_errq (s : State) (e : Nat) (v : XferEng) : (s.setXeng e v).errq = s.errq := rfl
@[simp] theorem State.setXeng_allocs (s : State) (e : Nat) (v : XferEng) : (s.setXeng e v).allocs = s.allocs := rfl
@[simp] theorem State.setXeng_descs (s : State) (e : Nat) (v : XferEng) : (s.setXeng e v).descs = s.descs := rfl
@[simp] theorem State.setXeng_policy (s : State) (e : Nat) (v : XferEng) : (s.setXeng e v).policy = s.policy := rfl
@[simp] theorem State.setXeng_bus (s : State) (e : Nat) (v : XferEng) : (s.setXeng e v).bus = s.bus := rfl
@[simp] theorem State.setXeng_sync (s : State) (e : Nat) (v : XferEng) : (s.setXeng e v).sync = s.sync := rfl
@[simp] theorem State.setXeng_str (s : State) (e : Nat) (v : XferEng) : (s.setXeng e v).str = s.str := rfl
@[simp] theorem State.setXeng_fab (s : State) (e : Nat) (v : XferEng) : (s.setXeng e v).fab = s.fab := rfl
@[simp] theorem State.setXeng_step (s : State) (e : Nat) (v : XferEng) : (s.setXeng e v).step = s.step := rfl
@[simp] theorem State.setXeng_sin (s : State) (e : Nat) (v : XferEng) : (s.setXeng e v).sin = s.sin := rfl
@[simp] theorem State.setXeng_mbx (s : State) (e : Nat) (v : XferEng) : (s.setXeng e v).mbx = s.mbx := rfl
@[simp] theorem State.setXeng_cp (s : State) (e : Nat) (v : XferEng) : (s.setXeng e v).cp = s.cp := rfl
@[simp] theorem State.setXeng_seqRun (s : State) (e : Nat) (v : XferEng) : (s.setXeng e v).seqRun = s.seqRun := rfl
@[simp] theorem State.setXeng_pwr (s : State) (e : Nat) (v : XferEng) : (s.setXeng e v).pwr = s.pwr := rfl
@[simp] theorem State.setXeng_fum (s : State) (e : Nat) (v : XferEng) : (s.setXeng e v).fum = s.fum := rfl
@[simp] theorem State.setXeng_start (s : State) (e : Nat) (v : XferEng) : (s.setXeng e v).start = s.start := rfl
@[simp] theorem State.setXeng_inbound (s : State) (e : Nat) (v : XferEng) : (s.setXeng e v).inbound = s.inbound := rfl
@[simp] theorem State.setXeng_gatherNum (s : State) (e : Nat) (v : XferEng) : (s.setXeng e v).gatherNum = s.gatherNum := rfl
@[simp] theorem State.setXeng_red (s : State) (e : Nat) (v : XferEng) : (s.setXeng e v).red = s.red := rfl
@[simp] theorem State.setXeng_bodies (s : State) (e : Nat) (v : XferEng) : (s.setXeng e v).bodies = s.bodies := rfl
@[simp] theorem State.setXeng_res (s : State) (e : Nat) (v : XferEng) : (s.setXeng e v).res = s.res := rfl
@[simp] theorem State.setXeng_sramScrub (s : State) (e : Nat) (v : XferEng) : (s.setXeng e v).sramScrub = s.sramScrub := rfl
@[simp] theorem State.setXeng_frameFlags (s : State) (e : Nat) (v : XferEng) : (s.setXeng e v).frameFlags = s.frameFlags := rfl
@[simp] theorem State.setXeng_fills (s : State) (e : Nat) (v : XferEng) : (s.setXeng e v).fills = s.fills := rfl
@[simp] theorem State.setXeng_aborted (s : State) (e : Nat) (v : XferEng) : (s.setXeng e v).aborted = s.aborted := rfl
@[simp] theorem State.setXeng_hbmReady (s : State) (e : Nat) (v : XferEng) : (s.setXeng e v).hbmReady = s.hbmReady := rfl
@[simp] theorem State.setXeng_stepError (s : State) (e : Nat) (v : XferEng) : (s.setXeng e v).stepError = s.stepError := rfl
@[simp] theorem State.setXeng_free (s : State) (e : Nat) (v : XferEng) : (s.setXeng e v).free = s.free := rfl
@[simp] theorem State.setXeng_pending (s : State) (e : Nat) (v : XferEng) : (s.setXeng e v).pending = s.pending := rfl
@[simp] theorem State.setXeng_rd (s : State) (e : Nat) (v : XferEng) (g' : Fld) (j' : Nat) :
    (s.setXeng e v).rd g' j' = s.rd g' j' := rfl
@[simp] theorem State.setXeng_ptile (s : State) (e : Nat) (v : XferEng) (p' : Nat) :
    (s.setXeng e v).ptile p' = s.ptile p' := rfl
@[simp] theorem State.setXeng_physOf (s : State) (e : Nat) (v : XferEng) (t' : Nat) :
    (s.setXeng e v).physOf t' = s.physOf t' := rfl
@[simp] theorem State.setXeng_tile (s : State) (e : Nat) (v : XferEng) (t' : Nat) :
    (s.setXeng e v).tile t' = s.tile t' := rfl
@[simp] theorem State.setXeng_veOf (s : State) (e : Nat) (v : XferEng) (t' : Nat) :
    (s.setXeng e v).veOf t' = s.veOf t' := rfl
@[simp] theorem State.setXeng_engine (s : State) (e : Nat) (v : XferEng) (e' : Nat) :
    (s.setXeng e v).engine e' = s.engine e' := rfl
@[simp] theorem State.setXeng_slotNow (s : State) (e : Nat) (v : XferEng) (e' : Nat) :
    (s.setXeng e v).slotNow e' = s.slotNow e' := rfl
@[simp] theorem State.setXeng_slotIdx (s : State) (e : Nat) (v : XferEng) (e' : Nat) :
    (s.setXeng e v).slotIdx e' = s.slotIdx e' := rfl
@[simp] theorem State.setXeng_redHalf (s : State) (e : Nat) (v : XferEng) (h' : Nat) :
    (s.setXeng e v).redHalf h' = s.redHalf h' := rfl
@[simp] theorem State.setXeng_placeOf (s : State) (e : Nat) (v : XferEng) (a' : Nat) :
    (s.setXeng e v).placeOf a' = s.placeOf a' := rfl
@[simp] theorem State.setXeng_hostBus (s : State) (e : Nat) (v : XferEng) (w' : Nat) :
    (s.setXeng e v).hostBus w' = s.hostBus w' := rfl
@[simp] theorem State.setXeng_ld (s : State) (e : Nat) (v : XferEng) (a' : Nat) :
    (s.setXeng e v).ld a' = s.ld a' := rfl
@[simp] theorem State.setXeng_pt (s : State) (e : Nat) (v : XferEng) (p' : Nat) :
    (s.setXeng e v).pt p' = s.pt p' := rfl
@[simp] theorem State.setRed_regs (s : State) (h : Nat) (v : RedHalf) : (s.setRed h v).regs = s.regs := rfl
@[simp] theorem State.setRed_mem (s : State) (h : Nat) (v : RedHalf) : (s.setRed h v).mem = s.mem := rfl
@[simp] theorem State.setRed_hostMem (s : State) (h : Nat) (v : RedHalf) : (s.setRed h v).hostMem = s.hostMem := rfl
@[simp] theorem State.setRed_poison (s : State) (h : Nat) (v : RedHalf) : (s.setRed h v).poison = s.poison := rfl
@[simp] theorem State.setRed_ceNoted (s : State) (h : Nat) (v : RedHalf) : (s.setRed h v).ceNoted = s.ceNoted := rfl
@[simp] theorem State.setRed_tb (s : State) (h : Nat) (v : RedHalf) : (s.setRed h v).tb = s.tb := rfl
@[simp] theorem State.setRed_tbRem (s : State) (h : Nat) (v : RedHalf) : (s.setRed h v).tbRem = s.tbRem := rfl
@[simp] theorem State.setRed_frameCycle (s : State) (h : Nat) (v : RedHalf) : (s.setRed h v).frameCycle = s.frameCycle := rfl
@[simp] theorem State.setRed_time (s : State) (h : Nat) (v : RedHalf) : (s.setRed h v).time = s.time := rfl
@[simp] theorem State.setRed_seq (s : State) (h : Nat) (v : RedHalf) : (s.setRed h v).seq = s.seq := rfl
@[simp] theorem State.setRed_prog (s : State) (h : Nat) (v : RedHalf) : (s.setRed h v).prog = s.prog := rfl
@[simp] theorem State.setRed_engines (s : State) (h : Nat) (v : RedHalf) : (s.setRed h v).engines = s.engines := rfl
@[simp] theorem State.setRed_tileMap (s : State) (h : Nat) (v : RedHalf) : (s.setRed h v).tileMap = s.tileMap := rfl
@[simp] theorem State.setRed_tiles (s : State) (h : Nat) (v : RedHalf) : (s.setRed h v).tiles = s.tiles := rfl
@[simp] theorem State.setRed_ve (s : State) (h : Nat) (v : RedHalf) : (s.setRed h v).ve = s.ve := rfl
@[simp] theorem State.setRed_vent (s : State) (h : Nat) (v : RedHalf) : (s.setRed h v).vent = s.vent := rfl
@[simp] theorem State.setRed_errq (s : State) (h : Nat) (v : RedHalf) : (s.setRed h v).errq = s.errq := rfl
@[simp] theorem State.setRed_allocs (s : State) (h : Nat) (v : RedHalf) : (s.setRed h v).allocs = s.allocs := rfl
@[simp] theorem State.setRed_descs (s : State) (h : Nat) (v : RedHalf) : (s.setRed h v).descs = s.descs := rfl
@[simp] theorem State.setRed_policy (s : State) (h : Nat) (v : RedHalf) : (s.setRed h v).policy = s.policy := rfl
@[simp] theorem State.setRed_bus (s : State) (h : Nat) (v : RedHalf) : (s.setRed h v).bus = s.bus := rfl
@[simp] theorem State.setRed_sync (s : State) (h : Nat) (v : RedHalf) : (s.setRed h v).sync = s.sync := rfl
@[simp] theorem State.setRed_str (s : State) (h : Nat) (v : RedHalf) : (s.setRed h v).str = s.str := rfl
@[simp] theorem State.setRed_fab (s : State) (h : Nat) (v : RedHalf) : (s.setRed h v).fab = s.fab := rfl
@[simp] theorem State.setRed_step (s : State) (h : Nat) (v : RedHalf) : (s.setRed h v).step = s.step := rfl
@[simp] theorem State.setRed_sin (s : State) (h : Nat) (v : RedHalf) : (s.setRed h v).sin = s.sin := rfl
@[simp] theorem State.setRed_mbx (s : State) (h : Nat) (v : RedHalf) : (s.setRed h v).mbx = s.mbx := rfl
@[simp] theorem State.setRed_cp (s : State) (h : Nat) (v : RedHalf) : (s.setRed h v).cp = s.cp := rfl
@[simp] theorem State.setRed_seqRun (s : State) (h : Nat) (v : RedHalf) : (s.setRed h v).seqRun = s.seqRun := rfl
@[simp] theorem State.setRed_pwr (s : State) (h : Nat) (v : RedHalf) : (s.setRed h v).pwr = s.pwr := rfl
@[simp] theorem State.setRed_fum (s : State) (h : Nat) (v : RedHalf) : (s.setRed h v).fum = s.fum := rfl
@[simp] theorem State.setRed_start (s : State) (h : Nat) (v : RedHalf) : (s.setRed h v).start = s.start := rfl
@[simp] theorem State.setRed_xfer (s : State) (h : Nat) (v : RedHalf) : (s.setRed h v).xfer = s.xfer := rfl
@[simp] theorem State.setRed_inbound (s : State) (h : Nat) (v : RedHalf) : (s.setRed h v).inbound = s.inbound := rfl
@[simp] theorem State.setRed_gatherNum (s : State) (h : Nat) (v : RedHalf) : (s.setRed h v).gatherNum = s.gatherNum := rfl
@[simp] theorem State.setRed_bodies (s : State) (h : Nat) (v : RedHalf) : (s.setRed h v).bodies = s.bodies := rfl
@[simp] theorem State.setRed_res (s : State) (h : Nat) (v : RedHalf) : (s.setRed h v).res = s.res := rfl
@[simp] theorem State.setRed_sramScrub (s : State) (h : Nat) (v : RedHalf) : (s.setRed h v).sramScrub = s.sramScrub := rfl
@[simp] theorem State.setRed_frameFlags (s : State) (h : Nat) (v : RedHalf) : (s.setRed h v).frameFlags = s.frameFlags := rfl
@[simp] theorem State.setRed_fills (s : State) (h : Nat) (v : RedHalf) : (s.setRed h v).fills = s.fills := rfl
@[simp] theorem State.setRed_aborted (s : State) (h : Nat) (v : RedHalf) : (s.setRed h v).aborted = s.aborted := rfl
@[simp] theorem State.setRed_hbmReady (s : State) (h : Nat) (v : RedHalf) : (s.setRed h v).hbmReady = s.hbmReady := rfl
@[simp] theorem State.setRed_stepError (s : State) (h : Nat) (v : RedHalf) : (s.setRed h v).stepError = s.stepError := rfl
@[simp] theorem State.setRed_free (s : State) (h : Nat) (v : RedHalf) : (s.setRed h v).free = s.free := rfl
@[simp] theorem State.setRed_pending (s : State) (h : Nat) (v : RedHalf) : (s.setRed h v).pending = s.pending := rfl
@[simp] theorem State.setRed_rd (s : State) (h : Nat) (v : RedHalf) (g' : Fld) (j' : Nat) :
    (s.setRed h v).rd g' j' = s.rd g' j' := rfl
@[simp] theorem State.setRed_ptile (s : State) (h : Nat) (v : RedHalf) (p' : Nat) :
    (s.setRed h v).ptile p' = s.ptile p' := rfl
@[simp] theorem State.setRed_physOf (s : State) (h : Nat) (v : RedHalf) (t' : Nat) :
    (s.setRed h v).physOf t' = s.physOf t' := rfl
@[simp] theorem State.setRed_tile (s : State) (h : Nat) (v : RedHalf) (t' : Nat) :
    (s.setRed h v).tile t' = s.tile t' := rfl
@[simp] theorem State.setRed_veOf (s : State) (h : Nat) (v : RedHalf) (t' : Nat) :
    (s.setRed h v).veOf t' = s.veOf t' := rfl
@[simp] theorem State.setRed_engine (s : State) (h : Nat) (v : RedHalf) (e' : Nat) :
    (s.setRed h v).engine e' = s.engine e' := rfl
@[simp] theorem State.setRed_slotNow (s : State) (h : Nat) (v : RedHalf) (e' : Nat) :
    (s.setRed h v).slotNow e' = s.slotNow e' := rfl
@[simp] theorem State.setRed_slotIdx (s : State) (h : Nat) (v : RedHalf) (e' : Nat) :
    (s.setRed h v).slotIdx e' = s.slotIdx e' := rfl
@[simp] theorem State.setRed_xeng (s : State) (h : Nat) (v : RedHalf) (e' : Nat) :
    (s.setRed h v).xeng e' = s.xeng e' := rfl
@[simp] theorem State.setRed_placeOf (s : State) (h : Nat) (v : RedHalf) (a' : Nat) :
    (s.setRed h v).placeOf a' = s.placeOf a' := rfl
@[simp] theorem State.setRed_hostBus (s : State) (h : Nat) (v : RedHalf) (w' : Nat) :
    (s.setRed h v).hostBus w' = s.hostBus w' := rfl
@[simp] theorem State.setRed_ld (s : State) (h : Nat) (v : RedHalf) (a' : Nat) :
    (s.setRed h v).ld a' = s.ld a' := rfl
@[simp] theorem State.setRed_pt (s : State) (h : Nat) (v : RedHalf) (p' : Nat) :
    (s.setRed h v).pt p' = s.pt p' := rfl
@[simp] theorem State.setMbx_regs (s : State) (u : MbxUnit) : (s.setMbx u).regs = s.regs := rfl
@[simp] theorem State.setMbx_mem (s : State) (u : MbxUnit) : (s.setMbx u).mem = s.mem := rfl
@[simp] theorem State.setMbx_hostMem (s : State) (u : MbxUnit) : (s.setMbx u).hostMem = s.hostMem := rfl
@[simp] theorem State.setMbx_poison (s : State) (u : MbxUnit) : (s.setMbx u).poison = s.poison := rfl
@[simp] theorem State.setMbx_ceNoted (s : State) (u : MbxUnit) : (s.setMbx u).ceNoted = s.ceNoted := rfl
@[simp] theorem State.setMbx_tb (s : State) (u : MbxUnit) : (s.setMbx u).tb = s.tb := rfl
@[simp] theorem State.setMbx_tbRem (s : State) (u : MbxUnit) : (s.setMbx u).tbRem = s.tbRem := rfl
@[simp] theorem State.setMbx_frameCycle (s : State) (u : MbxUnit) : (s.setMbx u).frameCycle = s.frameCycle := rfl
@[simp] theorem State.setMbx_time (s : State) (u : MbxUnit) : (s.setMbx u).time = s.time := rfl
@[simp] theorem State.setMbx_seq (s : State) (u : MbxUnit) : (s.setMbx u).seq = s.seq := rfl
@[simp] theorem State.setMbx_prog (s : State) (u : MbxUnit) : (s.setMbx u).prog = s.prog := rfl
@[simp] theorem State.setMbx_engines (s : State) (u : MbxUnit) : (s.setMbx u).engines = s.engines := rfl
@[simp] theorem State.setMbx_tileMap (s : State) (u : MbxUnit) : (s.setMbx u).tileMap = s.tileMap := rfl
@[simp] theorem State.setMbx_tiles (s : State) (u : MbxUnit) : (s.setMbx u).tiles = s.tiles := rfl
@[simp] theorem State.setMbx_ve (s : State) (u : MbxUnit) : (s.setMbx u).ve = s.ve := rfl
@[simp] theorem State.setMbx_vent (s : State) (u : MbxUnit) : (s.setMbx u).vent = s.vent := rfl
@[simp] theorem State.setMbx_errq (s : State) (u : MbxUnit) : (s.setMbx u).errq = s.errq := rfl
@[simp] theorem State.setMbx_allocs (s : State) (u : MbxUnit) : (s.setMbx u).allocs = s.allocs := rfl
@[simp] theorem State.setMbx_descs (s : State) (u : MbxUnit) : (s.setMbx u).descs = s.descs := rfl
@[simp] theorem State.setMbx_policy (s : State) (u : MbxUnit) : (s.setMbx u).policy = s.policy := rfl
@[simp] theorem State.setMbx_bus (s : State) (u : MbxUnit) : (s.setMbx u).bus = s.bus := rfl
@[simp] theorem State.setMbx_sync (s : State) (u : MbxUnit) : (s.setMbx u).sync = s.sync := rfl
@[simp] theorem State.setMbx_str (s : State) (u : MbxUnit) : (s.setMbx u).str = s.str := rfl
@[simp] theorem State.setMbx_fab (s : State) (u : MbxUnit) : (s.setMbx u).fab = s.fab := rfl
@[simp] theorem State.setMbx_step (s : State) (u : MbxUnit) : (s.setMbx u).step = s.step := rfl
@[simp] theorem State.setMbx_sin (s : State) (u : MbxUnit) : (s.setMbx u).sin = s.sin := rfl
@[simp] theorem State.setMbx_cp (s : State) (u : MbxUnit) : (s.setMbx u).cp = s.cp := rfl
@[simp] theorem State.setMbx_seqRun (s : State) (u : MbxUnit) : (s.setMbx u).seqRun = s.seqRun := rfl
@[simp] theorem State.setMbx_pwr (s : State) (u : MbxUnit) : (s.setMbx u).pwr = s.pwr := rfl
@[simp] theorem State.setMbx_fum (s : State) (u : MbxUnit) : (s.setMbx u).fum = s.fum := rfl
@[simp] theorem State.setMbx_start (s : State) (u : MbxUnit) : (s.setMbx u).start = s.start := rfl
@[simp] theorem State.setMbx_xfer (s : State) (u : MbxUnit) : (s.setMbx u).xfer = s.xfer := rfl
@[simp] theorem State.setMbx_inbound (s : State) (u : MbxUnit) : (s.setMbx u).inbound = s.inbound := rfl
@[simp] theorem State.setMbx_gatherNum (s : State) (u : MbxUnit) : (s.setMbx u).gatherNum = s.gatherNum := rfl
@[simp] theorem State.setMbx_red (s : State) (u : MbxUnit) : (s.setMbx u).red = s.red := rfl
@[simp] theorem State.setMbx_bodies (s : State) (u : MbxUnit) : (s.setMbx u).bodies = s.bodies := rfl
@[simp] theorem State.setMbx_res (s : State) (u : MbxUnit) : (s.setMbx u).res = s.res := rfl
@[simp] theorem State.setMbx_sramScrub (s : State) (u : MbxUnit) : (s.setMbx u).sramScrub = s.sramScrub := rfl
@[simp] theorem State.setMbx_frameFlags (s : State) (u : MbxUnit) : (s.setMbx u).frameFlags = s.frameFlags := rfl
@[simp] theorem State.setMbx_fills (s : State) (u : MbxUnit) : (s.setMbx u).fills = s.fills := rfl
@[simp] theorem State.setMbx_aborted (s : State) (u : MbxUnit) : (s.setMbx u).aborted = s.aborted := rfl
@[simp] theorem State.setMbx_hbmReady (s : State) (u : MbxUnit) : (s.setMbx u).hbmReady = s.hbmReady := rfl
@[simp] theorem State.setMbx_stepError (s : State) (u : MbxUnit) : (s.setMbx u).stepError = s.stepError := rfl
@[simp] theorem State.setMbx_free (s : State) (u : MbxUnit) : (s.setMbx u).free = s.free := rfl
@[simp] theorem State.setMbx_pending (s : State) (u : MbxUnit) : (s.setMbx u).pending = s.pending := rfl
@[simp] theorem State.setMbx_rd (s : State) (u : MbxUnit) (g' : Fld) (j' : Nat) :
    (s.setMbx u).rd g' j' = s.rd g' j' := rfl
@[simp] theorem State.setMbx_ptile (s : State) (u : MbxUnit) (p' : Nat) :
    (s.setMbx u).ptile p' = s.ptile p' := rfl
@[simp] theorem State.setMbx_physOf (s : State) (u : MbxUnit) (t' : Nat) :
    (s.setMbx u).physOf t' = s.physOf t' := rfl
@[simp] theorem State.setMbx_tile (s : State) (u : MbxUnit) (t' : Nat) :
    (s.setMbx u).tile t' = s.tile t' := rfl
@[simp] theorem State.setMbx_veOf (s : State) (u : MbxUnit) (t' : Nat) :
    (s.setMbx u).veOf t' = s.veOf t' := rfl
@[simp] theorem State.setMbx_engine (s : State) (u : MbxUnit) (e' : Nat) :
    (s.setMbx u).engine e' = s.engine e' := rfl
@[simp] theorem State.setMbx_slotNow (s : State) (u : MbxUnit) (e' : Nat) :
    (s.setMbx u).slotNow e' = s.slotNow e' := rfl
@[simp] theorem State.setMbx_slotIdx (s : State) (u : MbxUnit) (e' : Nat) :
    (s.setMbx u).slotIdx e' = s.slotIdx e' := rfl
@[simp] theorem State.setMbx_xeng (s : State) (u : MbxUnit) (e' : Nat) :
    (s.setMbx u).xeng e' = s.xeng e' := rfl
@[simp] theorem State.setMbx_redHalf (s : State) (u : MbxUnit) (h' : Nat) :
    (s.setMbx u).redHalf h' = s.redHalf h' := rfl
@[simp] theorem State.setMbx_placeOf (s : State) (u : MbxUnit) (a' : Nat) :
    (s.setMbx u).placeOf a' = s.placeOf a' := rfl
@[simp] theorem State.setMbx_hostBus (s : State) (u : MbxUnit) (w' : Nat) :
    (s.setMbx u).hostBus w' = s.hostBus w' := rfl
@[simp] theorem State.setMbx_ld (s : State) (u : MbxUnit) (a' : Nat) :
    (s.setMbx u).ld a' = s.ld a' := rfl
@[simp] theorem State.setMbx_pt (s : State) (u : MbxUnit) (p' : Nat) :
    (s.setMbx u).pt p' = s.pt p' := rfl
@[simp] theorem State.setStep_regs (s : State) (u : StepUnit) : (s.setStep u).regs = s.regs := rfl
@[simp] theorem State.setStep_mem (s : State) (u : StepUnit) : (s.setStep u).mem = s.mem := rfl
@[simp] theorem State.setStep_hostMem (s : State) (u : StepUnit) : (s.setStep u).hostMem = s.hostMem := rfl
@[simp] theorem State.setStep_poison (s : State) (u : StepUnit) : (s.setStep u).poison = s.poison := rfl
@[simp] theorem State.setStep_ceNoted (s : State) (u : StepUnit) : (s.setStep u).ceNoted = s.ceNoted := rfl
@[simp] theorem State.setStep_tb (s : State) (u : StepUnit) : (s.setStep u).tb = s.tb := rfl
@[simp] theorem State.setStep_tbRem (s : State) (u : StepUnit) : (s.setStep u).tbRem = s.tbRem := rfl
@[simp] theorem State.setStep_frameCycle (s : State) (u : StepUnit) : (s.setStep u).frameCycle = s.frameCycle := rfl
@[simp] theorem State.setStep_time (s : State) (u : StepUnit) : (s.setStep u).time = s.time := rfl
@[simp] theorem State.setStep_seq (s : State) (u : StepUnit) : (s.setStep u).seq = s.seq := rfl
@[simp] theorem State.setStep_prog (s : State) (u : StepUnit) : (s.setStep u).prog = s.prog := rfl
@[simp] theorem State.setStep_engines (s : State) (u : StepUnit) : (s.setStep u).engines = s.engines := rfl
@[simp] theorem State.setStep_tileMap (s : State) (u : StepUnit) : (s.setStep u).tileMap = s.tileMap := rfl
@[simp] theorem State.setStep_tiles (s : State) (u : StepUnit) : (s.setStep u).tiles = s.tiles := rfl
@[simp] theorem State.setStep_ve (s : State) (u : StepUnit) : (s.setStep u).ve = s.ve := rfl
@[simp] theorem State.setStep_vent (s : State) (u : StepUnit) : (s.setStep u).vent = s.vent := rfl
@[simp] theorem State.setStep_errq (s : State) (u : StepUnit) : (s.setStep u).errq = s.errq := rfl
@[simp] theorem State.setStep_allocs (s : State) (u : StepUnit) : (s.setStep u).allocs = s.allocs := rfl
@[simp] theorem State.setStep_descs (s : State) (u : StepUnit) : (s.setStep u).descs = s.descs := rfl
@[simp] theorem State.setStep_policy (s : State) (u : StepUnit) : (s.setStep u).policy = s.policy := rfl
@[simp] theorem State.setStep_bus (s : State) (u : StepUnit) : (s.setStep u).bus = s.bus := rfl
@[simp] theorem State.setStep_sync (s : State) (u : StepUnit) : (s.setStep u).sync = s.sync := rfl
@[simp] theorem State.setStep_str (s : State) (u : StepUnit) : (s.setStep u).str = s.str := rfl
@[simp] theorem State.setStep_fab (s : State) (u : StepUnit) : (s.setStep u).fab = s.fab := rfl
@[simp] theorem State.setStep_sin (s : State) (u : StepUnit) : (s.setStep u).sin = s.sin := rfl
@[simp] theorem State.setStep_mbx (s : State) (u : StepUnit) : (s.setStep u).mbx = s.mbx := rfl
@[simp] theorem State.setStep_cp (s : State) (u : StepUnit) : (s.setStep u).cp = s.cp := rfl
@[simp] theorem State.setStep_seqRun (s : State) (u : StepUnit) : (s.setStep u).seqRun = s.seqRun := rfl
@[simp] theorem State.setStep_pwr (s : State) (u : StepUnit) : (s.setStep u).pwr = s.pwr := rfl
@[simp] theorem State.setStep_fum (s : State) (u : StepUnit) : (s.setStep u).fum = s.fum := rfl
@[simp] theorem State.setStep_start (s : State) (u : StepUnit) : (s.setStep u).start = s.start := rfl
@[simp] theorem State.setStep_xfer (s : State) (u : StepUnit) : (s.setStep u).xfer = s.xfer := rfl
@[simp] theorem State.setStep_inbound (s : State) (u : StepUnit) : (s.setStep u).inbound = s.inbound := rfl
@[simp] theorem State.setStep_gatherNum (s : State) (u : StepUnit) : (s.setStep u).gatherNum = s.gatherNum := rfl
@[simp] theorem State.setStep_red (s : State) (u : StepUnit) : (s.setStep u).red = s.red := rfl
@[simp] theorem State.setStep_bodies (s : State) (u : StepUnit) : (s.setStep u).bodies = s.bodies := rfl
@[simp] theorem State.setStep_res (s : State) (u : StepUnit) : (s.setStep u).res = s.res := rfl
@[simp] theorem State.setStep_sramScrub (s : State) (u : StepUnit) : (s.setStep u).sramScrub = s.sramScrub := rfl
@[simp] theorem State.setStep_frameFlags (s : State) (u : StepUnit) : (s.setStep u).frameFlags = s.frameFlags := rfl
@[simp] theorem State.setStep_fills (s : State) (u : StepUnit) : (s.setStep u).fills = s.fills := rfl
@[simp] theorem State.setStep_aborted (s : State) (u : StepUnit) : (s.setStep u).aborted = s.aborted := rfl
@[simp] theorem State.setStep_hbmReady (s : State) (u : StepUnit) : (s.setStep u).hbmReady = s.hbmReady := rfl
@[simp] theorem State.setStep_stepError (s : State) (u : StepUnit) : (s.setStep u).stepError = s.stepError := rfl
@[simp] theorem State.setStep_free (s : State) (u : StepUnit) : (s.setStep u).free = s.free := rfl
@[simp] theorem State.setStep_pending (s : State) (u : StepUnit) : (s.setStep u).pending = s.pending := rfl
@[simp] theorem State.setStep_rd (s : State) (u : StepUnit) (g' : Fld) (j' : Nat) :
    (s.setStep u).rd g' j' = s.rd g' j' := rfl
@[simp] theorem State.setStep_ptile (s : State) (u : StepUnit) (p' : Nat) :
    (s.setStep u).ptile p' = s.ptile p' := rfl
@[simp] theorem State.setStep_physOf (s : State) (u : StepUnit) (t' : Nat) :
    (s.setStep u).physOf t' = s.physOf t' := rfl
@[simp] theorem State.setStep_tile (s : State) (u : StepUnit) (t' : Nat) :
    (s.setStep u).tile t' = s.tile t' := rfl
@[simp] theorem State.setStep_veOf (s : State) (u : StepUnit) (t' : Nat) :
    (s.setStep u).veOf t' = s.veOf t' := rfl
@[simp] theorem State.setStep_engine (s : State) (u : StepUnit) (e' : Nat) :
    (s.setStep u).engine e' = s.engine e' := rfl
@[simp] theorem State.setStep_slotNow (s : State) (u : StepUnit) (e' : Nat) :
    (s.setStep u).slotNow e' = s.slotNow e' := rfl
@[simp] theorem State.setStep_slotIdx (s : State) (u : StepUnit) (e' : Nat) :
    (s.setStep u).slotIdx e' = s.slotIdx e' := rfl
@[simp] theorem State.setStep_xeng (s : State) (u : StepUnit) (e' : Nat) :
    (s.setStep u).xeng e' = s.xeng e' := rfl
@[simp] theorem State.setStep_redHalf (s : State) (u : StepUnit) (h' : Nat) :
    (s.setStep u).redHalf h' = s.redHalf h' := rfl
@[simp] theorem State.setStep_placeOf (s : State) (u : StepUnit) (a' : Nat) :
    (s.setStep u).placeOf a' = s.placeOf a' := rfl
@[simp] theorem State.setStep_hostBus (s : State) (u : StepUnit) (w' : Nat) :
    (s.setStep u).hostBus w' = s.hostBus w' := rfl
@[simp] theorem State.setStep_ld (s : State) (u : StepUnit) (a' : Nat) :
    (s.setStep u).ld a' = s.ld a' := rfl
@[simp] theorem State.setStep_pt (s : State) (u : StepUnit) (p' : Nat) :
    (s.setStep u).pt p' = s.pt p' := rfl
@[simp] theorem State.setSin_regs (s : State) (u : SinUnit) : (s.setSin u).regs = s.regs := rfl
@[simp] theorem State.setSin_mem (s : State) (u : SinUnit) : (s.setSin u).mem = s.mem := rfl
@[simp] theorem State.setSin_hostMem (s : State) (u : SinUnit) : (s.setSin u).hostMem = s.hostMem := rfl
@[simp] theorem State.setSin_poison (s : State) (u : SinUnit) : (s.setSin u).poison = s.poison := rfl
@[simp] theorem State.setSin_ceNoted (s : State) (u : SinUnit) : (s.setSin u).ceNoted = s.ceNoted := rfl
@[simp] theorem State.setSin_tb (s : State) (u : SinUnit) : (s.setSin u).tb = s.tb := rfl
@[simp] theorem State.setSin_tbRem (s : State) (u : SinUnit) : (s.setSin u).tbRem = s.tbRem := rfl
@[simp] theorem State.setSin_frameCycle (s : State) (u : SinUnit) : (s.setSin u).frameCycle = s.frameCycle := rfl
@[simp] theorem State.setSin_time (s : State) (u : SinUnit) : (s.setSin u).time = s.time := rfl
@[simp] theorem State.setSin_seq (s : State) (u : SinUnit) : (s.setSin u).seq = s.seq := rfl
@[simp] theorem State.setSin_prog (s : State) (u : SinUnit) : (s.setSin u).prog = s.prog := rfl
@[simp] theorem State.setSin_engines (s : State) (u : SinUnit) : (s.setSin u).engines = s.engines := rfl
@[simp] theorem State.setSin_tileMap (s : State) (u : SinUnit) : (s.setSin u).tileMap = s.tileMap := rfl
@[simp] theorem State.setSin_tiles (s : State) (u : SinUnit) : (s.setSin u).tiles = s.tiles := rfl
@[simp] theorem State.setSin_ve (s : State) (u : SinUnit) : (s.setSin u).ve = s.ve := rfl
@[simp] theorem State.setSin_vent (s : State) (u : SinUnit) : (s.setSin u).vent = s.vent := rfl
@[simp] theorem State.setSin_errq (s : State) (u : SinUnit) : (s.setSin u).errq = s.errq := rfl
@[simp] theorem State.setSin_allocs (s : State) (u : SinUnit) : (s.setSin u).allocs = s.allocs := rfl
@[simp] theorem State.setSin_descs (s : State) (u : SinUnit) : (s.setSin u).descs = s.descs := rfl
@[simp] theorem State.setSin_policy (s : State) (u : SinUnit) : (s.setSin u).policy = s.policy := rfl
@[simp] theorem State.setSin_bus (s : State) (u : SinUnit) : (s.setSin u).bus = s.bus := rfl
@[simp] theorem State.setSin_sync (s : State) (u : SinUnit) : (s.setSin u).sync = s.sync := rfl
@[simp] theorem State.setSin_str (s : State) (u : SinUnit) : (s.setSin u).str = s.str := rfl
@[simp] theorem State.setSin_fab (s : State) (u : SinUnit) : (s.setSin u).fab = s.fab := rfl
@[simp] theorem State.setSin_step (s : State) (u : SinUnit) : (s.setSin u).step = s.step := rfl
@[simp] theorem State.setSin_mbx (s : State) (u : SinUnit) : (s.setSin u).mbx = s.mbx := rfl
@[simp] theorem State.setSin_cp (s : State) (u : SinUnit) : (s.setSin u).cp = s.cp := rfl
@[simp] theorem State.setSin_seqRun (s : State) (u : SinUnit) : (s.setSin u).seqRun = s.seqRun := rfl
@[simp] theorem State.setSin_pwr (s : State) (u : SinUnit) : (s.setSin u).pwr = s.pwr := rfl
@[simp] theorem State.setSin_fum (s : State) (u : SinUnit) : (s.setSin u).fum = s.fum := rfl
@[simp] theorem State.setSin_start (s : State) (u : SinUnit) : (s.setSin u).start = s.start := rfl
@[simp] theorem State.setSin_xfer (s : State) (u : SinUnit) : (s.setSin u).xfer = s.xfer := rfl
@[simp] theorem State.setSin_inbound (s : State) (u : SinUnit) : (s.setSin u).inbound = s.inbound := rfl
@[simp] theorem State.setSin_gatherNum (s : State) (u : SinUnit) : (s.setSin u).gatherNum = s.gatherNum := rfl
@[simp] theorem State.setSin_red (s : State) (u : SinUnit) : (s.setSin u).red = s.red := rfl
@[simp] theorem State.setSin_bodies (s : State) (u : SinUnit) : (s.setSin u).bodies = s.bodies := rfl
@[simp] theorem State.setSin_res (s : State) (u : SinUnit) : (s.setSin u).res = s.res := rfl
@[simp] theorem State.setSin_sramScrub (s : State) (u : SinUnit) : (s.setSin u).sramScrub = s.sramScrub := rfl
@[simp] theorem State.setSin_frameFlags (s : State) (u : SinUnit) : (s.setSin u).frameFlags = s.frameFlags := rfl
@[simp] theorem State.setSin_fills (s : State) (u : SinUnit) : (s.setSin u).fills = s.fills := rfl
@[simp] theorem State.setSin_aborted (s : State) (u : SinUnit) : (s.setSin u).aborted = s.aborted := rfl
@[simp] theorem State.setSin_hbmReady (s : State) (u : SinUnit) : (s.setSin u).hbmReady = s.hbmReady := rfl
@[simp] theorem State.setSin_stepError (s : State) (u : SinUnit) : (s.setSin u).stepError = s.stepError := rfl
@[simp] theorem State.setSin_free (s : State) (u : SinUnit) : (s.setSin u).free = s.free := rfl
@[simp] theorem State.setSin_pending (s : State) (u : SinUnit) : (s.setSin u).pending = s.pending := rfl
@[simp] theorem State.setSin_rd (s : State) (u : SinUnit) (g' : Fld) (j' : Nat) :
    (s.setSin u).rd g' j' = s.rd g' j' := rfl
@[simp] theorem State.setSin_ptile (s : State) (u : SinUnit) (p' : Nat) :
    (s.setSin u).ptile p' = s.ptile p' := rfl
@[simp] theorem State.setSin_physOf (s : State) (u : SinUnit) (t' : Nat) :
    (s.setSin u).physOf t' = s.physOf t' := rfl
@[simp] theorem State.setSin_tile (s : State) (u : SinUnit) (t' : Nat) :
    (s.setSin u).tile t' = s.tile t' := rfl
@[simp] theorem State.setSin_veOf (s : State) (u : SinUnit) (t' : Nat) :
    (s.setSin u).veOf t' = s.veOf t' := rfl
@[simp] theorem State.setSin_engine (s : State) (u : SinUnit) (e' : Nat) :
    (s.setSin u).engine e' = s.engine e' := rfl
@[simp] theorem State.setSin_slotNow (s : State) (u : SinUnit) (e' : Nat) :
    (s.setSin u).slotNow e' = s.slotNow e' := rfl
@[simp] theorem State.setSin_slotIdx (s : State) (u : SinUnit) (e' : Nat) :
    (s.setSin u).slotIdx e' = s.slotIdx e' := rfl
@[simp] theorem State.setSin_xeng (s : State) (u : SinUnit) (e' : Nat) :
    (s.setSin u).xeng e' = s.xeng e' := rfl
@[simp] theorem State.setSin_redHalf (s : State) (u : SinUnit) (h' : Nat) :
    (s.setSin u).redHalf h' = s.redHalf h' := rfl
@[simp] theorem State.setSin_placeOf (s : State) (u : SinUnit) (a' : Nat) :
    (s.setSin u).placeOf a' = s.placeOf a' := rfl
@[simp] theorem State.setSin_hostBus (s : State) (u : SinUnit) (w' : Nat) :
    (s.setSin u).hostBus w' = s.hostBus w' := rfl
@[simp] theorem State.setSin_ld (s : State) (u : SinUnit) (a' : Nat) :
    (s.setSin u).ld a' = s.ld a' := rfl
@[simp] theorem State.setSin_pt (s : State) (u : SinUnit) (p' : Nat) :
    (s.setSin u).pt p' = s.pt p' := rfl
@[simp] theorem State.setRes_regs (s : State) (u : ResUnit) : (s.setRes u).regs = s.regs := rfl
@[simp] theorem State.setRes_mem (s : State) (u : ResUnit) : (s.setRes u).mem = s.mem := rfl
@[simp] theorem State.setRes_hostMem (s : State) (u : ResUnit) : (s.setRes u).hostMem = s.hostMem := rfl
@[simp] theorem State.setRes_poison (s : State) (u : ResUnit) : (s.setRes u).poison = s.poison := rfl
@[simp] theorem State.setRes_ceNoted (s : State) (u : ResUnit) : (s.setRes u).ceNoted = s.ceNoted := rfl
@[simp] theorem State.setRes_tb (s : State) (u : ResUnit) : (s.setRes u).tb = s.tb := rfl
@[simp] theorem State.setRes_tbRem (s : State) (u : ResUnit) : (s.setRes u).tbRem = s.tbRem := rfl
@[simp] theorem State.setRes_frameCycle (s : State) (u : ResUnit) : (s.setRes u).frameCycle = s.frameCycle := rfl
@[simp] theorem State.setRes_time (s : State) (u : ResUnit) : (s.setRes u).time = s.time := rfl
@[simp] theorem State.setRes_seq (s : State) (u : ResUnit) : (s.setRes u).seq = s.seq := rfl
@[simp] theorem State.setRes_prog (s : State) (u : ResUnit) : (s.setRes u).prog = s.prog := rfl
@[simp] theorem State.setRes_engines (s : State) (u : ResUnit) : (s.setRes u).engines = s.engines := rfl
@[simp] theorem State.setRes_tileMap (s : State) (u : ResUnit) : (s.setRes u).tileMap = s.tileMap := rfl
@[simp] theorem State.setRes_tiles (s : State) (u : ResUnit) : (s.setRes u).tiles = s.tiles := rfl
@[simp] theorem State.setRes_ve (s : State) (u : ResUnit) : (s.setRes u).ve = s.ve := rfl
@[simp] theorem State.setRes_vent (s : State) (u : ResUnit) : (s.setRes u).vent = s.vent := rfl
@[simp] theorem State.setRes_errq (s : State) (u : ResUnit) : (s.setRes u).errq = s.errq := rfl
@[simp] theorem State.setRes_allocs (s : State) (u : ResUnit) : (s.setRes u).allocs = s.allocs := rfl
@[simp] theorem State.setRes_descs (s : State) (u : ResUnit) : (s.setRes u).descs = s.descs := rfl
@[simp] theorem State.setRes_policy (s : State) (u : ResUnit) : (s.setRes u).policy = s.policy := rfl
@[simp] theorem State.setRes_bus (s : State) (u : ResUnit) : (s.setRes u).bus = s.bus := rfl
@[simp] theorem State.setRes_sync (s : State) (u : ResUnit) : (s.setRes u).sync = s.sync := rfl
@[simp] theorem State.setRes_str (s : State) (u : ResUnit) : (s.setRes u).str = s.str := rfl
@[simp] theorem State.setRes_fab (s : State) (u : ResUnit) : (s.setRes u).fab = s.fab := rfl
@[simp] theorem State.setRes_step (s : State) (u : ResUnit) : (s.setRes u).step = s.step := rfl
@[simp] theorem State.setRes_sin (s : State) (u : ResUnit) : (s.setRes u).sin = s.sin := rfl
@[simp] theorem State.setRes_mbx (s : State) (u : ResUnit) : (s.setRes u).mbx = s.mbx := rfl
@[simp] theorem State.setRes_cp (s : State) (u : ResUnit) : (s.setRes u).cp = s.cp := rfl
@[simp] theorem State.setRes_seqRun (s : State) (u : ResUnit) : (s.setRes u).seqRun = s.seqRun := rfl
@[simp] theorem State.setRes_pwr (s : State) (u : ResUnit) : (s.setRes u).pwr = s.pwr := rfl
@[simp] theorem State.setRes_fum (s : State) (u : ResUnit) : (s.setRes u).fum = s.fum := rfl
@[simp] theorem State.setRes_start (s : State) (u : ResUnit) : (s.setRes u).start = s.start := rfl
@[simp] theorem State.setRes_xfer (s : State) (u : ResUnit) : (s.setRes u).xfer = s.xfer := rfl
@[simp] theorem State.setRes_inbound (s : State) (u : ResUnit) : (s.setRes u).inbound = s.inbound := rfl
@[simp] theorem State.setRes_gatherNum (s : State) (u : ResUnit) : (s.setRes u).gatherNum = s.gatherNum := rfl
@[simp] theorem State.setRes_red (s : State) (u : ResUnit) : (s.setRes u).red = s.red := rfl
@[simp] theorem State.setRes_bodies (s : State) (u : ResUnit) : (s.setRes u).bodies = s.bodies := rfl
@[simp] theorem State.setRes_sramScrub (s : State) (u : ResUnit) : (s.setRes u).sramScrub = s.sramScrub := rfl
@[simp] theorem State.setRes_frameFlags (s : State) (u : ResUnit) : (s.setRes u).frameFlags = s.frameFlags := rfl
@[simp] theorem State.setRes_fills (s : State) (u : ResUnit) : (s.setRes u).fills = s.fills := rfl
@[simp] theorem State.setRes_aborted (s : State) (u : ResUnit) : (s.setRes u).aborted = s.aborted := rfl
@[simp] theorem State.setRes_hbmReady (s : State) (u : ResUnit) : (s.setRes u).hbmReady = s.hbmReady := rfl
@[simp] theorem State.setRes_stepError (s : State) (u : ResUnit) : (s.setRes u).stepError = s.stepError := rfl
@[simp] theorem State.setRes_free (s : State) (u : ResUnit) : (s.setRes u).free = s.free := rfl
@[simp] theorem State.setRes_pending (s : State) (u : ResUnit) : (s.setRes u).pending = s.pending := rfl
@[simp] theorem State.setRes_rd (s : State) (u : ResUnit) (g' : Fld) (j' : Nat) :
    (s.setRes u).rd g' j' = s.rd g' j' := rfl
@[simp] theorem State.setRes_ptile (s : State) (u : ResUnit) (p' : Nat) :
    (s.setRes u).ptile p' = s.ptile p' := rfl
@[simp] theorem State.setRes_physOf (s : State) (u : ResUnit) (t' : Nat) :
    (s.setRes u).physOf t' = s.physOf t' := rfl
@[simp] theorem State.setRes_tile (s : State) (u : ResUnit) (t' : Nat) :
    (s.setRes u).tile t' = s.tile t' := rfl
@[simp] theorem State.setRes_veOf (s : State) (u : ResUnit) (t' : Nat) :
    (s.setRes u).veOf t' = s.veOf t' := rfl
@[simp] theorem State.setRes_engine (s : State) (u : ResUnit) (e' : Nat) :
    (s.setRes u).engine e' = s.engine e' := rfl
@[simp] theorem State.setRes_slotNow (s : State) (u : ResUnit) (e' : Nat) :
    (s.setRes u).slotNow e' = s.slotNow e' := rfl
@[simp] theorem State.setRes_slotIdx (s : State) (u : ResUnit) (e' : Nat) :
    (s.setRes u).slotIdx e' = s.slotIdx e' := rfl
@[simp] theorem State.setRes_xeng (s : State) (u : ResUnit) (e' : Nat) :
    (s.setRes u).xeng e' = s.xeng e' := rfl
@[simp] theorem State.setRes_redHalf (s : State) (u : ResUnit) (h' : Nat) :
    (s.setRes u).redHalf h' = s.redHalf h' := rfl
@[simp] theorem State.setRes_placeOf (s : State) (u : ResUnit) (a' : Nat) :
    (s.setRes u).placeOf a' = s.placeOf a' := rfl
@[simp] theorem State.setRes_hostBus (s : State) (u : ResUnit) (w' : Nat) :
    (s.setRes u).hostBus w' = s.hostBus w' := rfl
@[simp] theorem State.setRes_ld (s : State) (u : ResUnit) (a' : Nat) :
    (s.setRes u).ld a' = s.ld a' := rfl
@[simp] theorem State.setRes_pt (s : State) (u : ResUnit) (p' : Nat) :
    (s.setRes u).pt p' = s.pt p' := rfl
@[simp] theorem State.setStart_regs (s : State) (u : StartUnit) : (s.setStart u).regs = s.regs := rfl
@[simp] theorem State.setStart_mem (s : State) (u : StartUnit) : (s.setStart u).mem = s.mem := rfl
@[simp] theorem State.setStart_hostMem (s : State) (u : StartUnit) : (s.setStart u).hostMem = s.hostMem := rfl
@[simp] theorem State.setStart_poison (s : State) (u : StartUnit) : (s.setStart u).poison = s.poison := rfl
@[simp] theorem State.setStart_ceNoted (s : State) (u : StartUnit) : (s.setStart u).ceNoted = s.ceNoted := rfl
@[simp] theorem State.setStart_tb (s : State) (u : StartUnit) : (s.setStart u).tb = s.tb := rfl
@[simp] theorem State.setStart_tbRem (s : State) (u : StartUnit) : (s.setStart u).tbRem = s.tbRem := rfl
@[simp] theorem State.setStart_frameCycle (s : State) (u : StartUnit) : (s.setStart u).frameCycle = s.frameCycle := rfl
@[simp] theorem State.setStart_time (s : State) (u : StartUnit) : (s.setStart u).time = s.time := rfl
@[simp] theorem State.setStart_seq (s : State) (u : StartUnit) : (s.setStart u).seq = s.seq := rfl
@[simp] theorem State.setStart_prog (s : State) (u : StartUnit) : (s.setStart u).prog = s.prog := rfl
@[simp] theorem State.setStart_engines (s : State) (u : StartUnit) : (s.setStart u).engines = s.engines := rfl
@[simp] theorem State.setStart_tileMap (s : State) (u : StartUnit) : (s.setStart u).tileMap = s.tileMap := rfl
@[simp] theorem State.setStart_tiles (s : State) (u : StartUnit) : (s.setStart u).tiles = s.tiles := rfl
@[simp] theorem State.setStart_ve (s : State) (u : StartUnit) : (s.setStart u).ve = s.ve := rfl
@[simp] theorem State.setStart_vent (s : State) (u : StartUnit) : (s.setStart u).vent = s.vent := rfl
@[simp] theorem State.setStart_errq (s : State) (u : StartUnit) : (s.setStart u).errq = s.errq := rfl
@[simp] theorem State.setStart_allocs (s : State) (u : StartUnit) : (s.setStart u).allocs = s.allocs := rfl
@[simp] theorem State.setStart_descs (s : State) (u : StartUnit) : (s.setStart u).descs = s.descs := rfl
@[simp] theorem State.setStart_policy (s : State) (u : StartUnit) : (s.setStart u).policy = s.policy := rfl
@[simp] theorem State.setStart_bus (s : State) (u : StartUnit) : (s.setStart u).bus = s.bus := rfl
@[simp] theorem State.setStart_sync (s : State) (u : StartUnit) : (s.setStart u).sync = s.sync := rfl
@[simp] theorem State.setStart_str (s : State) (u : StartUnit) : (s.setStart u).str = s.str := rfl
@[simp] theorem State.setStart_fab (s : State) (u : StartUnit) : (s.setStart u).fab = s.fab := rfl
@[simp] theorem State.setStart_step (s : State) (u : StartUnit) : (s.setStart u).step = s.step := rfl
@[simp] theorem State.setStart_sin (s : State) (u : StartUnit) : (s.setStart u).sin = s.sin := rfl
@[simp] theorem State.setStart_mbx (s : State) (u : StartUnit) : (s.setStart u).mbx = s.mbx := rfl
@[simp] theorem State.setStart_cp (s : State) (u : StartUnit) : (s.setStart u).cp = s.cp := rfl
@[simp] theorem State.setStart_seqRun (s : State) (u : StartUnit) : (s.setStart u).seqRun = s.seqRun := rfl
@[simp] theorem State.setStart_pwr (s : State) (u : StartUnit) : (s.setStart u).pwr = s.pwr := rfl
@[simp] theorem State.setStart_fum (s : State) (u : StartUnit) : (s.setStart u).fum = s.fum := rfl
@[simp] theorem State.setStart_xfer (s : State) (u : StartUnit) : (s.setStart u).xfer = s.xfer := rfl
@[simp] theorem State.setStart_inbound (s : State) (u : StartUnit) : (s.setStart u).inbound = s.inbound := rfl
@[simp] theorem State.setStart_gatherNum (s : State) (u : StartUnit) : (s.setStart u).gatherNum = s.gatherNum := rfl
@[simp] theorem State.setStart_red (s : State) (u : StartUnit) : (s.setStart u).red = s.red := rfl
@[simp] theorem State.setStart_bodies (s : State) (u : StartUnit) : (s.setStart u).bodies = s.bodies := rfl
@[simp] theorem State.setStart_res (s : State) (u : StartUnit) : (s.setStart u).res = s.res := rfl
@[simp] theorem State.setStart_sramScrub (s : State) (u : StartUnit) : (s.setStart u).sramScrub = s.sramScrub := rfl
@[simp] theorem State.setStart_frameFlags (s : State) (u : StartUnit) : (s.setStart u).frameFlags = s.frameFlags := rfl
@[simp] theorem State.setStart_fills (s : State) (u : StartUnit) : (s.setStart u).fills = s.fills := rfl
@[simp] theorem State.setStart_aborted (s : State) (u : StartUnit) : (s.setStart u).aborted = s.aborted := rfl
@[simp] theorem State.setStart_hbmReady (s : State) (u : StartUnit) : (s.setStart u).hbmReady = s.hbmReady := rfl
@[simp] theorem State.setStart_stepError (s : State) (u : StartUnit) : (s.setStart u).stepError = s.stepError := rfl
@[simp] theorem State.setStart_free (s : State) (u : StartUnit) : (s.setStart u).free = s.free := rfl
@[simp] theorem State.setStart_pending (s : State) (u : StartUnit) : (s.setStart u).pending = s.pending := rfl
@[simp] theorem State.setStart_rd (s : State) (u : StartUnit) (g' : Fld) (j' : Nat) :
    (s.setStart u).rd g' j' = s.rd g' j' := rfl
@[simp] theorem State.setStart_ptile (s : State) (u : StartUnit) (p' : Nat) :
    (s.setStart u).ptile p' = s.ptile p' := rfl
@[simp] theorem State.setStart_physOf (s : State) (u : StartUnit) (t' : Nat) :
    (s.setStart u).physOf t' = s.physOf t' := rfl
@[simp] theorem State.setStart_tile (s : State) (u : StartUnit) (t' : Nat) :
    (s.setStart u).tile t' = s.tile t' := rfl
@[simp] theorem State.setStart_veOf (s : State) (u : StartUnit) (t' : Nat) :
    (s.setStart u).veOf t' = s.veOf t' := rfl
@[simp] theorem State.setStart_engine (s : State) (u : StartUnit) (e' : Nat) :
    (s.setStart u).engine e' = s.engine e' := rfl
@[simp] theorem State.setStart_slotNow (s : State) (u : StartUnit) (e' : Nat) :
    (s.setStart u).slotNow e' = s.slotNow e' := rfl
@[simp] theorem State.setStart_slotIdx (s : State) (u : StartUnit) (e' : Nat) :
    (s.setStart u).slotIdx e' = s.slotIdx e' := rfl
@[simp] theorem State.setStart_xeng (s : State) (u : StartUnit) (e' : Nat) :
    (s.setStart u).xeng e' = s.xeng e' := rfl
@[simp] theorem State.setStart_redHalf (s : State) (u : StartUnit) (h' : Nat) :
    (s.setStart u).redHalf h' = s.redHalf h' := rfl
@[simp] theorem State.setStart_placeOf (s : State) (u : StartUnit) (a' : Nat) :
    (s.setStart u).placeOf a' = s.placeOf a' := rfl
@[simp] theorem State.setStart_hostBus (s : State) (u : StartUnit) (w' : Nat) :
    (s.setStart u).hostBus w' = s.hostBus w' := rfl
@[simp] theorem State.setStart_ld (s : State) (u : StartUnit) (a' : Nat) :
    (s.setStart u).ld a' = s.ld a' := rfl
@[simp] theorem State.setStart_pt (s : State) (u : StartUnit) (p' : Nat) :
    (s.setStart u).pt p' = s.pt p' := rfl
@[simp] theorem State.setFum_regs (s : State) (u : FumUnit) : (s.setFum u).regs = s.regs := rfl
@[simp] theorem State.setFum_mem (s : State) (u : FumUnit) : (s.setFum u).mem = s.mem := rfl
@[simp] theorem State.setFum_hostMem (s : State) (u : FumUnit) : (s.setFum u).hostMem = s.hostMem := rfl
@[simp] theorem State.setFum_poison (s : State) (u : FumUnit) : (s.setFum u).poison = s.poison := rfl
@[simp] theorem State.setFum_ceNoted (s : State) (u : FumUnit) : (s.setFum u).ceNoted = s.ceNoted := rfl
@[simp] theorem State.setFum_tb (s : State) (u : FumUnit) : (s.setFum u).tb = s.tb := rfl
@[simp] theorem State.setFum_tbRem (s : State) (u : FumUnit) : (s.setFum u).tbRem = s.tbRem := rfl
@[simp] theorem State.setFum_frameCycle (s : State) (u : FumUnit) : (s.setFum u).frameCycle = s.frameCycle := rfl
@[simp] theorem State.setFum_time (s : State) (u : FumUnit) : (s.setFum u).time = s.time := rfl
@[simp] theorem State.setFum_seq (s : State) (u : FumUnit) : (s.setFum u).seq = s.seq := rfl
@[simp] theorem State.setFum_prog (s : State) (u : FumUnit) : (s.setFum u).prog = s.prog := rfl
@[simp] theorem State.setFum_engines (s : State) (u : FumUnit) : (s.setFum u).engines = s.engines := rfl
@[simp] theorem State.setFum_tileMap (s : State) (u : FumUnit) : (s.setFum u).tileMap = s.tileMap := rfl
@[simp] theorem State.setFum_tiles (s : State) (u : FumUnit) : (s.setFum u).tiles = s.tiles := rfl
@[simp] theorem State.setFum_ve (s : State) (u : FumUnit) : (s.setFum u).ve = s.ve := rfl
@[simp] theorem State.setFum_vent (s : State) (u : FumUnit) : (s.setFum u).vent = s.vent := rfl
@[simp] theorem State.setFum_errq (s : State) (u : FumUnit) : (s.setFum u).errq = s.errq := rfl
@[simp] theorem State.setFum_allocs (s : State) (u : FumUnit) : (s.setFum u).allocs = s.allocs := rfl
@[simp] theorem State.setFum_descs (s : State) (u : FumUnit) : (s.setFum u).descs = s.descs := rfl
@[simp] theorem State.setFum_policy (s : State) (u : FumUnit) : (s.setFum u).policy = s.policy := rfl
@[simp] theorem State.setFum_bus (s : State) (u : FumUnit) : (s.setFum u).bus = s.bus := rfl
@[simp] theorem State.setFum_sync (s : State) (u : FumUnit) : (s.setFum u).sync = s.sync := rfl
@[simp] theorem State.setFum_str (s : State) (u : FumUnit) : (s.setFum u).str = s.str := rfl
@[simp] theorem State.setFum_fab (s : State) (u : FumUnit) : (s.setFum u).fab = s.fab := rfl
@[simp] theorem State.setFum_step (s : State) (u : FumUnit) : (s.setFum u).step = s.step := rfl
@[simp] theorem State.setFum_sin (s : State) (u : FumUnit) : (s.setFum u).sin = s.sin := rfl
@[simp] theorem State.setFum_mbx (s : State) (u : FumUnit) : (s.setFum u).mbx = s.mbx := rfl
@[simp] theorem State.setFum_cp (s : State) (u : FumUnit) : (s.setFum u).cp = s.cp := rfl
@[simp] theorem State.setFum_seqRun (s : State) (u : FumUnit) : (s.setFum u).seqRun = s.seqRun := rfl
@[simp] theorem State.setFum_pwr (s : State) (u : FumUnit) : (s.setFum u).pwr = s.pwr := rfl
@[simp] theorem State.setFum_start (s : State) (u : FumUnit) : (s.setFum u).start = s.start := rfl
@[simp] theorem State.setFum_xfer (s : State) (u : FumUnit) : (s.setFum u).xfer = s.xfer := rfl
@[simp] theorem State.setFum_inbound (s : State) (u : FumUnit) : (s.setFum u).inbound = s.inbound := rfl
@[simp] theorem State.setFum_gatherNum (s : State) (u : FumUnit) : (s.setFum u).gatherNum = s.gatherNum := rfl
@[simp] theorem State.setFum_red (s : State) (u : FumUnit) : (s.setFum u).red = s.red := rfl
@[simp] theorem State.setFum_bodies (s : State) (u : FumUnit) : (s.setFum u).bodies = s.bodies := rfl
@[simp] theorem State.setFum_res (s : State) (u : FumUnit) : (s.setFum u).res = s.res := rfl
@[simp] theorem State.setFum_sramScrub (s : State) (u : FumUnit) : (s.setFum u).sramScrub = s.sramScrub := rfl
@[simp] theorem State.setFum_frameFlags (s : State) (u : FumUnit) : (s.setFum u).frameFlags = s.frameFlags := rfl
@[simp] theorem State.setFum_fills (s : State) (u : FumUnit) : (s.setFum u).fills = s.fills := rfl
@[simp] theorem State.setFum_aborted (s : State) (u : FumUnit) : (s.setFum u).aborted = s.aborted := rfl
@[simp] theorem State.setFum_hbmReady (s : State) (u : FumUnit) : (s.setFum u).hbmReady = s.hbmReady := rfl
@[simp] theorem State.setFum_stepError (s : State) (u : FumUnit) : (s.setFum u).stepError = s.stepError := rfl
@[simp] theorem State.setFum_free (s : State) (u : FumUnit) : (s.setFum u).free = s.free := rfl
@[simp] theorem State.setFum_pending (s : State) (u : FumUnit) : (s.setFum u).pending = s.pending := rfl
@[simp] theorem State.setFum_rd (s : State) (u : FumUnit) (g' : Fld) (j' : Nat) :
    (s.setFum u).rd g' j' = s.rd g' j' := rfl
@[simp] theorem State.setFum_ptile (s : State) (u : FumUnit) (p' : Nat) :
    (s.setFum u).ptile p' = s.ptile p' := rfl
@[simp] theorem State.setFum_physOf (s : State) (u : FumUnit) (t' : Nat) :
    (s.setFum u).physOf t' = s.physOf t' := rfl
@[simp] theorem State.setFum_tile (s : State) (u : FumUnit) (t' : Nat) :
    (s.setFum u).tile t' = s.tile t' := rfl
@[simp] theorem State.setFum_veOf (s : State) (u : FumUnit) (t' : Nat) :
    (s.setFum u).veOf t' = s.veOf t' := rfl
@[simp] theorem State.setFum_engine (s : State) (u : FumUnit) (e' : Nat) :
    (s.setFum u).engine e' = s.engine e' := rfl
@[simp] theorem State.setFum_slotNow (s : State) (u : FumUnit) (e' : Nat) :
    (s.setFum u).slotNow e' = s.slotNow e' := rfl
@[simp] theorem State.setFum_slotIdx (s : State) (u : FumUnit) (e' : Nat) :
    (s.setFum u).slotIdx e' = s.slotIdx e' := rfl
@[simp] theorem State.setFum_xeng (s : State) (u : FumUnit) (e' : Nat) :
    (s.setFum u).xeng e' = s.xeng e' := rfl
@[simp] theorem State.setFum_redHalf (s : State) (u : FumUnit) (h' : Nat) :
    (s.setFum u).redHalf h' = s.redHalf h' := rfl
@[simp] theorem State.setFum_placeOf (s : State) (u : FumUnit) (a' : Nat) :
    (s.setFum u).placeOf a' = s.placeOf a' := rfl
@[simp] theorem State.setFum_hostBus (s : State) (u : FumUnit) (w' : Nat) :
    (s.setFum u).hostBus w' = s.hostBus w' := rfl
@[simp] theorem State.setFum_ld (s : State) (u : FumUnit) (a' : Nat) :
    (s.setFum u).ld a' = s.ld a' := rfl
@[simp] theorem State.setFum_pt (s : State) (u : FumUnit) (p' : Nat) :
    (s.setFum u).pt p' = s.pt p' := rfl
@[simp] theorem State.setPwr_regs (s : State) (u : PwrUnit) : (s.setPwr u).regs = s.regs := rfl
@[simp] theorem State.setPwr_mem (s : State) (u : PwrUnit) : (s.setPwr u).mem = s.mem := rfl
@[simp] theorem State.setPwr_hostMem (s : State) (u : PwrUnit) : (s.setPwr u).hostMem = s.hostMem := rfl
@[simp] theorem State.setPwr_poison (s : State) (u : PwrUnit) : (s.setPwr u).poison = s.poison := rfl
@[simp] theorem State.setPwr_ceNoted (s : State) (u : PwrUnit) : (s.setPwr u).ceNoted = s.ceNoted := rfl
@[simp] theorem State.setPwr_tb (s : State) (u : PwrUnit) : (s.setPwr u).tb = s.tb := rfl
@[simp] theorem State.setPwr_tbRem (s : State) (u : PwrUnit) : (s.setPwr u).tbRem = s.tbRem := rfl
@[simp] theorem State.setPwr_frameCycle (s : State) (u : PwrUnit) : (s.setPwr u).frameCycle = s.frameCycle := rfl
@[simp] theorem State.setPwr_time (s : State) (u : PwrUnit) : (s.setPwr u).time = s.time := rfl
@[simp] theorem State.setPwr_seq (s : State) (u : PwrUnit) : (s.setPwr u).seq = s.seq := rfl
@[simp] theorem State.setPwr_prog (s : State) (u : PwrUnit) : (s.setPwr u).prog = s.prog := rfl
@[simp] theorem State.setPwr_engines (s : State) (u : PwrUnit) : (s.setPwr u).engines = s.engines := rfl
@[simp] theorem State.setPwr_tileMap (s : State) (u : PwrUnit) : (s.setPwr u).tileMap = s.tileMap := rfl
@[simp] theorem State.setPwr_tiles (s : State) (u : PwrUnit) : (s.setPwr u).tiles = s.tiles := rfl
@[simp] theorem State.setPwr_ve (s : State) (u : PwrUnit) : (s.setPwr u).ve = s.ve := rfl
@[simp] theorem State.setPwr_vent (s : State) (u : PwrUnit) : (s.setPwr u).vent = s.vent := rfl
@[simp] theorem State.setPwr_errq (s : State) (u : PwrUnit) : (s.setPwr u).errq = s.errq := rfl
@[simp] theorem State.setPwr_allocs (s : State) (u : PwrUnit) : (s.setPwr u).allocs = s.allocs := rfl
@[simp] theorem State.setPwr_descs (s : State) (u : PwrUnit) : (s.setPwr u).descs = s.descs := rfl
@[simp] theorem State.setPwr_policy (s : State) (u : PwrUnit) : (s.setPwr u).policy = s.policy := rfl
@[simp] theorem State.setPwr_bus (s : State) (u : PwrUnit) : (s.setPwr u).bus = s.bus := rfl
@[simp] theorem State.setPwr_sync (s : State) (u : PwrUnit) : (s.setPwr u).sync = s.sync := rfl
@[simp] theorem State.setPwr_str (s : State) (u : PwrUnit) : (s.setPwr u).str = s.str := rfl
@[simp] theorem State.setPwr_fab (s : State) (u : PwrUnit) : (s.setPwr u).fab = s.fab := rfl
@[simp] theorem State.setPwr_step (s : State) (u : PwrUnit) : (s.setPwr u).step = s.step := rfl
@[simp] theorem State.setPwr_sin (s : State) (u : PwrUnit) : (s.setPwr u).sin = s.sin := rfl
@[simp] theorem State.setPwr_mbx (s : State) (u : PwrUnit) : (s.setPwr u).mbx = s.mbx := rfl
@[simp] theorem State.setPwr_cp (s : State) (u : PwrUnit) : (s.setPwr u).cp = s.cp := rfl
@[simp] theorem State.setPwr_seqRun (s : State) (u : PwrUnit) : (s.setPwr u).seqRun = s.seqRun := rfl
@[simp] theorem State.setPwr_fum (s : State) (u : PwrUnit) : (s.setPwr u).fum = s.fum := rfl
@[simp] theorem State.setPwr_start (s : State) (u : PwrUnit) : (s.setPwr u).start = s.start := rfl
@[simp] theorem State.setPwr_xfer (s : State) (u : PwrUnit) : (s.setPwr u).xfer = s.xfer := rfl
@[simp] theorem State.setPwr_inbound (s : State) (u : PwrUnit) : (s.setPwr u).inbound = s.inbound := rfl
@[simp] theorem State.setPwr_gatherNum (s : State) (u : PwrUnit) : (s.setPwr u).gatherNum = s.gatherNum := rfl
@[simp] theorem State.setPwr_red (s : State) (u : PwrUnit) : (s.setPwr u).red = s.red := rfl
@[simp] theorem State.setPwr_bodies (s : State) (u : PwrUnit) : (s.setPwr u).bodies = s.bodies := rfl
@[simp] theorem State.setPwr_res (s : State) (u : PwrUnit) : (s.setPwr u).res = s.res := rfl
@[simp] theorem State.setPwr_sramScrub (s : State) (u : PwrUnit) : (s.setPwr u).sramScrub = s.sramScrub := rfl
@[simp] theorem State.setPwr_frameFlags (s : State) (u : PwrUnit) : (s.setPwr u).frameFlags = s.frameFlags := rfl
@[simp] theorem State.setPwr_fills (s : State) (u : PwrUnit) : (s.setPwr u).fills = s.fills := rfl
@[simp] theorem State.setPwr_aborted (s : State) (u : PwrUnit) : (s.setPwr u).aborted = s.aborted := rfl
@[simp] theorem State.setPwr_hbmReady (s : State) (u : PwrUnit) : (s.setPwr u).hbmReady = s.hbmReady := rfl
@[simp] theorem State.setPwr_stepError (s : State) (u : PwrUnit) : (s.setPwr u).stepError = s.stepError := rfl
@[simp] theorem State.setPwr_free (s : State) (u : PwrUnit) : (s.setPwr u).free = s.free := rfl
@[simp] theorem State.setPwr_pending (s : State) (u : PwrUnit) : (s.setPwr u).pending = s.pending := rfl
@[simp] theorem State.setPwr_rd (s : State) (u : PwrUnit) (g' : Fld) (j' : Nat) :
    (s.setPwr u).rd g' j' = s.rd g' j' := rfl
@[simp] theorem State.setPwr_ptile (s : State) (u : PwrUnit) (p' : Nat) :
    (s.setPwr u).ptile p' = s.ptile p' := rfl
@[simp] theorem State.setPwr_physOf (s : State) (u : PwrUnit) (t' : Nat) :
    (s.setPwr u).physOf t' = s.physOf t' := rfl
@[simp] theorem State.setPwr_tile (s : State) (u : PwrUnit) (t' : Nat) :
    (s.setPwr u).tile t' = s.tile t' := rfl
@[simp] theorem State.setPwr_veOf (s : State) (u : PwrUnit) (t' : Nat) :
    (s.setPwr u).veOf t' = s.veOf t' := rfl
@[simp] theorem State.setPwr_engine (s : State) (u : PwrUnit) (e' : Nat) :
    (s.setPwr u).engine e' = s.engine e' := rfl
@[simp] theorem State.setPwr_slotNow (s : State) (u : PwrUnit) (e' : Nat) :
    (s.setPwr u).slotNow e' = s.slotNow e' := rfl
@[simp] theorem State.setPwr_slotIdx (s : State) (u : PwrUnit) (e' : Nat) :
    (s.setPwr u).slotIdx e' = s.slotIdx e' := rfl
@[simp] theorem State.setPwr_xeng (s : State) (u : PwrUnit) (e' : Nat) :
    (s.setPwr u).xeng e' = s.xeng e' := rfl
@[simp] theorem State.setPwr_redHalf (s : State) (u : PwrUnit) (h' : Nat) :
    (s.setPwr u).redHalf h' = s.redHalf h' := rfl
@[simp] theorem State.setPwr_placeOf (s : State) (u : PwrUnit) (a' : Nat) :
    (s.setPwr u).placeOf a' = s.placeOf a' := rfl
@[simp] theorem State.setPwr_hostBus (s : State) (u : PwrUnit) (w' : Nat) :
    (s.setPwr u).hostBus w' = s.hostBus w' := rfl
@[simp] theorem State.setPwr_ld (s : State) (u : PwrUnit) (a' : Nat) :
    (s.setPwr u).ld a' = s.ld a' := rfl
@[simp] theorem State.setPwr_pt (s : State) (u : PwrUnit) (p' : Nat) :
    (s.setPwr u).pt p' = s.pt p' := rfl
@[simp] theorem State.setTime_regs (s : State) (u : TimeDisc) : (s.setTime u).regs = s.regs := rfl
@[simp] theorem State.setTime_mem (s : State) (u : TimeDisc) : (s.setTime u).mem = s.mem := rfl
@[simp] theorem State.setTime_hostMem (s : State) (u : TimeDisc) : (s.setTime u).hostMem = s.hostMem := rfl
@[simp] theorem State.setTime_poison (s : State) (u : TimeDisc) : (s.setTime u).poison = s.poison := rfl
@[simp] theorem State.setTime_ceNoted (s : State) (u : TimeDisc) : (s.setTime u).ceNoted = s.ceNoted := rfl
@[simp] theorem State.setTime_tb (s : State) (u : TimeDisc) : (s.setTime u).tb = s.tb := rfl
@[simp] theorem State.setTime_tbRem (s : State) (u : TimeDisc) : (s.setTime u).tbRem = s.tbRem := rfl
@[simp] theorem State.setTime_frameCycle (s : State) (u : TimeDisc) : (s.setTime u).frameCycle = s.frameCycle := rfl
@[simp] theorem State.setTime_seq (s : State) (u : TimeDisc) : (s.setTime u).seq = s.seq := rfl
@[simp] theorem State.setTime_prog (s : State) (u : TimeDisc) : (s.setTime u).prog = s.prog := rfl
@[simp] theorem State.setTime_engines (s : State) (u : TimeDisc) : (s.setTime u).engines = s.engines := rfl
@[simp] theorem State.setTime_tileMap (s : State) (u : TimeDisc) : (s.setTime u).tileMap = s.tileMap := rfl
@[simp] theorem State.setTime_tiles (s : State) (u : TimeDisc) : (s.setTime u).tiles = s.tiles := rfl
@[simp] theorem State.setTime_ve (s : State) (u : TimeDisc) : (s.setTime u).ve = s.ve := rfl
@[simp] theorem State.setTime_vent (s : State) (u : TimeDisc) : (s.setTime u).vent = s.vent := rfl
@[simp] theorem State.setTime_errq (s : State) (u : TimeDisc) : (s.setTime u).errq = s.errq := rfl
@[simp] theorem State.setTime_allocs (s : State) (u : TimeDisc) : (s.setTime u).allocs = s.allocs := rfl
@[simp] theorem State.setTime_descs (s : State) (u : TimeDisc) : (s.setTime u).descs = s.descs := rfl
@[simp] theorem State.setTime_policy (s : State) (u : TimeDisc) : (s.setTime u).policy = s.policy := rfl
@[simp] theorem State.setTime_bus (s : State) (u : TimeDisc) : (s.setTime u).bus = s.bus := rfl
@[simp] theorem State.setTime_sync (s : State) (u : TimeDisc) : (s.setTime u).sync = s.sync := rfl
@[simp] theorem State.setTime_str (s : State) (u : TimeDisc) : (s.setTime u).str = s.str := rfl
@[simp] theorem State.setTime_fab (s : State) (u : TimeDisc) : (s.setTime u).fab = s.fab := rfl
@[simp] theorem State.setTime_step (s : State) (u : TimeDisc) : (s.setTime u).step = s.step := rfl
@[simp] theorem State.setTime_sin (s : State) (u : TimeDisc) : (s.setTime u).sin = s.sin := rfl
@[simp] theorem State.setTime_mbx (s : State) (u : TimeDisc) : (s.setTime u).mbx = s.mbx := rfl
@[simp] theorem State.setTime_cp (s : State) (u : TimeDisc) : (s.setTime u).cp = s.cp := rfl
@[simp] theorem State.setTime_seqRun (s : State) (u : TimeDisc) : (s.setTime u).seqRun = s.seqRun := rfl
@[simp] theorem State.setTime_pwr (s : State) (u : TimeDisc) : (s.setTime u).pwr = s.pwr := rfl
@[simp] theorem State.setTime_fum (s : State) (u : TimeDisc) : (s.setTime u).fum = s.fum := rfl
@[simp] theorem State.setTime_start (s : State) (u : TimeDisc) : (s.setTime u).start = s.start := rfl
@[simp] theorem State.setTime_xfer (s : State) (u : TimeDisc) : (s.setTime u).xfer = s.xfer := rfl
@[simp] theorem State.setTime_inbound (s : State) (u : TimeDisc) : (s.setTime u).inbound = s.inbound := rfl
@[simp] theorem State.setTime_gatherNum (s : State) (u : TimeDisc) : (s.setTime u).gatherNum = s.gatherNum := rfl
@[simp] theorem State.setTime_red (s : State) (u : TimeDisc) : (s.setTime u).red = s.red := rfl
@[simp] theorem State.setTime_bodies (s : State) (u : TimeDisc) : (s.setTime u).bodies = s.bodies := rfl
@[simp] theorem State.setTime_res (s : State) (u : TimeDisc) : (s.setTime u).res = s.res := rfl
@[simp] theorem State.setTime_sramScrub (s : State) (u : TimeDisc) : (s.setTime u).sramScrub = s.sramScrub := rfl
@[simp] theorem State.setTime_frameFlags (s : State) (u : TimeDisc) : (s.setTime u).frameFlags = s.frameFlags := rfl
@[simp] theorem State.setTime_fills (s : State) (u : TimeDisc) : (s.setTime u).fills = s.fills := rfl
@[simp] theorem State.setTime_aborted (s : State) (u : TimeDisc) : (s.setTime u).aborted = s.aborted := rfl
@[simp] theorem State.setTime_hbmReady (s : State) (u : TimeDisc) : (s.setTime u).hbmReady = s.hbmReady := rfl
@[simp] theorem State.setTime_stepError (s : State) (u : TimeDisc) : (s.setTime u).stepError = s.stepError := rfl
@[simp] theorem State.setTime_free (s : State) (u : TimeDisc) : (s.setTime u).free = s.free := rfl
@[simp] theorem State.setTime_pending (s : State) (u : TimeDisc) : (s.setTime u).pending = s.pending := rfl
@[simp] theorem State.setTime_rd (s : State) (u : TimeDisc) (g' : Fld) (j' : Nat) :
    (s.setTime u).rd g' j' = s.rd g' j' := rfl
@[simp] theorem State.setTime_ptile (s : State) (u : TimeDisc) (p' : Nat) :
    (s.setTime u).ptile p' = s.ptile p' := rfl
@[simp] theorem State.setTime_physOf (s : State) (u : TimeDisc) (t' : Nat) :
    (s.setTime u).physOf t' = s.physOf t' := rfl
@[simp] theorem State.setTime_tile (s : State) (u : TimeDisc) (t' : Nat) :
    (s.setTime u).tile t' = s.tile t' := rfl
@[simp] theorem State.setTime_veOf (s : State) (u : TimeDisc) (t' : Nat) :
    (s.setTime u).veOf t' = s.veOf t' := rfl
@[simp] theorem State.setTime_engine (s : State) (u : TimeDisc) (e' : Nat) :
    (s.setTime u).engine e' = s.engine e' := rfl
@[simp] theorem State.setTime_slotNow (s : State) (u : TimeDisc) (e' : Nat) :
    (s.setTime u).slotNow e' = s.slotNow e' := rfl
@[simp] theorem State.setTime_slotIdx (s : State) (u : TimeDisc) (e' : Nat) :
    (s.setTime u).slotIdx e' = s.slotIdx e' := rfl
@[simp] theorem State.setTime_xeng (s : State) (u : TimeDisc) (e' : Nat) :
    (s.setTime u).xeng e' = s.xeng e' := rfl
@[simp] theorem State.setTime_redHalf (s : State) (u : TimeDisc) (h' : Nat) :
    (s.setTime u).redHalf h' = s.redHalf h' := rfl
@[simp] theorem State.setTime_placeOf (s : State) (u : TimeDisc) (a' : Nat) :
    (s.setTime u).placeOf a' = s.placeOf a' := rfl
@[simp] theorem State.setTime_hostBus (s : State) (u : TimeDisc) (w' : Nat) :
    (s.setTime u).hostBus w' = s.hostBus w' := rfl
@[simp] theorem State.setTime_ld (s : State) (u : TimeDisc) (a' : Nat) :
    (s.setTime u).ld a' = s.ld a' := rfl
@[simp] theorem State.setTime_pt (s : State) (u : TimeDisc) (p' : Nat) :
    (s.setTime u).pt p' = s.pt p' := rfl
@[simp] theorem State.setBus_regs (s : State) (u : BusUnit) : (s.setBus u).regs = s.regs := rfl
@[simp] theorem State.setBus_mem (s : State) (u : BusUnit) : (s.setBus u).mem = s.mem := rfl
@[simp] theorem State.setBus_hostMem (s : State) (u : BusUnit) : (s.setBus u).hostMem = s.hostMem := rfl
@[simp] theorem State.setBus_poison (s : State) (u : BusUnit) : (s.setBus u).poison = s.poison := rfl
@[simp] theorem State.setBus_ceNoted (s : State) (u : BusUnit) : (s.setBus u).ceNoted = s.ceNoted := rfl
@[simp] theorem State.setBus_tb (s : State) (u : BusUnit) : (s.setBus u).tb = s.tb := rfl
@[simp] theorem State.setBus_tbRem (s : State) (u : BusUnit) : (s.setBus u).tbRem = s.tbRem := rfl
@[simp] theorem State.setBus_frameCycle (s : State) (u : BusUnit) : (s.setBus u).frameCycle = s.frameCycle := rfl
@[simp] theorem State.setBus_time (s : State) (u : BusUnit) : (s.setBus u).time = s.time := rfl
@[simp] theorem State.setBus_seq (s : State) (u : BusUnit) : (s.setBus u).seq = s.seq := rfl
@[simp] theorem State.setBus_prog (s : State) (u : BusUnit) : (s.setBus u).prog = s.prog := rfl
@[simp] theorem State.setBus_engines (s : State) (u : BusUnit) : (s.setBus u).engines = s.engines := rfl
@[simp] theorem State.setBus_tileMap (s : State) (u : BusUnit) : (s.setBus u).tileMap = s.tileMap := rfl
@[simp] theorem State.setBus_tiles (s : State) (u : BusUnit) : (s.setBus u).tiles = s.tiles := rfl
@[simp] theorem State.setBus_ve (s : State) (u : BusUnit) : (s.setBus u).ve = s.ve := rfl
@[simp] theorem State.setBus_vent (s : State) (u : BusUnit) : (s.setBus u).vent = s.vent := rfl
@[simp] theorem State.setBus_errq (s : State) (u : BusUnit) : (s.setBus u).errq = s.errq := rfl
@[simp] theorem State.setBus_allocs (s : State) (u : BusUnit) : (s.setBus u).allocs = s.allocs := rfl
@[simp] theorem State.setBus_descs (s : State) (u : BusUnit) : (s.setBus u).descs = s.descs := rfl
@[simp] theorem State.setBus_policy (s : State) (u : BusUnit) : (s.setBus u).policy = s.policy := rfl
@[simp] theorem State.setBus_sync (s : State) (u : BusUnit) : (s.setBus u).sync = s.sync := rfl
@[simp] theorem State.setBus_str (s : State) (u : BusUnit) : (s.setBus u).str = s.str := rfl
@[simp] theorem State.setBus_fab (s : State) (u : BusUnit) : (s.setBus u).fab = s.fab := rfl
@[simp] theorem State.setBus_step (s : State) (u : BusUnit) : (s.setBus u).step = s.step := rfl
@[simp] theorem State.setBus_sin (s : State) (u : BusUnit) : (s.setBus u).sin = s.sin := rfl
@[simp] theorem State.setBus_mbx (s : State) (u : BusUnit) : (s.setBus u).mbx = s.mbx := rfl
@[simp] theorem State.setBus_cp (s : State) (u : BusUnit) : (s.setBus u).cp = s.cp := rfl
@[simp] theorem State.setBus_seqRun (s : State) (u : BusUnit) : (s.setBus u).seqRun = s.seqRun := rfl
@[simp] theorem State.setBus_pwr (s : State) (u : BusUnit) : (s.setBus u).pwr = s.pwr := rfl
@[simp] theorem State.setBus_fum (s : State) (u : BusUnit) : (s.setBus u).fum = s.fum := rfl
@[simp] theorem State.setBus_start (s : State) (u : BusUnit) : (s.setBus u).start = s.start := rfl
@[simp] theorem State.setBus_xfer (s : State) (u : BusUnit) : (s.setBus u).xfer = s.xfer := rfl
@[simp] theorem State.setBus_inbound (s : State) (u : BusUnit) : (s.setBus u).inbound = s.inbound := rfl
@[simp] theorem State.setBus_gatherNum (s : State) (u : BusUnit) : (s.setBus u).gatherNum = s.gatherNum := rfl
@[simp] theorem State.setBus_red (s : State) (u : BusUnit) : (s.setBus u).red = s.red := rfl
@[simp] theorem State.setBus_bodies (s : State) (u : BusUnit) : (s.setBus u).bodies = s.bodies := rfl
@[simp] theorem State.setBus_res (s : State) (u : BusUnit) : (s.setBus u).res = s.res := rfl
@[simp] theorem State.setBus_sramScrub (s : State) (u : BusUnit) : (s.setBus u).sramScrub = s.sramScrub := rfl
@[simp] theorem State.setBus_frameFlags (s : State) (u : BusUnit) : (s.setBus u).frameFlags = s.frameFlags := rfl
@[simp] theorem State.setBus_fills (s : State) (u : BusUnit) : (s.setBus u).fills = s.fills := rfl
@[simp] theorem State.setBus_aborted (s : State) (u : BusUnit) : (s.setBus u).aborted = s.aborted := rfl
@[simp] theorem State.setBus_hbmReady (s : State) (u : BusUnit) : (s.setBus u).hbmReady = s.hbmReady := rfl
@[simp] theorem State.setBus_stepError (s : State) (u : BusUnit) : (s.setBus u).stepError = s.stepError := rfl
@[simp] theorem State.setBus_free (s : State) (u : BusUnit) : (s.setBus u).free = s.free := rfl
@[simp] theorem State.setBus_pending (s : State) (u : BusUnit) : (s.setBus u).pending = s.pending := rfl
@[simp] theorem State.setBus_rd (s : State) (u : BusUnit) (g' : Fld) (j' : Nat) :
    (s.setBus u).rd g' j' = s.rd g' j' := rfl
@[simp] theorem State.setBus_ptile (s : State) (u : BusUnit) (p' : Nat) :
    (s.setBus u).ptile p' = s.ptile p' := rfl
@[simp] theorem State.setBus_physOf (s : State) (u : BusUnit) (t' : Nat) :
    (s.setBus u).physOf t' = s.physOf t' := rfl
@[simp] theorem State.setBus_tile (s : State) (u : BusUnit) (t' : Nat) :
    (s.setBus u).tile t' = s.tile t' := rfl
@[simp] theorem State.setBus_veOf (s : State) (u : BusUnit) (t' : Nat) :
    (s.setBus u).veOf t' = s.veOf t' := rfl
@[simp] theorem State.setBus_engine (s : State) (u : BusUnit) (e' : Nat) :
    (s.setBus u).engine e' = s.engine e' := rfl
@[simp] theorem State.setBus_slotNow (s : State) (u : BusUnit) (e' : Nat) :
    (s.setBus u).slotNow e' = s.slotNow e' := rfl
@[simp] theorem State.setBus_slotIdx (s : State) (u : BusUnit) (e' : Nat) :
    (s.setBus u).slotIdx e' = s.slotIdx e' := rfl
@[simp] theorem State.setBus_xeng (s : State) (u : BusUnit) (e' : Nat) :
    (s.setBus u).xeng e' = s.xeng e' := rfl
@[simp] theorem State.setBus_redHalf (s : State) (u : BusUnit) (h' : Nat) :
    (s.setBus u).redHalf h' = s.redHalf h' := rfl
@[simp] theorem State.setBus_placeOf (s : State) (u : BusUnit) (a' : Nat) :
    (s.setBus u).placeOf a' = s.placeOf a' := rfl
@[simp] theorem State.setBus_hostBus (s : State) (u : BusUnit) (w' : Nat) :
    (s.setBus u).hostBus w' = s.hostBus w' := rfl
@[simp] theorem State.setBus_ld (s : State) (u : BusUnit) (a' : Nat) :
    (s.setBus u).ld a' = s.ld a' := rfl
@[simp] theorem State.setBus_pt (s : State) (u : BusUnit) (p' : Nat) :
    (s.setBus u).pt p' = s.pt p' := rfl
@[simp] theorem State.setPt_regs (s : State) (p : Nat) (v : PTile) : (s.setPt p v).regs = s.regs := rfl
@[simp] theorem State.setPt_mem (s : State) (p : Nat) (v : PTile) : (s.setPt p v).mem = s.mem := rfl
@[simp] theorem State.setPt_hostMem (s : State) (p : Nat) (v : PTile) : (s.setPt p v).hostMem = s.hostMem := rfl
@[simp] theorem State.setPt_poison (s : State) (p : Nat) (v : PTile) : (s.setPt p v).poison = s.poison := rfl
@[simp] theorem State.setPt_ceNoted (s : State) (p : Nat) (v : PTile) : (s.setPt p v).ceNoted = s.ceNoted := rfl
@[simp] theorem State.setPt_tb (s : State) (p : Nat) (v : PTile) : (s.setPt p v).tb = s.tb := rfl
@[simp] theorem State.setPt_tbRem (s : State) (p : Nat) (v : PTile) : (s.setPt p v).tbRem = s.tbRem := rfl
@[simp] theorem State.setPt_frameCycle (s : State) (p : Nat) (v : PTile) : (s.setPt p v).frameCycle = s.frameCycle := rfl
@[simp] theorem State.setPt_time (s : State) (p : Nat) (v : PTile) : (s.setPt p v).time = s.time := rfl
@[simp] theorem State.setPt_seq (s : State) (p : Nat) (v : PTile) : (s.setPt p v).seq = s.seq := rfl
@[simp] theorem State.setPt_prog (s : State) (p : Nat) (v : PTile) : (s.setPt p v).prog = s.prog := rfl
@[simp] theorem State.setPt_engines (s : State) (p : Nat) (v : PTile) : (s.setPt p v).engines = s.engines := rfl
@[simp] theorem State.setPt_tileMap (s : State) (p : Nat) (v : PTile) : (s.setPt p v).tileMap = s.tileMap := rfl
@[simp] theorem State.setPt_tiles (s : State) (p : Nat) (v : PTile) : (s.setPt p v).tiles = s.tiles := rfl
@[simp] theorem State.setPt_ve (s : State) (p : Nat) (v : PTile) : (s.setPt p v).ve = s.ve := rfl
@[simp] theorem State.setPt_vent (s : State) (p : Nat) (v : PTile) : (s.setPt p v).vent = s.vent := rfl
@[simp] theorem State.setPt_errq (s : State) (p : Nat) (v : PTile) : (s.setPt p v).errq = s.errq := rfl
@[simp] theorem State.setPt_allocs (s : State) (p : Nat) (v : PTile) : (s.setPt p v).allocs = s.allocs := rfl
@[simp] theorem State.setPt_descs (s : State) (p : Nat) (v : PTile) : (s.setPt p v).descs = s.descs := rfl
@[simp] theorem State.setPt_policy (s : State) (p : Nat) (v : PTile) : (s.setPt p v).policy = s.policy := rfl
@[simp] theorem State.setPt_bus (s : State) (p : Nat) (v : PTile) : (s.setPt p v).bus = s.bus := rfl
@[simp] theorem State.setPt_sync (s : State) (p : Nat) (v : PTile) : (s.setPt p v).sync = s.sync := rfl
@[simp] theorem State.setPt_fab (s : State) (p : Nat) (v : PTile) : (s.setPt p v).fab = s.fab := rfl
@[simp] theorem State.setPt_step (s : State) (p : Nat) (v : PTile) : (s.setPt p v).step = s.step := rfl
@[simp] theorem State.setPt_sin (s : State) (p : Nat) (v : PTile) : (s.setPt p v).sin = s.sin := rfl
@[simp] theorem State.setPt_mbx (s : State) (p : Nat) (v : PTile) : (s.setPt p v).mbx = s.mbx := rfl
@[simp] theorem State.setPt_cp (s : State) (p : Nat) (v : PTile) : (s.setPt p v).cp = s.cp := rfl
@[simp] theorem State.setPt_seqRun (s : State) (p : Nat) (v : PTile) : (s.setPt p v).seqRun = s.seqRun := rfl
@[simp] theorem State.setPt_pwr (s : State) (p : Nat) (v : PTile) : (s.setPt p v).pwr = s.pwr := rfl
@[simp] theorem State.setPt_fum (s : State) (p : Nat) (v : PTile) : (s.setPt p v).fum = s.fum := rfl
@[simp] theorem State.setPt_start (s : State) (p : Nat) (v : PTile) : (s.setPt p v).start = s.start := rfl
@[simp] theorem State.setPt_xfer (s : State) (p : Nat) (v : PTile) : (s.setPt p v).xfer = s.xfer := rfl
@[simp] theorem State.setPt_inbound (s : State) (p : Nat) (v : PTile) : (s.setPt p v).inbound = s.inbound := rfl
@[simp] theorem State.setPt_gatherNum (s : State) (p : Nat) (v : PTile) : (s.setPt p v).gatherNum = s.gatherNum := rfl
@[simp] theorem State.setPt_red (s : State) (p : Nat) (v : PTile) : (s.setPt p v).red = s.red := rfl
@[simp] theorem State.setPt_bodies (s : State) (p : Nat) (v : PTile) : (s.setPt p v).bodies = s.bodies := rfl
@[simp] theorem State.setPt_res (s : State) (p : Nat) (v : PTile) : (s.setPt p v).res = s.res := rfl
@[simp] theorem State.setPt_sramScrub (s : State) (p : Nat) (v : PTile) : (s.setPt p v).sramScrub = s.sramScrub := rfl
@[simp] theorem State.setPt_frameFlags (s : State) (p : Nat) (v : PTile) : (s.setPt p v).frameFlags = s.frameFlags := rfl
@[simp] theorem State.setPt_fills (s : State) (p : Nat) (v : PTile) : (s.setPt p v).fills = s.fills := rfl
@[simp] theorem State.setPt_aborted (s : State) (p : Nat) (v : PTile) : (s.setPt p v).aborted = s.aborted := rfl
@[simp] theorem State.setPt_hbmReady (s : State) (p : Nat) (v : PTile) : (s.setPt p v).hbmReady = s.hbmReady := rfl
@[simp] theorem State.setPt_stepError (s : State) (p : Nat) (v : PTile) : (s.setPt p v).stepError = s.stepError := rfl
@[simp] theorem State.setPt_free (s : State) (p : Nat) (v : PTile) : (s.setPt p v).free = s.free := rfl
@[simp] theorem State.setPt_pending (s : State) (p : Nat) (v : PTile) : (s.setPt p v).pending = s.pending := rfl
@[simp] theorem State.setPt_rd (s : State) (p : Nat) (v : PTile) (g' : Fld) (j' : Nat) :
    (s.setPt p v).rd g' j' = s.rd g' j' := rfl
@[simp] theorem State.setPt_ptile (s : State) (p : Nat) (v : PTile) (p' : Nat) :
    (s.setPt p v).ptile p' = s.ptile p' := rfl
@[simp] theorem State.setPt_physOf (s : State) (p : Nat) (v : PTile) (t' : Nat) :
    (s.setPt p v).physOf t' = s.physOf t' := rfl
@[simp] theorem State.setPt_tile (s : State) (p : Nat) (v : PTile) (t' : Nat) :
    (s.setPt p v).tile t' = s.tile t' := rfl
@[simp] theorem State.setPt_veOf (s : State) (p : Nat) (v : PTile) (t' : Nat) :
    (s.setPt p v).veOf t' = s.veOf t' := rfl
@[simp] theorem State.setPt_engine (s : State) (p : Nat) (v : PTile) (e' : Nat) :
    (s.setPt p v).engine e' = s.engine e' := rfl
@[simp] theorem State.setPt_slotNow (s : State) (p : Nat) (v : PTile) (e' : Nat) :
    (s.setPt p v).slotNow e' = s.slotNow e' := rfl
@[simp] theorem State.setPt_slotIdx (s : State) (p : Nat) (v : PTile) (e' : Nat) :
    (s.setPt p v).slotIdx e' = s.slotIdx e' := rfl
@[simp] theorem State.setPt_xeng (s : State) (p : Nat) (v : PTile) (e' : Nat) :
    (s.setPt p v).xeng e' = s.xeng e' := rfl
@[simp] theorem State.setPt_redHalf (s : State) (p : Nat) (v : PTile) (h' : Nat) :
    (s.setPt p v).redHalf h' = s.redHalf h' := rfl
@[simp] theorem State.setPt_placeOf (s : State) (p : Nat) (v : PTile) (a' : Nat) :
    (s.setPt p v).placeOf a' = s.placeOf a' := rfl
@[simp] theorem State.setPt_hostBus (s : State) (p : Nat) (v : PTile) (w' : Nat) :
    (s.setPt p v).hostBus w' = s.hostBus w' := rfl
@[simp] theorem State.setPt_ld (s : State) (p : Nat) (v : PTile) (a' : Nat) :
    (s.setPt p v).ld a' = s.ld a' := rfl

end Sys2Proof.Machine
end

