-- ==== Sys2Proof/Laws/Errors.lean ====
section
/-! SUPPORT. What recording an error does, and what it and a count leave alone. -/

set_option autoImplicit false

namespace Sys2Proof.Machine

open Sys2Proof

/-- Everything that a record entering its queue can change: the queue, the count of dropped records, and the step's failure. -/
theorem State.enqueueErr_eq (s : State) (r : ErrRec) :
    s.enqueueErr r = { s with errq := (s.enqueueErr r).errq, regs := (s.enqueueErr r).regs, stepError := (s.enqueueErr r).stepError } := by
  unfold State.enqueueErr
  by_cases hs : 2 ≤ r.severity
  · simp only [if_pos hs]
    repeat' split
    all_goals rfl
  · simp only [if_neg hs]
    repeat' split
    all_goals rfl

/-- The collector queue that a record enters has no room left. -/
def State.errqFull (s : State) (d : Nat) : Bool :=
  if s.hbmReady then decide (64 ≤ (s.errq.filter fun x => decide (x.die = d)).length) else decide (512 ≤ s.errq.length)

/-- A record that finds room stands last in the queue. -/
theorem State.enqueueErr_errq (s : State) (r : ErrRec) (h : s.errqFull r.die = false) :
    (s.enqueueErr r).errq = s.errq ++ [r] := by
  unfold State.errqFull at h
  unfold State.enqueueErr
  by_cases hs : 2 ≤ r.severity <;> simp only [hs, if_true, if_false, h, Bool.false_eq_true]

/-- Every register field but the count of dropped records reads as before. -/
theorem State.rd_enqueueErr (s : State) (r : ErrRec) {f : Fld} {i : Nat} (h : ¬(f = .ERRLOG_DROPPED_COUNT ∧ i = 0)) :
    (s.enqueueErr r).rd f i = s.rd f i := by
  unfold State.enqueueErr State.bump
  dsimp only
  by_cases hs : 2 ≤ r.severity
  · simp only [if_pos hs]
    repeat' split
    all_goals first | exact State.rd_wr_other _ _ h | rfl
  · simp only [if_neg hs]
    repeat' split
    all_goals first | exact State.rd_wr_other _ _ h | rfl

/-- A count leaves every other register field as it is. -/
theorem State.rd_bump_other (s : State) {f g : Fld} {i j : Nat} (n : Nat) (h : ¬(g = f ∧ j = i)) :
    (s.bump f n i).rd g j = s.rd g j := State.rd_wr_other _ _ h

@[simp] theorem State.enqueueErr_mem (s : State) (r : ErrRec) : (s.enqueueErr r).mem = s.mem := by rw [s.enqueueErr_eq r]
@[simp] theorem State.enqueueErr_hostMem (s : State) (r : ErrRec) : (s.enqueueErr r).hostMem = s.hostMem := by rw [s.enqueueErr_eq r]
@[simp] theorem State.enqueueErr_poison (s : State) (r : ErrRec) : (s.enqueueErr r).poison = s.poison := by rw [s.enqueueErr_eq r]
@[simp] theorem State.enqueueErr_ceNoted (s : State) (r : ErrRec) : (s.enqueueErr r).ceNoted = s.ceNoted := by rw [s.enqueueErr_eq r]
@[simp] theorem State.enqueueErr_tb (s : State) (r : ErrRec) : (s.enqueueErr r).tb = s.tb := by rw [s.enqueueErr_eq r]
@[simp] theorem State.enqueueErr_tbRem (s : State) (r : ErrRec) : (s.enqueueErr r).tbRem = s.tbRem := by rw [s.enqueueErr_eq r]
@[simp] theorem State.enqueueErr_frameCycle (s : State) (r : ErrRec) : (s.enqueueErr r).frameCycle = s.frameCycle := by rw [s.enqueueErr_eq r]
@[simp] theorem State.enqueueErr_time (s : State) (r : ErrRec) : (s.enqueueErr r).time = s.time := by rw [s.enqueueErr_eq r]
@[simp] theorem State.enqueueErr_seq (s : State) (r : ErrRec) : (s.enqueueErr r).seq = s.seq := by rw [s.enqueueErr_eq r]
@[simp] theorem State.enqueueErr_prog (s : State) (r : ErrRec) : (s.enqueueErr r).prog = s.prog := by rw [s.enqueueErr_eq r]
@[simp] theorem State.enqueueErr_engines (s : State) (r : ErrRec) : (s.enqueueErr r).engines = s.engines := by rw [s.enqueueErr_eq r]
@[simp] theorem State.enqueueErr_tileMap (s : State) (r : ErrRec) : (s.enqueueErr r).tileMap = s.tileMap := by rw [s.enqueueErr_eq r]
@[simp] theorem State.enqueueErr_tiles (s : State) (r : ErrRec) : (s.enqueueErr r).tiles = s.tiles := by rw [s.enqueueErr_eq r]
@[simp] theorem State.enqueueErr_ve (s : State) (r : ErrRec) : (s.enqueueErr r).ve = s.ve := by rw [s.enqueueErr_eq r]
@[simp] theorem State.enqueueErr_vent (s : State) (r : ErrRec) : (s.enqueueErr r).vent = s.vent := by rw [s.enqueueErr_eq r]
@[simp] theorem State.enqueueErr_allocs (s : State) (r : ErrRec) : (s.enqueueErr r).allocs = s.allocs := by rw [s.enqueueErr_eq r]
@[simp] theorem State.enqueueErr_descs (s : State) (r : ErrRec) : (s.enqueueErr r).descs = s.descs := by rw [s.enqueueErr_eq r]
@[simp] theorem State.enqueueErr_policy (s : State) (r : ErrRec) : (s.enqueueErr r).policy = s.policy := by rw [s.enqueueErr_eq r]
@[simp] theorem State.enqueueErr_bus (s : State) (r : ErrRec) : (s.enqueueErr r).bus = s.bus := by rw [s.enqueueErr_eq r]
@[simp] theorem State.enqueueErr_sync (s : State) (r : ErrRec) : (s.enqueueErr r).sync = s.sync := by rw [s.enqueueErr_eq r]
@[simp] theorem State.enqueueErr_str (s : State) (r : ErrRec) : (s.enqueueErr r).str = s.str := by rw [s.enqueueErr_eq r]
@[simp] theorem State.enqueueErr_fab (s : State) (r : ErrRec) : (s.enqueueErr r).fab = s.fab := by rw [s.enqueueErr_eq r]
@[simp] theorem State.enqueueErr_step (s : State) (r : ErrRec) : (s.enqueueErr r).step = s.step := by rw [s.enqueueErr_eq r]
@[simp] theorem State.enqueueErr_sin (s : State) (r : ErrRec) : (s.enqueueErr r).sin = s.sin := by rw [s.enqueueErr_eq r]
@[simp] theorem State.enqueueErr_mbx (s : State) (r : ErrRec) : (s.enqueueErr r).mbx = s.mbx := by rw [s.enqueueErr_eq r]
@[simp] theorem State.enqueueErr_cp (s : State) (r : ErrRec) : (s.enqueueErr r).cp = s.cp := by rw [s.enqueueErr_eq r]
@[simp] theorem State.enqueueErr_seqRun (s : State) (r : ErrRec) : (s.enqueueErr r).seqRun = s.seqRun := by rw [s.enqueueErr_eq r]
@[simp] theorem State.enqueueErr_pwr (s : State) (r : ErrRec) : (s.enqueueErr r).pwr = s.pwr := by rw [s.enqueueErr_eq r]
@[simp] theorem State.enqueueErr_fum (s : State) (r : ErrRec) : (s.enqueueErr r).fum = s.fum := by rw [s.enqueueErr_eq r]
@[simp] theorem State.enqueueErr_start (s : State) (r : ErrRec) : (s.enqueueErr r).start = s.start := by rw [s.enqueueErr_eq r]
@[simp] theorem State.enqueueErr_xfer (s : State) (r : ErrRec) : (s.enqueueErr r).xfer = s.xfer := by rw [s.enqueueErr_eq r]
@[simp] theorem State.enqueueErr_inbound (s : State) (r : ErrRec) : (s.enqueueErr r).inbound = s.inbound := by rw [s.enqueueErr_eq r]
@[simp] theorem State.enqueueErr_gatherNum (s : State) (r : ErrRec) : (s.enqueueErr r).gatherNum = s.gatherNum := by rw [s.enqueueErr_eq r]
@[simp] theorem State.enqueueErr_red (s : State) (r : ErrRec) : (s.enqueueErr r).red = s.red := by rw [s.enqueueErr_eq r]
@[simp] theorem State.enqueueErr_bodies (s : State) (r : ErrRec) : (s.enqueueErr r).bodies = s.bodies := by rw [s.enqueueErr_eq r]
@[simp] theorem State.enqueueErr_res (s : State) (r : ErrRec) : (s.enqueueErr r).res = s.res := by rw [s.enqueueErr_eq r]
@[simp] theorem State.enqueueErr_sramScrub (s : State) (r : ErrRec) : (s.enqueueErr r).sramScrub = s.sramScrub := by rw [s.enqueueErr_eq r]
@[simp] theorem State.enqueueErr_frameFlags (s : State) (r : ErrRec) : (s.enqueueErr r).frameFlags = s.frameFlags := by rw [s.enqueueErr_eq r]
@[simp] theorem State.enqueueErr_fills (s : State) (r : ErrRec) : (s.enqueueErr r).fills = s.fills := by rw [s.enqueueErr_eq r]
@[simp] theorem State.enqueueErr_aborted (s : State) (r : ErrRec) : (s.enqueueErr r).aborted = s.aborted := by rw [s.enqueueErr_eq r]
@[simp] theorem State.enqueueErr_hbmReady (s : State) (r : ErrRec) : (s.enqueueErr r).hbmReady = s.hbmReady := by rw [s.enqueueErr_eq r]
@[simp] theorem State.enqueueErr_free (s : State) (r : ErrRec) : (s.enqueueErr r).free = s.free := by rw [s.enqueueErr_eq r]
@[simp] theorem State.enqueueErr_pending (s : State) (r : ErrRec) : (s.enqueueErr r).pending = s.pending := by rw [s.enqueueErr_eq r]
@[simp] theorem State.enqueueErr_ptile (s : State) (r : ErrRec) (p' : Nat) : (s.enqueueErr r).ptile p' = s.ptile p' := by rw [s.enqueueErr_eq r]; rfl
@[simp] theorem State.enqueueErr_physOf (s : State) (r : ErrRec) (t' : Nat) : (s.enqueueErr r).physOf t' = s.physOf t' := by rw [s.enqueueErr_eq r]; rfl
@[simp] theorem State.enqueueErr_veOf (s : State) (r : ErrRec) (t' : Nat) : (s.enqueueErr r).veOf t' = s.veOf t' := by rw [s.enqueueErr_eq r]; rfl
@[simp] theorem State.enqueueErr_engine (s : State) (r : ErrRec) (e' : Nat) : (s.enqueueErr r).engine e' = s.engine e' := by rw [s.enqueueErr_eq r]; rfl
@[simp] theorem State.enqueueErr_slotNow (s : State) (r : ErrRec) (e' : Nat) : (s.enqueueErr r).slotNow e' = s.slotNow e' := by rw [s.enqueueErr_eq r]; rfl
@[simp] theorem State.enqueueErr_slotIdx (s : State) (r : ErrRec) (e' : Nat) : (s.enqueueErr r).slotIdx e' = s.slotIdx e' := by rw [s.enqueueErr_eq r]; rfl
@[simp] theorem State.enqueueErr_xeng (s : State) (r : ErrRec) (e' : Nat) : (s.enqueueErr r).xeng e' = s.xeng e' := by rw [s.enqueueErr_eq r]; rfl
@[simp] theorem State.enqueueErr_redHalf (s : State) (r : ErrRec) (h' : Nat) : (s.enqueueErr r).redHalf h' = s.redHalf h' := by rw [s.enqueueErr_eq r]; rfl
@[simp] theorem State.enqueueErr_pt (s : State) (r : ErrRec) (p' : Nat) : (s.enqueueErr r).pt p' = s.pt p' := by rw [s.enqueueErr_eq r]; rfl
@[simp] theorem State.raiseRec_mem (s : State) (e : Err) (v : Nat) (c : ErrSrc) (o w : Option Nat) (a b : Nat) : (s.raiseRec e v c o w a b).mem = s.mem := s.enqueueErr_mem _
@[simp] theorem State.raiseRec_hostMem (s : State) (e : Err) (v : Nat) (c : ErrSrc) (o w : Option Nat) (a b : Nat) : (s.raiseRec e v c o w a b).hostMem = s.hostMem := s.enqueueErr_hostMem _
@[simp] theorem State.raiseRec_poison (s : State) (e : Err) (v : Nat) (c : ErrSrc) (o w : Option Nat) (a b : Nat) : (s.raiseRec e v c o w a b).poison = s.poison := s.enqueueErr_poison _
@[simp] theorem State.raiseRec_ceNoted (s : State) (e : Err) (v : Nat) (c : ErrSrc) (o w : Option Nat) (a b : Nat) : (s.raiseRec e v c o w a b).ceNoted = s.ceNoted := s.enqueueErr_ceNoted _
@[simp] theorem State.raiseRec_tb (s : State) (e : Err) (v : Nat) (c : ErrSrc) (o w : Option Nat) (a b : Nat) : (s.raiseRec e v c o w a b).tb = s.tb := s.enqueueErr_tb _
@[simp] theorem State.raiseRec_tbRem (s : State) (e : Err) (v : Nat) (c : ErrSrc) (o w : Option Nat) (a b : Nat) : (s.raiseRec e v c o w a b).tbRem = s.tbRem := s.enqueueErr_tbRem _
@[simp] theorem State.raiseRec_frameCycle (s : State) (e : Err) (v : Nat) (c : ErrSrc) (o w : Option Nat) (a b : Nat) : (s.raiseRec e v c o w a b).frameCycle = s.frameCycle := s.enqueueErr_frameCycle _
@[simp] theorem State.raiseRec_time (s : State) (e : Err) (v : Nat) (c : ErrSrc) (o w : Option Nat) (a b : Nat) : (s.raiseRec e v c o w a b).time = s.time := s.enqueueErr_time _
@[simp] theorem State.raiseRec_seq (s : State) (e : Err) (v : Nat) (c : ErrSrc) (o w : Option Nat) (a b : Nat) : (s.raiseRec e v c o w a b).seq = s.seq := s.enqueueErr_seq _
@[simp] theorem State.raiseRec_prog (s : State) (e : Err) (v : Nat) (c : ErrSrc) (o w : Option Nat) (a b : Nat) : (s.raiseRec e v c o w a b).prog = s.prog := s.enqueueErr_prog _
@[simp] theorem State.raiseRec_engines (s : State) (e : Err) (v : Nat) (c : ErrSrc) (o w : Option Nat) (a b : Nat) : (s.raiseRec e v c o w a b).engines = s.engines := s.enqueueErr_engines _
@[simp] theorem State.raiseRec_tileMap (s : State) (e : Err) (v : Nat) (c : ErrSrc) (o w : Option Nat) (a b : Nat) : (s.raiseRec e v c o w a b).tileMap = s.tileMap := s.enqueueErr_tileMap _
@[simp] theorem State.raiseRec_tiles (s : State) (e : Err) (v : Nat) (c : ErrSrc) (o w : Option Nat) (a b : Nat) : (s.raiseRec e v c o w a b).tiles = s.tiles := s.enqueueErr_tiles _
@[simp] theorem State.raiseRec_ve (s : State) (e : Err) (v : Nat) (c : ErrSrc) (o w : Option Nat) (a b : Nat) : (s.raiseRec e v c o w a b).ve = s.ve := s.enqueueErr_ve _
@[simp] theorem State.raiseRec_vent (s : State) (e : Err) (v : Nat) (c : ErrSrc) (o w : Option Nat) (a b : Nat) : (s.raiseRec e v c o w a b).vent = s.vent := s.enqueueErr_vent _
@[simp] theorem State.raiseRec_allocs (s : State) (e : Err) (v : Nat) (c : ErrSrc) (o w : Option Nat) (a b : Nat) : (s.raiseRec e v c o w a b).allocs = s.allocs := s.enqueueErr_allocs _
@[simp] theorem State.raiseRec_descs (s : State) (e : Err) (v : Nat) (c : ErrSrc) (o w : Option Nat) (a b : Nat) : (s.raiseRec e v c o w a b).descs = s.descs := s.enqueueErr_descs _
@[simp] theorem State.raiseRec_policy (s : State) (e : Err) (v : Nat) (c : ErrSrc) (o w : Option Nat) (a b : Nat) : (s.raiseRec e v c o w a b).policy = s.policy := s.enqueueErr_policy _
@[simp] theorem State.raiseRec_bus (s : State) (e : Err) (v : Nat) (c : ErrSrc) (o w : Option Nat) (a b : Nat) : (s.raiseRec e v c o w a b).bus = s.bus := s.enqueueErr_bus _
@[simp] theorem State.raiseRec_sync (s : State) (e : Err) (v : Nat) (c : ErrSrc) (o w : Option Nat) (a b : Nat) : (s.raiseRec e v c o w a b).sync = s.sync := s.enqueueErr_sync _
@[simp] theorem State.raiseRec_str (s : State) (e : Err) (v : Nat) (c : ErrSrc) (o w : Option Nat) (a b : Nat) : (s.raiseRec e v c o w a b).str = s.str := s.enqueueErr_str _
@[simp] theorem State.raiseRec_fab (s : State) (e : Err) (v : Nat) (c : ErrSrc) (o w : Option Nat) (a b : Nat) : (s.raiseRec e v c o w a b).fab = s.fab := s.enqueueErr_fab _
@[simp] theorem State.raiseRec_step (s : State) (e : Err) (v : Nat) (c : ErrSrc) (o w : Option Nat) (a b : Nat) : (s.raiseRec e v c o w a b).step = s.step := s.enqueueErr_step _
@[simp] theorem State.raiseRec_sin (s : State) (e : Err) (v : Nat) (c : ErrSrc) (o w : Option Nat) (a b : Nat) : (s.raiseRec e v c o w a b).sin = s.sin := s.enqueueErr_sin _
@[simp] theorem State.raiseRec_mbx (s : State) (e : Err) (v : Nat) (c : ErrSrc) (o w : Option Nat) (a b : Nat) : (s.raiseRec e v c o w a b).mbx = s.mbx := s.enqueueErr_mbx _
@[simp] theorem State.raiseRec_cp (s : State) (e : Err) (v : Nat) (c : ErrSrc) (o w : Option Nat) (a b : Nat) : (s.raiseRec e v c o w a b).cp = s.cp := s.enqueueErr_cp _
@[simp] theorem State.raiseRec_seqRun (s : State) (e : Err) (v : Nat) (c : ErrSrc) (o w : Option Nat) (a b : Nat) : (s.raiseRec e v c o w a b).seqRun = s.seqRun := s.enqueueErr_seqRun _
@[simp] theorem State.raiseRec_pwr (s : State) (e : Err) (v : Nat) (c : ErrSrc) (o w : Option Nat) (a b : Nat) : (s.raiseRec e v c o w a b).pwr = s.pwr := s.enqueueErr_pwr _
@[simp] theorem State.raiseRec_fum (s : State) (e : Err) (v : Nat) (c : ErrSrc) (o w : Option Nat) (a b : Nat) : (s.raiseRec e v c o w a b).fum = s.fum := s.enqueueErr_fum _
@[simp] theorem State.raiseRec_start (s : State) (e : Err) (v : Nat) (c : ErrSrc) (o w : Option Nat) (a b : Nat) : (s.raiseRec e v c o w a b).start = s.start := s.enqueueErr_start _
@[simp] theorem State.raiseRec_xfer (s : State) (e : Err) (v : Nat) (c : ErrSrc) (o w : Option Nat) (a b : Nat) : (s.raiseRec e v c o w a b).xfer = s.xfer := s.enqueueErr_xfer _
@[simp] theorem State.raiseRec_inbound (s : State) (e : Err) (v : Nat) (c : ErrSrc) (o w : Option Nat) (a b : Nat) : (s.raiseRec e v c o w a b).inbound = s.inbound := s.enqueueErr_inbound _
@[simp] theorem State.raiseRec_gatherNum (s : State) (e : Err) (v : Nat) (c : ErrSrc) (o w : Option Nat) (a b : Nat) : (s.raiseRec e v c o w a b).gatherNum = s.gatherNum := s.enqueueErr_gatherNum _
@[simp] theorem State.raiseRec_red (s : State) (e : Err) (v : Nat) (c : ErrSrc) (o w : Option Nat) (a b : Nat) : (s.raiseRec e v c o w a b).red = s.red := s.enqueueErr_red _
@[simp] theorem State.raiseRec_bodies (s : State) (e : Err) (v : Nat) (c : ErrSrc) (o w : Option Nat) (a b : Nat) : (s.raiseRec e v c o w a b).bodies = s.bodies := s.enqueueErr_bodies _
@[simp] theorem State.raiseRec_res (s : State) (e : Err) (v : Nat) (c : ErrSrc) (o w : Option Nat) (a b : Nat) : (s.raiseRec e v c o w a b).res = s.res := s.enqueueErr_res _
@[simp] theorem State.raiseRec_sramScrub (s : State) (e : Err) (v : Nat) (c : ErrSrc) (o w : Option Nat) (a b : Nat) : (s.raiseRec e v c o w a b).sramScrub = s.sramScrub := s.enqueueErr_sramScrub _
@[simp] theorem State.raiseRec_frameFlags (s : State) (e : Err) (v : Nat) (c : ErrSrc) (o w : Option Nat) (a b : Nat) : (s.raiseRec e v c o w a b).frameFlags = s.frameFlags := s.enqueueErr_frameFlags _
@[simp] theorem State.raiseRec_fills (s : State) (e : Err) (v : Nat) (c : ErrSrc) (o w : Option Nat) (a b : Nat) : (s.raiseRec e v c o w a b).fills = s.fills := s.enqueueErr_fills _
@[simp] theorem State.raiseRec_aborted (s : State) (e : Err) (v : Nat) (c : ErrSrc) (o w : Option Nat) (a b : Nat) : (s.raiseRec e v c o w a b).aborted = s.aborted := s.enqueueErr_aborted _
@[simp] theorem State.raiseRec_hbmReady (s : State) (e : Err) (v : Nat) (c : ErrSrc) (o w : Option Nat) (a b : Nat) : (s.raiseRec e v c o w a b).hbmReady = s.hbmReady := s.enqueueErr_hbmReady _
@[simp] theorem State.raiseRec_free (s : State) (e : Err) (v : Nat) (c : ErrSrc) (o w : Option Nat) (a b : Nat) : (s.raiseRec e v c o w a b).free = s.free := s.enqueueErr_free _
@[simp] theorem State.raiseRec_pending (s : State) (e : Err) (v : Nat) (c : ErrSrc) (o w : Option Nat) (a b : Nat) : (s.raiseRec e v c o w a b).pending = s.pending := s.enqueueErr_pending _
@[simp] theorem State.raiseRec_ptile (s : State) (e : Err) (v : Nat) (c : ErrSrc) (o w : Option Nat) (a b : Nat) (p' : Nat) : (s.raiseRec e v c o w a b).ptile p' = s.ptile p' := s.enqueueErr_ptile _ _
@[simp] theorem State.raiseRec_physOf (s : State) (e : Err) (v : Nat) (c : ErrSrc) (o w : Option Nat) (a b : Nat) (t' : Nat) : (s.raiseRec e v c o w a b).physOf t' = s.physOf t' := s.enqueueErr_physOf _ _
@[simp] theorem State.raiseRec_veOf (s : State) (e : Err) (v : Nat) (c : ErrSrc) (o w : Option Nat) (a b : Nat) (t' : Nat) : (s.raiseRec e v c o w a b).veOf t' = s.veOf t' := s.enqueueErr_veOf _ _
@[simp] theorem State.raiseRec_engine (s : State) (e : Err) (v : Nat) (c : ErrSrc) (o w : Option Nat) (a b : Nat) (e' : Nat) : (s.raiseRec e v c o w a b).engine e' = s.engine e' := s.enqueueErr_engine _ _
@[simp] theorem State.raiseRec_slotNow (s : State) (e : Err) (v : Nat) (c : ErrSrc) (o w : Option Nat) (a b : Nat) (e' : Nat) : (s.raiseRec e v c o w a b).slotNow e' = s.slotNow e' := s.enqueueErr_slotNow _ _
@[simp] theorem State.raiseRec_slotIdx (s : State) (e : Err) (v : Nat) (c : ErrSrc) (o w : Option Nat) (a b : Nat) (e' : Nat) : (s.raiseRec e v c o w a b).slotIdx e' = s.slotIdx e' := s.enqueueErr_slotIdx _ _
@[simp] theorem State.raiseRec_xeng (s : State) (e : Err) (v : Nat) (c : ErrSrc) (o w : Option Nat) (a b : Nat) (e' : Nat) : (s.raiseRec e v c o w a b).xeng e' = s.xeng e' := s.enqueueErr_xeng _ _
@[simp] theorem State.raiseRec_redHalf (s : State) (e : Err) (v : Nat) (c : ErrSrc) (o w : Option Nat) (a b : Nat) (h' : Nat) : (s.raiseRec e v c o w a b).redHalf h' = s.redHalf h' := s.enqueueErr_redHalf _ _
@[simp] theorem State.raiseRec_pt (s : State) (e : Err) (v : Nat) (c : ErrSrc) (o w : Option Nat) (a b : Nat) (p' : Nat) : (s.raiseRec e v c o w a b).pt p' = s.pt p' := s.enqueueErr_pt _ _
theorem State.rd_raiseRec (s : State) (e : Err) (v : Nat) (c : ErrSrc) (o w : Option Nat) (a b : Nat) {f' : Fld} {i' : Nat} (h : ¬(f' = .ERRLOG_DROPPED_COUNT ∧ i' = 0)) :
    (s.raiseRec e v c o w a b).rd f' i' = s.rd f' i' := s.rd_enqueueErr _ h
@[simp] theorem State.raise_mem (s : State) (e : Err) (c : ErrSrc) (a b : Nat) : (s.raise e c a b).mem = s.mem := s.enqueueErr_mem _
@[simp] theorem State.raise_hostMem (s : State) (e : Err) (c : ErrSrc) (a b : Nat) : (s.raise e c a b).hostMem = s.hostMem := s.enqueueErr_hostMem _
@[simp] theorem State.raise_poison (s : State) (e : Err) (c : ErrSrc) (a b : Nat) : (s.raise e c a b).poison = s.poison := s.enqueueErr_poison _
@[simp] theorem State.raise_ceNoted (s : State) (e : Err) (c : ErrSrc) (a b : Nat) : (s.raise e c a b).ceNoted = s.ceNoted := s.enqueueErr_ceNoted _
@[simp] theorem State.raise_tb (s : State) (e : Err) (c : ErrSrc) (a b : Nat) : (s.raise e c a b).tb = s.tb := s.enqueueErr_tb _
@[simp] theorem State.raise_tbRem (s : State) (e : Err) (c : ErrSrc) (a b : Nat) : (s.raise e c a b).tbRem = s.tbRem := s.enqueueErr_tbRem _
@[simp] theorem State.raise_frameCycle (s : State) (e : Err) (c : ErrSrc) (a b : Nat) : (s.raise e c a b).frameCycle = s.frameCycle := s.enqueueErr_frameCycle _
@[simp] theorem State.raise_time (s : State) (e : Err) (c : ErrSrc) (a b : Nat) : (s.raise e c a b).time = s.time := s.enqueueErr_time _
@[simp] theorem State.raise_seq (s : State) (e : Err) (c : ErrSrc) (a b : Nat) : (s.raise e c a b).seq = s.seq := s.enqueueErr_seq _
@[simp] theorem State.raise_prog (s : State) (e : Err) (c : ErrSrc) (a b : Nat) : (s.raise e c a b).prog = s.prog := s.enqueueErr_prog _
@[simp] theorem State.raise_engines (s : State) (e : Err) (c : ErrSrc) (a b : Nat) : (s.raise e c a b).engines = s.engines := s.enqueueErr_engines _
@[simp] theorem State.raise_tileMap (s : State) (e : Err) (c : ErrSrc) (a b : Nat) : (s.raise e c a b).tileMap = s.tileMap := s.enqueueErr_tileMap _
@[simp] theorem State.raise_tiles (s : State) (e : Err) (c : ErrSrc) (a b : Nat) : (s.raise e c a b).tiles = s.tiles := s.enqueueErr_tiles _
@[simp] theorem State.raise_ve (s : State) (e : Err) (c : ErrSrc) (a b : Nat) : (s.raise e c a b).ve = s.ve := s.enqueueErr_ve _
@[simp] theorem State.raise_vent (s : State) (e : Err) (c : ErrSrc) (a b : Nat) : (s.raise e c a b).vent = s.vent := s.enqueueErr_vent _
@[simp] theorem State.raise_allocs (s : State) (e : Err) (c : ErrSrc) (a b : Nat) : (s.raise e c a b).allocs = s.allocs := s.enqueueErr_allocs _
@[simp] theorem State.raise_descs (s : State) (e : Err) (c : ErrSrc) (a b : Nat) : (s.raise e c a b).descs = s.descs := s.enqueueErr_descs _
@[simp] theorem State.raise_policy (s : State) (e : Err) (c : ErrSrc) (a b : Nat) : (s.raise e c a b).policy = s.policy := s.enqueueErr_policy _
@[simp] theorem State.raise_bus (s : State) (e : Err) (c : ErrSrc) (a b : Nat) : (s.raise e c a b).bus = s.bus := s.enqueueErr_bus _
@[simp] theorem State.raise_sync (s : State) (e : Err) (c : ErrSrc) (a b : Nat) : (s.raise e c a b).sync = s.sync := s.enqueueErr_sync _
@[simp] theorem State.raise_str (s : State) (e : Err) (c : ErrSrc) (a b : Nat) : (s.raise e c a b).str = s.str := s.enqueueErr_str _
@[simp] theorem State.raise_fab (s : State) (e : Err) (c : ErrSrc) (a b : Nat) : (s.raise e c a b).fab = s.fab := s.enqueueErr_fab _
@[simp] theorem State.raise_step (s : State) (e : Err) (c : ErrSrc) (a b : Nat) : (s.raise e c a b).step = s.step := s.enqueueErr_step _
@[simp] theorem State.raise_sin (s : State) (e : Err) (c : ErrSrc) (a b : Nat) : (s.raise e c a b).sin = s.sin := s.enqueueErr_sin _
@[simp] theorem State.raise_mbx (s : State) (e : Err) (c : ErrSrc) (a b : Nat) : (s.raise e c a b).mbx = s.mbx := s.enqueueErr_mbx _
@[simp] theorem State.raise_cp (s : State) (e : Err) (c : ErrSrc) (a b : Nat) : (s.raise e c a b).cp = s.cp := s.enqueueErr_cp _
@[simp] theorem State.raise_seqRun (s : State) (e : Err) (c : ErrSrc) (a b : Nat) : (s.raise e c a b).seqRun = s.seqRun := s.enqueueErr_seqRun _
@[simp] theorem State.raise_pwr (s : State) (e : Err) (c : ErrSrc) (a b : Nat) : (s.raise e c a b).pwr = s.pwr := s.enqueueErr_pwr _
@[simp] theorem State.raise_fum (s : State) (e : Err) (c : ErrSrc) (a b : Nat) : (s.raise e c a b).fum = s.fum := s.enqueueErr_fum _
@[simp] theorem State.raise_start (s : State) (e : Err) (c : ErrSrc) (a b : Nat) : (s.raise e c a b).start = s.start := s.enqueueErr_start _
@[simp] theorem State.raise_xfer (s : State) (e : Err) (c : ErrSrc) (a b : Nat) : (s.raise e c a b).xfer = s.xfer := s.enqueueErr_xfer _
@[simp] theorem State.raise_inbound (s : State) (e : Err) (c : ErrSrc) (a b : Nat) : (s.raise e c a b).inbound = s.inbound := s.enqueueErr_inbound _
@[simp] theorem State.raise_gatherNum (s : State) (e : Err) (c : ErrSrc) (a b : Nat) : (s.raise e c a b).gatherNum = s.gatherNum := s.enqueueErr_gatherNum _
@[simp] theorem State.raise_red (s : State) (e : Err) (c : ErrSrc) (a b : Nat) : (s.raise e c a b).red = s.red := s.enqueueErr_red _
@[simp] theorem State.raise_bodies (s : State) (e : Err) (c : ErrSrc) (a b : Nat) : (s.raise e c a b).bodies = s.bodies := s.enqueueErr_bodies _
@[simp] theorem State.raise_res (s : State) (e : Err) (c : ErrSrc) (a b : Nat) : (s.raise e c a b).res = s.res := s.enqueueErr_res _
@[simp] theorem State.raise_sramScrub (s : State) (e : Err) (c : ErrSrc) (a b : Nat) : (s.raise e c a b).sramScrub = s.sramScrub := s.enqueueErr_sramScrub _
@[simp] theorem State.raise_frameFlags (s : State) (e : Err) (c : ErrSrc) (a b : Nat) : (s.raise e c a b).frameFlags = s.frameFlags := s.enqueueErr_frameFlags _
@[simp] theorem State.raise_fills (s : State) (e : Err) (c : ErrSrc) (a b : Nat) : (s.raise e c a b).fills = s.fills := s.enqueueErr_fills _
@[simp] theorem State.raise_aborted (s : State) (e : Err) (c : ErrSrc) (a b : Nat) : (s.raise e c a b).aborted = s.aborted := s.enqueueErr_aborted _
@[simp] theorem State.raise_hbmReady (s : State) (e : Err) (c : ErrSrc) (a b : Nat) : (s.raise e c a b).hbmReady = s.hbmReady := s.enqueueErr_hbmReady _
@[simp] theorem State.raise_free (s : State) (e : Err) (c : ErrSrc) (a b : Nat) : (s.raise e c a b).free = s.free := s.enqueueErr_free _
@[simp] theorem State.raise_pending (s : State) (e : Err) (c : ErrSrc) (a b : Nat) : (s.raise e c a b).pending = s.pending := s.enqueueErr_pending _
@[simp] theorem State.raise_ptile (s : State) (e : Err) (c : ErrSrc) (a b : Nat) (p' : Nat) : (s.raise e c a b).ptile p' = s.ptile p' := s.enqueueErr_ptile _ _
@[simp] theorem State.raise_physOf (s : State) (e : Err) (c : ErrSrc) (a b : Nat) (t' : Nat) : (s.raise e c a b).physOf t' = s.physOf t' := s.enqueueErr_physOf _ _
@[simp] theorem State.raise_veOf (s : State) (e : Err) (c : ErrSrc) (a b : Nat) (t' : Nat) : (s.raise e c a b).veOf t' = s.veOf t' := s.enqueueErr_veOf _ _
@[simp] theorem State.raise_engine (s : State) (e : Err) (c : ErrSrc) (a b : Nat) (e' : Nat) : (s.raise e c a b).engine e' = s.engine e' := s.enqueueErr_engine _ _
@[simp] theorem State.raise_slotNow (s : State) (e : Err) (c : ErrSrc) (a b : Nat) (e' : Nat) : (s.raise e c a b).slotNow e' = s.slotNow e' := s.enqueueErr_slotNow _ _
@[simp] theorem State.raise_slotIdx (s : State) (e : Err) (c : ErrSrc) (a b : Nat) (e' : Nat) : (s.raise e c a b).slotIdx e' = s.slotIdx e' := s.enqueueErr_slotIdx _ _
@[simp] theorem State.raise_xeng (s : State) (e : Err) (c : ErrSrc) (a b : Nat) (e' : Nat) : (s.raise e c a b).xeng e' = s.xeng e' := s.enqueueErr_xeng _ _
@[simp] theorem State.raise_redHalf (s : State) (e : Err) (c : ErrSrc) (a b : Nat) (h' : Nat) : (s.raise e c a b).redHalf h' = s.redHalf h' := s.enqueueErr_redHalf _ _
@[simp] theorem State.raise_pt (s : State) (e : Err) (c : ErrSrc) (a b : Nat) (p' : Nat) : (s.raise e c a b).pt p' = s.pt p' := s.enqueueErr_pt _ _
theorem State.rd_raise (s : State) (e : Err) (c : ErrSrc) (a b : Nat) {f' : Fld} {i' : Nat} (h : ¬(f' = .ERRLOG_DROPPED_COUNT ∧ i' = 0)) :
    (s.raise e c a b).rd f' i' = s.rd f' i' := s.rd_enqueueErr _ h
@[simp] theorem State.raiseInfo_mem (s : State) (e : Err) (c : ErrSrc) (a b : Nat) : (s.raiseInfo e c a b).mem = s.mem := s.enqueueErr_mem _
@[simp] theorem State.raiseInfo_hostMem (s : State) (e : Err) (c : ErrSrc) (a b : Nat) : (s.raiseInfo e c a b).hostMem = s.hostMem := s.enqueueErr_hostMem _
@[simp] theorem State.raiseInfo_poison (s : State) (e : Err) (c : ErrSrc) (a b : Nat) : (s.raiseInfo e c a b).poison = s.poison := s.enqueueErr_poison _
@[simp] theorem State.raiseInfo_ceNoted (s : State) (e : Err) (c : ErrSrc) (a b : Nat) : (s.raiseInfo e c a b).ceNoted = s.ceNoted := s.enqueueErr_ceNoted _
@[simp] theorem State.raiseInfo_tb (s : State) (e : Err) (c : ErrSrc) (a b : Nat) : (s.raiseInfo e c a b).tb = s.tb := s.enqueueErr_tb _
@[simp] theorem State.raiseInfo_tbRem (s : State) (e : Err) (c : ErrSrc) (a b : Nat) : (s.raiseInfo e c a b).tbRem = s.tbRem := s.enqueueErr_tbRem _
@[simp] theorem State.raiseInfo_frameCycle (s : State) (e : Err) (c : ErrSrc) (a b : Nat) : (s.raiseInfo e c a b).frameCycle = s.frameCycle := s.enqueueErr_frameCycle _
@[simp] theorem State.raiseInfo_time (s : State) (e : Err) (c : ErrSrc) (a b : Nat) : (s.raiseInfo e c a b).time = s.time := s.enqueueErr_time _
@[simp] theorem State.raiseInfo_seq (s : State) (e : Err) (c : ErrSrc) (a b : Nat) : (s.raiseInfo e c a b).seq = s.seq := s.enqueueErr_seq _
@[simp] theorem State.raiseInfo_prog (s : State) (e : Err) (c : ErrSrc) (a b : Nat) : (s.raiseInfo e c a b).prog = s.prog := s.enqueueErr_prog _
@[simp] theorem State.raiseInfo_engines (s : State) (e : Err) (c : ErrSrc) (a b : Nat) : (s.raiseInfo e c a b).engines = s.engines := s.enqueueErr_engines _
@[simp] theorem State.raiseInfo_tileMap (s : State) (e : Err) (c : ErrSrc) (a b : Nat) : (s.raiseInfo e c a b).tileMap = s.tileMap := s.enqueueErr_tileMap _
@[simp] theorem State.raiseInfo_tiles (s : State) (e : Err) (c : ErrSrc) (a b : Nat) : (s.raiseInfo e c a b).tiles = s.tiles := s.enqueueErr_tiles _
@[simp] theorem State.raiseInfo_ve (s : State) (e : Err) (c : ErrSrc) (a b : Nat) : (s.raiseInfo e c a b).ve = s.ve := s.enqueueErr_ve _
@[simp] theorem State.raiseInfo_vent (s : State) (e : Err) (c : ErrSrc) (a b : Nat) : (s.raiseInfo e c a b).vent = s.vent := s.enqueueErr_vent _
@[simp] theorem State.raiseInfo_allocs (s : State) (e : Err) (c : ErrSrc) (a b : Nat) : (s.raiseInfo e c a b).allocs = s.allocs := s.enqueueErr_allocs _
@[simp] theorem State.raiseInfo_descs (s : State) (e : Err) (c : ErrSrc) (a b : Nat) : (s.raiseInfo e c a b).descs = s.descs := s.enqueueErr_descs _
@[simp] theorem State.raiseInfo_policy (s : State) (e : Err) (c : ErrSrc) (a b : Nat) : (s.raiseInfo e c a b).policy = s.policy := s.enqueueErr_policy _
@[simp] theorem State.raiseInfo_bus (s : State) (e : Err) (c : ErrSrc) (a b : Nat) : (s.raiseInfo e c a b).bus = s.bus := s.enqueueErr_bus _
@[simp] theorem State.raiseInfo_sync (s : State) (e : Err) (c : ErrSrc) (a b : Nat) : (s.raiseInfo e c a b).sync = s.sync := s.enqueueErr_sync _
@[simp] theorem State.raiseInfo_str (s : State) (e : Err) (c : ErrSrc) (a b : Nat) : (s.raiseInfo e c a b).str = s.str := s.enqueueErr_str _
@[simp] theorem State.raiseInfo_fab (s : State) (e : Err) (c : ErrSrc) (a b : Nat) : (s.raiseInfo e c a b).fab = s.fab := s.enqueueErr_fab _
@[simp] theorem State.raiseInfo_step (s : State) (e : Err) (c : ErrSrc) (a b : Nat) : (s.raiseInfo e c a b).step = s.step := s.enqueueErr_step _
@[simp] theorem State.raiseInfo_sin (s : State) (e : Err) (c : ErrSrc) (a b : Nat) : (s.raiseInfo e c a b).sin = s.sin := s.enqueueErr_sin _
@[simp] theorem State.raiseInfo_mbx (s : State) (e : Err) (c : ErrSrc) (a b : Nat) : (s.raiseInfo e c a b).mbx = s.mbx := s.enqueueErr_mbx _
@[simp] theorem State.raiseInfo_cp (s : State) (e : Err) (c : ErrSrc) (a b : Nat) : (s.raiseInfo e c a b).cp = s.cp := s.enqueueErr_cp _
@[simp] theorem State.raiseInfo_seqRun (s : State) (e : Err) (c : ErrSrc) (a b : Nat) : (s.raiseInfo e c a b).seqRun = s.seqRun := s.enqueueErr_seqRun _
@[simp] theorem State.raiseInfo_pwr (s : State) (e : Err) (c : ErrSrc) (a b : Nat) : (s.raiseInfo e c a b).pwr = s.pwr := s.enqueueErr_pwr _
@[simp] theorem State.raiseInfo_fum (s : State) (e : Err) (c : ErrSrc) (a b : Nat) : (s.raiseInfo e c a b).fum = s.fum := s.enqueueErr_fum _
@[simp] theorem State.raiseInfo_start (s : State) (e : Err) (c : ErrSrc) (a b : Nat) : (s.raiseInfo e c a b).start = s.start := s.enqueueErr_start _
@[simp] theorem State.raiseInfo_xfer (s : State) (e : Err) (c : ErrSrc) (a b : Nat) : (s.raiseInfo e c a b).xfer = s.xfer := s.enqueueErr_xfer _
@[simp] theorem State.raiseInfo_inbound (s : State) (e : Err) (c : ErrSrc) (a b : Nat) : (s.raiseInfo e c a b).inbound = s.inbound := s.enqueueErr_inbound _
@[simp] theorem State.raiseInfo_gatherNum (s : State) (e : Err) (c : ErrSrc) (a b : Nat) : (s.raiseInfo e c a b).gatherNum = s.gatherNum := s.enqueueErr_gatherNum _
@[simp] theorem State.raiseInfo_red (s : State) (e : Err) (c : ErrSrc) (a b : Nat) : (s.raiseInfo e c a b).red = s.red := s.enqueueErr_red _
@[simp] theorem State.raiseInfo_bodies (s : State) (e : Err) (c : ErrSrc) (a b : Nat) : (s.raiseInfo e c a b).bodies = s.bodies := s.enqueueErr_bodies _
@[simp] theorem State.raiseInfo_res (s : State) (e : Err) (c : ErrSrc) (a b : Nat) : (s.raiseInfo e c a b).res = s.res := s.enqueueErr_res _
@[simp] theorem State.raiseInfo_sramScrub (s : State) (e : Err) (c : ErrSrc) (a b : Nat) : (s.raiseInfo e c a b).sramScrub = s.sramScrub := s.enqueueErr_sramScrub _
@[simp] theorem State.raiseInfo_frameFlags (s : State) (e : Err) (c : ErrSrc) (a b : Nat) : (s.raiseInfo e c a b).frameFlags = s.frameFlags := s.enqueueErr_frameFlags _
@[simp] theorem State.raiseInfo_fills (s : State) (e : Err) (c : ErrSrc) (a b : Nat) : (s.raiseInfo e c a b).fills = s.fills := s.enqueueErr_fills _
@[simp] theorem State.raiseInfo_aborted (s : State) (e : Err) (c : ErrSrc) (a b : Nat) : (s.raiseInfo e c a b).aborted = s.aborted := s.enqueueErr_aborted _
@[simp] theorem State.raiseInfo_hbmReady (s : State) (e : Err) (c : ErrSrc) (a b : Nat) : (s.raiseInfo e c a b).hbmReady = s.hbmReady := s.enqueueErr_hbmReady _
@[simp] theorem State.raiseInfo_free (s : State) (e : Err) (c : ErrSrc) (a b : Nat) : (s.raiseInfo e c a b).free = s.free := s.enqueueErr_free _
@[simp] theorem State.raiseInfo_pending (s : State) (e : Err) (c : ErrSrc) (a b : Nat) : (s.raiseInfo e c a b).pending = s.pending := s.enqueueErr_pending _
@[simp] theorem State.raiseInfo_ptile (s : State) (e : Err) (c : ErrSrc) (a b : Nat) (p' : Nat) : (s.raiseInfo e c a b).ptile p' = s.ptile p' := s.enqueueErr_ptile _ _
@[simp] theorem State.raiseInfo_physOf (s : State) (e : Err) (c : ErrSrc) (a b : Nat) (t' : Nat) : (s.raiseInfo e c a b).physOf t' = s.physOf t' := s.enqueueErr_physOf _ _
@[simp] theorem State.raiseInfo_veOf (s : State) (e : Err) (c : ErrSrc) (a b : Nat) (t' : Nat) : (s.raiseInfo e c a b).veOf t' = s.veOf t' := s.enqueueErr_veOf _ _
@[simp] theorem State.raiseInfo_engine (s : State) (e : Err) (c : ErrSrc) (a b : Nat) (e' : Nat) : (s.raiseInfo e c a b).engine e' = s.engine e' := s.enqueueErr_engine _ _
@[simp] theorem State.raiseInfo_slotNow (s : State) (e : Err) (c : ErrSrc) (a b : Nat) (e' : Nat) : (s.raiseInfo e c a b).slotNow e' = s.slotNow e' := s.enqueueErr_slotNow _ _
@[simp] theorem State.raiseInfo_slotIdx (s : State) (e : Err) (c : ErrSrc) (a b : Nat) (e' : Nat) : (s.raiseInfo e c a b).slotIdx e' = s.slotIdx e' := s.enqueueErr_slotIdx _ _
@[simp] theorem State.raiseInfo_xeng (s : State) (e : Err) (c : ErrSrc) (a b : Nat) (e' : Nat) : (s.raiseInfo e c a b).xeng e' = s.xeng e' := s.enqueueErr_xeng _ _
@[simp] theorem State.raiseInfo_redHalf (s : State) (e : Err) (c : ErrSrc) (a b : Nat) (h' : Nat) : (s.raiseInfo e c a b).redHalf h' = s.redHalf h' := s.enqueueErr_redHalf _ _
@[simp] theorem State.raiseInfo_pt (s : State) (e : Err) (c : ErrSrc) (a b : Nat) (p' : Nat) : (s.raiseInfo e c a b).pt p' = s.pt p' := s.enqueueErr_pt _ _
theorem State.rd_raiseInfo (s : State) (e : Err) (c : ErrSrc) (a b : Nat) {f' : Fld} {i' : Nat} (h : ¬(f' = .ERRLOG_DROPPED_COUNT ∧ i' = 0)) :
    (s.raiseInfo e c a b).rd f' i' = s.rd f' i' := s.rd_enqueueErr _ h
@[simp] theorem State.raiseSlot_mem (s : State) (e : Err) (n i k a b : Nat) : (s.raiseSlot e n i k a b).mem = s.mem := s.enqueueErr_mem _
@[simp] theorem State.raiseSlot_hostMem (s : State) (e : Err) (n i k a b : Nat) : (s.raiseSlot e n i k a b).hostMem = s.hostMem := s.enqueueErr_hostMem _
@[simp] theorem State.raiseSlot_poison (s : State) (e : Err) (n i k a b : Nat) : (s.raiseSlot e n i k a b).poison = s.poison := s.enqueueErr_poison _
@[simp] theorem State.raiseSlot_ceNoted (s : State) (e : Err) (n i k a b : Nat) : (s.raiseSlot e n i k a b).ceNoted = s.ceNoted := s.enqueueErr_ceNoted _
@[simp] theorem State.raiseSlot_tb (s : State) (e : Err) (n i k a b : Nat) : (s.raiseSlot e n i k a b).tb = s.tb := s.enqueueErr_tb _
@[simp] theorem State.raiseSlot_tbRem (s : State) (e : Err) (n i k a b : Nat) : (s.raiseSlot e n i k a b).tbRem = s.tbRem := s.enqueueErr_tbRem _
@[simp] theorem State.raiseSlot_frameCycle (s : State) (e : Err) (n i k a b : Nat) : (s.raiseSlot e n i k a b).frameCycle = s.frameCycle := s.enqueueErr_frameCycle _
@[simp] theorem State.raiseSlot_time (s : State) (e : Err) (n i k a b : Nat) : (s.raiseSlot e n i k a b).time = s.time := s.enqueueErr_time _
@[simp] theorem State.raiseSlot_seq (s : State) (e : Err) (n i k a b : Nat) : (s.raiseSlot e n i k a b).seq = s.seq := s.enqueueErr_seq _
@[simp] theorem State.raiseSlot_prog (s : State) (e : Err) (n i k a b : Nat) : (s.raiseSlot e n i k a b).prog = s.prog := s.enqueueErr_prog _
@[simp] theorem State.raiseSlot_engines (s : State) (e : Err) (n i k a b : Nat) : (s.raiseSlot e n i k a b).engines = s.engines := s.enqueueErr_engines _
@[simp] theorem State.raiseSlot_tileMap (s : State) (e : Err) (n i k a b : Nat) : (s.raiseSlot e n i k a b).tileMap = s.tileMap := s.enqueueErr_tileMap _
@[simp] theorem State.raiseSlot_tiles (s : State) (e : Err) (n i k a b : Nat) : (s.raiseSlot e n i k a b).tiles = s.tiles := s.enqueueErr_tiles _
@[simp] theorem State.raiseSlot_ve (s : State) (e : Err) (n i k a b : Nat) : (s.raiseSlot e n i k a b).ve = s.ve := s.enqueueErr_ve _
@[simp] theorem State.raiseSlot_vent (s : State) (e : Err) (n i k a b : Nat) : (s.raiseSlot e n i k a b).vent = s.vent := s.enqueueErr_vent _
@[simp] theorem State.raiseSlot_allocs (s : State) (e : Err) (n i k a b : Nat) : (s.raiseSlot e n i k a b).allocs = s.allocs := s.enqueueErr_allocs _
@[simp] theorem State.raiseSlot_descs (s : State) (e : Err) (n i k a b : Nat) : (s.raiseSlot e n i k a b).descs = s.descs := s.enqueueErr_descs _
@[simp] theorem State.raiseSlot_policy (s : State) (e : Err) (n i k a b : Nat) : (s.raiseSlot e n i k a b).policy = s.policy := s.enqueueErr_policy _
@[simp] theorem State.raiseSlot_bus (s : State) (e : Err) (n i k a b : Nat) : (s.raiseSlot e n i k a b).bus = s.bus := s.enqueueErr_bus _
@[simp] theorem State.raiseSlot_sync (s : State) (e : Err) (n i k a b : Nat) : (s.raiseSlot e n i k a b).sync = s.sync := s.enqueueErr_sync _
@[simp] theorem State.raiseSlot_str (s : State) (e : Err) (n i k a b : Nat) : (s.raiseSlot e n i k a b).str = s.str := s.enqueueErr_str _
@[simp] theorem State.raiseSlot_fab (s : State) (e : Err) (n i k a b : Nat) : (s.raiseSlot e n i k a b).fab = s.fab := s.enqueueErr_fab _
@[simp] theorem State.raiseSlot_step (s : State) (e : Err) (n i k a b : Nat) : (s.raiseSlot e n i k a b).step = s.step := s.enqueueErr_step _
@[simp] theorem State.raiseSlot_sin (s : State) (e : Err) (n i k a b : Nat) : (s.raiseSlot e n i k a b).sin = s.sin := s.enqueueErr_sin _
@[simp] theorem State.raiseSlot_mbx (s : State) (e : Err) (n i k a b : Nat) : (s.raiseSlot e n i k a b).mbx = s.mbx := s.enqueueErr_mbx _
@[simp] theorem State.raiseSlot_cp (s : State) (e : Err) (n i k a b : Nat) : (s.raiseSlot e n i k a b).cp = s.cp := s.enqueueErr_cp _
@[simp] theorem State.raiseSlot_seqRun (s : State) (e : Err) (n i k a b : Nat) : (s.raiseSlot e n i k a b).seqRun = s.seqRun := s.enqueueErr_seqRun _
@[simp] theorem State.raiseSlot_pwr (s : State) (e : Err) (n i k a b : Nat) : (s.raiseSlot e n i k a b).pwr = s.pwr := s.enqueueErr_pwr _
@[simp] theorem State.raiseSlot_fum (s : State) (e : Err) (n i k a b : Nat) : (s.raiseSlot e n i k a b).fum = s.fum := s.enqueueErr_fum _
@[simp] theorem State.raiseSlot_start (s : State) (e : Err) (n i k a b : Nat) : (s.raiseSlot e n i k a b).start = s.start := s.enqueueErr_start _
@[simp] theorem State.raiseSlot_xfer (s : State) (e : Err) (n i k a b : Nat) : (s.raiseSlot e n i k a b).xfer = s.xfer := s.enqueueErr_xfer _
@[simp] theorem State.raiseSlot_inbound (s : State) (e : Err) (n i k a b : Nat) : (s.raiseSlot e n i k a b).inbound = s.inbound := s.enqueueErr_inbound _
@[simp] theorem State.raiseSlot_gatherNum (s : State) (e : Err) (n i k a b : Nat) : (s.raiseSlot e n i k a b).gatherNum = s.gatherNum := s.enqueueErr_gatherNum _
@[simp] theorem State.raiseSlot_red (s : State) (e : Err) (n i k a b : Nat) : (s.raiseSlot e n i k a b).red = s.red := s.enqueueErr_red _
@[simp] theorem State.raiseSlot_bodies (s : State) (e : Err) (n i k a b : Nat) : (s.raiseSlot e n i k a b).bodies = s.bodies := s.enqueueErr_bodies _
@[simp] theorem State.raiseSlot_res (s : State) (e : Err) (n i k a b : Nat) : (s.raiseSlot e n i k a b).res = s.res := s.enqueueErr_res _
@[simp] theorem State.raiseSlot_sramScrub (s : State) (e : Err) (n i k a b : Nat) : (s.raiseSlot e n i k a b).sramScrub = s.sramScrub := s.enqueueErr_sramScrub _
@[simp] theorem State.raiseSlot_frameFlags (s : State) (e : Err) (n i k a b : Nat) : (s.raiseSlot e n i k a b).frameFlags = s.frameFlags := s.enqueueErr_frameFlags _
@[simp] theorem State.raiseSlot_fills (s : State) (e : Err) (n i k a b : Nat) : (s.raiseSlot e n i k a b).fills = s.fills := s.enqueueErr_fills _
@[simp] theorem State.raiseSlot_aborted (s : State) (e : Err) (n i k a b : Nat) : (s.raiseSlot e n i k a b).aborted = s.aborted := s.enqueueErr_aborted _
@[simp] theorem State.raiseSlot_hbmReady (s : State) (e : Err) (n i k a b : Nat) : (s.raiseSlot e n i k a b).hbmReady = s.hbmReady := s.enqueueErr_hbmReady _
@[simp] theorem State.raiseSlot_free (s : State) (e : Err) (n i k a b : Nat) : (s.raiseSlot e n i k a b).free = s.free := s.enqueueErr_free _
@[simp] theorem State.raiseSlot_pending (s : State) (e : Err) (n i k a b : Nat) : (s.raiseSlot e n i k a b).pending = s.pending := s.enqueueErr_pending _
@[simp] theorem State.raiseSlot_ptile (s : State) (e : Err) (n i k a b : Nat) (p' : Nat) : (s.raiseSlot e n i k a b).ptile p' = s.ptile p' := s.enqueueErr_ptile _ _
@[simp] theorem State.raiseSlot_physOf (s : State) (e : Err) (n i k a b : Nat) (t' : Nat) : (s.raiseSlot e n i k a b).physOf t' = s.physOf t' := s.enqueueErr_physOf _ _
@[simp] theorem State.raiseSlot_veOf (s : State) (e : Err) (n i k a b : Nat) (t' : Nat) : (s.raiseSlot e n i k a b).veOf t' = s.veOf t' := s.enqueueErr_veOf _ _
@[simp] theorem State.raiseSlot_engine (s : State) (e : Err) (n i k a b : Nat) (e' : Nat) : (s.raiseSlot e n i k a b).engine e' = s.engine e' := s.enqueueErr_engine _ _
@[simp] theorem State.raiseSlot_slotNow (s : State) (e : Err) (n i k a b : Nat) (e' : Nat) : (s.raiseSlot e n i k a b).slotNow e' = s.slotNow e' := s.enqueueErr_slotNow _ _
@[simp] theorem State.raiseSlot_slotIdx (s : State) (e : Err) (n i k a b : Nat) (e' : Nat) : (s.raiseSlot e n i k a b).slotIdx e' = s.slotIdx e' := s.enqueueErr_slotIdx _ _
@[simp] theorem State.raiseSlot_xeng (s : State) (e : Err) (n i k a b : Nat) (e' : Nat) : (s.raiseSlot e n i k a b).xeng e' = s.xeng e' := s.enqueueErr_xeng _ _
@[simp] theorem State.raiseSlot_redHalf (s : State) (e : Err) (n i k a b : Nat) (h' : Nat) : (s.raiseSlot e n i k a b).redHalf h' = s.redHalf h' := s.enqueueErr_redHalf _ _
@[simp] theorem State.raiseSlot_pt (s : State) (e : Err) (n i k a b : Nat) (p' : Nat) : (s.raiseSlot e n i k a b).pt p' = s.pt p' := s.enqueueErr_pt _ _
theorem State.rd_raiseSlot (s : State) (e : Err) (n i k a b : Nat) {f' : Fld} {i' : Nat} (h : ¬(f' = .ERRLOG_DROPPED_COUNT ∧ i' = 0)) :
    (s.raiseSlot e n i k a b).rd f' i' = s.rd f' i' := s.rd_enqueueErr _ h
@[simp] theorem State.raiseArb_mem (s : State) (e : Err) (i k a b : Nat) : (s.raiseArb e i k a b).mem = s.mem := s.enqueueErr_mem _
@[simp] theorem State.raiseArb_hostMem (s : State) (e : Err) (i k a b : Nat) : (s.raiseArb e i k a b).hostMem = s.hostMem := s.enqueueErr_hostMem _
@[simp] theorem State.raiseArb_poison (s : State) (e : Err) (i k a b : Nat) : (s.raiseArb e i k a b).poison = s.poison := s.enqueueErr_poison _
@[simp] theorem State.raiseArb_ceNoted (s : State) (e : Err) (i k a b : Nat) : (s.raiseArb e i k a b).ceNoted = s.ceNoted := s.enqueueErr_ceNoted _
@[simp] theorem State.raiseArb_tb (s : State) (e : Err) (i k a b : Nat) : (s.raiseArb e i k a b).tb = s.tb := s.enqueueErr_tb _
@[simp] theorem State.raiseArb_tbRem (s : State) (e : Err) (i k a b : Nat) : (s.raiseArb e i k a b).tbRem = s.tbRem := s.enqueueErr_tbRem _
@[simp] theorem State.raiseArb_frameCycle (s : State) (e : Err) (i k a b : Nat) : (s.raiseArb e i k a b).frameCycle = s.frameCycle := s.enqueueErr_frameCycle _
@[simp] theorem State.raiseArb_time (s : State) (e : Err) (i k a b : Nat) : (s.raiseArb e i k a b).time = s.time := s.enqueueErr_time _
@[simp] theorem State.raiseArb_seq (s : State) (e : Err) (i k a b : Nat) : (s.raiseArb e i k a b).seq = s.seq := s.enqueueErr_seq _
@[simp] theorem State.raiseArb_prog (s : State) (e : Err) (i k a b : Nat) : (s.raiseArb e i k a b).prog = s.prog := s.enqueueErr_prog _
@[simp] theorem State.raiseArb_engines (s : State) (e : Err) (i k a b : Nat) : (s.raiseArb e i k a b).engines = s.engines := s.enqueueErr_engines _
@[simp] theorem State.raiseArb_tileMap (s : State) (e : Err) (i k a b : Nat) : (s.raiseArb e i k a b).tileMap = s.tileMap := s.enqueueErr_tileMap _
@[simp] theorem State.raiseArb_tiles (s : State) (e : Err) (i k a b : Nat) : (s.raiseArb e i k a b).tiles = s.tiles := s.enqueueErr_tiles _
@[simp] theorem State.raiseArb_ve (s : State) (e : Err) (i k a b : Nat) : (s.raiseArb e i k a b).ve = s.ve := s.enqueueErr_ve _
@[simp] theorem State.raiseArb_vent (s : State) (e : Err) (i k a b : Nat) : (s.raiseArb e i k a b).vent = s.vent := s.enqueueErr_vent _
@[simp] theorem State.raiseArb_allocs (s : State) (e : Err) (i k a b : Nat) : (s.raiseArb e i k a b).allocs = s.allocs := s.enqueueErr_allocs _
@[simp] theorem State.raiseArb_descs (s : State) (e : Err) (i k a b : Nat) : (s.raiseArb e i k a b).descs = s.descs := s.enqueueErr_descs _
@[simp] theorem State.raiseArb_policy (s : State) (e : Err) (i k a b : Nat) : (s.raiseArb e i k a b).policy = s.policy := s.enqueueErr_policy _
@[simp] theorem State.raiseArb_bus (s : State) (e : Err) (i k a b : Nat) : (s.raiseArb e i k a b).bus = s.bus := s.enqueueErr_bus _
@[simp] theorem State.raiseArb_sync (s : State) (e : Err) (i k a b : Nat) : (s.raiseArb e i k a b).sync = s.sync := s.enqueueErr_sync _
@[simp] theorem State.raiseArb_str (s : State) (e : Err) (i k a b : Nat) : (s.raiseArb e i k a b).str = s.str := s.enqueueErr_str _
@[simp] theorem State.raiseArb_fab (s : State) (e : Err) (i k a b : Nat) : (s.raiseArb e i k a b).fab = s.fab := s.enqueueErr_fab _
@[simp] theorem State.raiseArb_step (s : State) (e : Err) (i k a b : Nat) : (s.raiseArb e i k a b).step = s.step := s.enqueueErr_step _
@[simp] theorem State.raiseArb_sin (s : State) (e : Err) (i k a b : Nat) : (s.raiseArb e i k a b).sin = s.sin := s.enqueueErr_sin _
@[simp] theorem State.raiseArb_mbx (s : State) (e : Err) (i k a b : Nat) : (s.raiseArb e i k a b).mbx = s.mbx := s.enqueueErr_mbx _
@[simp] theorem State.raiseArb_cp (s : State) (e : Err) (i k a b : Nat) : (s.raiseArb e i k a b).cp = s.cp := s.enqueueErr_cp _
@[simp] theorem State.raiseArb_seqRun (s : State) (e : Err) (i k a b : Nat) : (s.raiseArb e i k a b).seqRun = s.seqRun := s.enqueueErr_seqRun _
@[simp] theorem State.raiseArb_pwr (s : State) (e : Err) (i k a b : Nat) : (s.raiseArb e i k a b).pwr = s.pwr := s.enqueueErr_pwr _
@[simp] theorem State.raiseArb_fum (s : State) (e : Err) (i k a b : Nat) : (s.raiseArb e i k a b).fum = s.fum := s.enqueueErr_fum _
@[simp] theorem State.raiseArb_start (s : State) (e : Err) (i k a b : Nat) : (s.raiseArb e i k a b).start = s.start := s.enqueueErr_start _
@[simp] theorem State.raiseArb_xfer (s : State) (e : Err) (i k a b : Nat) : (s.raiseArb e i k a b).xfer = s.xfer := s.enqueueErr_xfer _
@[simp] theorem State.raiseArb_inbound (s : State) (e : Err) (i k a b : Nat) : (s.raiseArb e i k a b).inbound = s.inbound := s.enqueueErr_inbound _
@[simp] theorem State.raiseArb_gatherNum (s : State) (e : Err) (i k a b : Nat) : (s.raiseArb e i k a b).gatherNum = s.gatherNum := s.enqueueErr_gatherNum _
@[simp] theorem State.raiseArb_red (s : State) (e : Err) (i k a b : Nat) : (s.raiseArb e i k a b).red = s.red := s.enqueueErr_red _
@[simp] theorem State.raiseArb_bodies (s : State) (e : Err) (i k a b : Nat) : (s.raiseArb e i k a b).bodies = s.bodies := s.enqueueErr_bodies _
@[simp] theorem State.raiseArb_res (s : State) (e : Err) (i k a b : Nat) : (s.raiseArb e i k a b).res = s.res := s.enqueueErr_res _
@[simp] theorem State.raiseArb_sramScrub (s : State) (e : Err) (i k a b : Nat) : (s.raiseArb e i k a b).sramScrub = s.sramScrub := s.enqueueErr_sramScrub _
@[simp] theorem State.raiseArb_frameFlags (s : State) (e : Err) (i k a b : Nat) : (s.raiseArb e i k a b).frameFlags = s.frameFlags := s.enqueueErr_frameFlags _
@[simp] theorem State.raiseArb_fills (s : State) (e : Err) (i k a b : Nat) : (s.raiseArb e i k a b).fills = s.fills := s.enqueueErr_fills _
@[simp] theorem State.raiseArb_aborted (s : State) (e : Err) (i k a b : Nat) : (s.raiseArb e i k a b).aborted = s.aborted := s.enqueueErr_aborted _
@[simp] theorem State.raiseArb_hbmReady (s : State) (e : Err) (i k a b : Nat) : (s.raiseArb e i k a b).hbmReady = s.hbmReady := s.enqueueErr_hbmReady _
@[simp] theorem State.raiseArb_free (s : State) (e : Err) (i k a b : Nat) : (s.raiseArb e i k a b).free = s.free := s.enqueueErr_free _
@[simp] theorem State.raiseArb_pending (s : State) (e : Err) (i k a b : Nat) : (s.raiseArb e i k a b).pending = s.pending := s.enqueueErr_pending _
@[simp] theorem State.raiseArb_ptile (s : State) (e : Err) (i k a b : Nat) (p' : Nat) : (s.raiseArb e i k a b).ptile p' = s.ptile p' := s.enqueueErr_ptile _ _
@[simp] theorem State.raiseArb_physOf (s : State) (e : Err) (i k a b : Nat) (t' : Nat) : (s.raiseArb e i k a b).physOf t' = s.physOf t' := s.enqueueErr_physOf _ _
@[simp] theorem State.raiseArb_veOf (s : State) (e : Err) (i k a b : Nat) (t' : Nat) : (s.raiseArb e i k a b).veOf t' = s.veOf t' := s.enqueueErr_veOf _ _
@[simp] theorem State.raiseArb_engine (s : State) (e : Err) (i k a b : Nat) (e' : Nat) : (s.raiseArb e i k a b).engine e' = s.engine e' := s.enqueueErr_engine _ _
@[simp] theorem State.raiseArb_slotNow (s : State) (e : Err) (i k a b : Nat) (e' : Nat) : (s.raiseArb e i k a b).slotNow e' = s.slotNow e' := s.enqueueErr_slotNow _ _
@[simp] theorem State.raiseArb_slotIdx (s : State) (e : Err) (i k a b : Nat) (e' : Nat) : (s.raiseArb e i k a b).slotIdx e' = s.slotIdx e' := s.enqueueErr_slotIdx _ _
@[simp] theorem State.raiseArb_xeng (s : State) (e : Err) (i k a b : Nat) (e' : Nat) : (s.raiseArb e i k a b).xeng e' = s.xeng e' := s.enqueueErr_xeng _ _
@[simp] theorem State.raiseArb_redHalf (s : State) (e : Err) (i k a b : Nat) (h' : Nat) : (s.raiseArb e i k a b).redHalf h' = s.redHalf h' := s.enqueueErr_redHalf _ _
@[simp] theorem State.raiseArb_pt (s : State) (e : Err) (i k a b : Nat) (p' : Nat) : (s.raiseArb e i k a b).pt p' = s.pt p' := s.enqueueErr_pt _ _
theorem State.rd_raiseArb (s : State) (e : Err) (i k a b : Nat) {f' : Fld} {i' : Nat} (h : ¬(f' = .ERRLOG_DROPPED_COUNT ∧ i' = 0)) :
    (s.raiseArb e i k a b).rd f' i' = s.rd f' i' := s.rd_enqueueErr _ h
@[simp] theorem State.bump_mem (s : State) (f : Fld) (n i : Nat) : (s.bump f n i).mem = s.mem := rfl
@[simp] theorem State.bump_hostMem (s : State) (f : Fld) (n i : Nat) : (s.bump f n i).hostMem = s.hostMem := rfl
@[simp] theorem State.bump_poison (s : State) (f : Fld) (n i : Nat) : (s.bump f n i).poison = s.poison := rfl
@[simp] theorem State.bump_ceNoted (s : State) (f : Fld) (n i : Nat) : (s.bump f n i).ceNoted = s.ceNoted := rfl
@[simp] theorem State.bump_tb (s : State) (f : Fld) (n i : Nat) : (s.bump f n i).tb = s.tb := rfl
@[simp] theorem State.bump_tbRem (s : State) (f : Fld) (n i : Nat) : (s.bump f n i).tbRem = s.tbRem := rfl
@[simp] theorem State.bump_frameCycle (s : State) (f : Fld) (n i : Nat) : (s.bump f n i).frameCycle = s.frameCycle := rfl
@[simp] theorem State.bump_time (s : State) (f : Fld) (n i : Nat) : (s.bump f n i).time = s.time := rfl
@[simp] theorem State.bump_seq (s : State) (f : Fld) (n i : Nat) : (s.bump f n i).seq = s.seq := rfl
@[simp] theorem State.bump_prog (s : State) (f : Fld) (n i : Nat) : (s.bump f n i).prog = s.prog := rfl
@[simp] theorem State.bump_engines (s : State) (f : Fld) (n i : Nat) : (s.bump f n i).engines = s.engines := rfl
@[simp] theorem State.bump_tileMap (s : State) (f : Fld) (n i : Nat) : (s.bump f n i).tileMap = s.tileMap := rfl
@[simp] theorem State.bump_tiles (s : State) (f : Fld) (n i : Nat) : (s.bump f n i).tiles = s.tiles := rfl
@[simp] theorem State.bump_ve (s : State) (f : Fld) (n i : Nat) : (s.bump f n i).ve = s.ve := rfl
@[simp] theorem State.bump_vent (s : State) (f : Fld) (n i : Nat) : (s.bump f n i).vent = s.vent := rfl
@[simp] theorem State.bump_errq (s : State) (f : Fld) (n i : Nat) : (s.bump f n i).errq = s.errq := rfl
@[simp] theorem State.bump_allocs (s : State) (f : Fld) (n i : Nat) : (s.bump f n i).allocs = s.allocs := rfl
@[simp] theorem State.bump_descs (s : State) (f : Fld) (n i : Nat) : (s.bump f n i).descs = s.descs := rfl
@[simp] theorem State.bump_policy (s : State) (f : Fld) (n i : Nat) : (s.bump f n i).policy = s.policy := rfl
@[simp] theorem State.bump_bus (s : State) (f : Fld) (n i : Nat) : (s.bump f n i).bus = s.bus := rfl
@[simp] theorem State.bump_sync (s : State) (f : Fld) (n i : Nat) : (s.bump f n i).sync = s.sync := rfl
@[simp] theorem State.bump_str (s : State) (f : Fld) (n i : Nat) : (s.bump f n i).str = s.str := rfl
@[simp] theorem State.bump_fab (s : State) (f : Fld) (n i : Nat) : (s.bump f n i).fab = s.fab := rfl
@[simp] theorem State.bump_step (s : State) (f : Fld) (n i : Nat) : (s.bump f n i).step = s.step := rfl
@[simp] theorem State.bump_sin (s : State) (f : Fld) (n i : Nat) : (s.bump f n i).sin = s.sin := rfl
@[simp] theorem State.bump_mbx (s : State) (f : Fld) (n i : Nat) : (s.bump f n i).mbx = s.mbx := rfl
@[simp] theorem State.bump_cp (s : State) (f : Fld) (n i : Nat) : (s.bump f n i).cp = s.cp := rfl
@[simp] theorem State.bump_seqRun (s : State) (f : Fld) (n i : Nat) : (s.bump f n i).seqRun = s.seqRun := rfl
@[simp] theorem State.bump_pwr (s : State) (f : Fld) (n i : Nat) : (s.bump f n i).pwr = s.pwr := rfl
@[simp] theorem State.bump_fum (s : State) (f : Fld) (n i : Nat) : (s.bump f n i).fum = s.fum := rfl
@[simp] theorem State.bump_start (s : State) (f : Fld) (n i : Nat) : (s.bump f n i).start = s.start := rfl
@[simp] theorem State.bump_xfer (s : State) (f : Fld) (n i : Nat) : (s.bump f n i).xfer = s.xfer := rfl
@[simp] theorem State.bump_inbound (s : State) (f : Fld) (n i : Nat) : (s.bump f n i).inbound = s.inbound := rfl
@[simp] theorem State.bump_gatherNum (s : State) (f : Fld) (n i : Nat) : (s.bump f n i).gatherNum = s.gatherNum := rfl
@[simp] theorem State.bump_red (s : State) (f : Fld) (n i : Nat) : (s.bump f n i).red = s.red := rfl
@[simp] theorem State.bump_bodies (s : State) (f : Fld) (n i : Nat) : (s.bump f n i).bodies = s.bodies := rfl
@[simp] theorem State.bump_res (s : State) (f : Fld) (n i : Nat) : (s.bump f n i).res = s.res := rfl
@[simp] theorem State.bump_sramScrub (s : State) (f : Fld) (n i : Nat) : (s.bump f n i).sramScrub = s.sramScrub := rfl
@[simp] theorem State.bump_frameFlags (s : State) (f : Fld) (n i : Nat) : (s.bump f n i).frameFlags = s.frameFlags := rfl
@[simp] theorem State.bump_fills (s : State) (f : Fld) (n i : Nat) : (s.bump f n i).fills = s.fills := rfl
@[simp] theorem State.bump_aborted (s : State) (f : Fld) (n i : Nat) : (s.bump f n i).aborted = s.aborted := rfl
@[simp] theorem State.bump_hbmReady (s : State) (f : Fld) (n i : Nat) : (s.bump f n i).hbmReady = s.hbmReady := rfl
@[simp] theorem State.bump_stepError (s : State) (f : Fld) (n i : Nat) : (s.bump f n i).stepError = s.stepError := rfl
@[simp] theorem State.bump_free (s : State) (f : Fld) (n i : Nat) : (s.bump f n i).free = s.free := rfl
@[simp] theorem State.bump_pending (s : State) (f : Fld) (n i : Nat) : (s.bump f n i).pending = s.pending := rfl
@[simp] theorem State.bump_ptile (s : State) (f : Fld) (n i : Nat) (p' : Nat) : (s.bump f n i).ptile p' = s.ptile p' := rfl
@[simp] theorem State.bump_physOf (s : State) (f : Fld) (n i : Nat) (t' : Nat) : (s.bump f n i).physOf t' = s.physOf t' := rfl
@[simp] theorem State.bump_veOf (s : State) (f : Fld) (n i : Nat) (t' : Nat) : (s.bump f n i).veOf t' = s.veOf t' := rfl
@[simp] theorem State.bump_engine (s : State) (f : Fld) (n i : Nat) (e' : Nat) : (s.bump f n i).engine e' = s.engine e' := rfl
@[simp] theorem State.bump_slotNow (s : State) (f : Fld) (n i : Nat) (e' : Nat) : (s.bump f n i).slotNow e' = s.slotNow e' := rfl
@[simp] theorem State.bump_slotIdx (s : State) (f : Fld) (n i : Nat) (e' : Nat) : (s.bump f n i).slotIdx e' = s.slotIdx e' := rfl
@[simp] theorem State.bump_xeng (s : State) (f : Fld) (n i : Nat) (e' : Nat) : (s.bump f n i).xeng e' = s.xeng e' := rfl
@[simp] theorem State.bump_redHalf (s : State) (f : Fld) (n i : Nat) (h' : Nat) : (s.bump f n i).redHalf h' = s.redHalf h' := rfl
@[simp] theorem State.bump_pt (s : State) (f : Fld) (n i : Nat) (p' : Nat) : (s.bump f n i).pt p' = s.pt p' := rfl
@[simp] theorem State.orFlags_mem (s : State) (f : Fld) (l : FlagSet) (i : Nat) : (s.orFlags f l i).mem = s.mem := rfl
@[simp] theorem State.orFlags_hostMem (s : State) (f : Fld) (l : FlagSet) (i : Nat) : (s.orFlags f l i).hostMem = s.hostMem := rfl
@[simp] theorem State.orFlags_poison (s : State) (f : Fld) (l : FlagSet) (i : Nat) : (s.orFlags f l i).poison = s.poison := rfl
@[simp] theorem State.orFlags_ceNoted (s : State) (f : Fld) (l : FlagSet) (i : Nat) : (s.orFlags f l i).ceNoted = s.ceNoted := rfl
@[simp] theorem State.orFlags_tb (s : State) (f : Fld) (l : FlagSet) (i : Nat) : (s.orFlags f l i).tb = s.tb := rfl
@[simp] theorem State.orFlags_tbRem (s : State) (f : Fld) (l : FlagSet) (i : Nat) : (s.orFlags f l i).tbRem = s.tbRem := rfl
@[simp] theorem State.orFlags_frameCycle (s : State) (f : Fld) (l : FlagSet) (i : Nat) : (s.orFlags f l i).frameCycle = s.frameCycle := rfl
@[simp] theorem State.orFlags_time (s : State) (f : Fld) (l : FlagSet) (i : Nat) : (s.orFlags f l i).time = s.time := rfl
@[simp] theorem State.orFlags_seq (s : State) (f : Fld) (l : FlagSet) (i : Nat) : (s.orFlags f l i).seq = s.seq := rfl
@[simp] theorem State.orFlags_prog (s : State) (f : Fld) (l : FlagSet) (i : Nat) : (s.orFlags f l i).prog = s.prog := rfl
@[simp] theorem State.orFlags_engines (s : State) (f : Fld) (l : FlagSet) (i : Nat) : (s.orFlags f l i).engines = s.engines := rfl
@[simp] theorem State.orFlags_tileMap (s : State) (f : Fld) (l : FlagSet) (i : Nat) : (s.orFlags f l i).tileMap = s.tileMap := rfl
@[simp] theorem State.orFlags_tiles (s : State) (f : Fld) (l : FlagSet) (i : Nat) : (s.orFlags f l i).tiles = s.tiles := rfl
@[simp] theorem State.orFlags_ve (s : State) (f : Fld) (l : FlagSet) (i : Nat) : (s.orFlags f l i).ve = s.ve := rfl
@[simp] theorem State.orFlags_vent (s : State) (f : Fld) (l : FlagSet) (i : Nat) : (s.orFlags f l i).vent = s.vent := rfl
@[simp] theorem State.orFlags_errq (s : State) (f : Fld) (l : FlagSet) (i : Nat) : (s.orFlags f l i).errq = s.errq := rfl
@[simp] theorem State.orFlags_allocs (s : State) (f : Fld) (l : FlagSet) (i : Nat) : (s.orFlags f l i).allocs = s.allocs := rfl
@[simp] theorem State.orFlags_descs (s : State) (f : Fld) (l : FlagSet) (i : Nat) : (s.orFlags f l i).descs = s.descs := rfl
@[simp] theorem State.orFlags_policy (s : State) (f : Fld) (l : FlagSet) (i : Nat) : (s.orFlags f l i).policy = s.policy := rfl
@[simp] theorem State.orFlags_bus (s : State) (f : Fld) (l : FlagSet) (i : Nat) : (s.orFlags f l i).bus = s.bus := rfl
@[simp] theorem State.orFlags_sync (s : State) (f : Fld) (l : FlagSet) (i : Nat) : (s.orFlags f l i).sync = s.sync := rfl
@[simp] theorem State.orFlags_str (s : State) (f : Fld) (l : FlagSet) (i : Nat) : (s.orFlags f l i).str = s.str := rfl
@[simp] theorem State.orFlags_fab (s : State) (f : Fld) (l : FlagSet) (i : Nat) : (s.orFlags f l i).fab = s.fab := rfl
@[simp] theorem State.orFlags_step (s : State) (f : Fld) (l : FlagSet) (i : Nat) : (s.orFlags f l i).step = s.step := rfl
@[simp] theorem State.orFlags_sin (s : State) (f : Fld) (l : FlagSet) (i : Nat) : (s.orFlags f l i).sin = s.sin := rfl
@[simp] theorem State.orFlags_mbx (s : State) (f : Fld) (l : FlagSet) (i : Nat) : (s.orFlags f l i).mbx = s.mbx := rfl
@[simp] theorem State.orFlags_cp (s : State) (f : Fld) (l : FlagSet) (i : Nat) : (s.orFlags f l i).cp = s.cp := rfl
@[simp] theorem State.orFlags_seqRun (s : State) (f : Fld) (l : FlagSet) (i : Nat) : (s.orFlags f l i).seqRun = s.seqRun := rfl
@[simp] theorem State.orFlags_pwr (s : State) (f : Fld) (l : FlagSet) (i : Nat) : (s.orFlags f l i).pwr = s.pwr := rfl
@[simp] theorem State.orFlags_fum (s : State) (f : Fld) (l : FlagSet) (i : Nat) : (s.orFlags f l i).fum = s.fum := rfl
@[simp] theorem State.orFlags_start (s : State) (f : Fld) (l : FlagSet) (i : Nat) : (s.orFlags f l i).start = s.start := rfl
@[simp] theorem State.orFlags_xfer (s : State) (f : Fld) (l : FlagSet) (i : Nat) : (s.orFlags f l i).xfer = s.xfer := rfl
@[simp] theorem State.orFlags_inbound (s : State) (f : Fld) (l : FlagSet) (i : Nat) : (s.orFlags f l i).inbound = s.inbound := rfl
@[simp] theorem State.orFlags_gatherNum (s : State) (f : Fld) (l : FlagSet) (i : Nat) : (s.orFlags f l i).gatherNum = s.gatherNum := rfl
@[simp] theorem State.orFlags_red (s : State) (f : Fld) (l : FlagSet) (i : Nat) : (s.orFlags f l i).red = s.red := rfl
@[simp] theorem State.orFlags_bodies (s : State) (f : Fld) (l : FlagSet) (i : Nat) : (s.orFlags f l i).bodies = s.bodies := rfl
@[simp] theorem State.orFlags_res (s : State) (f : Fld) (l : FlagSet) (i : Nat) : (s.orFlags f l i).res = s.res := rfl
@[simp] theorem State.orFlags_sramScrub (s : State) (f : Fld) (l : FlagSet) (i : Nat) : (s.orFlags f l i).sramScrub = s.sramScrub := rfl
@[simp] theorem State.orFlags_frameFlags (s : State) (f : Fld) (l : FlagSet) (i : Nat) : (s.orFlags f l i).frameFlags = s.frameFlags := rfl
@[simp] theorem State.orFlags_fills (s : State) (f : Fld) (l : FlagSet) (i : Nat) : (s.orFlags f l i).fills = s.fills := rfl
@[simp] theorem State.orFlags_aborted (s : State) (f : Fld) (l : FlagSet) (i : Nat) : (s.orFlags f l i).aborted = s.aborted := rfl
@[simp] theorem State.orFlags_hbmReady (s : State) (f : Fld) (l : FlagSet) (i : Nat) : (s.orFlags f l i).hbmReady = s.hbmReady := rfl
@[simp] theorem State.orFlags_stepError (s : State) (f : Fld) (l : FlagSet) (i : Nat) : (s.orFlags f l i).stepError = s.stepError := rfl
@[simp] theorem State.orFlags_free (s : State) (f : Fld) (l : FlagSet) (i : Nat) : (s.orFlags f l i).free = s.free := rfl
@[simp] theorem State.orFlags_pending (s : State) (f : Fld) (l : FlagSet) (i : Nat) : (s.orFlags f l i).pending = s.pending := rfl
@[simp] theorem State.orFlags_ptile (s : State) (f : Fld) (l : FlagSet) (i : Nat) (p' : Nat) : (s.orFlags f l i).ptile p' = s.ptile p' := rfl
@[simp] theorem State.orFlags_physOf (s : State) (f : Fld) (l : FlagSet) (i : Nat) (t' : Nat) : (s.orFlags f l i).physOf t' = s.physOf t' := rfl
@[simp] theorem State.orFlags_veOf (s : State) (f : Fld) (l : FlagSet) (i : Nat) (t' : Nat) : (s.orFlags f l i).veOf t' = s.veOf t' := rfl
@[simp] theorem State.orFlags_engine (s : State) (f : Fld) (l : FlagSet) (i : Nat) (e' : Nat) : (s.orFlags f l i).engine e' = s.engine e' := rfl
@[simp] theorem State.orFlags_slotNow (s : State) (f : Fld) (l : FlagSet) (i : Nat) (e' : Nat) : (s.orFlags f l i).slotNow e' = s.slotNow e' := rfl
@[simp] theorem State.orFlags_slotIdx (s : State) (f : Fld) (l : FlagSet) (i : Nat) (e' : Nat) : (s.orFlags f l i).slotIdx e' = s.slotIdx e' := rfl
@[simp] theorem State.orFlags_xeng (s : State) (f : Fld) (l : FlagSet) (i : Nat) (e' : Nat) : (s.orFlags f l i).xeng e' = s.xeng e' := rfl
@[simp] theorem State.orFlags_redHalf (s : State) (f : Fld) (l : FlagSet) (i : Nat) (h' : Nat) : (s.orFlags f l i).redHalf h' = s.redHalf h' := rfl
@[simp] theorem State.orFlags_pt (s : State) (f : Fld) (l : FlagSet) (i : Nat) (p' : Nat) : (s.orFlags f l i).pt p' = s.pt p' := rfl

end Sys2Proof.Machine
end

