-- ==== Sys2Proof/Laws/Bus.lean ====
section
/-! SUPPORT. What a register access that nothing holds back does: one beat, or two, is counted, and the register is read or written. -/

set_option autoImplicit false

namespace Sys2Proof.Machine

open Sys2Proof

/-- A count of a grant changes the arbiters' books and at most RES_STARVE_GRANTS. -/
theorem State.countGrant_eq (s : State) (i : Nat) :
    ∃ u n, s.countGrant i = ({ s with res := u } : State) ∨ s.countGrant i = (({ s with res := u } : State).bump .RES_STARVE_GRANTS_COUNT n) := by
  unfold State.countGrant
  dsimp only
  split
  · exact ⟨_, 0, .inl rfl⟩
  · split
    · exact ⟨_, _, .inr rfl⟩
    · exact ⟨_, 0, .inl rfl⟩

@[simp] theorem State.countGrant_mem (s : State) (i : Nat) : (s.countGrant i).mem = s.mem := by
  obtain ⟨u, n, h | h⟩ := s.countGrant_eq i <;> rw [h] <;> rfl

@[simp] theorem State.countGrant_hostMem (s : State) (i : Nat) : (s.countGrant i).hostMem = s.hostMem := by
  obtain ⟨u, n, h | h⟩ := s.countGrant_eq i <;> rw [h] <;> rfl

@[simp] theorem State.countGrant_tiles (s : State) (i : Nat) : (s.countGrant i).tiles = s.tiles := by
  obtain ⟨u, n, h | h⟩ := s.countGrant_eq i <;> rw [h] <;> rfl

@[simp] theorem State.countGrant_bus (s : State) (i : Nat) : (s.countGrant i).bus = s.bus := by
  obtain ⟨u, n, h | h⟩ := s.countGrant_eq i <;> rw [h] <;> rfl

@[simp] theorem State.countGrant_tb (s : State) (i : Nat) : (s.countGrant i).tb = s.tb := by
  obtain ⟨u, n, h | h⟩ := s.countGrant_eq i <;> rw [h] <;> rfl

@[simp] theorem State.countGrant_lockOf (s : State) (i j : Nat) : (s.countGrant i).lockOf j = s.lockOf j := by
  unfold State.countGrant State.lockOf
  dsimp only
  repeat' split
  all_goals rfl

/-- Every register field but RES_STARVE_GRANTS reads as before. -/
theorem State.rd_countGrant (s : State) (i : Nat) {f : Fld} {j : Nat} (h : ¬(f = .RES_STARVE_GRANTS_COUNT ∧ j = 0)) :
    (s.countGrant i).rd f j = s.rd f j := by
  obtain ⟨u, n, e | e⟩ := s.countGrant_eq i <;> rw [e]
  · rfl
  · exact (State.rd_bump_other _ _ h).trans rfl

/-- No access is held: releasing the held ones does nothing. -/
theorem State.releaseHeld_none {s : State} (h : s.bus.held = []) : s.releaseHeld = s := by
  unfold State.releaseHeld
  rw [h]
  show s.setBus { s.bus with held := [] } = s
  rw [← h]
  rfl

theorem State.regFree.isReg {s : State} {off : Nat} (h : s.regFree off) : isRegAddr (regBase + off) = true := by
  have := h.2.2.2
  exact decide_eq_true ⟨Nat.le_add_right _ _, by unfold regBase; omega⟩

/-- No byte stands at a register's address. -/
theorem State.placeOf_reg (s : State) {a : Nat} (h : isRegAddr a = true) : s.placeOf a = .none := by
  have h := of_decide_eq_true h
  unfold regBase at h
  unfold State.placeOf
  rw [if_neg (by omega), if_neg (by omega), if_neg (by unfold actBytes; omega), if_neg (by unfold actBytes; omega), if_neg (by omega),
    if_neg (by omega)]

theorem State.arbiterOf_reg (s : State) {a : Nat} (h : isRegAddr a = true) : s.arbiterOf a = regFabric := by
  unfold State.arbiterOf
  rw [s.placeOf_reg h]

/-- The beats of a register access that nothing holds back. -/
theorem State.busAccess_reg {s : State} {off : Nat} (h : s.regFree off) (req n : Nat) (w : Option (List Byte)) :
    s.busAccess ⟨req, regBase + off, w, n⟩ =
      (if n = 8 then s.countGrant regFabric else s).freeBeat regFabric ⟨req, 0, regBase + off, w, .hold⟩ n := by
  have hr := h.isReg
  unfold State.busAccess
  rw [State.releaseHeld_none h.1]
  dsimp only
  rw [h.2.1]
  simp only [Bool.false_eq_true, if_false]
  unfold State.access
  dsimp only
  rw [if_pos hr]
  have hu : s.heldUp req [(regBase + off, n)] = false := by
    simp only [State.heldUp, List.any_cons, List.any_nil, Bool.or_false]
    rw [s.arbiterOf_reg hr, h.2.2.1]
  rw [hu]
  simp only [Bool.false_eq_true, if_false]
  unfold State.beat
  have hl : (if n = 8 then s.countGrant regFabric else s).lockOf regFabric = none := by
    split
    · rw [State.countGrant_lockOf]; exact h.2.2.1
    · exact h.2.2.1
  rw [hl]

/-- A register read that nothing holds back: its beats are counted, and the register is read. -/
theorem State.busRead_plain {s : State} {off : Nat} (h : s.regFree off) (req : Nat) (wide : Bool) :
    s.busRead req off wide = (s.afterGrant wide).regRead req off wide := by
  unfold State.busRead
  rw [State.busAccess_reg h]
  unfold State.freeBeat State.beatWrites State.afterGrant State.readAt
  dsimp only
  rw [h.isReg]
  cases wide
  · rw [if_neg (show ¬ (if false = true then 8 else 4) = 8 by decide)]
    simp [State.applyLock]
  · simp [State.applyLock]

/-- Bytes spelled and read again. -/
theorem leNat_leBytes (n v : Nat) : leNat (leBytes n v) = v % 256 ^ n := by
  induction n generalizing v with
  | zero => simp [leNat, leBytes, Nat.mod_one]
  | succ n ih =>
    rw [leBytes, leNat, ih, show (BitVec.ofNat 8 v).toNat = v % 256 from BitVec.toNat_ofNat v 8,
      show (256 : Nat) ^ (n + 1) = 256 * 256 ^ n from Nat.pow_succ', Nat.mod_mul]

theorem length_leBytes (n v : Nat) : (leBytes n v).length = n := by
  induction n generalizing v with
  | zero => rfl
  | succ n ih => rw [leBytes, List.length_cons, ih]

/-- A register write that nothing holds back: its beats are counted, and the register is written. -/
theorem State.busWrite_plain {s : State} {off : Nat} (h : s.regFree off) (req v : Nat) (wide : Bool) :
    s.busWrite req off v wide =
      (s.afterGrant wide).regWrite req off (v % 256 ^ (if wide then 8 else 4)) wide := by
  unfold State.busWrite
  rw [State.busAccess_reg h]
  have hd : ∀ t : State, t.discards req (regBase + off) = none := fun t => by unfold State.discards; rw [if_pos h.isReg]
  unfold State.freeBeat State.beatWrites State.afterGrant State.resJudge
  dsimp only
  simp only [hd, if_true, reduceCtorEq, if_false, Option.isNone_some, Bool.false_eq_true]
  have hr := h.isReg
  have hp : ∀ (t : State) (bs : List Byte), t.applyLock req [⟨regBase + off, bs⟩] = t.regWrite req off (leNat bs) (bs.length == 8) := by
    intro t bs
    show t.putWrite req ⟨regBase + off, bs⟩ = _
    unfold State.putWrite
    dsimp only
    rw [if_pos hr, Nat.add_sub_cancel_left]
  rw [hp, leNat_leBytes, length_leBytes]
  cases wide <;> rfl

end Sys2Proof.Machine
end

