-- ==== Sys2Proof/Laws/KeepBase.lean ====
section
/-! SUPPORT. What the named operations, the mailbox, slots, synchronisation objects and memory errors keep (see Laws/Keep). -/

set_option autoImplicit false

namespace Sys2Proof.Machine

open Sys2Proof

set_option simprocs false

theorem State.reset_ok : State.Ok [] State.reset := by
  exact ⟨rfl, rfl, RegsFit_nil, rfl⟩

theorem State.bump_ok {q : List Instr} {s : State} (f : Fld) (n : Nat) (i : Nat) (hs : State.Ok q s) :
    State.Ok q (State.bump s f n i) := by
  unfold State.bump
  simp (maxDischargeDepth := 60) only [hs, State.wr_ok]

theorem State.enqueueErr_ok {q : List Instr} {s : State} (r : ErrRec) (hs : State.Ok q s) :
    State.Ok q (State.enqueueErr s r) := by
  unfold State.enqueueErr
  simp (maxDischargeDepth := 60) only [hs, Ok_ite, Ok_mk, OkParts_state, ite_self, State.bump_ok]

theorem State.orFlags_ok {q : List Instr} {s : State} (f : Fld) (fl : FlagSet) (i : Nat) (hs : State.Ok q s) :
    State.Ok q (State.orFlags s f fl i) := by
  unfold State.orFlags
  simp (maxDischargeDepth := 60) only [hs, State.wr_ok]

theorem State.raiseRec_ok {q : List Instr} {s : State} (e : Err) (sev : Nat) (src : ErrSrc) (obj : Option Nat) (waiter :
    Option Nat) (d0 : Nat) (d1 : Nat) (hs : State.Ok q s) :
    State.Ok q (State.raiseRec s e sev src obj waiter d0 d1) := by
  unfold State.raiseRec
  simp (maxDischargeDepth := 60) only [hs, State.enqueueErr_ok]

theorem State.raise_ok {q : List Instr} {s : State} (e : Err) (src : ErrSrc) (d0 : Nat) (d1 : Nat) (hs : State.Ok q s) :
    State.Ok q (State.raise s e src d0 d1) := by
  unfold State.raise
  simp (maxDischargeDepth := 60) only [hs, State.raiseRec_ok]

theorem State.raiseInfo_ok {q : List Instr} {s : State} (e : Err) (src : ErrSrc) (d0 : Nat) (d1 : Nat) (hs : State.Ok q s) :
    State.Ok q (State.raiseInfo s e src d0 d1) := by
  unfold State.raiseInfo
  simp (maxDischargeDepth := 60) only [hs, State.raiseRec_ok]

theorem State.raiseSlot_ok {q : List Instr} {s : State} (e : Err) (engine : Nat) (slot : Nat) (rec0 : Nat) (d0 : Nat) (d1 :
    Nat) (hs : State.Ok q s) :
    State.Ok q (State.raiseSlot s e engine slot rec0 d0 d1) := by
  unfold State.raiseSlot
  simp (maxDischargeDepth := 60) only [hs, State.raiseRec_ok]

theorem State.setEngine_ok {q : List Instr} {s : State} (e : Nat) (v : EngineRun) (hs : State.Ok q s) :
    State.Ok q (State.setEngine s e v) := by
  unfold State.setEngine
  simp (maxDischargeDepth := 60) only [hs, Ok_mk, OkParts_state]

theorem State.setPtile_ok {q : List Instr} {s : State} (pt : Nat) (v : Tile) (hs : State.Ok q s) :
    State.Ok q (State.setPtile s pt v) := by
  unfold State.setPtile
  simp (maxDischargeDepth := 60) only [hs, Ok_mk, OkParts_state]

theorem State.setTile_ok {q : List Instr} {s : State} (t : Nat) (v : Tile) (hs : State.Ok q s) :
    State.Ok q (State.setTile s t v) := by
  unfold State.setTile
  simp (maxDischargeDepth := 60) only [hs, State.setPtile_ok]

theorem State.setVe_ok {q : List Instr} {s : State} (t : Nat) (v : VeRun) (hs : State.Ok q s) :
    State.Ok q (State.setVe s t v) := by
  unfold State.setVe
  simp (maxDischargeDepth := 60) only [hs, Ok_mk, OkParts_state]

theorem State.st_ok {q : List Instr} {s : State} (a : Nat) (b : Byte) (hs : State.Ok q s) :
    State.Ok q (State.st s a b) := by
  unfold State.st
  repeat' (first
    | assumption
    | simp (maxDischargeDepth := 60) only [hs, OkParts_memSet, OkParts_hostSet, Ok_mk]
    | split)

theorem State.stBytes_ok {q : List Instr} {s : State} (a : Nat) (a2 : List Byte) (hs : State.Ok q s) :
    State.Ok q (State.stBytes s a a2) := by
  induction a2 generalizing s a with
  | nil => exact hs
  | cons b r ih => exact ih _ (State.st_ok a b hs)

theorem State.stNat_ok {q : List Instr} {s : State} (a : Nat) (n : Nat) (v : Nat) (hs : State.Ok q s) :
    State.Ok q (State.stNat s a n v) := by
  unfold State.stNat
  simp (maxDischargeDepth := 60) only [hs, State.stBytes_ok]

theorem State.takeFree_ok {q : List Instr} {s : State} (hs : State.Ok q s) :
    State.Ok q (State.takeFree s).2 := by
  unfold State.takeFree
  simp (maxDischargeDepth := 60) only [hs, Ok_mk, OkParts_state]

theorem State.setMbx_ok {q : List Instr} {s : State} (u : MbxUnit) (hs : State.Ok q s) :
    State.Ok q (State.setMbx s u) := by
  unfold State.setMbx
  simp (maxDischargeDepth := 60) only [hs, Ok_mk, OkParts_state]

theorem State.setPend_ok {q : List Instr} {s : State} (k : Nat) (hs : State.Ok q s) :
    State.Ok q (State.setPend s k) := by
  unfold State.setPend
  simp (maxDischargeDepth := 60) only [hs, Ok_ite, Ok_mk, OkParts_state, ite_self, State.wr_ok]

theorem State.smbusRespond_ok {q : List Instr} {s : State} (r : Response) (hs : State.Ok q s) :
    State.Ok q (State.smbusRespond s r) := by
  unfold State.smbusRespond
  simp (maxDischargeDepth := 60) only [hs, State.setPend_ok, State.setMbx_ok]

theorem State.endCmd_ok {q : List Instr} {s : State} (op : Nat) (tag : Nat) (status : Nat) (err : Nat) (result : Nat) (hs :
    State.Ok q s) :
    State.Ok q (State.endCmd s op tag status err result) := by
  unfold State.endCmd
  simp (maxDischargeDepth := 60) only [hs, Ok_ite, ite_self, State.setMbx_ok, State.bump_ok, State.smbusRespond_ok]

theorem State.answer_ok {q : List Instr} {s : State} (op : Nat) (tag : Nat) (a : Answer) (hs : State.Ok q s) :
    State.Ok q (State.answer s op tag a) := by
  unfold State.answer
  repeat' (first
    | assumption
    | simp (maxDischargeDepth := 60) only [hs, State.endCmd_ok, State.raiseRec_ok]
    | split)

theorem State.raiseVec_ok {q : List Instr} {s : State} (v : Nat) (hs : State.Ok q s) :
    State.Ok q (State.raiseVec s v) := by
  unfold State.raiseVec
  simp (maxDischargeDepth := 60) only [hs, State.setMbx_ok]

theorem State.event_ok {q : List Instr} {s : State} (v : Nat) (hs : State.Ok q s) :
    State.Ok q (State.event s v) := by
  unfold State.event
  simp (maxDischargeDepth := 60) only [hs, Ok_ite, ite_self, State.setMbx_ok, State.raiseVec_ok]

theorem State.postResponse_ok {q : List Instr} {s : State} (hs : State.Ok q s) :
    State.Ok q (State.postResponse s) := by
  unfold State.postResponse
  repeat' (first | assumption | simp (maxDischargeDepth := 60) only [hs, State.wr_ok, State.setMbx_ok, State.event_ok,
      State.raise_ok, OkParts_memWrite, OkParts_memSet, OkParts_hostSet, OkParts_hostWrite, Ok_ite, ResOk_ite, ResOk_next,
      Ok_mk, OkParts_state, ite_self, implies_true] | split)

theorem State.postAll_ok {q : List Instr} {s : State} (hs : State.Ok q s) :
    State.Ok q (State.postAll s) := by
  unfold State.postAll
  simp (maxDischargeDepth := 60) +contextual only [hs, implies_true, State.postResponse_ok, foldl_ok]

theorem State.startCmd_ok {q : List Instr} {s : State} (op : Nat) (tag : Nat) (hs : State.Ok q s) :
    State.Ok q (State.startCmd s op tag) := by
  unfold State.startCmd
  simp (maxDischargeDepth := 60) only [hs, State.setMbx_ok]

theorem State.serve_ok {q : List Instr} {s : State} (op : Nat) (tag : Nat) (f : State → State × Answer) (hs : State.Ok q s)
    (hf : ∀ (x0 : State), State.Ok q x0 → FstOk q (f x0)) :
    State.Ok q (State.serve s op tag f) := by
  unfold State.serve
  grind (splits := 30) [Ok_mk, OkParts_state, ResOk_next, FstOk_eq, State.startCmd_ok, State.answer_ok]

theorem State.takeEntry_ok {q : List Instr} {s : State} (bs : List Byte) (smbus : Bool) (hs : State.Ok q s) :
    State.Ok q (State.takeEntry s bs smbus) := by
  unfold State.takeEntry
  repeat' (first
    | assumption
    | simp (maxDischargeDepth := 60) only [hs, Ok_ite, ite_self, State.raiseRec_ok, State.bump_ok, State.smbusRespond_ok,
          State.setMbx_ok]
    | split)

theorem State.passTile_ok {q : List Instr} (n : Nat) {s : State} (t : Nat) (hs : State.Ok q s) :
    State.Ok q (State.passTile n s t) := by
  unfold State.passTile
  simp (maxDischargeDepth := 60) only [hs, Ok_ite, ite_self, State.setVe_ok, State.bump_ok]

theorem State.passCycles_ok {q : List Instr} {s : State} (n : Nat) (hs : State.Ok q s) :
    State.Ok q (State.passCycles s n) := by
  unfold State.passCycles
  simp (maxDischargeDepth := 60) +contextual only [hs, implies_true, State.passTile_ok, foldl_ok]

theorem State.advanceCycles_ok {q : List Instr} {s : State} (n : Nat) (hs : State.Ok q s) :
    State.Ok q (State.advanceCycles s n) := by
  unfold State.advanceCycles
  simp (maxDischargeDepth := 60) only [hs, Ok_mk, OkParts_state, State.passCycles_ok]

theorem State.advanceTime_ok {q : List Instr} {s : State} (t : Nat) (hs : State.Ok q s) :
    State.Ok q (State.advanceTime s t) := by
  unfold State.advanceTime
  simp (maxDischargeDepth := 60) only [hs, Ok_ite, Ok_mk, OkParts_state, ite_self, State.passCycles_ok]

theorem State.advanceTo_ok {q : List Instr} {s : State} (c : Nat) (hs : State.Ok q s) :
    State.Ok q (State.advanceTo s c) := by
  unfold State.advanceTo
  simp (maxDischargeDepth := 60) only [hs, State.advanceCycles_ok]

theorem State.endSlot_ok {q : List Instr} {s : State} (e : Nat) (hs : State.Ok q s) :
    State.Ok q (State.endSlot s e) := by
  unfold State.endSlot
  simp (maxDischargeDepth := 60) only [hs, Ok_ite, ite_self, State.setEngine_ok, State.wr_ok]

theorem State.setRed_ok {q : List Instr} {s : State} (h0 : Nat) (v : RedHalf) (hs : State.Ok q s) :
    State.Ok q (State.setRed s h0 v) := by
  unfold State.setRed
  simp (maxDischargeDepth := 60) only [hs, Ok_mk, OkParts_state]

theorem State.setXeng_ok {q : List Instr} {s : State} (e : Nat) (x : XferEng) (hs : State.Ok q s) :
    State.Ok q (State.setXeng s e x) := by
  unfold State.setXeng
  simp (maxDischargeDepth := 60) only [hs, Ok_mk, OkParts_state]

theorem State.settleRed_ok {q : List Instr} {s : State} (h0 : Nat) (hs : State.Ok q s) :
    State.Ok q (State.settleRed s h0) := by
  unfold State.settleRed
  repeat' (first
    | assumption
    | simp (maxDischargeDepth := 60) only [hs, Ok_ite, ite_self, State.endSlot_ok, State.setRed_ok]
    | split)

theorem State.settleXfer_ok {q : List Instr} {s : State} (e : Nat) (hs : State.Ok q s) :
    State.Ok q (State.settleXfer s e) := by
  unfold State.settleXfer
  repeat' (first
    | assumption
    | simp (maxDischargeDepth := 60) only [hs, Ok_ite, ite_self, State.endSlot_ok, State.setXeng_ok]
    | split)

theorem State.settleList_ok {q : List Instr} {s : State} (e : Nat) (hs : State.Ok q s) :
    State.Ok q (State.settleList s e) := by
  unfold State.settleList
  simp (maxDischargeDepth := 60) only [hs, Ok_ite, ite_self, State.settleRed_ok, State.settleXfer_ok]

theorem State.settleTile_ok {q : List Instr} {s : State} (t : Nat) (hs : State.Ok q s) :
    State.Ok q (State.settleTile s t) := by
  unfold State.settleTile
  simp (maxDischargeDepth := 60) only [hs, Ok_ite, ite_self, State.setVe_ok, State.endSlot_ok]

theorem State.stopSlot_ok {q : List Instr} {s : State} (e : Nat) (hs : State.Ok q s) :
    State.Ok q (State.stopSlot s e) := by
  unfold State.stopSlot
  simp (maxDischargeDepth := 60) only [hs, State.setEngine_ok]

theorem State.raiseObj_ok {q : List Instr} {s : State} (e : Err) (src : ErrSrc) (obj : Nat) (d0 : Nat) (d1 : Nat) (hs :
    State.Ok q s) :
    State.Ok q (State.raiseObj s e src obj d0 d1) := by
  unfold State.raiseObj
  simp (maxDischargeDepth := 60) only [hs, State.raiseRec_ok]

theorem State.syncLose_ok {q : List Instr} {s : State} (n : Nat) (hs : State.Ok q s) :
    State.Ok q (State.syncLose s n) := by
  unfold State.syncLose
  simp (maxDischargeDepth := 60) only [hs, Ok_mk, OkParts_state]

theorem State.addCounter_ok {q : List Instr} {s : State} (src : ErrSrc) (obj : Nat) (n : Nat) (hs : State.Ok q s) :
    State.Ok q (State.addCounter s src obj n) := by
  unfold State.addCounter
  simp (maxDischargeDepth := 60) only [hs, Ok_ite, Ok_mk, OkParts_state, ite_self, State.raiseObj_ok, State.syncLose_ok]

theorem State.refuseSignals_ok {q : List Instr} {s : State} (e : Err) (obj : Nat) (ms : List SigMsg) (hs : State.Ok q s) :
    State.Ok q (State.refuseSignals s e obj ms) := by
  unfold State.refuseSignals
  simp (maxDischargeDepth := 60) +contextual only [hs, implies_true, State.raiseObj_ok, State.syncLose_ok, foldl_ok]

theorem State.arriveOne_ok {q : List Instr} {s : State} (m : SigMsg) (hs : State.Ok q s) :
    State.Ok q (State.arriveOne s m) := by
  unfold State.arriveOne
  simp (maxDischargeDepth := 60) only [hs, Ok_ite, Ok_mk, OkParts_state, ite_self, State.raiseObj_ok, State.syncLose_ok]

theorem State.barrierCycle_ok {q : List Instr} {s : State} (src : ErrSrc) (d : SyncDecl) (hs : State.Ok q s) :
    State.Ok q (State.barrierCycle s src d) := by
  unfold State.barrierCycle
  simp (maxDischargeDepth := 60) only [hs, Ok_ite, Ok_mk, OkParts_state, ite_self, State.raiseObj_ok]

theorem State.applyCycle_ok {q : List Instr} {s : State} (obj : Nat) (ms : List SigMsg) (hs : State.Ok q s) :
    State.Ok q (State.applyCycle s obj ms).1 := by
  unfold State.applyCycle
  split
  · exact State.refuseSignals_ok _ _ _ hs
  · split
    · exact State.refuseSignals_ok _ _ _ hs
    · split
      · exact State.addCounter_ok _ _ _ hs
      · have h := foldl_ok (fun s m hs => State.arriveOne_ok m hs) ms hs
        dsimp only
        split
        · exact State.barrierCycle_ok _ _ h
        · exact h

theorem State.sendSignal_ok {q : List Instr} {s : State} (src : SyncSrc) (obj : Nat) (count : Nat) (hs : State.Ok q s) :
    State.Ok q (State.sendSignal s src obj count) := by
  unfold State.sendSignal
  simp (maxDischargeDepth := 60) only [hs, Ok_mk, OkParts_state]

theorem State.sendWait_ok {q : List Instr} {s : State} (engine : Nat) (slot : Nat) (record : Nat) (obj : Nat) (thr : Nat)
    (consume : Bool) (tmo : Nat) (hs : State.Ok q s) :
    State.Ok q (State.sendWait s engine slot record obj thr consume tmo) := by
  unfold State.sendWait
  simp (maxDischargeDepth := 60) only [hs, Ok_mk, OkParts_state]

theorem State.unbalanced_ok {q : List Instr} {s : State} (sev : Nat) (id : Nat) (v : Nat) (hs : State.Ok q s) :
    State.Ok q (State.unbalanced s sev id v) := by
  unfold State.unbalanced
  simp (maxDischargeDepth := 60) only [hs, State.raiseRec_ok]

theorem State.syncCheckBalance_ok {q : List Instr} {s : State} (sev : Nat) (hs : State.Ok q s) :
    State.Ok q (State.syncCheckBalance s sev) := by
  unfold State.syncCheckBalance
  simp (maxDischargeDepth := 60) +contextual only [hs, Ok_ite, ite_self, implies_true, State.unbalanced_ok, foldl_ok]

theorem State.syncClear_ok {q : List Instr} {s : State} (hs : State.Ok q s) :
    State.Ok q (State.syncClear s) := by
  unfold State.syncClear
  simp (maxDischargeDepth := 60) only [hs, Ok_mk, OkParts_state]

theorem State.clearPoison_ok {q : List Instr} {s : State} (c : Nat) (n : Nat) (hs : State.Ok q s) :
    State.Ok q (State.clearPoison s c n) := by
  unfold State.clearPoison
  simp (maxDischargeDepth := 60) only [hs, Ok_mk, OkParts_state]

theorem State.memCe_ok {q : List Instr} {s : State} (src : ErrSrc) (c : Nat) (waiter : Option Nat) (hs : State.Ok q s) :
    State.Ok q (State.memCe s src c waiter) := by
  unfold State.memCe
  simp (maxDischargeDepth := 60) only [hs, Ok_ite, Ok_mk, OkParts_state, ite_self, State.bump_ok, State.raiseRec_ok]

theorem State.poisonCell_ok {q : List Instr} {s : State} (c : Nat) (hs : State.Ok q s) :
    State.Ok q (State.poisonCell s c) := by
  unfold State.poisonCell
  simp (maxDischargeDepth := 60) only [hs, Ok_mk, OkParts_state]

theorem State.memUe_ok {q : List Instr} {s : State} (c : Nat) (hs : State.Ok q s) :
    State.Ok q (State.memUe s c) := by
  unfold State.memUe
  simp (maxDischargeDepth := 60) only [hs, Ok_ite, ite_self, State.bump_ok, State.poisonCell_ok]

theorem State.setRes_ok {q : List Instr} {s : State} (u : ResUnit) (hs : State.Ok q s) :
    State.Ok q (State.setRes s u) := by
  unfold State.setRes
  simp (maxDischargeDepth := 60) only [hs, Ok_mk, OkParts_state]

theorem State.countGrant_ok {q : List Instr} {s : State} (inst : Nat) (hs : State.Ok q s) :
    State.Ok q (State.countGrant s inst) := by
  unfold State.countGrant
  simp (maxDischargeDepth := 60) only [hs, Ok_ite, ite_self, State.setRes_ok, State.bump_ok]

theorem State.countBeats_ok {q : List Instr} {s : State} (l : List (Nat × Nat)) (hs : State.Ok q s) :
    State.Ok q (State.countBeats s l) := by
  unfold State.countBeats
  simp (maxDischargeDepth := 60) +contextual only [hs, implies_true, State.countGrant_ok, foldl_ok]

theorem State.setLock_ok {q : List Instr} {s : State} (inst : Nat) (l : Option ResLock) (hs : State.Ok q s) :
    State.Ok q (State.setLock s inst l) := by
  unfold State.setLock
  simp (maxDischargeDepth := 60) only [hs, State.setRes_ok]

theorem State.throughArbiters_ok {q : List Instr} {s : State} (rank : Nat) (a : Nat) (n : Nat) (f : State → State) (hs :
    State.Ok q s) (hf : ∀ (x0 : State), State.Ok q x0 → State.Ok q (f x0)) :
    State.Ok q (State.throughArbiters s rank a n f) := by
  unfold State.throughArbiters
  simp (maxDischargeDepth := 60) only [hs, hf, Ok_ite, ite_self, State.countBeats_ok]

theorem State.applyVe_ok {q : List Instr} {s : State} (t : Nat) (o : VeOut) (hs : State.Ok q s) :
    State.Ok q (State.applyVe s t o) := by
  unfold State.applyVe
  simp (maxDischargeDepth := 60) only [hs, State.orFlags_ok, State.setTile_ok]

end Sys2Proof.Machine
end

