-- ==== Sys2Proof/Laws/KeepTile.lean ====
section
/-! SUPPORT. What the vector engine, Caldera and the tiles keep (see Laws/Keep). -/

set_option autoImplicit false

namespace Sys2Proof.Machine

open Sys2Proof

set_option simprocs false

theorem State.statWrite_ok {q : List Instr} {s : State} (a : Nat) (r : StatRec) (hs : State.Ok q s) :
    State.Ok q (State.statWrite s a r) := by
  unfold State.statWrite
  simp (maxDischargeDepth := 60) only [hs, State.stNat_ok]

theorem State.statClearSlot_ok {q : List Instr} {s : State} (slot : Nat) (hs : State.Ok q s) :
    State.Ok q (State.statClearSlot s slot) := by
  unfold State.statClearSlot
  simp (maxDischargeDepth := 60) only [hs, State.statWrite_ok]

theorem State.statClearAll_ok {q : List Instr} {s : State} (hs : State.Ok q s) :
    State.Ok q (State.statClearAll s) := by
  unfold State.statClearAll
  simp (maxDischargeDepth := 60) +contextual only [hs, implies_true, State.statClearSlot_ok, foldl_ok]

theorem State.statLate_ok {q : List Instr} {s : State} (slot : Nat) (hs : State.Ok q s) :
    State.Ok q (State.statLate s slot) := by
  unfold State.statLate
  simp (maxDischargeDepth := 60) only [hs, Ok_ite, ite_self, State.raise_ok]

theorem State.statPromoteSlot_ok {q : List Instr} {s : State} (slot : Nat) (hs : State.Ok q s) :
    State.Ok q (State.statPromoteSlot s slot) := by
  unfold State.statPromoteSlot
  repeat' (first
    | assumption
    | simp (maxDischargeDepth := 60) only [hs, Ok_ite, ite_self, State.statWrite_ok, State.raise_ok]
    | split)

theorem State.statPromoteAll_ok {q : List Instr} {s : State} (hs : State.Ok q s) :
    State.Ok q (State.statPromoteAll s) := by
  unfold State.statPromoteAll
  simp (maxDischargeDepth := 60) +contextual only [hs, implies_true, State.statPromoteSlot_ok, foldl_ok]

theorem State.statRecord_ok {q : List Instr} {s : State} (slot : Nat) (l : List (Num × Bool)) (hs : State.Ok q s) :
    State.Ok q (State.statRecord s slot l) := by
  unfold State.statRecord
  simp (maxDischargeDepth := 60) only [hs, Ok_ite, ite_self, State.statLate_ok, State.statWrite_ok]

theorem State.atOffset_ok {q : List Instr} {s : State} (o : Option Nat) (f : Nat → State) (hs : State.Ok q s)
    (hf : ∀ off, State.Ok q (f off)) : State.Ok q (State.atOffset s o f) := by
  cases o with
  | none => exact hs
  | some off => exact hf off

theorem State.cSig_ok {q : List Instr} {s : State} (t : Nat) (x : Tile) (w : Nat) (hs : State.Ok q s) :
    State.Ok q (State.cSig s t x w) := by
  unfold State.cSig
  simp (maxDischargeDepth := 60) only [hs, Ok_ite, ite_self, State.setVe_ok, State.sendSignal_ok]

theorem State.lateFlags_ok {q : List Instr} {s : State} (t : Nat) (n : Nat) (fl : FlagSet) (hs : State.Ok q s) :
    State.Ok q (State.lateFlags s t n fl) := by
  unfold State.lateFlags
  simp (maxDischargeDepth := 60) only [hs, Ok_ite, ite_self, State.setVe_ok]

theorem State.deliverVe_ok {q : List Instr} {s : State} (t : Nat) (n : Nat) (o : VeOut) (hs : State.Ok q s) :
    State.Ok q (State.deliverVe s t n o) := by
  unfold State.deliverVe
  simp (maxDischargeDepth := 60) only [hs, State.lateFlags_ok, State.applyVe_ok]

theorem State.haltTile_ok {q : List Instr} {s : State} (t : Nat) (hs : State.Ok q s) :
    State.Ok q (State.haltTile s t) := by
  unfold State.haltTile
  simp (maxDischargeDepth := 60) only [hs, State.settleTile_ok, State.setVe_ok]

theorem State.failBundle_ok {q : List Instr} {s : State} (t : Nat) (f : BundleFail) (hs : State.Ok q s) :
    State.Ok q (State.failBundle s t f) := by
  unfold State.failBundle
  simp (maxDischargeDepth := 60) only [hs, State.haltTile_ok, State.raiseSlot_ok]

theorem State.opError_ok {q : List Instr} {s : State} (t : Nat) (e : Err) (d0 : Nat) (d1 : Nat) (hs : State.Ok q s) :
    State.Ok q (State.opError s t e d0 d1) := by
  unfold State.opError
  simp (maxDischargeDepth := 60) only [hs, State.raiseSlot_ok]

theorem State.orParity_ok {q : List Instr} {s : State} (t : Nat) (u : VeUpset) (hit : Bool) (eff : State → State) (hs :
    State.Ok q s) (heff : ∀ (x0 : State), State.Ok q x0 → State.Ok q (eff x0)) :
    State.Ok q (State.orParity s t u hit eff) := by
  unfold State.orParity
  repeat' (first
    | assumption
    | simp (maxDischargeDepth := 60) only [hs, heff, State.opError_ok, State.bump_ok]
    | split)

theorem State.issueA_ok {q : List Instr} {s : State} (t : Nat) (x : Tile) (w : Nat) (hs : State.Ok q s) :
    State.Ok q (State.issueA s t x w) := by
  unfold State.issueA
  simp (maxDischargeDepth := 60) only [hs, Ok_ite, ite_self, State.opError_ok, State.statRecord_ok, State.deliverVe_ok,
      State.raiseSlot_ok]

theorem State.issueF_ok {q : List Instr} {s : State} (t : Nat) (x : Tile) (w : Nat) (hs : State.Ok q s) :
    State.Ok q (State.issueF s t x w) := by
  unfold State.issueF
  repeat' (first
    | assumption
    | simp (maxDischargeDepth := 60) only [hs, State.deliverVe_ok, State.bump_ok]
    | split)

theorem State.veLoad_ok {q : List Instr} {s : State} (t : Nat) (off : Nat) (n : Nat) (up : VeUpset) (out : Nat → VeOut) (hs
    : State.Ok q s) :
    State.Ok q (State.veLoad s t off n up out) := by
  unfold State.veLoad
  repeat' (first
    | assumption
    | simp (maxDischargeDepth := 60) only [hs, Ok_ite, ite_self, State.memUe_ok, State.memCe_ok, State.opError_ok,
          State.applyVe_ok]
    | split)

theorem State.mLd_ok {q : List Instr} {s : State} (t : Nat) (x : Tile) (w : Nat) (up : VeUpset) (hs : State.Ok q s) :
    State.Ok q (State.mLd s t x w up) := by
  unfold State.mLd
  exact State.atOffset_ok _ _ hs fun off => State.veLoad_ok _ _ _ _ _ hs

theorem State.vePut_ok {q : List Instr} {s : State} (t : Nat) (off : Nat) (bytes : List Byte) (hs : State.Ok q s) :
    State.Ok q (State.vePut s t off bytes) := by
  unfold State.vePut
  simp (maxDischargeDepth := 60) only [hs, OkParts_memWrite, Ok_mk, State.clearPoison_ok]

theorem State.vePutClash_ok {q : List Instr} {s : State} (t : Nat) (slot : Nat) (off : Nat) (o : Nat) (res : Bool) (bytes :
    List Byte) (hs : State.Ok q s) :
    State.Ok q (State.vePutClash s t slot off o res bytes) := by
  unfold State.vePutClash
  simp (maxDischargeDepth := 60) only [hs, Ok_ite, ite_self, State.vePut_ok, State.raiseSlot_ok]

theorem State.veStore_ok {q : List Instr} {s : State} (t : Nat) (off : Nat) (bytes : List Byte) (inc : List (Nat × BitVec
    48)) (up : VeUpset) (hs : State.Ok q s) :
    State.Ok q (State.veStore s t off bytes inc up) := by
  unfold State.veStore
  repeat' (first
    | assumption
    | simp (maxDischargeDepth := 60) only [hs, Ok_ite, State.opError_ok, State.vePutClash_ok, State.vePut_ok,
          State.applyVe_ok]
    | split)

theorem State.mSt_ok {q : List Instr} {s : State} (t : Nat) (x : Tile) (w : Nat) (up : VeUpset) (hs : State.Ok q s) :
    State.Ok q (State.mSt s t x w up) := by
  unfold State.mSt
  exact State.atOffset_ok _ _ hs fun off => State.veStore_ok _ _ _ _ _ hs

theorem State.mPop_ok {q : List Instr} {s : State} (t : Nat) (x : Tile) (w : Nat) (up : VeUpset) (hs : State.Ok q s) :
    State.Ok q (State.mPop s t x w up) := by
  unfold State.mPop
  repeat' (first
    | assumption
    | simp (maxDischargeDepth := 60) only [hs, Ok_ite, ite_self, State.opError_ok, State.bump_ok, State.applyVe_ok,
          State.setVe_ok, State.setTile_ok]
    | split)

theorem State.mAwin_ok {q : List Instr} {s : State} (t : Nat) (x : Tile) (w : Nat) (clear : Bool) (up : VeUpset) (hs :
    State.Ok q s) :
    State.Ok q (State.mAwin s t x w clear up) := by
  unfold State.mAwin
  simp (maxDischargeDepth := 60) only [hs, Ok_ite, ite_self, State.opError_ok, State.setTile_ok, State.deliverVe_ok]

theorem State.mLds_ok {q : List Instr} {s : State} (t : Nat) (x : Tile) (w : Nat) (up : VeUpset) (hs : State.Ok q s) :
    State.Ok q (State.mLds s t x w up) := by
  unfold State.mLds
  exact State.atOffset_ok _ _ hs fun off => State.veLoad_ok _ _ _ _ _ hs

theorem State.mSts_ok {q : List Instr} {s : State} (t : Nat) (x : Tile) (w : Nat) (up : VeUpset) (hs : State.Ok q s) :
    State.Ok q (State.mSts s t x w up) := by
  unfold State.mSts
  exact State.atOffset_ok _ _ hs fun off => State.veStore_ok _ _ _ _ _ hs

theorem State.issueM_ok {q : List Instr} {s : State} (t : Nat) (x : Tile) (w : Nat) (up : VeUpset) (hs : State.Ok q s) :
    State.Ok q (State.issueM s t x w up) := by
  unfold State.issueM
  repeat' (first
    | assumption
    | simp (maxDischargeDepth := 60) only [hs, State.mLd_ok, State.mSt_ok, State.mPop_ok, State.mAwin_ok, State.mLds_ok,
          State.mSts_ok]
    | split)

theorem State.issueC_ok {q : List Instr} {s : State} (t : Nat) (x : Tile) (w : Nat) (flags : Nat) (up : Bool) (hs : State.Ok
    q s) :
    State.Ok q (State.issueC s t x w flags up) := by
  unfold State.issueC
  repeat' (first
    | assumption
    | simp (maxDischargeDepth := 60) only [hs, Ok_ite, ite_self, State.setVe_ok, State.cSig_ok, State.applyVe_ok,
          State.deliverVe_ok]
    | split)

theorem State.fireBundle_ok {q : List Instr} {s : State} (t : Nat) (b : BundleWord) (own : BundleSlot) (u : VeUpset) (hs :
    State.Ok q s) :
    State.Ok q (State.fireBundle s t b own u) := by
  unfold State.fireBundle
  simp (maxDischargeDepth := 60) +contextual only [hs, implies_true, State.setVe_ok, State.orFlags_ok, State.wr_ok,
      State.bump_ok, State.orParity_ok, State.issueA_ok, State.issueF_ok, State.issueM_ok, State.settleTile_ok,
      State.issueC_ok]

theorem State.keepBundle_ok {q : List Instr} {s : State} (t : Nat) (b : BundleWord) (own : BundleSlot) (u : VeUpset) (wait :
    WaitPhase) (cause : Nat) (hs : State.Ok q s) :
    State.Ok q (State.keepBundle s t b own u wait cause) := by
  unfold State.keepBundle
  simp (maxDischargeDepth := 60) only [hs, State.setVe_ok]

theorem State.holdBundle_ok {q : List Instr} {s : State} (t : Nat) (x : Tile) (b : BundleWord) (own : BundleSlot) (u :
    VeUpset) (hs : State.Ok q s) :
    State.Ok q (State.holdBundle s t x b own u) := by
  unfold State.holdBundle
  simp (maxDischargeDepth := 60) only [hs, State.sendWait_ok, State.keepBundle_ok]

theorem State.tryBundle_ok {q : List Instr} {s : State} (t : Nat) (b : BundleWord) (own : BundleSlot) (u : VeUpset) (waited
    : Bool) (hs : State.Ok q s) :
    State.Ok q (State.tryBundle s t b own u waited) := by
  unfold State.tryBundle
  simp (maxDischargeDepth := 60) only [hs, Ok_ite, ite_self, State.keepBundle_ok, State.holdBundle_ok, State.fireBundle_ok]

theorem State.issueBundle_ok {q : List Instr} {s : State} (t : Nat) (b : BundleWord) (own : BundleSlot) (u : VeUpset) (hs :
    State.Ok q s) :
    State.Ok q (State.issueBundle s t b own u) := by
  unfold State.issueBundle
  repeat' (first
    | assumption
    | simp (maxDischargeDepth := 60) only [hs, Ok_ite, State.haltTile_ok, State.opError_ok, State.failBundle_ok,
          State.tryBundle_ok]
    | split)

theorem State.issueOfA_ok {q : List Instr} {s : State} (t : Nat) (op : Nat) (w : BitVec 36) (b : Beside) (hs : State.Ok q s)
    :
    ResOk q (State.issueOfA s t op w b) := by
  unfold State.issueOfA
  simp (maxDischargeDepth := 60) only [hs, ResOk_next, State.issueBundle_ok]

theorem State.issueOfC_ok {q : List Instr} {s : State} (t : Nat) (op : Nat) (w : BitVec 27) (b : Beside) (hs : State.Ok q s)
    :
    ResOk q (State.issueOfC s t op w b) := by
  unfold State.issueOfC
  simp (maxDischargeDepth := 60) only [hs, ResOk_next, State.issueBundle_ok]

theorem State.issueOfF_ok {q : List Instr} {s : State} (t : Nat) (op : Nat) (w : BitVec 19) (b : Beside) (hs : State.Ok q s)
    :
    ResOk q (State.issueOfF s t op w b) := by
  unfold State.issueOfF
  simp (maxDischargeDepth := 60) only [hs, ResOk_next, State.issueBundle_ok]

theorem State.issueOfI_ok {q : List Instr} {s : State} (t : Nat) (iop : Nat) (w : BitVec 25) (b : Beside) (hs : State.Ok q
    s) :
    ResOk q (State.issueOfI s t iop w b) := by
  unfold State.issueOfI
  simp (maxDischargeDepth := 60) only [hs, ResOk_next, State.issueBundle_ok]

theorem State.issueOfM_ok {q : List Instr} {s : State} (t : Nat) (op : Nat) (w : BitVec 26) (b : Beside) (hs : State.Ok q s)
    :
    ResOk q (State.issueOfM s t op w b) := by
  unfold State.issueOfM
  simp (maxDischargeDepth := 60) only [hs, ResOk_next, State.issueBundle_ok]

theorem State.retryTile_ok {q : List Instr} {s : State} (t : Nat) (hs : State.Ok q s) :
    State.Ok q (State.retryTile s t) := by
  unfold State.retryTile
  repeat' (first
    | assumption
    | simp (maxDischargeDepth := 60) only [hs, Ok_ite, ite_self, State.tryBundle_ok, State.setVe_ok]
    | split)

theorem execAnd_ok {q : List Instr} (t : Nat) (w : BitVec 36) (b : Beside) {s : State} (hs : State.Ok q s) :
    ResOk q (execAnd t w b s) := by
  unfold execAnd
  simp (maxDischargeDepth := 60) only [hs, State.issueOfA_ok]

theorem execBcol_ok {q : List Instr} (t : Nat) (w : BitVec 36) (b : Beside) {s : State} (hs : State.Ok q s) :
    ResOk q (execBcol t w b s) := by
  unfold execBcol
  simp (maxDischargeDepth := 60) only [hs, State.issueOfA_ok]

theorem execCvt_ok {q : List Instr} (t : Nat) (w : BitVec 36) (b : Beside) {s : State} (hs : State.Ok q s) :
    ResOk q (execCvt t w b s) := by
  unfold execCvt
  simp (maxDischargeDepth := 60) only [hs, State.issueOfA_ok]

theorem execFabs_ok {q : List Instr} (t : Nat) (w : BitVec 36) (b : Beside) {s : State} (hs : State.Ok q s) :
    ResOk q (execFabs t w b s) := by
  unfold execFabs
  simp (maxDischargeDepth := 60) only [hs, State.issueOfA_ok]

theorem execFadd_ok {q : List Instr} (t : Nat) (w : BitVec 36) (b : Beside) {s : State} (hs : State.Ok q s) :
    ResOk q (execFadd t w b s) := by
  unfold execFadd
  simp (maxDischargeDepth := 60) only [hs, State.issueOfA_ok]

theorem execFcmpEq_ok {q : List Instr} (t : Nat) (w : BitVec 36) (b : Beside) {s : State} (hs : State.Ok q s) :
    ResOk q (execFcmpEq t w b s) := by
  unfold execFcmpEq
  simp (maxDischargeDepth := 60) only [hs, State.issueOfA_ok]

theorem execFcmpLe_ok {q : List Instr} (t : Nat) (w : BitVec 36) (b : Beside) {s : State} (hs : State.Ok q s) :
    ResOk q (execFcmpLe t w b s) := by
  unfold execFcmpLe
  simp (maxDischargeDepth := 60) only [hs, State.issueOfA_ok]

theorem execFcmpLt_ok {q : List Instr} (t : Nat) (w : BitVec 36) (b : Beside) {s : State} (hs : State.Ok q s) :
    ResOk q (execFcmpLt t w b s) := by
  unfold execFcmpLt
  simp (maxDischargeDepth := 60) only [hs, State.issueOfA_ok]

theorem execFcmpUn_ok {q : List Instr} (t : Nat) (w : BitVec 36) (b : Beside) {s : State} (hs : State.Ok q s) :
    ResOk q (execFcmpUn t w b s) := by
  unfold execFcmpUn
  simp (maxDischargeDepth := 60) only [hs, State.issueOfA_ok]

theorem execFcpys_ok {q : List Instr} (t : Nat) (w : BitVec 36) (b : Beside) {s : State} (hs : State.Ok q s) :
    ResOk q (execFcpys t w b s) := by
  unfold execFcpys
  simp (maxDischargeDepth := 60) only [hs, State.issueOfA_ok]

theorem execFdivFin_ok {q : List Instr} (t : Nat) (w : BitVec 36) (b : Beside) {s : State} (hs : State.Ok q s) :
    ResOk q (execFdivFin t w b s) := by
  unfold execFdivFin
  simp (maxDischargeDepth := 60) only [hs, State.issueOfA_ok]

theorem execFma_ok {q : List Instr} (t : Nat) (w : BitVec 36) (b : Beside) {s : State} (hs : State.Ok q s) :
    ResOk q (execFma t w b s) := by
  unfold execFma
  simp (maxDischargeDepth := 60) only [hs, State.issueOfA_ok]

theorem execFmant_ok {q : List Instr} (t : Nat) (w : BitVec 36) (b : Beside) {s : State} (hs : State.Ok q s) :
    ResOk q (execFmant t w b s) := by
  unfold execFmant
  simp (maxDischargeDepth := 60) only [hs, State.issueOfA_ok]

theorem execFmant2_ok {q : List Instr} (t : Nat) (w : BitVec 36) (b : Beside) {s : State} (hs : State.Ok q s) :
    ResOk q (execFmant2 t w b s) := by
  unfold execFmant2
  simp (maxDischargeDepth := 60) only [hs, State.issueOfA_ok]

theorem execFmax_ok {q : List Instr} (t : Nat) (w : BitVec 36) (b : Beside) {s : State} (hs : State.Ok q s) :
    ResOk q (execFmax t w b s) := by
  unfold execFmax
  simp (maxDischargeDepth := 60) only [hs, State.issueOfA_ok]

theorem execFmin_ok {q : List Instr} (t : Nat) (w : BitVec 36) (b : Beside) {s : State} (hs : State.Ok q s) :
    ResOk q (execFmin t w b s) := by
  unfold execFmin
  simp (maxDischargeDepth := 60) only [hs, State.issueOfA_ok]

theorem execFmul_ok {q : List Instr} (t : Nat) (w : BitVec 36) (b : Beside) {s : State} (hs : State.Ok q s) :
    ResOk q (execFmul t w b s) := by
  unfold execFmul
  simp (maxDischargeDepth := 60) only [hs, State.issueOfA_ok]

theorem execFneg_ok {q : List Instr} (t : Nat) (w : BitVec 36) (b : Beside) {s : State} (hs : State.Ok q s) :
    ResOk q (execFneg t w b s) := by
  unfold execFneg
  simp (maxDischargeDepth := 60) only [hs, State.issueOfA_ok]

theorem execFnma_ok {q : List Instr} (t : Nat) (w : BitVec 36) (b : Beside) {s : State} (hs : State.Ok q s) :
    ResOk q (execFnma t w b s) := by
  unfold execFnma
  simp (maxDischargeDepth := 60) only [hs, State.issueOfA_ok]

theorem execFrnd_ok {q : List Instr} (t : Nat) (w : BitVec 36) (b : Beside) {s : State} (hs : State.Ok q s) :
    ResOk q (execFrnd t w b s) := by
  unfold execFrnd
  simp (maxDischargeDepth := 60) only [hs, State.issueOfA_ok]

theorem execFscale_ok {q : List Instr} (t : Nat) (w : BitVec 36) (b : Beside) {s : State} (hs : State.Ok q s) :
    ResOk q (execFscale t w b s) := by
  unfold execFscale
  simp (maxDischargeDepth := 60) only [hs, State.issueOfA_ok]

theorem execFsqrtFin_ok {q : List Instr} (t : Nat) (w : BitVec 36) (b : Beside) {s : State} (hs : State.Ok q s) :
    ResOk q (execFsqrtFin t w b s) := by
  unfold execFsqrtFin
  simp (maxDischargeDepth := 60) only [hs, State.issueOfA_ok]

theorem execFsub_ok {q : List Instr} (t : Nat) (w : BitVec 36) (b : Beside) {s : State} (hs : State.Ok q s) :
    ResOk q (execFsub t w b s) := by
  unfold execFsub
  simp (maxDischargeDepth := 60) only [hs, State.issueOfA_ok]

theorem execIadd_ok {q : List Instr} (t : Nat) (w : BitVec 36) (b : Beside) {s : State} (hs : State.Ok q s) :
    ResOk q (execIadd t w b s) := by
  unfold execIadd
  simp (maxDischargeDepth := 60) only [hs, State.issueOfA_ok]

theorem execIcmpEq_ok {q : List Instr} (t : Nat) (w : BitVec 36) (b : Beside) {s : State} (hs : State.Ok q s) :
    ResOk q (execIcmpEq t w b s) := by
  unfold execIcmpEq
  simp (maxDischargeDepth := 60) only [hs, State.issueOfA_ok]

theorem execIcmpLt_ok {q : List Instr} (t : Nat) (w : BitVec 36) (b : Beside) {s : State} (hs : State.Ok q s) :
    ResOk q (execIcmpLt t w b s) := by
  unfold execIcmpLt
  simp (maxDischargeDepth := 60) only [hs, State.issueOfA_ok]

theorem execImax_ok {q : List Instr} (t : Nat) (w : BitVec 36) (b : Beside) {s : State} (hs : State.Ok q s) :
    ResOk q (execImax t w b s) := by
  unfold execImax
  simp (maxDischargeDepth := 60) only [hs, State.issueOfA_ok]

theorem execImin_ok {q : List Instr} (t : Nat) (w : BitVec 36) (b : Beside) {s : State} (hs : State.Ok q s) :
    ResOk q (execImin t w b s) := by
  unfold execImin
  simp (maxDischargeDepth := 60) only [hs, State.issueOfA_ok]

theorem execImul_ok {q : List Instr} (t : Nat) (w : BitVec 36) (b : Beside) {s : State} (hs : State.Ok q s) :
    ResOk q (execImul t w b s) := by
  unfold execImul
  simp (maxDischargeDepth := 60) only [hs, State.issueOfA_ok]

theorem execIsub_ok {q : List Instr} (t : Nat) (w : BitVec 36) (b : Beside) {s : State} (hs : State.Ok q s) :
    ResOk q (execIsub t w b s) := by
  unfold execIsub
  simp (maxDischargeDepth := 60) only [hs, State.issueOfA_ok]

theorem execMov_ok {q : List Instr} (t : Nat) (w : BitVec 36) (b : Beside) {s : State} (hs : State.Ok q s) :
    ResOk q (execMov t w b s) := by
  unfold execMov
  simp (maxDischargeDepth := 60) only [hs, State.issueOfA_ok]

theorem execOr_ok {q : List Instr} (t : Nat) (w : BitVec 36) (b : Beside) {s : State} (hs : State.Ok q s) :
    ResOk q (execOr t w b s) := by
  unfold execOr
  simp (maxDischargeDepth := 60) only [hs, State.issueOfA_ok]

theorem execRedAdd_ok {q : List Instr} (t : Nat) (w : BitVec 36) (b : Beside) {s : State} (hs : State.Ok q s) :
    ResOk q (execRedAdd t w b s) := by
  unfold execRedAdd
  simp (maxDischargeDepth := 60) only [hs, State.issueOfA_ok]

theorem execRedClr_ok {q : List Instr} (t : Nat) (w : BitVec 36) (b : Beside) {s : State} (hs : State.Ok q s) :
    ResOk q (execRedClr t w b s) := by
  unfold execRedClr
  simp (maxDischargeDepth := 60) only [hs, State.issueOfA_ok]

theorem execRedCsq_ok {q : List Instr} (t : Nat) (w : BitVec 36) (b : Beside) {s : State} (hs : State.Ok q s) :
    ResOk q (execRedCsq t w b s) := by
  unfold execRedCsq
  simp (maxDischargeDepth := 60) only [hs, State.issueOfA_ok]

theorem execRedGet_ok {q : List Instr} (t : Nat) (w : BitVec 36) (b : Beside) {s : State} (hs : State.Ok q s) :
    ResOk q (execRedGet t w b s) := by
  unfold execRedGet
  simp (maxDischargeDepth := 60) only [hs, State.issueOfA_ok]

theorem execRedSq_ok {q : List Instr} (t : Nat) (w : BitVec 36) (b : Beside) {s : State} (hs : State.Ok q s) :
    ResOk q (execRedSq t w b s) := by
  unfold execRedSq
  simp (maxDischargeDepth := 60) only [hs, State.issueOfA_ok]

theorem execRmax_ok {q : List Instr} (t : Nat) (w : BitVec 36) (b : Beside) {s : State} (hs : State.Ok q s) :
    ResOk q (execRmax t w b s) := by
  unfold execRmax
  simp (maxDischargeDepth := 60) only [hs, State.issueOfA_ok]

theorem execRmin_ok {q : List Instr} (t : Nat) (w : BitVec 36) (b : Beside) {s : State} (hs : State.Ok q s) :
    ResOk q (execRmin t w b s) := by
  unfold execRmin
  simp (maxDischargeDepth := 60) only [hs, State.issueOfA_ok]

theorem execSel_ok {q : List Instr} (t : Nat) (w : BitVec 36) (b : Beside) {s : State} (hs : State.Ok q s) :
    ResOk q (execSel t w b s) := by
  unfold execSel
  simp (maxDischargeDepth := 60) only [hs, State.issueOfA_ok]

theorem execShl_ok {q : List Instr} (t : Nat) (w : BitVec 36) (b : Beside) {s : State} (hs : State.Ok q s) :
    ResOk q (execShl t w b s) := by
  unfold execShl
  simp (maxDischargeDepth := 60) only [hs, State.issueOfA_ok]

theorem execShr_ok {q : List Instr} (t : Nat) (w : BitVec 36) (b : Beside) {s : State} (hs : State.Ok q s) :
    ResOk q (execShr t w b s) := by
  unfold execShr
  simp (maxDischargeDepth := 60) only [hs, State.issueOfA_ok]

theorem execSra_ok {q : List Instr} (t : Nat) (w : BitVec 36) (b : Beside) {s : State} (hs : State.Ok q s) :
    ResOk q (execSra t w b s) := by
  unfold execSra
  simp (maxDischargeDepth := 60) only [hs, State.issueOfA_ok]

theorem execXor_ok {q : List Instr} (t : Nat) (w : BitVec 36) (b : Beside) {s : State} (hs : State.Ok q s) :
    ResOk q (execXor t w b s) := by
  unfold execXor
  simp (maxDischargeDepth := 60) only [hs, State.issueOfA_ok]

theorem execAwinClr_ok {q : List Instr} (t : Nat) (w : BitVec 26) (b : Beside) {s : State} (hs : State.Ok q s) :
    ResOk q (execAwinClr t w b s) := by
  unfold execAwinClr
  simp (maxDischargeDepth := 60) only [hs, State.issueOfM_ok]

theorem execAwinRd_ok {q : List Instr} (t : Nat) (w : BitVec 26) (b : Beside) {s : State} (hs : State.Ok q s) :
    ResOk q (execAwinRd t w b s) := by
  unfold execAwinRd
  simp (maxDischargeDepth := 60) only [hs, State.issueOfM_ok]

theorem execFtqPop_ok {q : List Instr} (t : Nat) (w : BitVec 26) (b : Beside) {s : State} (hs : State.Ok q s) :
    ResOk q (execFtqPop t w b s) := by
  unfold execFtqPop
  simp (maxDischargeDepth := 60) only [hs, State.issueOfM_ok]

theorem execLd_ok {q : List Instr} (t : Nat) (w : BitVec 26) (b : Beside) {s : State} (hs : State.Ok q s) :
    ResOk q (execLd t w b s) := by
  unfold execLd
  simp (maxDischargeDepth := 60) only [hs, State.issueOfM_ok]

theorem execLds_ok {q : List Instr} (t : Nat) (w : BitVec 26) (b : Beside) {s : State} (hs : State.Ok q s) :
    ResOk q (execLds t w b s) := by
  unfold execLds
  simp (maxDischargeDepth := 60) only [hs, State.issueOfM_ok]

theorem execScanCget_ok {q : List Instr} (t : Nat) (w : BitVec 19) (b : Beside) {s : State} (hs : State.Ok q s) :
    ResOk q (execScanCget t w b s) := by
  unfold execScanCget
  simp (maxDischargeDepth := 60) only [hs, State.issueOfF_ok]

theorem execScanCput_ok {q : List Instr} (t : Nat) (w : BitVec 19) (b : Beside) {s : State} (hs : State.Ok q s) :
    ResOk q (execScanCput t w b s) := by
  unfold execScanCput
  simp (maxDischargeDepth := 60) only [hs, State.issueOfF_ok]

theorem execScanLr_ok {q : List Instr} (t : Nat) (w : BitVec 19) (b : Beside) {s : State} (hs : State.Ok q s) :
    ResOk q (execScanLr t w b s) := by
  unfold execScanLr
  simp (maxDischargeDepth := 60) only [hs, State.issueOfF_ok]

theorem execSeed_ok {q : List Instr} (t : Nat) (w : BitVec 19) (b : Beside) {s : State} (hs : State.Ok q s) :
    ResOk q (execSeed t w b s) := by
  unfold execSeed
  simp (maxDischargeDepth := 60) only [hs, State.issueOfF_ok]

theorem execSt_ok {q : List Instr} (t : Nat) (w : BitVec 26) (b : Beside) {s : State} (hs : State.Ok q s) :
    ResOk q (execSt t w b s) := by
  unfold execSt
  simp (maxDischargeDepth := 60) only [hs, State.issueOfM_ok]

theorem execSts_ok {q : List Instr} (t : Nat) (w : BitVec 26) (b : Beside) {s : State} (hs : State.Ok q s) :
    ResOk q (execSts t w b s) := by
  unfold execSts
  simp (maxDischargeDepth := 60) only [hs, State.issueOfM_ok]

theorem execAddi_ok {q : List Instr} (t : Nat) (w : BitVec 25) (b : Beside) {s : State} (hs : State.Ok q s) :
    ResOk q (execAddi t w b s) := by
  unfold execAddi
  simp (maxDischargeDepth := 60) only [hs, State.issueOfI_ok]

theorem execAget_ok {q : List Instr} (t : Nat) (w : BitVec 25) (b : Beside) {s : State} (hs : State.Ok q s) :
    ResOk q (execAget t w b s) := by
  unfold execAget
  simp (maxDischargeDepth := 60) only [hs, State.issueOfI_ok]

theorem execBr_ok {q : List Instr} (t : Nat) (w : BitVec 27) (b : Beside) {s : State} (hs : State.Ok q s) :
    ResOk q (execBr t w b s) := by
  unfold execBr
  simp (maxDischargeDepth := 60) only [hs, State.issueOfC_ok]

theorem execCalAccload_ok {q : List Instr} (t : Nat) (w : BitVec 27) (b : Beside) {s : State} (hs : State.Ok q s) :
    ResOk q (execCalAccload t w b s) := by
  unfold execCalAccload
  simp (maxDischargeDepth := 60) only [hs, State.issueOfC_ok]

theorem execCalDrain_ok {q : List Instr} (t : Nat) (w : BitVec 27) (b : Beside) {s : State} (hs : State.Ok q s) :
    ResOk q (execCalDrain t w b s) := by
  unfold execCalDrain
  simp (maxDischargeDepth := 60) only [hs, State.issueOfC_ok]

theorem execCalMm_ok {q : List Instr} (t : Nat) (w : BitVec 27) (b : Beside) {s : State} (hs : State.Ok q s) :
    ResOk q (execCalMm t w b s) := by
  unfold execCalMm
  simp (maxDischargeDepth := 60) only [hs, State.issueOfC_ok]

theorem execCalWload_ok {q : List Instr} (t : Nat) (w : BitVec 27) (b : Beside) {s : State} (hs : State.Ok q s) :
    ResOk q (execCalWload t w b s) := by
  unfold execCalWload
  simp (maxDischargeDepth := 60) only [hs, State.issueOfC_ok]

theorem execFlagsClr_ok {q : List Instr} (t : Nat) (w : BitVec 27) (b : Beside) {s : State} (hs : State.Ok q s) :
    ResOk q (execFlagsClr t w b s) := by
  unfold execFlagsClr
  simp (maxDischargeDepth := 60) only [hs, State.issueOfC_ok]

theorem execFlagsRd_ok {q : List Instr} (t : Nat) (w : BitVec 27) (b : Beside) {s : State} (hs : State.Ok q s) :
    ResOk q (execFlagsRd t w b s) := by
  unfold execFlagsRd
  simp (maxDischargeDepth := 60) only [hs, State.issueOfC_ok]

theorem execLi_ok {q : List Instr} (t : Nat) (w : BitVec 25) (b : Beside) {s : State} (hs : State.Ok q s) :
    ResOk q (execLi t w b s) := by
  unfold execLi
  simp (maxDischargeDepth := 60) only [hs, State.issueOfI_ok]

theorem execLsh16_ok {q : List Instr} (t : Nat) (w : BitVec 25) (b : Beside) {s : State} (hs : State.Ok q s) :
    ResOk q (execLsh16 t w b s) := by
  unfold execLsh16
  simp (maxDischargeDepth := 60) only [hs, State.issueOfI_ok]

theorem execNop_ok {q : List Instr} (t : Nat) (slot : BundleSlot) (b : Beside) {s : State} (hs : State.Ok q s) :
    ResOk q (execNop t slot b s) := by
  unfold execNop
  simp (maxDischargeDepth := 60) only [hs, ResOk_next, State.issueBundle_ok]

theorem execPred_ok {q : List Instr} (t : Nat) (w : BitVec 27) (b : Beside) {s : State} (hs : State.Ok q s) :
    ResOk q (execPred t w b s) := by
  unfold execPred
  simp (maxDischargeDepth := 60) only [hs, State.issueOfC_ok]

theorem execSalu_ok {q : List Instr} (t : Nat) (w : BitVec 27) (b : Beside) {s : State} (hs : State.Ok q s) :
    ResOk q (execSalu t w b s) := by
  unfold execSalu
  simp (maxDischargeDepth := 60) only [hs, State.issueOfC_ok]

theorem execSyncSig_ok {q : List Instr} (t : Nat) (w : BitVec 27) (b : Beside) {s : State} (hs : State.Ok q s) :
    ResOk q (execSyncSig t w b s) := by
  unfold execSyncSig
  simp (maxDischargeDepth := 60) only [hs, State.issueOfC_ok]

theorem execSyncWait_ok {q : List Instr} (t : Nat) (w : BitVec 27) (b : Beside) {s : State} (hs : State.Ok q s) :
    ResOk q (execSyncWait t w b s) := by
  unfold execSyncWait
  simp (maxDischargeDepth := 60) only [hs, State.issueOfC_ok]

theorem execVeEnd_ok {q : List Instr} (t : Nat) (w : BitVec 27) (b : Beside) {s : State} (hs : State.Ok q s) :
    ResOk q (execVeEnd t w b s) := by
  unfold execVeEnd
  simp (maxDischargeDepth := 60) only [hs, State.issueOfC_ok]

theorem execVentMv_ok {q : List Instr} (t : Nat) (w : BitVec 27) (b : Beside) {s : State} (hs : State.Ok q s) :
    ResOk q (execVentMv t w b s) := by
  unfold execVentMv
  simp (maxDischargeDepth := 60) only [hs, State.issueOfC_ok]

theorem State.releaseFenced_ok {q : List Instr} {s : State} (t : Nat) (rank : Nat) (hs : State.Ok q s) :
    State.Ok q (State.releaseFenced s t rank) := by
  unfold State.releaseFenced
  simp (maxDischargeDepth := 60) +contextual only [hs, implies_true, State.setVe_ok, State.sendSignal_ok, foldl_ok]

theorem State.endOp_ok {q : List Instr} {s : State} (t : Nat) (p : CalOp → Bool) (hs : State.Ok q s) :
    State.Ok q (State.endOp s t p) := by
  unfold State.endOp
  repeat' (first
    | assumption
    | simp (maxDischargeDepth := 60) only [hs, Ok_ite, ite_self, State.setTile_ok, State.releaseFenced_ok,
          State.settleTile_ok]
    | split)

theorem State.failOp_ok {q : List Instr} {s : State} (t : Nat) (u : CalUnit) (o : CalOp) (e : Err) (d : Nat) (hs : State.Ok
    q s) :
    State.Ok q (State.failOp s t u o e d) := by
  unfold State.failOp
  simp (maxDischargeDepth := 60) only [hs, State.endOp_ok, State.raiseSlot_ok]

theorem State.failParity_ok {q : List Instr} {s : State} (t : Nat) (u : CalUnit) (o : CalOp) (reg : Nat) (hs : State.Ok q s)
    :
    State.Ok q (State.failParity s t u o reg) := by
  unfold State.failParity
  simp (maxDischargeDepth := 60) only [hs, State.failOp_ok, State.bump_ok]

theorem State.accloadStart_ok {q : List Instr} {s : State} (t : Nat) (o : CalOp) (hs : State.Ok q s) :
    State.Ok q (State.accloadStart s t o) := by
  unfold State.accloadStart
  repeat' (first
    | assumption
    | simp (maxDischargeDepth := 60) only [hs, Ok_ite, State.failOp_ok, State.failParity_ok]
    | split)

theorem State.creditOp_ok {q : List Instr} {s : State} (t : Nat) (o : CalOp) (n : Nat) (busy : Nat) (hs : State.Ok q s) :
    State.Ok q (State.creditOp s t o n busy) := by
  unfold State.creditOp
  simp (maxDischargeDepth := 60) only [hs, State.orFlags_ok, State.bump_ok]

theorem State.completeFill_ok {q : List Instr} {s : State} (t : Nat) (bank : Nat) (o : CalOp) (p : CalOp → Bool) (hs :
    State.Ok q s) :
    State.Ok q (State.completeFill s t bank o p) := by
  unfold State.completeFill
  simp (maxDischargeDepth := 60) only [hs, State.creditOp_ok, State.settleTile_ok, State.setTile_ok]

theorem State.creditNow_ok {q : List Instr} {s : State} (t : Nat) (o : CalOp) (hs : State.Ok q s) :
    State.Ok q (State.creditNow s t o) := by
  unfold State.creditNow
  simp (maxDischargeDepth := 60) only [hs, Ok_ite, ite_self, State.creditOp_ok]

theorem State.creditAll_ok {q : List Instr} {s : State} (t : Nat) (hs : State.Ok q s) :
    State.Ok q (State.creditAll s t) := by
  unfold State.creditAll
  simp (maxDischargeDepth := 60) +contextual only [hs, implies_true, State.creditNow_ok, foldl_ok]

theorem State.drainParity_ok {q : List Instr} {s : State} (t : Nat) (o : CalOp) (bank : Nat) (fmt : Nat) (hs : State.Ok q s)
    :
    State.Ok q (State.drainParity s t o bank fmt) := by
  unfold State.drainParity
  simp (maxDischargeDepth := 60) only [hs, State.endOp_ok, State.raiseSlot_ok, State.setTile_ok]

theorem State.wideDone_ok {q : List Instr} {s : State} (t : Nat) (o : CalOp) (bank : Nat) (dst : Nat) (ev : DrainEvent) (hs
    : State.Ok q s) :
    State.Ok q (State.wideDone s t o bank dst ev) := by
  unfold State.wideDone
  repeat' (first
    | assumption
    | simp (maxDischargeDepth := 60) only [hs, State.raiseSlot_ok, State.setTile_ok, State.orFlags_ok,
          State.vePutClash_ok, State.vePut_ok, State.endOp_ok]
    | split)

theorem State.drainPost_ok {q : List Instr} {s : State} (t : Nat) (o : CalOp) (ev : DrainEvent) (hs : State.Ok q s) :
    State.Ok q (State.drainPost s t o ev) := by
  unfold State.drainPost
  repeat' (first
    | assumption
    | simp (maxDischargeDepth := 60) only [hs, Ok_ite, ite_self, State.drainParity_ok, State.wideDone_ok,
          State.orFlags_ok, State.setTile_ok, State.endOp_ok]
    | split)

theorem State.drainStart_ok {q : List Instr} {s : State} (t : Nat) (o : CalOp) (hs : State.Ok q s) :
    State.Ok q (State.drainStart s t o) := by
  unfold State.drainStart
  repeat' (first
    | assumption
    | simp (maxDischargeDepth := 60) only [hs, Ok_ite, ite_self, State.failOp_ok, State.setTile_ok]
    | split)

theorem State.fillParity_ok {q : List Instr} {s : State} (t : Nat) (bank : Nat) (o : CalOp) (p : CalOp → Bool) (hs :
    State.Ok q s) :
    State.Ok q (State.fillParity s t bank o p) := by
  unfold State.fillParity
  simp (maxDischargeDepth := 60) only [hs, State.creditNow_ok, State.settleTile_ok, State.raiseSlot_ok, State.setTile_ok]

theorem State.mmStart_ok {q : List Instr} {s : State} (t : Nat) (o : CalOp) (hs : State.Ok q s) :
    State.Ok q (State.mmStart s t o) := by
  unfold State.mmStart
  repeat' (first
    | assumption
    | simp (maxDischargeDepth := 60) only [hs, Ok_ite, State.failOp_ok]
    | split)

theorem State.ventStart_ok {q : List Instr} {s : State} (t : Nat) (o : CalOp) (hs : State.Ok q s) :
    State.Ok q (State.ventStart s t o) := by
  unfold State.ventStart
  repeat' (first
    | assumption
    | simp (maxDischargeDepth := 60) only [hs, Ok_ite, Ok_mk, OkParts_state, ite_self, State.failOp_ok,
          State.failParity_ok, State.setTile_ok]
    | split)

theorem State.wloadStart_ok {q : List Instr} {s : State} (t : Nat) (o : CalOp) (hs : State.Ok q s) :
    State.Ok q (State.wloadStart s t o) := by
  unfold State.wloadStart
  repeat' (first
    | assumption
    | simp (maxDischargeDepth := 60) only [hs, Ok_ite, State.failOp_ok]
    | split)

theorem State.setPt_ok {q : List Instr} {s : State} (p : Nat) (v : PTile) (hs : State.Ok q s) :
    State.Ok q (State.setPt s p v) := by
  unfold State.setPt
  simp (maxDischargeDepth := 60) only [hs, Ok_mk, OkParts_state]

theorem State.abandonSlice_ok {q : List Instr} {s : State} (p : Nat) (hs : State.Ok q s) :
    State.Ok q (State.abandonSlice s p) := by
  unfold State.abandonSlice
  repeat' (first
    | assumption
    | simp (maxDischargeDepth := 60) only []
    | split)

theorem State.beginFill_ok {q : List Instr} {s : State} (t : Nat) (hs : State.Ok q s) :
    State.Ok q (State.beginFill s t) := by
  unfold State.beginFill
  simp (maxDischargeDepth := 60) only [hs, Ok_ite, Ok_mk, OkParts_state, ite_self]

theorem State.dropTakeover_ok {q : List Instr} {s : State} (t : Nat) (hs : State.Ok q s) :
    State.Ok q (State.dropTakeover s t) := by
  unfold State.dropTakeover
  simp (maxDischargeDepth := 60) only [hs, Ok_mk, OkParts_state]

theorem State.loadKey_ok {q : List Instr} {s : State} (p : Nat) (hs : State.Ok q s) :
    State.Ok q (State.loadKey s p) := by
  unfold State.loadKey
  simp (maxDischargeDepth := 60) only [hs, State.setPtile_ok]

theorem State.noteCluster_ok {q : List Instr} {s : State} (c : Nat) (p : Nat) (hs : State.Ok q s) :
    State.Ok q (State.noteCluster s c p) := by
  unfold State.noteCluster
  simp (maxDischargeDepth := 60) only [hs, Ok_ite, Ok_mk, OkParts_state, ite_self, State.raise_ok]

theorem State.remap_ok {q : List Instr} {s : State} (t : Nat) (p : Nat) (hs : State.Ok q s) :
    State.Ok q (State.remap s t p) := by
  unfold State.remap
  simp (maxDischargeDepth := 60) only [hs, Ok_mk, OkParts_state, State.setPt_ok, State.loadKey_ok, State.bump_ok]

theorem State.rotateCluster_ok {q : List Instr} (body : Bool) {s : State} (c : Nat) (hs : State.Ok q s) :
    State.Ok q (State.rotateCluster body s c) := by
  unfold State.rotateCluster
  repeat' (first
    | assumption
    | simp (maxDischargeDepth := 60) only [hs, Ok_ite, ite_self, State.setPt_ok, State.wr_ok, State.remap_ok, State.raise_ok]
    | split)

theorem State.rotateAll_ok {q : List Instr} {s : State} (body : Bool) (hs : State.Ok q s) :
    State.Ok q (State.rotateAll s body) := by
  unfold State.rotateAll
  simp (maxDischargeDepth := 60) +contextual only [hs, implies_true, State.rotateCluster_ok, foldl_ok]

theorem State.stopTile_ok {q : List Instr} {s : State} (t : Nat) (hs : State.Ok q s) :
    State.Ok q (State.stopTile s t) := by
  unfold State.stopTile
  simp (maxDischargeDepth := 60) only [hs, Ok_mk, OkParts_state, State.setVe_ok, State.settleTile_ok]

theorem State.unmapTile_ok {q : List Instr} {s : State} (t : Nat) (hs : State.Ok q s) :
    State.Ok q (State.unmapTile s t) := by
  unfold State.unmapTile
  simp (maxDischargeDepth := 60) only [hs, Ok_mk, OkParts_state, State.raise_ok]

theorem State.takeoverOne_ok {q : List Instr} {s : State} (k : Takeover) (hs : State.Ok q s) :
    State.Ok q (State.takeoverOne s k) := by
  unfold State.takeoverOne
  repeat' (first
    | assumption
    | simp (maxDischargeDepth := 60) only [hs, Ok_ite, Ok_mk, OkParts_state, ite_self, State.unmapTile_ok,
          State.dropTakeover_ok, State.abandonSlice_ok, State.noteCluster_ok, State.remap_ok, State.beginFill_ok,
          State.setVe_ok]
    | split)

theorem State.takeoverStep_ok {q : List Instr} {s : State} (hs : State.Ok q s) :
    State.Ok q (State.takeoverStep s) := by
  unfold State.takeoverStep
  simp (maxDischargeDepth := 60) +contextual only [hs, implies_true, State.takeoverOne_ok, foldl_ok]

theorem State.wipeTile_ok {q : List Instr} {s : State} (p : Nat) (hs : State.Ok q s) :
    State.Ok q (State.wipeTile s p) := by
  unfold State.wipeTile
  simp (maxDischargeDepth := 60) only [hs, State.setPtile_ok]

theorem State.tileFault_ok {q : List Instr} {s : State} (t : Nat) (hs : State.Ok q s) :
    State.Ok q (State.tileFault s t) := by
  unfold State.tileFault
  repeat' (first
    | assumption
    | simp (maxDischargeDepth := 60) only [hs, Ok_ite, Ok_mk, OkParts_state, State.stopTile_ok, State.wipeTile_ok,
          State.setPt_ok, State.raise_ok]
    | split)

theorem State.mmFault_ok {q : List Instr} {s : State} (t : Nat) (bank : Nat) (o : CalOp) (f : CalFault) (hs : State.Ok q s) :
    State.Ok q (State.mmFault s t bank o f) := by
  unfold State.mmFault
  repeat' (first
    | assumption
    | simp (maxDischargeDepth := 60) only [hs, State.creditAll_ok, State.creditNow_ok, State.settleTile_ok,
          State.setTile_ok, State.raiseSlot_ok, State.bump_ok, State.tileFault_ok]
    | split)

theorem execCalAccloadComplete_ok {q : List Instr} (done : BankEnd) {s : State} (hs : State.Ok q s) :
    ResOk q (execCalAccloadComplete done s) := by
  unfold execCalAccloadComplete
  repeat' (first
    | assumption
    | simp (maxDischargeDepth := 60) only [hs, Ok_ite, ResOk_next, ite_self, State.retryTile_ok, State.fillParity_ok,
          State.completeFill_ok]
    | split)

theorem execCalAccloadStart_ok {q : List Instr} (t : Nat) {s : State} (hs : State.Ok q s) :
    ResOk q (execCalAccloadStart t s) := by
  unfold execCalAccloadStart
  repeat' (first
    | assumption
    | simp (maxDischargeDepth := 60) only [hs, ResOk_next, State.retryTile_ok, State.accloadStart_ok]
    | split)

theorem execCalDrainPost_ok {q : List Instr} (post : DrainEnd) {s : State} (hs : State.Ok q s) :
    ResOk q (execCalDrainPost post s) := by
  unfold execCalDrainPost
  repeat' (first
    | assumption
    | simp (maxDischargeDepth := 60) only [hs, ResOk_next, State.retryTile_ok, State.drainPost_ok]
    | split)

theorem execCalDrainStart_ok {q : List Instr} (t : Nat) {s : State} (hs : State.Ok q s) :
    ResOk q (execCalDrainStart t s) := by
  unfold execCalDrainStart
  repeat' (first
    | assumption
    | simp (maxDischargeDepth := 60) only [hs, ResOk_next, State.retryTile_ok, State.drainStart_ok]
    | split)

theorem execCalMmComplete_ok {q : List Instr} (t : Nat) (fault : CalFault) {s : State} (hs : State.Ok q s) :
    ResOk q (execCalMmComplete t fault s) := by
  unfold execCalMmComplete
  repeat' (first
    | assumption
    | simp (maxDischargeDepth := 60) only [hs, Ok_ite, ResOk_next, ite_self, State.retryTile_ok, State.completeFill_ok,
          State.mmFault_ok]
    | split)

theorem execCalMmStart_ok {q : List Instr} (t : Nat) {s : State} (hs : State.Ok q s) :
    ResOk q (execCalMmStart t s) := by
  unfold execCalMmStart
  repeat' (first
    | assumption
    | simp (maxDischargeDepth := 60) only [hs, ResOk_next, State.retryTile_ok, State.mmStart_ok]
    | split)

theorem execCalWloadStart_ok {q : List Instr} (t : Nat) {s : State} (hs : State.Ok q s) :
    ResOk q (execCalWloadStart t s) := by
  unfold execCalWloadStart
  repeat' (first
    | assumption
    | simp (maxDischargeDepth := 60) only [hs, ResOk_next, State.retryTile_ok, State.wloadStart_ok]
    | split)

theorem execVentMvComplete_ok {q : List Instr} (done : BankEnd) {s : State} (hs : State.Ok q s) :
    ResOk q (execVentMvComplete done s) := by
  unfold execVentMvComplete
  repeat' (first
    | assumption
    | simp (maxDischargeDepth := 60) only [hs, Ok_ite, ResOk_next, ite_self, State.retryTile_ok, State.fillParity_ok,
          State.completeFill_ok]
    | split)

theorem execVentMvStart_ok {q : List Instr} (t : Nat) {s : State} (hs : State.Ok q s) :
    ResOk q (execVentMvStart t s) := by
  unfold execVentMvStart
  repeat' (first
    | assumption
    | simp (maxDischargeDepth := 60) only [hs, ResOk_ite, ResOk_next, ite_self, State.retryTile_ok, State.ventStart_ok]
    | split)

theorem execWeightSetLoaded_ok {q : List Instr} (t : Nat) {s : State} (hs : State.Ok q s) :
    ResOk q (execWeightSetLoaded t s) := by
  unfold execWeightSetLoaded
  repeat' (first
    | assumption
    | simp (maxDischargeDepth := 60) only [hs, ResOk_next, State.retryTile_ok, State.endOp_ok, State.setTile_ok]
    | split)

end Sys2Proof.Machine
end

