-- ==== Sys2Proof/Laws/KeepFabric.lean ====
section
/-! SUPPORT. What the fabric, barriers, synchronisation and self-test keep (see Laws/Keep). -/

set_option autoImplicit false

namespace Sys2Proof.Machine

open Sys2Proof

set_option simprocs false

theorem State.addLanes_ok {q : List Instr} {s : State} (hs : State.Ok q s) :
    State.Ok q (State.addLanes s) := by
  unfold State.addLanes
  simp (maxDischargeDepth := 60) +contextual only [hs, Ok_ite, Ok_mk, OkParts_state, ite_self, implies_true, State.wr_ok,
      foldl_ok]

theorem State.emitLink_ok {q : List Instr} {s : State} (p : Nat) (o : LinkOut) (hs : State.Ok q s) :
    State.Ok q (State.emitLink s p o) := by
  unfold State.emitLink
  simp (maxDischargeDepth := 60) only [hs, Ok_mk, OkParts_state]

theorem State.returnCredit_ok {q : List Instr} {s : State} (p : Nat) (v : Nat) (hs : State.Ok q s) :
    State.Ok q (State.returnCredit s p v) := by
  unfold State.returnCredit
  simp (maxDischargeDepth := 60) only [hs, Ok_ite, ite_self, State.emitLink_ok, State.bump_ok]

theorem State.setRx_ok {q : List Instr} {s : State} (p : Nat) (l : List RxEntry) (hs : State.Ok q s) :
    State.Ok q (State.setRx s p l) := by
  unfold State.setRx
  simp (maxDischargeDepth := 60) only [hs, Ok_mk, OkParts_state]

theorem State.deliver_ok {q : List Instr} {s : State} (p : Nat) (m : Msg) (hs : State.Ok q s) :
    State.Ok q (State.deliver s p m) := by
  unfold State.deliver
  simp (maxDischargeDepth := 60) only [hs, Ok_ite, Ok_mk, OkParts_state, ite_self, State.returnCredit_ok, State.raise_ok,
      State.bump_ok, State.setRx_ok]

theorem State.freeRx_ok {q : List Instr} {s : State} (p : Nat) (f : RxEntry → Bool) (hs : State.Ok q s) :
    State.Ok q (State.freeRx s p f) := by
  unfold State.freeRx
  repeat' (first
    | assumption
    | simp (maxDischargeDepth := 60) only [hs, State.returnCredit_ok, State.setRx_ok]
    | split)

theorem State.launchOne_ok {q : List Instr} {s : State} (p : Nat) (e : TxEntry) (hs : State.Ok q s) :
    State.Ok q (State.launchOne s p e) := by
  unfold State.launchOne
  repeat' (first
    | assumption
    | simp (maxDischargeDepth := 60) only [hs, State.wr_ok, State.bump_ok, State.freeRx_ok, State.emitLink_ok]
    | split)

theorem State.setTx_ok {q : List Instr} {s : State} (p : Nat) (l : List TxEntry) (hs : State.Ok q s) :
    State.Ok q (State.setTx s p l) := by
  unfold State.setTx
  simp (maxDischargeDepth := 60) only [hs, Ok_mk, OkParts_state]

theorem State.flushPort_ok {q : List Instr} {s : State} (p : Nat) (hs : State.Ok q s) :
    State.Ok q (State.flushPort s p) := by
  unfold State.flushPort
  simp (maxDischargeDepth := 60) +contextual only [hs, Ok_ite, ite_self, implies_true, State.launchOne_ok, State.setTx_ok,
      foldl_ok]

theorem State.forward_ok {q : List Instr} {s : State} (p : Nat) (m : Msg) (hs : State.Ok q s) :
    State.Ok q (State.forward s p m) := by
  unfold State.forward
  repeat' (first
    | assumption
    | simp (maxDischargeDepth := 60) only [hs, State.returnCredit_ok, State.raise_ok, State.flushPort_ok, State.setTx_ok,
          State.setRx_ok]
    | split)

theorem State.arriveMsg_ok {q : List Instr} {s : State} (p : Nat) (m : Msg) (hs : State.Ok q s) :
    State.Ok q (State.arriveMsg s p m) := by
  unfold State.arriveMsg
  simp (maxDischargeDepth := 60) only [hs, Ok_ite, ite_self, State.bump_ok, State.deliver_ok, State.forward_ok]

theorem State.setPort_ok {q : List Instr} {s : State} (p : Nat) (st : Nat) (hs : State.Ok q s) :
    State.Ok q (State.setPort s p st) := by
  unfold State.setPort
  simp (maxDischargeDepth := 60) only [hs, Ok_ite, Ok_mk, OkParts_state, ite_self, State.wr_ok]

theorem State.portDown_ok {q : List Instr} {s : State} (p : Nat) (replay : Nat) (hs : State.Ok q s) :
    State.Ok q (State.portDown s p replay) := by
  unfold State.portDown
  simp (maxDischargeDepth := 60) only [hs, Ok_mk, OkParts_state, State.bump_ok, State.setRx_ok, State.raise_ok, State.wr_ok,
      State.setPort_ok]

theorem State.dropLane_ok {q : List Instr} {s : State} (p : Nat) (lane : Nat) (replay : Nat) (hs : State.Ok q s) :
    State.Ok q (State.dropLane s p lane replay) := by
  unfold State.dropLane
  simp (maxDischargeDepth := 60) only [hs, Ok_ite, Ok_mk, OkParts_state, ite_self, State.portDown_ok, State.raise_ok]

theorem State.flushAll_ok {q : List Instr} {s : State} (hs : State.Ok q s) :
    State.Ok q (State.flushAll s) := by
  unfold State.flushAll
  simp (maxDischargeDepth := 60) +contextual only [hs, implies_true, State.flushPort_ok, foldl_ok]

theorem State.popRx_ok {q : List Instr} {s : State} (p : Nat) (f : Msg → Bool) (hs : State.Ok q s) :
    State.Ok q (State.popRx s p f) := by
  unfold State.popRx
  simp (maxDischargeDepth := 60) only [hs, State.freeRx_ok]

theorem State.present_ok {q : List Instr} {s : State} (m : Msg) (c : PortChoice) (eng : Option (Nat × Nat)) (hs : State.Ok q
    s) :
    State.Ok q (State.present s m c eng) := by
  unfold State.present
  repeat' (first
    | assumption
    | simp (maxDischargeDepth := 60) only [hs, Ok_ite, ite_self, State.setRx_ok, State.raise_ok, State.raiseSlot_ok,
          State.flushPort_ok, State.setTx_ok]
    | split)

theorem State.purgeStale_ok {q : List Instr} {s : State} (p : Nat) (hs : State.Ok q s) :
    State.Ok q (State.purgeStale s p) := by
  unfold State.purgeStale
  simp (maxDischargeDepth := 60) +contextual only [hs, Ok_mk, OkParts_state, implies_true, State.setRx_ok,
      State.returnCredit_ok, foldl_ok]

theorem State.removeLanes_ok {q : List Instr} {s : State} (hs : State.Ok q s) :
    State.Ok q (State.removeLanes s) := by
  unfold State.removeLanes
  simp (maxDischargeDepth := 60) +contextual only [hs, Ok_ite, Ok_mk, OkParts_state, ite_self, implies_true, State.wr_ok,
      foldl_ok]

theorem State.ledgerMismatch_ok {q : List Instr} {s : State} (book : Nat) (inst : Nat) (kind : Nat) (index : Nat) (sum :
    Nat) (ref : Nat) (hs : State.Ok q s) :
    State.Ok q (State.ledgerMismatch s book inst kind index sum ref) := by
  unfold State.ledgerMismatch
  simp (maxDischargeDepth := 60) only [hs, State.enqueueErr_ok, State.wr_ok, State.bump_ok]

theorem State.sigDet_ok {q : List Instr} {s : State} (p : Nat) (v : Bool) (hs : State.Ok q s) :
    State.Ok q (State.sigDet s p v) := by
  unfold State.sigDet
  simp (maxDischargeDepth := 60) only [hs, State.wr_ok]

theorem State.writeCoord_ok {q : List Instr} {s : State} (valid : Bool) (coord : Nat) (hs : State.Ok q s) :
    State.Ok q (State.writeCoord s valid coord) := by
  unfold State.writeCoord
  simp (maxDischargeDepth := 60) only [hs, Ok_ite, ite_self, State.wr_ok]

theorem execCreditReturn_ok {q : List Instr} (p : Nat) (vc : Nat) {s : State} (hs : State.Ok q s) :
    ResOk q (execCreditReturn p vc s) := by
  unfold execCreditReturn
  simp (maxDischargeDepth := 60) only [hs, ResOk_ite, ResOk_next, ite_self, State.flushPort_ok, State.bump_ok]

theorem execFabCoordWrite_ok {q : List Instr} (valid : Bool) (coord : Nat) {s : State} (hs : State.Ok q s) :
    ResOk q (execFabCoordWrite valid coord s) := by
  unfold execFabCoordWrite
  simp (maxDischargeDepth := 60) only [hs, ResOk_next, State.writeCoord_ok]

theorem execFabCreditLimitWrite_ok {q : List Instr} (p : Nat) (vc : Nat) (limit : Nat) {s : State} (hs : State.Ok q s) :
    ResOk q (execFabCreditLimitWrite p vc limit s) := by
  unfold execFabCreditLimitWrite
  simp (maxDischargeDepth := 60) only [hs, ResOk_ite, ResOk_next, ite_self, State.wr_ok]

theorem execGuardHeldLaunch_ok {q : List Instr} {s : State} (hs : State.Ok q s) :
    ResOk q (execGuardHeldLaunch s) := by
  unfold execGuardHeldLaunch
  simp (maxDischargeDepth := 60) only [hs, ResOk_next, State.flushAll_ok, State.advanceTo_ok]

theorem execLaneDropNotice_ok {q : List Instr} (p : Nat) (lane : Nat) (replay : Nat) {s : State} (hs : State.Ok q s) :
    ResOk q (execLaneDropNotice p lane replay s) := by
  unfold execLaneDropNotice
  simp (maxDischargeDepth := 60) only [hs, ResOk_ite, ResOk_next, ite_self, State.dropLane_ok]

theorem execLaneFail_ok {q : List Instr} (p : Nat) (lane : Nat) (replay : Nat) {s : State} (hs : State.Ok q s) :
    ResOk q (execLaneFail p lane replay s) := by
  unfold execLaneFail
  simp (maxDischargeDepth := 60) only [hs, ResOk_ite, ResOk_next, ite_self, State.dropLane_ok, State.emitLink_ok]

theorem execLedgerAudit_ok {q : List Instr} {s : State} (hs : State.Ok q s) :
    ResOk q (execLedgerAudit s) := by
  unfold execLedgerAudit
  simp (maxDischargeDepth := 60) +contextual only [hs, Ok_ite, ResOk_next, ite_self, implies_true, State.ledgerMismatch_ok,
      State.bump_ok, State.wr_ok, foldl_ok]

theorem execLedgerAuditExchange_ok {q : List Instr} (p : Nat) (rx : List Nat) (cret : List Nat) (occ : List Nat) {s : State}
    (hs : State.Ok q s) :
    ResOk q (execLedgerAuditExchange p rx cret occ s) := by
  unfold execLedgerAuditExchange
  repeat' (first
    | assumption
    | simp (maxDischargeDepth := 60) only [hs, Ok_ite, ResOk_ite, ResOk_next, ite_self, State.ledgerMismatch_ok]
    | split
    | refine foldl_ok (fun s a hs => ?_) _ ?_
    | refine foldl_fst_ok (fun s b a hs => ?_) _ ?_)

theorem execMessageArrive_ok {q : List Instr} (p : Nat) (m : Msg) (replays : Nat) {s : State} (hs : State.Ok q s) :
    ResOk q (execMessageArrive p m replays s) := by
  unfold execMessageArrive
  simp (maxDischargeDepth := 60) only [hs, ResOk_next, State.arriveMsg_ok, State.bump_ok]

theorem execPortSignalDetect_ok {q : List Instr} (p : Nat) {s : State} (hs : State.Ok q s) :
    ResOk q (execPortSignalDetect p s) := by
  unfold execPortSignalDetect
  simp (maxDischargeDepth := 60) only [hs, ResOk_ite, ResOk_next, ite_self, State.sigDet_ok, State.setPort_ok]

theorem execPortSignalLoss_ok {q : List Instr} (p : Nat) {s : State} (hs : State.Ok q s) :
    ResOk q (execPortSignalLoss p s) := by
  unfold execPortSignalLoss
  simp (maxDischargeDepth := 60) only [hs, ResOk_ite, ResOk_next, Ok_mk, OkParts_state, ite_self, State.sigDet_ok,
      State.raise_ok, State.wr_ok, State.setPort_ok]

theorem execPortTrainingComplete_ok {q : List Instr} (p : Nat) (lanes : Nat) (coord : Nat) (nport : Nat) {s : State} (hs :
    State.Ok q s) :
    ResOk q (execPortTrainingComplete p lanes coord nport s) := by
  unfold execPortTrainingComplete
  simp (maxDischargeDepth := 60) only [hs, Ok_ite, ResOk_ite, ResOk_next, ite_self, State.setPort_ok, State.raise_ok,
      State.wr_ok]

theorem State.genSaturates_ok {q : List Instr} {s : State} (obj : Nat) (g : Nat) (hs : State.Ok q s) :
    State.Ok q (State.genSaturates s obj g) := by
  unfold State.genSaturates
  simp (maxDischargeDepth := 60) only [hs, Ok_ite, ite_self, State.raiseObj_ok]

theorem State.sendTree_ok {q : List Instr} {s : State} (kind : Nat) (obj : Nat) (gen : Nat) (p : Nat) (hs : State.Ok q s) :
    State.Ok q (State.sendTree s kind obj gen p) := by
  unfold State.sendTree
  simp (maxDischargeDepth := 60) only [hs, State.present_ok]

theorem State.sendReleases_ok {q : List Instr} {s : State} (obj : Nat) (gen : Nat) (hs : State.Ok q s) :
    State.Ok q (State.sendReleases s obj gen) := by
  unfold State.sendReleases
  simp (maxDischargeDepth := 60) +contextual only [hs, implies_true, State.sendTree_ok, foldl_ok]

theorem State.noteVote_ok {q : List Instr} {s : State} (obj : Nat) (hs : State.Ok q s) :
    State.Ok q (State.noteVote s obj) := by
  unfold State.noteVote
  repeat' (first
    | assumption
    | simp (maxDischargeDepth := 60) only [hs, Ok_ite, Ok_mk, OkParts_state, ite_self, State.wr_ok]
    | split)

theorem State.jobStep_ok {q : List Instr} {s : State} (d : SyncDecl) (hs : State.Ok q s) :
    State.Ok q (State.jobStep s d) := by
  unfold State.jobStep
  simp (maxDischargeDepth := 60) only [hs, Ok_ite, Ok_mk, OkParts_state, ite_self, State.sendTree_ok, State.raise_ok,
      State.sendReleases_ok, State.noteVote_ok, State.genSaturates_ok]

theorem State.noteStale_ok {q : List Instr} {s : State} (obj : Nat) (hs : State.Ok q s) :
    State.Ok q (State.noteStale s obj) := by
  unfold State.noteStale
  simp (maxDischargeDepth := 60) only [hs, Ok_ite, Ok_mk, OkParts_state, ite_self, State.bump_ok, State.raiseObj_ok]

theorem State.objectCycle_ok {q : List Instr} {s : State} (ms : List SigMsg) (obj : Nat) (hs : State.Ok q s) :
    State.Ok q (State.objectCycle s ms obj) := by
  unfold State.objectCycle
  grind (splits := 30) [Ok_mk, OkParts_state, ResOk_next, FstOk_eq, State.applyCycle_ok, State.jobStep_ok]

theorem State.signalsArrive_ok {q : List Instr} {s : State} (ms : List SigMsg) (hs : State.Ok q s) :
    State.Ok q (State.signalsArrive s ms) := by
  unfold State.signalsArrive
  simp (maxDischargeDepth := 60) +contextual only [hs, implies_true, State.objectCycle_ok, foldl_ok]

theorem State.treeError_ok {q : List Instr} {s : State} (p : Nat) (obj : Nat) (gen : Nat) (hs : State.Ok q s) :
    State.Ok q (State.treeError s p obj gen) := by
  unfold State.treeError
  simp (maxDischargeDepth := 60) only [hs, State.raiseObj_ok]

theorem State.takeRelease_ok {q : List Instr} {s : State} (p : Nat) (obj : Nat) (gen : Nat) (hs : State.Ok q s) :
    State.Ok q (State.takeRelease s p obj gen) := by
  unfold State.takeRelease
  repeat' (first
    | assumption
    | simp (maxDischargeDepth := 60) only [hs, Ok_ite, Ok_mk, OkParts_state, ite_self, State.treeError_ok,
          State.sendReleases_ok, State.noteVote_ok, State.genSaturates_ok, State.jobStep_ok]
    | split)

theorem State.takeReport_ok {q : List Instr} {s : State} (p : Nat) (obj : Nat) (gen : Nat) (hs : State.Ok q s) :
    State.Ok q (State.takeReport s p obj gen) := by
  unfold State.takeReport
  repeat' (first
    | assumption
    | simp (maxDischargeDepth := 60) only [hs, Ok_ite, Ok_mk, OkParts_state, ite_self, State.treeError_ok, State.jobStep_ok]
    | split)

theorem State.applyOld_ok {q : List Instr} {s : State} (hs : State.Ok q s) :
    State.Ok q (State.applyOld s) := by
  unfold State.applyOld
  simp (maxDischargeDepth := 60) +contextual only [hs, Ok_mk, OkParts_state, implies_true, State.signalsArrive_ok, foldl_ok]

theorem State.raiseTimeout_ok {q : List Instr} {s : State} (w : SyncWait) (hs : State.Ok q s) :
    State.Ok q (State.raiseTimeout s w) := by
  unfold State.raiseTimeout
  simp (maxDischargeDepth := 60) only [hs, State.bump_ok, State.raiseRec_ok]

theorem State.waitFails_ok {q : List Instr} {s : State} (e : Nat) (hs : State.Ok q s) :
    State.Ok q (State.waitFails s e) := by
  unfold State.waitFails
  simp (maxDischargeDepth := 60) only [hs, Ok_ite, Ok_mk, OkParts_state, ite_self, State.setVe_ok, State.settleTile_ok,
      State.stopSlot_ok, State.settleList_ok, State.setEngine_ok]

theorem State.waitExpires_ok {q : List Instr} {s : State} (w : SyncWait) (hs : State.Ok q s) :
    State.Ok q (State.waitExpires s w) := by
  unfold State.waitExpires
  simp (maxDischargeDepth := 60) only [hs, State.waitFails_ok, State.raiseTimeout_ok]

theorem execBarrierRelease_ok {q : List Instr} (p : Nat) {s : State} (hs : State.Ok q s) :
    ResOk q (execBarrierRelease p s) := by
  unfold execBarrierRelease
  repeat' (first
    | assumption
    | simp (maxDischargeDepth := 60) only [hs, Ok_ite, ResOk_next, ite_self, State.popRx_ok, State.noteStale_ok,
          State.takeRelease_ok]
    | split)

theorem execBarrierReport_ok {q : List Instr} (p : Nat) {s : State} (hs : State.Ok q s) :
    ResOk q (execBarrierReport p s) := by
  unfold execBarrierReport
  repeat' (first
    | assumption
    | simp (maxDischargeDepth := 60) only [hs, Ok_ite, ResOk_next, ite_self, State.popRx_ok, State.noteStale_ok,
          State.takeReport_ok]
    | split)

theorem execSyncBodyEntry_ok {q : List Instr} {s : State} (hs : State.Ok q s) :
    ResOk q (execSyncBodyEntry s) := by
  unfold execSyncBodyEntry
  simp (maxDischargeDepth := 60) only [hs, Ok_ite, ResOk_ite, ResOk_next, Ok_mk, OkParts_state, ite_self, State.applyOld_ok,
      State.advanceTo_ok, State.syncCheckBalance_ok]

theorem execSyncHostSigWrite_ok {q : List Instr} (id : Nat) (count : Nat) {s : State} (hs : State.Ok q s) :
    ResOk q (execSyncHostSigWrite id count s) := by
  unfold execSyncHostSigWrite
  simp (maxDischargeDepth := 60) only [hs, ResOk_next, State.sendSignal_ok]

theorem execSyncProgramEndCheck_ok {q : List Instr} {s : State} (hs : State.Ok q s) :
    ResOk q (execSyncProgramEndCheck s) := by
  unfold execSyncProgramEndCheck
  simp (maxDischargeDepth := 60) only [hs, ResOk_ite, ResOk_next, Ok_mk, OkParts_state, ite_self, State.syncCheckBalance_ok,
      State.applyOld_ok, State.advanceTo_ok]

theorem execSyncSignalApply_ok {q : List Instr} (sigs : SigCycle) {s : State} (hs : State.Ok q s) :
    ResOk q (execSyncSignalApply sigs s) := by
  unfold execSyncSignalApply
  simp (maxDischargeDepth := 60) only [hs, ResOk_next, Ok_mk, OkParts_state, State.signalsArrive_ok]

theorem execSyncWaitRegister_ok {q : List Instr} (e : Nat) {s : State} (hs : State.Ok q s) :
    ResOk q (execSyncWaitRegister e s) := by
  unfold execSyncWaitRegister
  repeat' (first
    | assumption
    | simp (maxDischargeDepth := 60) only [hs, ResOk_ite, ResOk_next, State.waitFails_ok, State.raiseObj_ok]
    | split)

theorem execSyncWaitRelease_ok {q : List Instr} (e : Nat) {s : State} (hs : State.Ok q s) :
    ResOk q (execSyncWaitRelease e s) := by
  unfold execSyncWaitRelease
  repeat' (first
    | assumption
    | simp (maxDischargeDepth := 60) only [hs, ResOk_ite, ResOk_next, Ok_mk, OkParts_state, State.tryBundle_ok,
          State.setVe_ok, State.setEngine_ok]
    | split)

theorem execSyncWaitTimeout_ok {q : List Instr} (e : Nat) {s : State} (hs : State.Ok q s) :
    ResOk q (execSyncWaitTimeout e s) := by
  unfold execSyncWaitTimeout
  split
  · exact hs
  · split
    · exact State.waitExpires_ok _ (foldl_ok (fun s w hs => State.waitExpires_ok w hs) _ hs)
    · exact hs

theorem State.returnTile_ok {q : List Instr} {s : State} (p : Nat) (hs : State.Ok q s) :
    State.Ok q (State.returnTile s p) := by
  unfold State.returnTile
  simp (maxDischargeDepth := 60) only [hs, Ok_ite, ite_self, State.noteCluster_ok, State.setPt_ok]

theorem State.setMaps_ok {q : List Instr} {s : State} (p : Nat) (rowmap : Nat) (dly : Nat) (hs : State.Ok q s) :
    State.Ok q (State.setMaps s p rowmap dly) := by
  unfold State.setMaps
  simp (maxDischargeDepth := 60) only [hs, State.setPtile_ok]

theorem State.startLaneRepair_ok {q : List Instr} {s : State} (p : Nat) (lane : Nat) (hs : State.Ok q s) :
    State.Ok q (State.startLaneRepair s p lane) := by
  unfold State.startLaneRepair
  simp (maxDischargeDepth := 60) only [hs, Ok_mk, OkParts_state]

theorem State.declareFailed_ok {q : List Instr} {s : State} (p : Nat) (hs : State.Ok q s) :
    State.Ok q (State.declareFailed s p) := by
  unfold State.declareFailed
  repeat' (first
    | assumption
    | simp (maxDischargeDepth := 60) only [hs, State.tileFault_ok, State.noteCluster_ok, State.setPt_ok]
    | split)

theorem State.applyRepair_ok {q : List Instr} {s : State} (die : Nat) (e : Nat) (boot : Bool) (hs : State.Ok q s) :
    State.Ok q (State.applyRepair s die e boot).1 := by
  unfold State.applyRepair
  repeat' (first
    | assumption
    | simp (maxDischargeDepth := 60) only [hs, Ok_mk, OkParts_state, State.returnTile_ok, State.setMaps_ok,
          State.declareFailed_ok]
    | split)

theorem State.setSoft_ok {q : List Instr} {s : State} (die : Nat) (l : List SoftEntry) (hs : State.Ok q s) :
    State.Ok q (State.setSoft s die l) := by
  unfold State.setSoft
  simp (maxDischargeDepth := 60) only [hs, Ok_mk, OkParts_state]

theorem State.burnEntries_ok {q : List Instr} {s : State} (die : Nat) (bad : List Nat) (a3 : Nat) (a4 : List SoftEntry) (hs
    : State.Ok q s) :
    State.Ok q (State.burnEntries s die bad a3 a4) := by
  induction a3 generalizing s a4 with
  | zero => cases a4 <;> exact hs
  | succ n ih =>
    cases a4 with
    | nil => exact hs
    | cons x r =>
      unfold State.burnEntries
      dsimp only
      split
      · exact hs
      · split
        · exact ih _ (State.raise_ok _ _ _ _ (by simp (maxDischargeDepth := 60) only [hs, OkParts_memWrite, OkParts_memSet,
            OkParts_hostSet, OkParts_hostWrite, Ok_ite, ResOk_ite, ResOk_next, Ok_mk, OkParts_state, ite_self,
            implies_true]))
        · exact ih _ (State.setSoft_ok _ _ (by simp (maxDischargeDepth := 60) only [hs, OkParts_memWrite, OkParts_memSet,
            OkParts_hostSet, OkParts_hostWrite, Ok_ite, ResOk_ite, ResOk_next, Ok_mk, OkParts_state, ite_self,
            implies_true]))

theorem State.burnFuses_ok {q : List Instr} {s : State} (die : Nat) (inRange : Bool) (bad : List Nat) (hs : State.Ok q s) :
    State.Ok q (State.burnFuses s die inRange bad).1 := by
  unfold State.burnFuses
  repeat' (first
    | assumption
    | simp (maxDischargeDepth := 60) only [hs, State.burnEntries_ok]
    | split)

theorem State.copyResident_ok {q : List Instr} {s : State} (t : Nat) (p : Nat) (hs : State.Ok q s) :
    State.Ok q (State.copyResident s t p) := by
  unfold State.copyResident
  simp (maxDischargeDepth := 60) only [hs, OkParts_memWrite, Ok_mk, State.clearPoison_ok]

theorem State.dropPrefill_ok {q : List Instr} {s : State} (c : Nat) (hs : State.Ok q s) :
    State.Ok q (State.dropPrefill s c) := by
  unfold State.dropPrefill
  simp (maxDischargeDepth := 60) only [hs, Ok_mk, OkParts_state]

theorem State.endSlice_ok {q : List Instr} {s : State} (r : SliceRun) (hs : State.Ok q s) :
    State.Ok q (State.endSlice s r) := by
  unfold State.endSlice
  simp (maxDischargeDepth := 60) only [hs, Ok_mk, OkParts_state, State.setPtile_ok]

theorem State.failTile_ok {q : List Instr} {s : State} (p : Nat) (slice : Nat) (repairable : Bool) (hs : State.Ok q s) :
    State.Ok q (State.failTile s p slice repairable) := by
  unfold State.failTile
  simp (maxDischargeDepth := 60) only [hs, State.setPt_ok, State.noteCluster_ok, State.dropPrefill_ok]

theorem State.loadFuses_ok {q : List Instr} {s : State} (die : Nat) (bad : List Nat) (hs : State.Ok q s) :
    State.Ok q (State.loadFuses s die bad) := by
  unfold State.loadFuses
  repeat' (first
    | assumption
    | simp (maxDischargeDepth := 60) only [hs, Ok_ite, State.raise_ok]
    | split
    | refine foldl_ok (fun s a hs => ?_) _ ?_
    | refine foldl_fst_ok (fun s b a hs => ?_) _ ?_
    | grind (splits := 30) [Ok_mk, OkParts_state, ResOk_next, FstOk_eq, State.setSoft_ok, State.raise_ok,
          State.applyRepair_ok])

theorem State.passSlice_ok {q : List Instr} {s : State} (p : Nat) (slice : Nat) (hs : State.Ok q s) :
    State.Ok q (State.passSlice s p slice) := by
  unfold State.passSlice
  simp (maxDischargeDepth := 60) only [hs, State.setPt_ok]

theorem State.setResult_ok {q : List Instr} {s : State} (res : Nat) (p : Nat) (slice : Nat) (hs : State.Ok q s) :
    State.Ok q (State.setResult s res p slice) := by
  unfold State.setResult
  simp (maxDischargeDepth := 60) only [hs, Ok_mk, OkParts_state]

theorem State.softRepair_ok {q : List Instr} {s : State} (die : Nat) (e : Nat) (hs : State.Ok q s) :
    State.Ok q (State.softRepair s die e).1 := by
  unfold State.softRepair
  grind (splits := 30) [Ok_mk, OkParts_state, ResOk_next, FstOk_eq, State.applyRepair_ok, State.setSoft_ok]

theorem execDroppedLaneTestEnd_ok {q : List Instr} (p : Nat) (lane : Nat) (failed : Bool) {s : State} (hs : State.Ok q s) :
    ResOk q (execDroppedLaneTestEnd p lane failed s) := by
  unfold execDroppedLaneTestEnd
  simp (maxDischargeDepth := 60) only [hs, Ok_ite, ResOk_ite, ResOk_next, Ok_mk, OkParts_state, ite_self,
      State.startLaneRepair_ok]

theorem execLaneRepairTrained_ok {q : List Instr} (p : Nat) {s : State} (hs : State.Ok q s) :
    ResOk q (execLaneRepairTrained p s) := by
  unfold execLaneRepairTrained
  repeat' (first
    | assumption
    | simp (maxDischargeDepth := 60) only [hs, ResOk_next, Ok_mk, OkParts_state, State.raise_ok]
    | split)

theorem execMaintSetWrite_ok {q : List Instr} {s : State} (hs : State.Ok q s) :
    ResOk q (execMaintSetWrite s) := by
  unfold execMaintSetWrite
  simp (maxDischargeDepth := 60) only [hs, ResOk_ite, ResOk_next, ite_self, State.wr_ok]

theorem execPrefillComplete_ok {q : List Instr} {s : State} (hs : State.Ok q s) :
    ResOk q (execPrefillComplete s) := by
  unfold execPrefillComplete
  repeat' (first
    | assumption
    | simp (maxDischargeDepth := 60) only [hs, ResOk_ite, ResOk_next, Ok_mk, OkParts_state, ite_self, State.copyResident_ok]
    | split)

theorem execPrefillStart_ok {q : List Instr} (p : Nat) (pos : Nat) {s : State} (hs : State.Ok q s) :
    ResOk q (execPrefillStart p pos s) := by
  unfold execPrefillStart
  simp (maxDischargeDepth := 60) only [hs, ResOk_ite, ResOk_next, Ok_mk, OkParts_state, ite_self, State.wr_ok]

theorem execRowmapWrite_ok {q : List Instr} (p : Nat) (dly : Nat) (rowmap : Nat) {s : State} (hs : State.Ok q s) :
    ResOk q (execRowmapWrite p dly rowmap s) := by
  unfold execRowmapWrite
  simp (maxDischargeDepth := 60) only [hs, Ok_ite, ResOk_next, ite_self, State.wr_ok, State.setMaps_ok]

theorem execSliceBudgetExpire_ok {q : List Instr} (p : Nat) {s : State} (hs : State.Ok q s) :
    ResOk q (execSliceBudgetExpire p s) := by
  unfold execSliceBudgetExpire
  repeat' (first
    | assumption
    | simp (maxDischargeDepth := 60) only [hs, ResOk_next, State.failTile_ok, State.endSlice_ok, State.advanceTime_ok,
          State.raise_ok]
    | split)

theorem execSliceComplete_ok {q : List Instr} (p : Nat) (pass : Bool) (misr : Nat) (rowsOk : Bool) {s : State} (hs :
    State.Ok q s) :
    ResOk q (execSliceComplete p pass misr rowsOk s) := by
  unfold execSliceComplete
  repeat' (first
    | assumption
    | simp (maxDischargeDepth := 60) only [hs, ResOk_ite, ResOk_next, ite_self, State.bump_ok, State.endSlice_ok,
          State.setPt_ok, State.setResult_ok, State.passSlice_ok, State.failTile_ok, State.raise_ok]
    | split)

theorem execSliceStart_ok {q : List Instr} (p : Nat) (slice : Nat) (keyLeft : Bool) {s : State} (hs : State.Ok q s) :
    ResOk q (execSliceStart p slice keyLeft s) := by
  unfold execSliceStart
  simp (maxDischargeDepth := 60) only [hs, ResOk_ite, ResOk_next, Ok_mk, OkParts_state, ite_self, State.wr_ok,
      State.setResult_ok, State.dropPrefill_ok, State.setPt_ok, State.raise_ok, State.noteCluster_ok, State.wipeTile_ok]

theorem execSpareLaneTest_ok {q : List Instr} (p : Nat) (bitError : Bool) {s : State} (hs : State.Ok q s) :
    ResOk q (execSpareLaneTest p bitError s) := by
  unfold execSpareLaneTest
  simp (maxDischargeDepth := 60) only [hs, ResOk_ite, ResOk_next, Ok_mk, OkParts_state, ite_self, State.raise_ok]

end Sys2Proof.Machine
end

