-- ==== Sys2Proof/Laws/KeepXfer.lean ====
section
/-! SUPPORT. What descriptors and transfers keep (see Laws/Keep). -/

set_option autoImplicit false

namespace Sys2Proof.Machine

open Sys2Proof

set_option simprocs false

theorem State.checkTag_ok {q : List Instr} {s : State} (e : Nat) (slot : Nat) (rec0 : Nat) (ch : Nat) (crc : Nat) (crcGot :
    Nat) (alive : Nat) (hs : State.Ok q s) :
    State.Ok q (State.checkTag s e slot rec0 ch crc crcGot alive).1 := by
  unfold State.checkTag
  repeat' (first
    | assumption
    | simp (maxDischargeDepth := 60) only [hs, State.raiseSlot_ok, State.bump_ok, State.wr_ok]
    | split)

theorem State.setStall_ok {q : List Instr} {s : State} (e : Nat) (v : Nat) (hs : State.Ok q s) :
    State.Ok q (State.setStall s e v) := by
  unfold State.setStall
  simp (maxDischargeDepth := 60) only [hs, Ok_ite, ite_self, State.wr_ok]

theorem State.clearStall_ok {q : List Instr} {s : State} (e : Nat) (v : Nat) (hs : State.Ok q s) :
    State.Ok q (State.clearStall s e v) := by
  unfold State.clearStall
  simp (maxDischargeDepth := 60) only [hs, Ok_ite, ite_self, State.setStall_ok]

theorem State.countXfer_ok {q : List Instr} {s : State} (e : Nat) (x : Xfer) (hs : State.Ok q s) :
    State.Ok q (State.countXfer s e x) := by
  unfold State.countXfer
  simp (maxDischargeDepth := 60) only [hs, Ok_ite, ite_self, State.bump_ok]

theorem State.dropVent_ok {q : List Instr} {s : State} (e : Nat) (x : Xfer) (hs : State.Ok q s) :
    State.Ok q (State.dropVent s e x) := by
  unfold State.dropVent
  simp (maxDischargeDepth := 60) only [hs, Ok_mk, OkParts_state]

theorem State.notePeak_ok {q : List Instr} {s : State} (e : Nat) (hs : State.Ok q s) :
    State.Ok q (State.notePeak s e) := by
  unfold State.notePeak
  simp (maxDischargeDepth := 60) only [hs, Ok_ite, ite_self, State.wr_ok]

theorem State.issueOps_ok {q : List Instr} {s : State} (e : Nat) (hs : State.Ok q s) :
    State.Ok q (State.issueOps s e) := by
  unfold State.issueOps
  simp (maxDischargeDepth := 60) only [hs, Ok_ite, ite_self, State.setXeng_ok, State.notePeak_ok, State.setStall_ok]

theorem State.dropXfer_ok {q : List Instr} {s : State} (e : Nat) (k : Nat) (hs : State.Ok q s) :
    State.Ok q (State.dropXfer s e k) := by
  unfold State.dropXfer
  simp (maxDischargeDepth := 60) only [hs, State.settleXfer_ok, State.issueOps_ok, State.setXeng_ok]

theorem State.engFlags_ok {q : List Instr} {s : State} (e : Nat) (f : FlagSet) (hs : State.Ok q s) :
    State.Ok q (State.engFlags s e f) := by
  unfold State.engFlags
  simp (maxDischargeDepth := 60) only [hs, Ok_ite, ite_self, State.orFlags_ok]

theorem State.storeAll_ok {q : List Instr} {s : State} (l : List (Nat × Byte)) (hs : State.Ok q s) :
    State.Ok q (State.storeAll s l) := by
  unfold State.storeAll
  simp (maxDischargeDepth := 60) +contextual only [hs, Ok_mk, OkParts_state, implies_true, State.st_ok, foldl_ok]

theorem State.storePart_ok {q : List Instr} {s : State} (l : List (Nat × Byte)) (hs : State.Ok q s) :
    State.Ok q (State.storePart s l) := by
  unfold State.storePart
  simp (maxDischargeDepth := 60) only [hs, State.takeFree_ok, State.storeAll_ok]

theorem State.noteAlternate_ok {q : List Instr} {s : State} (l : List (Nat × Byte)) (hs : State.Ok q s) :
    State.Ok q (State.noteAlternate s l) := by
  unfold State.noteAlternate
  simp (maxDischargeDepth := 60) only [hs, Ok_ite, ite_self, State.wr_ok]

theorem State.storeXfer_ok {q : List Instr} {s : State} (l : List (Nat × Byte)) (hs : State.Ok q s) :
    State.Ok q (State.storeXfer s l) := by
  unfold State.storeXfer
  simp (maxDischargeDepth := 60) +contextual only [hs, implies_true, State.raiseSlot_ok, State.storeAll_ok,
      State.noteAlternate_ok, foldl_ok]

theorem State.signalXfer_ok {q : List Instr} {s : State} (e : Nat) (x : Xfer) (hs : State.Ok q s) :
    State.Ok q (State.signalXfer s e x) := by
  unfold State.signalXfer
  simp (maxDischargeDepth := 60) only [hs, Ok_ite, ite_self, State.sendSignal_ok]

theorem State.holdVent_ok {q : List Instr} {s : State} (e : Nat) (x : Xfer) (hs : State.Ok q s) :
    State.Ok q (State.holdVent s e x) := by
  unfold State.holdVent
  simp (maxDischargeDepth := 60) only [hs, Ok_ite, Ok_mk, OkParts_state, ite_self]

theorem State.leaveTag_ok {q : List Instr} {s : State} (e : Nat) (x : Xfer) (hs : State.Ok q s) :
    State.Ok q (State.leaveTag s e x) := by
  unfold State.leaveTag
  simp (maxDischargeDepth := 60) only [hs, Ok_ite, ite_self, State.wr_ok]

theorem State.finishXfer_ok {q : List Instr} {s : State} (e : Nat) (k : Nat) (x : Xfer) (hs : State.Ok q s) :
    State.Ok q (State.finishXfer s e k x) := by
  unfold State.finishXfer
  repeat' (first
    | assumption
    | simp (maxDischargeDepth := 60) only [hs, Ok_ite, ite_self, State.dropXfer_ok, State.dropVent_ok, State.storePart_ok,
          State.checkTag_ok, State.storeXfer_ok, State.raiseSlot_ok, State.signalXfer_ok, State.countXfer_ok,
          State.holdVent_ok, State.leaveTag_ok]
    | split)

theorem State.raiseRemote_ok {q : List Instr} {s : State} (e : Nat) (slot : Nat) (rec0 : Nat) (id : Nat) (l : Option Loc)
    (hs : State.Ok q s) :
    State.Ok q (State.raiseRemote s e slot rec0 id l) := by
  unfold State.raiseRemote
  repeat' (first
    | assumption
    | simp (maxDischargeDepth := 60) only [hs, State.raiseSlot_ok]
    | split)

theorem State.srcErrors_ok {q : List Instr} {s : State} (e : Nat) (slot : Nat) (rec0 : Nat) (f : Fetched) (r : XWords) (hs :
    State.Ok q s) :
    State.Ok q (State.srcErrors s e slot rec0 f r) := by
  unfold State.srcErrors
  repeat' (first
    | assumption
    | simp (maxDischargeDepth := 60) only [hs, State.raiseSlot_ok, State.raiseRemote_ok]
    | split)

theorem State.hostFailed_ok {q : List Instr} {s : State} (e : Nat) (slot : Nat) (rec0 : Nat) (f : Option (Err × Nat)) (hs :
    State.Ok q s) :
    State.Ok q (State.hostFailed s e slot rec0 f) := by
  unfold State.hostFailed
  repeat' (first
    | assumption
    | simp (maxDischargeDepth := 60) only [hs, State.raiseSlot_ok, State.bump_ok]
    | split)

theorem State.presentSeg_ok {q : List Instr} {s : State} (e : Nat) (x : Xfer) (seg : List Byte) (last : Bool) (hs : State.Ok
    q s) :
    State.Ok q (State.presentSeg s e x seg last) := by
  unfold State.presentSeg
  simp (maxDischargeDepth := 60) only [hs, State.present_ok]

theorem State.pumpSend_ok {q : List Instr} {s : State} (e : Nat) (x : Xfer) (hs : State.Ok q s) :
    State.Ok q (State.pumpSend s e x).1 := by
  unfold State.pumpSend
  repeat' (first
    | assumption
    | simp (maxDischargeDepth := 60) only [hs, State.presentSeg_ok]
    | split
    | refine foldl_ok (fun s a hs => ?_) _ ?_
    | refine foldl_fst_ok (fun s b a hs => ?_) _ ?_)

theorem State.pumpVent_ok {q : List Instr} {s : State} (e : Nat) (x : Xfer) (hs : State.Ok q s) :
    State.Ok q (State.pumpVent s e x).1 := by
  unfold State.pumpVent
  simp (maxDischargeDepth := 60) only [hs, Ok_mk, OkParts_state]

theorem State.setXfer_ok {q : List Instr} {s : State} (e : Nat) (k : Nat) (x : Xfer) (hs : State.Ok q s) :
    State.Ok q (State.setXfer s e k x) := by
  unfold State.setXfer
  simp (maxDischargeDepth := 60) only [hs, State.setXeng_ok]

theorem State.pumpXfer_ok {q : List Instr} {s : State} (e : Nat) (k : Nat) (hs : State.Ok q s) :
    State.Ok q (State.pumpXfer s e k) := by
  unfold State.pumpXfer
  repeat' (first
    | assumption
    | simp (maxDischargeDepth := 60) only [hs, Ok_ite, ite_self, State.pumpSend_ok, State.pumpVent_ok, State.setStall_ok,
          State.clearStall_ok, State.setXfer_ok]
    | split)

theorem State.formNow_ok {q : List Instr} {s : State} (e : Nat) (k : Nat) (hs : State.Ok q s) :
    State.Ok q (State.formNow s e k) := by
  unfold State.formNow
  repeat' (first
    | assumption
    | simp (maxDischargeDepth := 60) only [hs, Ok_ite, ite_self, State.srcErrors_ok, State.takeFree_ok, State.engFlags_ok,
          State.raiseSlot_ok, State.statRecord_ok, State.hostFailed_ok, State.pumpXfer_ok, State.issueOps_ok,
          State.setXfer_ok]
    | split)

theorem State.sendRequests_ok {q : List Instr} {s : State} (e : Nat) (slot : Nat) (l : List GatherReq) (hs : State.Ok q s) :
    State.Ok q (State.sendRequests s e slot l).1 := by
  unfold State.sendRequests
  simp (maxDischargeDepth := 60) +contextual only [hs, Ok_mk, OkParts_state, implies_true, State.present_ok, foldl_fst_ok]

theorem State.startXfer_ok {q : List Instr} {s : State} (e : Nat) (slot : Nat) (rec0 : Nat) (r : XWords) (bad : Bool) (hs :
    State.Ok q s) :
    State.Ok q (State.startXfer s e slot rec0 r bad) := by
  unfold State.startXfer
  repeat' (first
    | assumption
    | simp (maxDischargeDepth := 60) only [hs, Ok_ite, ite_self, State.setStall_ok, State.setEngine_ok, State.setXeng_ok,
          State.raiseSlot_ok, State.sendRequests_ok, State.wr_ok, State.issueOps_ok, State.formNow_ok]
    | split)

theorem State.ackSend_ok {q : List Instr} {s : State} (m : Msg) (hs : State.Ok q s) :
    State.Ok q (State.ackSend s m) := by
  unfold State.ackSend
  simp (maxDischargeDepth := 60) only [hs, State.present_ok]

theorem State.setInbound_ok {q : List Instr} {s : State} (n : Nat) (src : Nat) (obj : Nat) (v : Option Inbound) (hs :
    State.Ok q s) :
    State.Ok q (State.setInbound s n src obj v) := by
  unfold State.setInbound
  simp (maxDischargeDepth := 60) only [hs, Ok_mk, OkParts_state]

theorem State.finishSend_ok {q : List Instr} {s : State} (n : Nat) (b : Inbound) (aux : Nat) (m : Msg) (hs : State.Ok q s) :
    State.Ok q (State.finishSend s n b aux m) := by
  unfold State.finishSend
  repeat' (first
    | assumption
    | simp (maxDischargeDepth := 60) only [hs, Ok_ite, Ok_mk, OkParts_state, ite_self, State.engFlags_ok,
          State.raiseSlot_ok, State.statRecord_ok, State.checkTag_ok, State.setInbound_ok, State.ackSend_ok,
          State.storePart_ok, State.bump_ok, State.storeXfer_ok, State.noteStale_ok, State.syncLose_ok, State.sendSignal_ok]
    | split)

theorem State.leaveOp_ok {q : List Instr} {s : State} (e : Nat) (k : Nat) (x : Xfer) (hs : State.Ok q s) :
    State.Ok q (State.leaveOp s e k x) := by
  unfold State.leaveOp
  simp (maxDischargeDepth := 60) only [hs, Ok_ite, ite_self, State.issueOps_ok, State.setXfer_ok, State.clearStall_ok]

theorem State.poisonedRecord_ok {q : List Instr} {s : State} (e : Nat) (i : Nat) (rec0 : Nat) (a : Nat) (hs : State.Ok q s) :
    State.Ok q (State.poisonedRecord s e i rec0 a) := by
  unfold State.poisonedRecord
  simp (maxDischargeDepth := 60) only [hs, State.startXfer_ok, State.raiseSlot_ok]

theorem State.readEvent_ok {q : List Instr} {s : State} (e : Nat) (k : Nat) (x : Xfer) (ev : MemEvent) (hs : State.Ok q s) :
    State.Ok q (State.readEvent s e k x ev) := by
  unfold State.readEvent
  repeat' (first
    | assumption
    | simp (maxDischargeDepth := 60) only [hs, State.memCe_ok, State.setXfer_ok, State.raiseSlot_ok, State.memUe_ok]
    | split)

theorem State.refuseXfer_ok {q : List Instr} {s : State} (e : Nat) (hs : State.Ok q s) :
    State.Ok q (State.refuseXfer s e) := by
  unfold State.refuseXfer
  simp (maxDischargeDepth := 60) only [hs, State.settleXfer_ok, State.stopSlot_ok]

theorem State.scrubNext_ok {q : List Instr} {s : State} (inst : Nat) (hs : State.Ok q s) :
    State.Ok q (State.scrubNext s inst) := by
  unfold State.scrubNext
  simp (maxDischargeDepth := 60) only [hs, Ok_ite, Ok_mk, OkParts_state, ite_self, State.wr_ok, State.bump_ok]

theorem State.takeSegment_ok {q : List Instr} {s : State} (n : Nat) (m : Msg) (hs : State.Ok q s) :
    State.Ok q (State.takeSegment s n m) := by
  unfold State.takeSegment
  repeat' (first
    | assumption
    | simp (maxDischargeDepth := 60) only [hs, Ok_ite, ite_self, State.raiseSlot_ok, State.setInbound_ok,
          State.finishSend_ok, State.ackSend_ok]
    | split)

theorem State.tryXfer_ok {q : List Instr} {s : State} (e : Nat) (i : Nat) (rec0 : Nat) (r : XWords) (hs : State.Ok q s) :
    State.Ok q (State.tryXfer s e i rec0 r) := by
  unfold State.tryXfer
  repeat' (first
    | assumption
    | simp (maxDischargeDepth := 60) only [hs, Ok_ite, ite_self, State.startXfer_ok, State.raiseSlot_ok,
          State.refuseXfer_ok, State.setEngine_ok, State.setStall_ok]
    | split)

theorem execGatherRequestReceive_ok {q : List Instr} (q0 : Nat) {s : State} (hs : State.Ok q s) :
    ResOk q (execGatherRequestReceive q0 s) := by
  unfold execGatherRequestReceive
  repeat' (first
    | assumption
    | simp (maxDischargeDepth := 60) only [hs, ResOk_next, State.popRx_ok, State.present_ok]
    | split)

theorem execGatherResponseReceive_ok {q : List Instr} (q0 : Nat) {s : State} (hs : State.Ok q s) :
    ResOk q (execGatherResponseReceive q0 s) := by
  unfold execGatherResponseReceive
  repeat' (first
    | assumption
    | simp (maxDischargeDepth := 60) only [hs, ResOk_next, State.popRx_ok, State.setXeng_ok, State.formNow_ok]
    | split)

theorem execHbmOperationComplete_ok {q : List Instr} (e : Nat) (k : Nat) (ev : MemEvent) {s : State} (hs : State.Ok q s) :
    ResOk q (execHbmOperationComplete e k ev s) := by
  unfold execHbmOperationComplete
  repeat' (first
    | assumption
    | simp (maxDischargeDepth := 60) only [hs, Ok_ite, ResOk_next, ite_self, State.issueOps_ok, State.setXeng_ok,
          State.readEvent_ok, State.pumpXfer_ok, State.leaveOp_ok]
    | split)

theorem execPatrolScrub_ok {q : List Instr} (inst : Nat) (ev : MemEvent) {s : State} (hs : State.Ok q s) :
    ResOk q (execPatrolScrub inst ev s) := by
  unfold execPatrolScrub
  repeat' (first
    | assumption
    | simp (maxDischargeDepth := 60) only [hs, ResOk_ite, ResOk_next, ite_self, State.scrubNext_ok, State.countGrant_ok,
          State.memCe_ok, State.raiseRec_ok, State.memUe_ok]
    | split)

theorem execResidentFillComplete_ok {q : List Instr} (t : Nat) {s : State} (hs : State.Ok q s) :
    ResOk q (execResidentFillComplete t s) := by
  unfold execResidentFillComplete
  repeat' (first
    | assumption
    | simp (maxDischargeDepth := 60) only [hs, OkParts_memWrite, ResOk_ite, ResOk_next, Ok_mk, OkParts_state,
          State.raiseSlot_ok, State.clearPoison_ok]
    | split)

theorem execSendAckReceive_ok {q : List Instr} (q0 : Nat) {s : State} (hs : State.Ok q s) :
    ResOk q (execSendAckReceive q0 s) := by
  unfold execSendAckReceive
  repeat' (first
    | assumption
    | simp (maxDischargeDepth := 60) only [hs, ResOk_ite, ResOk_next, ite_self, State.popRx_ok, State.setXeng_ok]
    | split)

theorem execSendSegmentReceive_ok {q : List Instr} (q0 : Nat) (n : Nat) {s : State} (hs : State.Ok q s) :
    ResOk q (execSendSegmentReceive q0 n s) := by
  unfold execSendSegmentReceive
  repeat' (first
    | assumption
    | simp (maxDischargeDepth := 60) only [hs, ResOk_ite, ResOk_next, ite_self, State.takeSegment_ok, State.popRx_ok]
    | split)

theorem execTransferComplete_ok {q : List Instr} (e : Nat) (k : Nat) {s : State} (hs : State.Ok q s) :
    ResOk q (execTransferComplete e k s) := by
  unfold execTransferComplete
  repeat' (first
    | assumption
    | simp (maxDischargeDepth := 60) only [hs, ResOk_ite, ResOk_next, ite_self, State.pumpXfer_ok, State.finishXfer_ok]
    | split)

theorem execTransferStart_ok {q : List Instr} (e : Nat) {s : State} (hs : State.Ok q s) :
    ResOk q (execTransferStart e s) := by
  unfold execTransferStart
  repeat' (first
    | assumption
    | simp (maxDischargeDepth := 60) only [hs, ResOk_ite, ResOk_next, ite_self, State.settleXfer_ok, State.setXeng_ok,
          State.poisonedRecord_ok, State.refuseXfer_ok, State.raiseSlot_ok, State.setStall_ok, State.setEngine_ok,
          State.sendWait_ok, State.tryXfer_ok]
    | split)

end Sys2Proof.Machine
end

