-- ==== Sys2Proof/Laws/KeepRed.lean ====
section
/-! SUPPORT. What reductions, Sinter and the update engines keep (see Laws/Keep). -/

set_option autoImplicit false

namespace Sys2Proof.Machine

open Sys2Proof

set_option simprocs false

theorem State.redMove_ok {q : List Instr} {s : State} (h0 : Nat) (src : Fld) (dst : Fld) (n : Nat) (hs : State.Ok q s) :
    State.Ok q (State.redMove s h0 src dst n) := by
  unfold State.redMove
  simp (maxDischargeDepth := 60) only [hs, State.bump_ok, State.wr_ok]

theorem State.decideOne_ok {q : List Instr} (h0 : Nat) (r : RedRec) (p : State × RedRun) (q0 : Nat × Nat) (hp : State.Ok q
    p.1) :
    State.Ok q (State.decideOne h0 r p q0).1 := by
  unfold State.decideOne
  repeat' (first
    | assumption
    | simp (maxDischargeDepth := 60) only [hp, Ok_ite, ite_self, State.redMove_ok, State.raiseSlot_ok]
    | split)

theorem State.foldOne_ok {q : List Instr} (h0 : Nat) (r : RedRec) (p : State × RedRun) (q0 : Nat × Nat) (hp : State.Ok q
    p.1) :
    State.Ok q (State.foldOne h0 r p q0).1 := by
  unfold State.foldOne
  repeat' (first
    | assumption
    | simp (maxDischargeDepth := 60) only [hp, State.raiseSlot_ok, State.redMove_ok, State.orFlags_ok]
    | split)

theorem State.setRun_ok {q : List Instr} {s : State} (h0 : Nat) (r : RedRun) (hs : State.Ok q s) :
    State.Ok q (State.setRun s h0 r) := by
  unfold State.setRun
  simp (maxDischargeDepth := 60) only [hs, State.setRed_ok]

theorem State.failRun_ok {q : List Instr} {s : State} (h0 : Nat) (r : RedRec) (run : RedRun) (hs : State.Ok q s) :
    State.Ok q (State.failRun s h0 r run) := by
  unfold State.failRun
  simp (maxDischargeDepth := 60) only [hs, State.redMove_ok, State.settleRed_ok, State.setRun_ok]

theorem State.completeRun_ok {q : List Instr} {s : State} (h0 : Nat) (r : RedRec) (run : RedRun) (hs : State.Ok q s) :
    State.Ok q (State.completeRun s h0 r run) := by
  unfold State.completeRun
  simp (maxDischargeDepth := 60) +contextual only [hs, Ok_ite, ite_self, implies_true, State.raiseSlot_ok, State.bump_ok,
      State.sendSignal_ok, State.settleRed_ok, State.setRun_ok, foldl_ok]

theorem State.deliverHere_ok {q : List Instr} {s : State} (r : RedRec) (vals : List Nat) (hs : State.Ok q s) :
    State.Ok q (State.deliverHere s r vals) := by
  unfold State.deliverHere
  simp (maxDischargeDepth := 60) only [hs, State.storeXfer_ok]

theorem State.sendPartial_ok {q : List Instr} {s : State} (h0 : Nat) (r : RedRec) (run : RedRun) (bs : List Byte) (hs :
    State.Ok q s) :
    State.Ok q (State.sendPartial s h0 r run bs) := by
  unfold State.sendPartial
  simp (maxDischargeDepth := 60) +contextual only [hs, implies_true, State.present_ok, foldl_ok]

theorem State.deliverRun_ok {q : List Instr} {s : State} (h0 : Nat) (r : RedRec) (run : RedRun) (hs : State.Ok q s) :
    State.Ok q (State.deliverRun s h0 r run) := by
  unfold State.deliverRun
  simp (maxDischargeDepth := 60) only [hs, Ok_ite, ite_self, State.orFlags_ok, State.completeRun_ok, State.deliverHere_ok,
      State.sendPartial_ok, State.setRun_ok]

theorem State.advanceRun_ok {q : List Instr} {s : State} (h0 : Nat) (rid : Nat) (hs : State.Ok q s) :
    State.Ok q (State.advanceRun s h0 rid) := by
  unfold State.advanceRun
  split
  · exact hs
  split
  · exact hs
  next run _ _ =>
  dsimp only
  have h1 : State.Ok q ((s.redEntries (s.redRecAt run.addr)).zipIdx.foldl (State.decideOne h0 (s.redRecAt run.addr))
      (s, run)).1 := foldl_fst_ok (fun s b a hs => State.decideOne_ok h0 _ a (p := (s, b)) hs) _ hs
  have h2 := foldl_fst_ok (f := State.foldOne h0 (s.redRecAt run.addr))
    (fun s b a hs => State.foldOne_ok h0 _ a (p := (s, b)) hs) (s.redEntries (s.redRecAt run.addr)).zipIdx h1
  split
  · exact State.failRun_ok _ _ _ (State.setRun_ok _ _ h2)
  split
  · exact State.setRun_ok _ _ h2
  split
  · exact State.setRun_ok _ _ h2
  · exact State.deliverRun_ok _ _ _ (State.setRun_ok _ _ h2)

theorem State.advanceHalf_ok {q : List Instr} {s : State} (h0 : Nat) (hs : State.Ok q s) :
    State.Ok q (State.advanceHalf s h0) := by
  unfold State.advanceHalf
  simp (maxDischargeDepth := 60) +contextual only [hs, implies_true, State.advanceRun_ok, foldl_ok]

theorem State.redExpect_ok {q : List Instr} {s : State} (h0 : Nat) (n : Nat) (hs : State.Ok q s) :
    State.Ok q (State.redExpect s h0 n) := by
  unfold State.redExpect
  simp (maxDischargeDepth := 60) only [hs, State.bump_ok]

theorem State.newRun_ok {q : List Instr} {s : State} (h0 : Nat) (slot : Nat) (rec0 : Nat) (addr : Nat) (hs : State.Ok q s) :
    State.Ok q (State.newRun s h0 slot rec0 addr).1 := by
  unfold State.newRun
  simp (maxDischargeDepth := 60) only [hs, State.redExpect_ok]

theorem State.redCancelAll_ok {q : List Instr} {s : State} (h0 : Nat) (hs : State.Ok q s) :
    State.Ok q (State.redCancelAll s h0) := by
  unfold State.redCancelAll
  simp (maxDischargeDepth := 60) only [hs, State.redMove_ok]

theorem State.redAbort_ok {q : List Instr} {s : State} (h0 : Nat) (hs : State.Ok q s) :
    State.Ok q (State.redAbort s h0) := by
  unfold State.redAbort
  simp (maxDischargeDepth := 60) only [hs, State.setRed_ok, State.redCancelAll_ok]

theorem State.redBodyEntry_ok {q : List Instr} {s : State} (h0 : Nat) (hs : State.Ok q s) :
    State.Ok q (State.redBodyEntry s h0) := by
  unfold State.redBodyEntry
  simp (maxDischargeDepth := 60) +contextual only [hs, implies_true, State.setRed_ok, State.wr_ok, foldl_ok]

theorem State.redBoundary_ok {q : List Instr} {s : State} (h0 : Nat) (hs : State.Ok q s) :
    State.Ok q (State.redBoundary s h0) := by
  unfold State.redBoundary
  simp (maxDischargeDepth := 60) only [hs, State.setRed_ok]

theorem State.putBytes_ok {q : List Instr} {s : State} (a : Nat) (bs : List Byte) (hs : State.Ok q s) :
    State.Ok q (State.putBytes s a bs) := by
  unfold State.putBytes
  simp (maxDischargeDepth := 60) only [hs, State.storeAll_ok]

theorem State.setSin_ok {q : List Instr} {s : State} (u : SinUnit) (hs : State.Ok q s) :
    State.Ok q (State.setSin s u) := by
  unfold State.setSin
  simp (maxDischargeDepth := 60) only [hs, Ok_mk, OkParts_state]

theorem State.freshToParity_ok {q : List Instr} {s : State} (hs : State.Ok q s) :
    State.Ok q (State.freshToParity s) := by
  unfold State.freshToParity
  simp (maxDischargeDepth := 60) +contextual only [hs, Ok_ite, ite_self, implies_true, State.putBytes_ok, State.setSin_ok,
      foldl_ok]

theorem State.raiseSin_ok {q : List Instr} {s : State} (e : Err) (group : Option Nat) (d0 : Nat) (d1 : Nat) (hs : State.Ok q
    s) :
    State.Ok q (State.raiseSin s e group d0 d1) := by
  unfold State.raiseSin
  simp (maxDischargeDepth := 60) only [hs, State.raiseRec_ok]

theorem State.sendSin_ok {q : List Instr} {s : State} (slot : Option (Nat × Nat)) (rank : Nat) (sub : Nat) (obj : Nat) (idx
    : Nat) (last : Bool) (bs : List Byte) (hs : State.Ok q s) :
    State.Ok q (State.sendSin s slot rank sub obj idx last bs) := by
  unfold State.sendSin
  simp (maxDischargeDepth := 60) only [hs, State.present_ok, State.bump_ok]

theorem State.sendParity_ok {q : List Instr} {s : State} (slot : Option (Nat × Nat)) (g : SinGroup) (sub : Nat) (off : Nat)
    (bs : List Byte) (hs : State.Ok q s) :
    State.Ok q (State.sendParity s slot g sub off bs) := by
  unfold State.sendParity
  simp (maxDischargeDepth := 60) only [hs, State.sendSin_ok]

theorem State.sendDeltas_ok {q : List Instr} {s : State} (n : Nat) (slot : Nat) (gi : Nat) (l : List (Nat × Byte)) (hs :
    State.Ok q s) :
    State.Ok q (State.sendDeltas s n slot gi l) := by
  unfold State.sendDeltas
  split
  · exact hs
  · exact State.setSin_ok _ (State.bump_ok _ _ _ (foldl_ok (fun s a hs => State.sendParity_ok _ _ _ _ _ hs) _ hs))

theorem State.sendRecord_ok {q : List Instr} {s : State} (slot : Option (Nat × Nat)) (dst : Nat) (owner : Nat) (bs : List
    Byte) (hs : State.Ok q s) :
    State.Ok q (State.sendRecord s slot dst owner bs) := by
  unfold State.sendRecord
  simp (maxDischargeDepth := 60) +contextual only [hs, implies_true, State.sendSin_ok, foldl_ok]

theorem State.sinCancel_ok {q : List Instr} {s : State} (hs : State.Ok q s) :
    State.Ok q (State.sinCancel s) := by
  unfold State.sinCancel
  simp (maxDischargeDepth := 60) only [hs, State.setSin_ok, State.wr_ok, State.bump_ok]

theorem State.stepWindow_ok {q : List Instr} {s : State} (a : Nat) (b : Nat) (hs : State.Ok q s) :
    State.Ok q (State.stepWindow s a b) := by
  unfold State.stepWindow
  simp (maxDischargeDepth := 60) only [hs, Ok_ite, ite_self, State.raise_ok]

theorem State.sinBook_ok {q : List Instr} {s : State} (hs : State.Ok q s) :
    State.Ok q (State.sinBook s) := by
  unfold State.sinBook
  simp (maxDischargeDepth := 60) only [hs, State.wr_ok]

theorem State.sinBodyEntry_ok {q : List Instr} {s : State} (committed : Bool) (hs : State.Ok q s) :
    State.Ok q (State.sinBodyEntry s committed) := by
  unfold State.sinBodyEntry
  simp (maxDischargeDepth := 60) only [hs, Ok_ite, ite_self, State.sinCancel_ok, State.setSin_ok, State.stepWindow_ok,
      State.wr_ok, State.sinBook_ok]

theorem State.sinCommit_ok {q : List Instr} {s : State} (hs : State.Ok q s) :
    State.Ok q (State.sinCommit s) := by
  unfold State.sinCommit
  repeat' (first
    | assumption
    | simp (maxDischargeDepth := 60) only [hs, Ok_ite, ite_self, State.freshToParity_ok, State.wr_ok, State.setSin_ok,
          State.bump_ok]
    | split)

theorem State.sinCountCheck_ok {q : List Instr} {s : State} (hs : State.Ok q s) :
    State.Ok q (State.sinCountCheck s) := by
  unfold State.sinCountCheck
  simp (maxDischargeDepth := 60) +contextual only [hs, Ok_ite, ite_self, implies_true, State.raiseSin_ok, foldl_ok]

theorem State.sinFold_ok {q : List Instr} {s : State} (gi : Nat) (g : SinGroup) (lb : Nat) (b : Nat) (off : Nat) (bs : List
    Byte) (hs : State.Ok q s) :
    State.Ok q (State.sinFold s gi g lb b off bs) := by
  unfold State.sinFold
  simp (maxDischargeDepth := 60) +contextual only [hs, Ok_ite, ite_self, implies_true, State.setSin_ok, State.putBytes_ok,
      State.stBytes_ok, foldl_ok]

theorem State.chainForward_ok {q : List Instr} {s : State} (c : ChainRun) (g : SinGroup) (k : Nat) (bs : List Byte) (hs :
    State.Ok q s) :
    State.Ok q (State.chainForward s c g k bs) := by
  unfold State.chainForward
  repeat' (first
    | assumption
    | simp (maxDischargeDepth := 60) only [hs, State.present_ok, State.sendSin_ok]
    | split)

theorem State.chainBlockOut_ok {q : List Instr} {s : State} (c : ChainRun) (g : SinGroup) (k : Nat) (partialBytes : List
    Byte) (hs : State.Ok q s) :
    State.Ok q (State.chainBlockOut s c g k partialBytes) := by
  unfold State.chainBlockOut
  repeat' (first
    | assumption
    | simp (maxDischargeDepth := 60) only [hs, State.raise_ok, State.chainForward_ok]
    | split)

theorem State.chainPart_ok {q : List Instr} {s : State} (c : ChainRun) (m : Msg) (hs : State.Ok q s) :
    State.Ok q (State.chainPart s c m) := by
  unfold State.chainPart
  repeat' (first
    | assumption
    | simp (maxDischargeDepth := 60) only [hs, State.chainBlockOut_ok, State.setSin_ok]
    | split)

theorem State.startChain_ok {q : List Instr} {s : State} (gi : Nat) (g : SinGroup) (rank : Nat) (lost : List Nat) (first :
    Nat) (blocks : Nat) (hs : State.Ok q s) :
    State.Ok q (State.startChain s gi g rank lost first blocks) := by
  unfold State.startChain
  repeat' (first
    | assumption
    | simp (maxDischargeDepth := 60) only [hs, Ok_ite, State.setSin_ok, State.chainBlockOut_ok]
    | split
    | refine foldl_ok (fun s a hs => ?_) _ ?_
    | refine foldl_fst_ok (fun s b a hs => ?_) _ ?_)

theorem State.ackPart_ok {q : List Instr} {s : State} (m : Msg) (hs : State.Ok q s) :
    State.Ok q (State.ackPart s m) := by
  unfold State.ackPart
  simp (maxDischargeDepth := 60) only [hs, State.present_ok]

theorem State.redUnexpected_ok {q : List Instr} {s : State} (h0 : Nat) (obj : Nat) (coord : Nat) (hs : State.Ok q s) :
    State.Ok q (State.redUnexpected s h0 obj coord) := by
  unfold State.redUnexpected
  simp (maxDischargeDepth := 60) only [hs, State.raiseSlot_ok]

theorem State.stageSegment_ok {q : List Instr} {s : State} (h0 : Nat) (run : RedRun) (i : Nat) (backup : Bool) (m : Msg) (hs
    : State.Ok q s) :
    State.Ok q (State.stageSegment s h0 run i backup m) := by
  unfold State.stageSegment
  repeat' (first
    | assumption
    | simp (maxDischargeDepth := 60) only [hs, Ok_ite, ite_self, State.setRun_ok, State.redMove_ok, State.advanceRun_ok]
    | split)

theorem State.partFor_ok {q : List Instr} {s : State} (h0 : Nat) (run : RedRun) (m : Msg) (hs : State.Ok q s) :
    State.Ok q (State.partFor s h0 run m) := by
  unfold State.partFor
  repeat' (first
    | assumption
    | simp (maxDischargeDepth := 60) only [hs, Ok_ite, ite_self, State.redUnexpected_ok, State.stageSegment_ok]
    | split)

theorem State.startRun_ok {q : List Instr} {s : State} (h0 : Nat) (slot : Nat) (rec0 : Nat) (addr : Nat) (hs : State.Ok q s)
    :
    State.Ok q (State.startRun s h0 slot rec0 addr) := by
  unfold State.startRun
  repeat' (first
    | assumption
    | simp (maxDischargeDepth := 60) only [hs, State.setEngine_ok, State.setRed_ok, State.newRun_ok, State.advanceRun_ok,
          State.setRun_ok]
    | split)

theorem execRedAckReceive_ok {q : List Instr} (q0 : Nat) {s : State} (hs : State.Ok q s) :
    ResOk q (execRedAckReceive q0 s) := by
  unfold execRedAckReceive
  repeat' (first
    | assumption
    | simp (maxDischargeDepth := 60) only [hs, ResOk_ite, ResOk_next, State.popRx_ok, State.completeRun_ok]
    | split)

theorem execRedDeadline_ok {q : List Instr} (h0 : Nat) {s : State} (hs : State.Ok q s) :
    ResOk q (execRedDeadline h0 s) := by
  unfold execRedDeadline
  simp (maxDischargeDepth := 60) only [hs, ResOk_next, State.advanceHalf_ok]

theorem execRedPartReceive_ok {q : List Instr} (q0 : Nat) (h0 : Nat) {s : State} (hs : State.Ok q s) :
    ResOk q (execRedPartReceive q0 h0 s) := by
  unfold execRedPartReceive
  repeat' (first
    | assumption
    | simp (maxDischargeDepth := 60) only [hs, ResOk_ite, ResOk_next, ite_self, State.ackPart_ok, State.popRx_ok,
          State.chainPart_ok, State.bump_ok, State.partFor_ok, State.redUnexpected_ok, State.newRun_ok, State.setRun_ok]
    | split)

theorem execRedRecordStart_ok {q : List Instr} (h0 : Nat) {s : State} (hs : State.Ok q s) :
    ResOk q (execRedRecordStart h0 s) := by
  unfold execRedRecordStart
  repeat' (first
    | assumption
    | simp (maxDischargeDepth := 60) only [hs, ResOk_ite, ResOk_next, ite_self, State.settleRed_ok, State.stopSlot_ok,
          State.raiseSlot_ok, State.setEngine_ok, State.sendWait_ok, State.startRun_ok]
    | split)

theorem State.applyNext_ok {q : List Instr} {s : State} (hs : State.Ok q s) :
    State.Ok q (State.applyNext s) := by
  unfold State.applyNext
  simp (maxDischargeDepth := 60) only [hs, Ok_ite, ite_self, State.wr_ok, State.setSin_ok]

theorem State.driftGranule_ok {q : List Instr} {s : State} (g : SinGroup) (n : Nat) (hs : State.Ok q s) :
    State.Ok q (State.driftGranule s g n) := by
  unfold State.driftGranule
  simp (maxDischargeDepth := 60) only [hs, Ok_ite, ite_self, State.bump_ok, State.raiseSin_ok, State.setSin_ok]

theorem State.secureBlock_ok {q : List Instr} {s : State} (slot : Nat) (g : SinGroup) (k : Nat) (hs : State.Ok q s) :
    State.Ok q (State.secureBlock s slot g k) := by
  unfold State.secureBlock
  grind (splits := 30) [Ok_mk, OkParts_state, ResOk_next, FstOk_eq, State.raiseSlot_ok, State.sendParity_ok]

theorem State.sinStale_ok {q : List Instr} {s : State} (obj : Nat) (hs : State.Ok q s) :
    State.Ok q (State.sinStale s obj) := by
  unfold State.sinStale
  simp (maxDischargeDepth := 60) only [hs, Ok_ite, ite_self, State.bump_ok, State.raiseSin_ok, State.setSin_ok]

theorem State.takeParity_ok {q : List Instr} {s : State} (m : Msg) (fresh : Bool) (hs : State.Ok q s) :
    State.Ok q (State.takeParity s m fresh) := by
  unfold State.takeParity
  repeat' (first
    | assumption
    | simp (maxDischargeDepth := 60) only [hs, Ok_ite, ite_self, State.sinStale_ok, State.raiseSin_ok, State.sinFold_ok,
          State.sinBook_ok, State.setSin_ok]
    | split)

theorem State.takeRecord_ok {q : List Instr} {s : State} (m : Msg) (hs : State.Ok q s) :
    State.Ok q (State.takeRecord s m) := by
  unfold State.takeRecord
  repeat' (first
    | assumption
    | simp (maxDischargeDepth := 60) only [hs, Ok_ite, ite_self, State.sinStale_ok, State.raiseSin_ok, State.putBytes_ok,
          State.setSin_ok, State.present_ok, State.sinBook_ok]
    | split)

theorem execParityApply_ok {q : List Instr} {s : State} (hs : State.Ok q s) :
    ResOk q (execParityApply s) := by
  unfold execParityApply
  grind (splits := 30) [Ok_mk, OkParts_state, ResOk_next, FstOk_eq, State.applyNext_ok, State.throughArbiters_ok,
      State.driftGranule_ok, State.stBytes_ok]

theorem execSinterCapture_ok {q : List Instr} {s : State} (hs : State.Ok q s) :
    ResOk q (execSinterCapture s) := by
  unfold execSinterCapture
  repeat' (first
    | assumption
    | simp (maxDischargeDepth := 60) only [hs, ResOk_ite, ResOk_next, ite_self, State.setSin_ok, State.endSlot_ok,
          State.raiseSin_ok, State.sendRecord_ok]
    | split)

theorem execSinterDeltaReceive_ok {q : List Instr} (q0 : Nat) {s : State} (hs : State.Ok q s) :
    ResOk q (execSinterDeltaReceive q0 s) := by
  unfold execSinterDeltaReceive
  repeat' (first
    | assumption
    | simp (maxDischargeDepth := 60) only [hs, ResOk_next, State.takeParity_ok, State.popRx_ok]
    | split)

theorem execSinterFreshReceive_ok {q : List Instr} (q0 : Nat) {s : State} (hs : State.Ok q s) :
    ResOk q (execSinterFreshReceive q0 s) := by
  unfold execSinterFreshReceive
  repeat' (first
    | assumption
    | simp (maxDischargeDepth := 60) only [hs, ResOk_ite, ResOk_next, ite_self, State.takeParity_ok, State.popRx_ok]
    | split)

theorem execSinterRecordAcknowledged_ok {q : List Instr} (q0 : Nat) {s : State} (hs : State.Ok q s) :
    ResOk q (execSinterRecordAcknowledged q0 s) := by
  unfold execSinterRecordAcknowledged
  repeat' (first
    | assumption
    | simp (maxDischargeDepth := 60) only [hs, ResOk_ite, ResOk_next, ite_self, State.popRx_ok, State.endSlot_ok,
          State.setSin_ok]
    | split)

theorem execSinterResecure_ok {q : List Instr} {s : State} (hs : State.Ok q s) :
    ResOk q (execSinterResecure s) := by
  unfold execSinterResecure
  split
  · exact hs
  split
  · exact hs
  refine State.endSlot_ok _ ?_
  split
  · split
    · exact foldl_ok (fun s a hs => State.secureBlock_ok _ _ _ hs) _ hs
    · exact hs
  · exact hs

theorem State.setNonfinite_ok {q : List Instr} {s : State} (n : Nat) (shard : Nat) (hs : State.Ok q s) :
    State.Ok q (State.setNonfinite s n shard) := by
  unfold State.setNonfinite
  simp (maxDischargeDepth := 60) only [hs, Ok_ite, Ok_mk, OkParts_state, ite_self, State.bump_ok]

theorem State.setUe_ok {q : List Instr} {s : State} (n : Nat) (v : UeRun) (hs : State.Ok q s) :
    State.Ok q (State.setUe s n v) := by
  unfold State.setUe
  simp (maxDischargeDepth := 60) only [hs, Ok_mk, OkParts_state]

theorem State.ueFetch_ok {q : List Instr} {s : State} (n : Nat) (l : List Nat) (bytes : Nat) (hs : State.Ok q s) :
    State.Ok q (State.ueFetch s n l bytes).2 := by
  unfold State.ueFetch
  repeat' (first
    | assumption
    | simp (maxDischargeDepth := 60) only [hs, State.raiseSlot_ok, State.takeFree_ok]
    | split)

theorem State.ueInit_ok {q : List Instr} {s : State} (n : Nat) (r0 : UeRun) (e : ShardEntry) (normDesc : Nat) (hs : State.Ok
    q s) :
    State.Ok q (State.ueInit s n r0 e normDesc) := by
  unfold State.ueInit
  simp (maxDischargeDepth := 60) only [hs, State.ueFetch_ok, State.orFlags_ok, State.setUe_ok]

theorem State.ueLeave_ok {q : List Instr} {s : State} (n : Nat) (e : ShardEntry) (hs : State.Ok q s) :
    State.Ok q (State.ueLeave s n e) := by
  unfold State.ueLeave
  repeat' (first
    | assumption
    | simp (maxDischargeDepth := 60) only [hs, Ok_ite, Ok_mk, OkParts_state, ite_self, State.raiseSlot_ok,
          State.orFlags_ok, State.putBytes_ok]
    | split)

theorem State.uePassEnd_ok {q : List Instr} {s : State} (n : Nat) (e : ShardEntry) (hs : State.Ok q s) :
    State.Ok q (State.uePassEnd s n e) := by
  unfold State.uePassEnd
  simp (maxDischargeDepth := 60) only [hs, Ok_ite, ite_self, State.setStall_ok, State.endSlot_ok, State.setUe_ok,
      State.ueLeave_ok]

theorem State.ueSettle_ok {q : List Instr} {s : State} (n : Nat) (e : ShardEntry) (hs : State.Ok q s) :
    State.Ok q (State.ueSettle s n e) := by
  unfold State.ueSettle
  simp (maxDischargeDepth := 60) only [hs, Ok_ite, ite_self, State.setUe_ok, State.uePassEnd_ok]

theorem State.ueNext_ok {q : List Instr} {s : State} (n : Nat) (e : ShardEntry) (hs : State.Ok q s) :
    State.Ok q (State.ueNext s n e) := by
  unfold State.ueNext
  simp (maxDischargeDepth := 60) only [hs, State.ueSettle_ok, State.setUe_ok]

theorem State.ueScalar_ok {q : List Instr} {s : State} (n : Nat) (r : UeRun) (w : Nat) (o : Num × FlagSet) (hs : State.Ok q
    s) :
    State.Ok q (State.ueScalar s n r w o) := by
  unfold State.ueScalar
  simp (maxDischargeDepth := 60) only [hs, State.orFlags_ok, State.setUe_ok]

theorem State.ueStart_ok {q : List Instr} {s : State} (n : Nat) (sl : Slot) (hs : State.Ok q s) :
    State.Ok q (State.ueStart s n sl) := by
  unfold State.ueStart
  repeat' (first
    | assumption
    | simp (maxDischargeDepth := 60) only [hs, State.endSlot_ok, State.raiseSlot_ok, State.ueSettle_ok, State.ueInit_ok]
    | split)

theorem State.ueStep_ok {q : List Instr} {s : State} (n : Nat) (w : Nat) (f : State → UeRun → ShardEntry → State) (hs :
    State.Ok q s) (hf : ∀ (x0 : State) (x1 : UeRun) (x2 : ShardEntry), State.Ok q x0 → State.Ok q (f x0 x1 x2)) :
    State.Ok q (State.ueStep s n w f) := by
  unfold State.ueStep
  repeat' (first
    | assumption
    | simp (maxDischargeDepth := 60) only [hs, hf, Ok_ite, ite_self, State.ueSettle_ok, State.raiseSlot_ok, State.ueNext_ok]
    | split)

theorem State.ueWrite_ok {q : List Instr} {s : State} (n : Nat) (r : UeRun) (w : Nat) (l : List (Nat × FlagSet)) (hs :
    State.Ok q s) :
    State.Ok q (State.ueWrite s n r w l) := by
  unfold State.ueWrite
  simp (maxDischargeDepth := 60) only [hs, State.orFlags_ok, State.setUe_ok]

theorem State.ueThree_ok {q : List Instr} {s : State} (n : Nat) (r : UeRun) (w : Nat) (f : Num → Num → Num → Num × FlagSet)
    (hs : State.Ok q s) :
    State.Ok q (State.ueThree s n r w f) := by
  unfold State.ueThree
  simp (maxDischargeDepth := 60) only [hs, State.ueWrite_ok]

theorem State.ueTwo_ok {q : List Instr} {s : State} (n : Nat) (r : UeRun) (w : Nat) (f : Num → Num → Num × FlagSet) (hs :
    State.Ok q s) :
    State.Ok q (State.ueTwo s n r w f) := by
  unfold State.ueTwo
  simp (maxDischargeDepth := 60) only [hs, State.ueWrite_ok]

theorem State.ueLd_ok {q : List Instr} {s : State} (n : Nat) (w : Nat) (r : UeRun) (e : ShardEntry) (hs : State.Ok q s) :
    State.Ok q (State.ueLd s n w r e) := by
  unfold State.ueLd
  repeat' (first
    | assumption
    | simp (maxDischargeDepth := 60) only [hs, Ok_ite, ite_self, State.raiseSlot_ok, State.takeFree_ok, State.setUe_ok,
          State.orFlags_ok, State.setNonfinite_ok]
    | split)

theorem State.ueScale_ok {q : List Instr} {s : State} (n : Nat) (w : Nat) (e : ShardEntry) (hs : State.Ok q s) :
    State.Ok q (State.ueScale s n w e) := by
  unfold State.ueScale
  repeat' (first
    | assumption
    | simp (maxDischargeDepth := 60) only [hs, Ok_ite, ite_self, State.raiseSlot_ok, State.storeXfer_ok]
    | split)

theorem State.ueSqacc_ok {q : List Instr} {s : State} (n : Nat) (w : Nat) (r : UeRun) (e : ShardEntry) (hs : State.Ok q s) :
    State.Ok q (State.ueSqacc s n w r e) := by
  unfold State.ueSqacc
  simp (maxDischargeDepth := 60) only [hs, State.orFlags_ok, State.setUe_ok]

theorem State.ueSt_ok {q : List Instr} {s : State} (n : Nat) (w : Nat) (r : UeRun) (e : ShardEntry) (hs : State.Ok q s) :
    State.Ok q (State.ueSt s n w r e) := by
  unfold State.ueSt
  repeat' (first
    | assumption
    | simp (maxDischargeDepth := 60) only [hs, Ok_ite, ite_self, State.raiseSlot_ok, State.engFlags_ok,
          State.statRecord_ok, State.setNonfinite_ok, State.sendDeltas_ok, State.storeXfer_ok, State.setUe_ok,
          State.bump_ok]
    | split)

theorem execUeFadd_ok {q : List Instr} (n : Nat) (w : BitVec 58) {s : State} (hs : State.Ok q s) :
    ResOk q (execUeFadd n w s) := by
  unfold execUeFadd
  simp (maxDischargeDepth := 60) +contextual only [hs, ResOk_next, implies_true, State.ueStep_ok, State.ueTwo_ok]

theorem execUeFdiv_ok {q : List Instr} (n : Nat) (w : BitVec 58) {s : State} (hs : State.Ok q s) :
    ResOk q (execUeFdiv n w s) := by
  unfold execUeFdiv
  simp (maxDischargeDepth := 60) +contextual only [hs, ResOk_next, implies_true, State.ueStep_ok, State.ueTwo_ok]

theorem execUeFma_ok {q : List Instr} (n : Nat) (w : BitVec 58) {s : State} (hs : State.Ok q s) :
    ResOk q (execUeFma n w s) := by
  unfold execUeFma
  simp (maxDischargeDepth := 60) +contextual only [hs, ResOk_next, implies_true, State.ueStep_ok, State.ueThree_ok]

theorem execUeFmax_ok {q : List Instr} (n : Nat) (w : BitVec 58) {s : State} (hs : State.Ok q s) :
    ResOk q (execUeFmax n w s) := by
  unfold execUeFmax
  simp (maxDischargeDepth := 60) +contextual only [hs, ResOk_next, implies_true, State.ueStep_ok, State.ueTwo_ok]

theorem execUeFmin_ok {q : List Instr} (n : Nat) (w : BitVec 58) {s : State} (hs : State.Ok q s) :
    ResOk q (execUeFmin n w s) := by
  unfold execUeFmin
  simp (maxDischargeDepth := 60) +contextual only [hs, ResOk_next, implies_true, State.ueStep_ok, State.ueTwo_ok]

theorem execUeFmul_ok {q : List Instr} (n : Nat) (w : BitVec 58) {s : State} (hs : State.Ok q s) :
    ResOk q (execUeFmul n w s) := by
  unfold execUeFmul
  simp (maxDischargeDepth := 60) +contextual only [hs, ResOk_next, implies_true, State.ueStep_ok, State.ueTwo_ok]

theorem execUeFnma_ok {q : List Instr} (n : Nat) (w : BitVec 58) {s : State} (hs : State.Ok q s) :
    ResOk q (execUeFnma n w s) := by
  unfold execUeFnma
  simp (maxDischargeDepth := 60) +contextual only [hs, ResOk_next, implies_true, State.ueStep_ok, State.ueThree_ok]

theorem execUeFsqrt_ok {q : List Instr} (n : Nat) (w : BitVec 58) {s : State} (hs : State.Ok q s) :
    ResOk q (execUeFsqrt n w s) := by
  unfold execUeFsqrt
  simp (maxDischargeDepth := 60) +contextual only [hs, ResOk_next, implies_true, State.ueStep_ok, State.ueTwo_ok]

theorem execUeFsub_ok {q : List Instr} (n : Nat) (w : BitVec 58) {s : State} (hs : State.Ok q s) :
    ResOk q (execUeFsub n w s) := by
  unfold execUeFsub
  simp (maxDischargeDepth := 60) +contextual only [hs, ResOk_next, implies_true, State.ueStep_ok, State.ueTwo_ok]

theorem execUeLd_ok {q : List Instr} (n : Nat) (w : BitVec 58) {s : State} (hs : State.Ok q s) :
    ResOk q (execUeLd n w s) := by
  unfold execUeLd
  simp (maxDischargeDepth := 60) +contextual only [hs, ResOk_next, implies_true, State.ueStep_ok, State.ueLd_ok]

theorem execUeNop_ok {q : List Instr} (n : Nat) (w : BitVec 58) {s : State} (hs : State.Ok q s) :
    ResOk q (execUeNop n w s) := by
  unfold execUeNop
  simp (maxDischargeDepth := 60) +contextual only [hs, ResOk_next, implies_true, State.ueStep_ok]

theorem execUeSadd_ok {q : List Instr} (n : Nat) (w : BitVec 58) {s : State} (hs : State.Ok q s) :
    ResOk q (execUeSadd n w s) := by
  unfold execUeSadd
  simp (maxDischargeDepth := 60) +contextual only [hs, ResOk_next, implies_true, State.ueStep_ok, State.ueScalar_ok]

theorem execUeScalew_ok {q : List Instr} (n : Nat) (w : BitVec 58) {s : State} (hs : State.Ok q s) :
    ResOk q (execUeScalew n w s) := by
  unfold execUeScalew
  simp (maxDischargeDepth := 60) +contextual only [hs, Ok_ite, ResOk_next, ite_self, implies_true, State.setStall_ok,
      State.ueStep_ok, State.ueScale_ok]

theorem execUeSdiv_ok {q : List Instr} (n : Nat) (w : BitVec 58) {s : State} (hs : State.Ok q s) :
    ResOk q (execUeSdiv n w s) := by
  unfold execUeSdiv
  simp (maxDischargeDepth := 60) +contextual only [hs, ResOk_next, implies_true, State.ueStep_ok, State.ueScalar_ok]

theorem execUeSfma_ok {q : List Instr} (n : Nat) (w : BitVec 58) {s : State} (hs : State.Ok q s) :
    ResOk q (execUeSfma n w s) := by
  unfold execUeSfma
  simp (maxDischargeDepth := 60) +contextual only [hs, ResOk_next, implies_true, State.ueStep_ok, State.ueScalar_ok]

theorem execUeSmul_ok {q : List Instr} (n : Nat) (w : BitVec 58) {s : State} (hs : State.Ok q s) :
    ResOk q (execUeSmul n w s) := by
  unfold execUeSmul
  simp (maxDischargeDepth := 60) +contextual only [hs, ResOk_next, implies_true, State.ueStep_ok, State.ueScalar_ok]

theorem execUeSpowi_ok {q : List Instr} (n : Nat) (w : BitVec 58) {s : State} (hs : State.Ok q s) :
    ResOk q (execUeSpowi n w s) := by
  unfold execUeSpowi
  simp (maxDischargeDepth := 60) +contextual only [hs, ResOk_next, implies_true, State.ueStep_ok, State.orFlags_ok,
      State.setUe_ok]

theorem execUeSqacc_ok {q : List Instr} (n : Nat) (w : BitVec 58) {s : State} (hs : State.Ok q s) :
    ResOk q (execUeSqacc n w s) := by
  unfold execUeSqacc
  simp (maxDischargeDepth := 60) +contextual only [hs, ResOk_next, implies_true, State.ueStep_ok, State.ueSqacc_ok]

theorem execUeSsqrt_ok {q : List Instr} (n : Nat) (w : BitVec 58) {s : State} (hs : State.Ok q s) :
    ResOk q (execUeSsqrt n w s) := by
  unfold execUeSsqrt
  simp (maxDischargeDepth := 60) +contextual only [hs, ResOk_next, implies_true, State.ueStep_ok, State.ueScalar_ok]

theorem execUeSt_ok {q : List Instr} (n : Nat) (w : BitVec 58) {s : State} (hs : State.Ok q s) :
    ResOk q (execUeSt n w s) := by
  unfold execUeSt
  simp (maxDischargeDepth := 60) +contextual only [hs, Ok_ite, ResOk_next, ite_self, implies_true, State.setStall_ok,
      State.ueStep_ok, State.ueSt_ok]

end Sys2Proof.Machine
end

