-- ==== Sys2Proof/Laws/KeepTick.lean ====
section
/-! SUPPORT. What the step unit, power, time and the tick keep (see Laws/Keep). -/

set_option autoImplicit false

namespace Sys2Proof.Machine

open Sys2Proof

set_option simprocs false

theorem State.setStep_ok {q : List Instr} {s : State} (u : StepUnit) (hs : State.Ok q s) :
    State.Ok q (State.setStep s u) := by
  unfold State.setStep
  simp (maxDischargeDepth := 60) only [hs, Ok_mk, OkParts_state]

theorem State.authorise_ok {q : List Instr} {s : State} (step : Nat) (token : Nat) (tag : Nat) (hs : State.Ok q s) :
    State.Ok q (State.authorise s step token tag).1 := by
  unfold State.authorise
  repeat' (first
    | assumption
    | simp (maxDischargeDepth := 60) only [hs, Ok_ite, ite_self, State.stepWindow_ok, State.setStep_ok, State.wr_ok]
    | split)

theorem State.commitActions_ok {q : List Instr} {s : State} (n : Nat) (hs : State.Ok q s) :
    State.Ok q (State.commitActions s n) := by
  unfold State.commitActions
  simp (maxDischargeDepth := 60) only [hs, State.wr_ok, State.statPromoteAll_ok, State.sinCommit_ok, State.bump_ok,
      State.setStep_ok, State.event_ok]

theorem State.catchUp_ok {q : List Instr} {s : State} (tag : Nat) (hs : State.Ok q s) :
    State.Ok q (State.catchUp s tag).1 := by
  unfold State.catchUp
  repeat' (first
    | assumption
    | simp (maxDischargeDepth := 60) only [hs, State.commitActions_ok]
    | split)

theorem State.commitTick_ok {q : List Instr} {s : State} (n : Nat) (hs : State.Ok q s) :
    State.Ok q (State.commitTick s n).1 := by
  unfold State.commitTick
  repeat' (first
    | assumption
    | simp (maxDischargeDepth := 60) only [hs, Ok_ite, ite_self, State.setStep_ok, State.commitActions_ok, State.bump_ok,
          State.wr_ok, State.raise_ok, State.event_ok]
    | split)

theorem State.secureNow_ok {q : List Instr} {s : State} (step : Nat) (tag : Nat) (hs : State.Ok q s) :
    State.Ok q (State.secureNow s step tag).1 := by
  unfold State.secureNow
  repeat' (first
    | assumption
    | simp (maxDischargeDepth := 60) only [hs, State.stepWindow_ok, State.wr_ok, State.setSin_ok]
    | split)

theorem State.takeVote_ok {q : List Instr} {s : State} (t : StepTable) (hs : State.Ok q s) :
    State.Ok q (State.takeVote s t) := by
  unfold State.takeVote
  repeat' (first
    | assumption
    | simp (maxDischargeDepth := 60) only [hs, State.sinCountCheck_ok, State.advanceTo_ok, State.wr_ok, State.setStep_ok,
          State.sendSignal_ok, State.raise_ok]
    | split)

theorem execCommitVote_ok {q : List Instr} {s : State} (hs : State.Ok q s) :
    ResOk q (execCommitVote s) := by
  unfold execCommitVote
  repeat' (first
    | assumption
    | simp (maxDischargeDepth := 60) only [hs, ResOk_ite, ResOk_next, ite_self, State.takeVote_ok]
    | split)

theorem execSecureNow_ok {q : List Instr} (tag : Nat) (step : Nat) {s : State} (hs : State.Ok q s) :
    ResOk q (execSecureNow tag step s) := by
  unfold execSecureNow
  simp (maxDischargeDepth := 60) +contextual only [hs, ResOk_next, implies_true, FstOk_eq, State.serve_ok,
      State.secureNow_ok]

theorem execStepCommit_ok {q : List Instr} (tag : Nat) (step : Nat) (token : Nat) {s : State} (hs : State.Ok q s) :
    ResOk q (execStepCommit tag step token s) := by
  unfold execStepCommit
  exact State.serve_ok _ _ _ hs fun s hs => (FstOk_eq q _).mpr (State.authorise_ok _ _ _ hs)

theorem execStepCommitCatchup_ok {q : List Instr} (tag : Nat) {s : State} (hs : State.Ok q s) :
    ResOk q (execStepCommitCatchup tag s) := by
  unfold execStepCommitCatchup
  simp (maxDischargeDepth := 60) +contextual only [hs, ResOk_next, implies_true, FstOk_eq, State.serve_ok, State.catchUp_ok]

theorem State.setFum_ok {q : List Instr} {s : State} (u : FumUnit) (hs : State.Ok q s) :
    State.Ok q (State.setFum s u) := by
  unfold State.setFum
  simp (maxDischargeDepth := 60) only [hs, Ok_mk, OkParts_state]

theorem State.dropRecord_ok {q : List Instr} {s : State} (hs : State.Ok q s) :
    State.Ok q (State.dropRecord s) := by
  unfold State.dropRecord
  simp (maxDischargeDepth := 60) only [hs, Ok_ite, ite_self, State.bump_ok, State.setFum_ok, State.raise_ok]

theorem State.emitRecAt_ok {q : List Instr} {s : State} (typ : Nat) (sub : Nat) (stamp : Nat) (body : List Byte) (hs :
    State.Ok q s) :
    State.Ok q (State.emitRecAt s typ sub stamp body) := by
  unfold State.emitRecAt
  simp (maxDischargeDepth := 60) only [hs, State.dropRecord_ok, State.wr_ok, State.setFum_ok]

theorem State.emitRec_ok {q : List Instr} {s : State} (typ : Nat) (sub : Nat) (body : List Byte) (hs : State.Ok q s) :
    State.Ok q (State.emitRec s typ sub body) := by
  unfold State.emitRec
  simp (maxDischargeDepth := 60) only [hs, State.emitRecAt_ok]

theorem State.emitAlert_ok {q : List Instr} {s : State} (sources : Nat) (hs : State.Ok q s) :
    State.Ok q (State.emitAlert s sources) := by
  unfold State.emitAlert
  simp (maxDischargeDepth := 60) only [hs, State.emitRec_ok]

theorem State.emitState_ok {q : List Instr} {s : State} (old : Nat) (new : Nat) (cause : Nat) (hs : State.Ok q s) :
    State.Ok q (State.emitState s old new cause) := by
  unfold State.emitState
  simp (maxDischargeDepth := 60) only [hs, State.emitRec_ok]

theorem State.setPwr_ok {q : List Instr} {s : State} (u : PwrUnit) (hs : State.Ok q s) :
    State.Ok q (State.setPwr s u) := by
  unfold State.setPwr
  simp (maxDischargeDepth := 60) only [hs, Ok_mk, OkParts_state]

theorem State.setOp_ok {q : List Instr} {s : State} (op : Nat) (hs : State.Ok q s) :
    State.Ok q (State.setOp s op) := by
  unfold State.setOp
  simp (maxDischargeDepth := 60) only [hs, Ok_ite, Ok_mk, OkParts_state, ite_self, State.wr_ok]

theorem State.alertFall_ok {q : List Instr} {s : State} (hs : State.Ok q s) :
    State.Ok q (State.alertFall s) := by
  unfold State.alertFall
  simp (maxDischargeDepth := 60) only [hs, Ok_ite, ite_self, State.setOp_ok, State.setPwr_ok]

theorem State.alertLevel_ok {q : List Instr} {s : State} (level : Nat) (hs : State.Ok q s) :
    State.Ok q (State.alertLevel s level) := by
  unfold State.alertLevel
  simp (maxDischargeDepth := 60) +contextual only [hs, Ok_ite, ite_self, implies_true, State.wr_ok, State.bump_ok,
      State.raise_ok, State.emitAlert_ok, State.alertFall_ok, State.setPwr_ok, foldl_ok]

theorem State.capCheck_ok {q : List Instr} {s : State} (hs : State.Ok q s) :
    State.Ok q (State.capCheck s) := by
  unfold State.capCheck
  simp (maxDischargeDepth := 60) only [hs, State.setPwr_ok]

theorem State.checkDeclared_ok {q : List Instr} {s : State} (hs : State.Ok q s) :
    State.Ok q (State.checkDeclared s) := by
  unfold State.checkDeclared
  simp (maxDischargeDepth := 60) only [hs, Ok_ite, ite_self, State.setPwr_ok, State.raise_ok]

theorem State.gbStep_ok {q : List Instr} {s : State} (hs : State.Ok q s) :
    State.Ok q (State.gbStep s) := by
  unfold State.gbStep
  repeat' (first
    | assumption
    | simp (maxDischargeDepth := 60) only []
    | split
    | refine foldl_ok (fun s a hs => ?_) _ ?_
    | refine foldl_fst_ok (fun s b a hs => ?_) _ ?_)

theorem State.showFrameEnergy_ok {q : List Instr} {s : State} (energy : Nat) (coreA : Nat) (coreB : Nat) (hs : State.Ok q s)
    :
    State.Ok q (State.showFrameEnergy s energy coreA coreB) := by
  unfold State.showFrameEnergy
  simp (maxDischargeDepth := 60) only [hs, State.wr_ok]

theorem State.powerAverages_ok {q : List Instr} {s : State} (hs : State.Ok q s) :
    State.Ok q (State.powerAverages s) := by
  unfold State.powerAverages
  simp (maxDischargeDepth := 60) only [hs, Ok_ite, ite_self, State.wr_ok]

theorem State.latchEnergy_ok {q : List Instr} {s : State} (t : Nat) (hs : State.Ok q s) :
    State.Ok q (State.latchEnergy s t) := by
  unfold State.latchEnergy
  simp (maxDischargeDepth := 60) only [hs, State.wr_ok, State.showFrameEnergy_ok, State.setPwr_ok, State.powerAverages_ok]

theorem State.opTick_ok {q : List Instr} {s : State} (hs : State.Ok q s) :
    State.Ok q (State.opTick s) := by
  unfold State.opTick
  simp (maxDischargeDepth := 60) only [hs, Ok_ite, ite_self, State.setOp_ok, State.setPwr_ok, State.wr_ok]

theorem State.paceApply_ok {q : List Instr} {s : State} (n : Nat) (hs : State.Ok q s) :
    State.Ok q (State.paceApply s n) := by
  unfold State.paceApply
  repeat' (first
    | assumption
    | simp (maxDischargeDepth := 60) only [hs, Ok_ite, ite_self, State.wr_ok, State.setPwr_ok]
    | split)

theorem State.sendPace_ok {q : List Instr} {s : State} (unit : Nat) (tick : Nat) (op : Nat) (level : Nat) (p : Nat) (hs :
    State.Ok q s) :
    State.Ok q (State.sendPace s unit tick op level p) := by
  unfold State.sendPace
  simp (maxDischargeDepth := 60) only [hs, State.present_ok]

theorem State.sendDecision_ok {q : List Instr} {s : State} (d : PaceDecision) (hs : State.Ok q s) :
    State.Ok q (State.sendDecision s d) := by
  unfold State.sendDecision
  simp (maxDischargeDepth := 60) +contextual only [hs, implies_true, State.sendPace_ok, foldl_ok]

theorem State.paceStep_ok {q : List Instr} {s : State} (hs : State.Ok q s) :
    State.Ok q (State.paceStep s) := by
  unfold State.paceStep
  repeat' (first
    | assumption
    | simp (maxDischargeDepth := 60) only [hs, Ok_ite, ite_self, State.setPwr_ok, State.sendPace_ok,
          State.sendDecision_ok, State.raise_ok]
    | split)

theorem State.thermStep_ok {q : List Instr} {s : State} (hs : State.Ok q s) :
    State.Ok q (State.thermStep s) := by
  unfold State.thermStep
  simp (maxDischargeDepth := 60) only [hs, State.wr_ok]

theorem State.roundTick_ok {q : List Instr} {s : State} (n : Nat) (hs : State.Ok q s) :
    State.Ok q (State.roundTick s n) := by
  unfold State.roundTick
  simp (maxDischargeDepth := 60) only [hs, Ok_ite, Ok_mk, OkParts_state, ite_self, State.capCheck_ok, State.thermStep_ok,
      State.wr_ok, State.setPwr_ok, State.paceStep_ok]

theorem State.powerRound_ok {q : List Instr} {s : State} (n : Nat) (hs : State.Ok q s) :
    State.Ok q (State.powerRound s n) := by
  unfold State.powerRound
  simp (maxDischargeDepth := 60) only [hs, Ok_ite, ite_self, State.roundTick_ok]

theorem State.powerTick_ok {q : List Instr} {s : State} (n : Nat) (hs : State.Ok q s) :
    State.Ok q (State.powerTick s n) := by
  unfold State.powerTick
  simp (maxDischargeDepth := 60) only [hs, State.gbStep_ok, State.opTick_ok, State.paceApply_ok]

theorem State.takePaceDecision_ok {q : List Instr} {s : State} (p : Nat) (m : Msg) (hs : State.Ok q s) :
    State.Ok q (State.takePaceDecision s p m) := by
  unfold State.takePaceDecision
  repeat' (first
    | assumption
    | simp (maxDischargeDepth := 60) only [hs, Ok_ite, State.raise_ok, State.sendDecision_ok, State.setPwr_ok]
    | split)

theorem State.takePaceReport_ok {q : List Instr} {s : State} (p : Nat) (m : Msg) (hs : State.Ok q s) :
    State.Ok q (State.takePaceReport s p m) := by
  unfold State.takePaceReport
  repeat' (first
    | assumption
    | simp (maxDischargeDepth := 60) only [hs, Ok_ite, ite_self, State.paceStep_ok, State.setPwr_ok]
    | split)

theorem State.boundary_ok {q : List Instr} {s : State} (hs : State.Ok q s) :
    State.Ok q (State.boundary s) := by
  unfold State.boundary
  simp (maxDischargeDepth := 60) only [hs, Ok_mk, OkParts_state, State.redBoundary_ok]

theorem State.noteStaleFrame_ok {q : List Instr} {s : State} (hs : State.Ok q s) :
    State.Ok q (State.noteStaleFrame s) := by
  unfold State.noteStaleFrame
  simp (maxDischargeDepth := 60) only [hs, Ok_ite, Ok_mk, OkParts_state, ite_self, State.raise_ok]

theorem State.restartPort_ok {q : List Instr} {s : State} (p : Nat) (hs : State.Ok q s) :
    State.Ok q (State.restartPort s p) := by
  unfold State.restartPort
  simp (maxDischargeDepth := 60) +contextual only [hs, Ok_ite, Ok_mk, OkParts_state, ite_self, implies_true, State.setRx_ok,
      State.bump_ok, State.wr_ok, foldl_ok]

theorem State.latchPort_ok {q : List Instr} {s : State} (p : Nat) (hs : State.Ok q s) :
    State.Ok q (State.latchPort s p) := by
  unfold State.latchPort
  simp (maxDischargeDepth := 60) only [hs, Ok_ite, Ok_mk, OkParts_state, ite_self, State.emitLink_ok]

theorem State.latchLedger_ok {q : List Instr} {s : State} (hs : State.Ok q s) :
    State.Ok q (State.latchLedger s) := by
  unfold State.latchLedger
  simp (maxDischargeDepth := 60) +contextual only [hs, Ok_mk, OkParts_state, implies_true, State.wr_ok,
      State.restartPort_ok, State.latchPort_ok, foldl_ok]

theorem State.latchSkips_ok {q : List Instr} {s : State} (hs : State.Ok q s) :
    State.Ok q (State.latchSkips s) := by
  unfold State.latchSkips
  simp (maxDischargeDepth := 60) +contextual only [hs, implies_true, State.wr_ok, State.setPwr_ok, foldl_ok]

theorem State.frameRecord_ok {q : List Instr} {s : State} (hs : State.Ok q s) :
    State.Ok q (State.frameRecord s) := by
  unfold State.frameRecord
  simp (maxDischargeDepth := 60) only [hs, Ok_ite, ite_self, State.setFum_ok, State.emitRec_ok]

theorem State.endFrame_ok {q : List Instr} {s : State} (t : Nat) (hs : State.Ok q s) :
    State.Ok q (State.endFrame s t) := by
  unfold State.endFrame
  simp (maxDischargeDepth := 60) only [hs, Ok_mk, OkParts_state, State.noteStaleFrame_ok, State.latchLedger_ok,
      State.latchEnergy_ok, State.latchSkips_ok, State.frameRecord_ok]

theorem State.enterFrame_ok {q : List Instr} {s : State} (n : Nat) (cycle : Nat) (hs : State.Ok q s) :
    State.Ok q (State.enterFrame s n cycle) := by
  unfold State.enterFrame
  simp (maxDischargeDepth := 60) only [hs, Ok_mk, OkParts_state, State.wr_ok]

theorem State.setTime_ok {q : List Instr} {s : State} (u : TimeDisc) (hs : State.Ok q s) :
    State.Ok q (State.setTime s u) := by
  unfold State.setTime
  simp (maxDischargeDepth := 60) only [hs, Ok_mk, OkParts_state]

theorem State.takeParent_ok {q : List Instr} {s : State} (p : Nat) (hs : State.Ok q s) :
    State.Ok q (State.takeParent s p) := by
  unfold State.takeParent
  simp (maxDischargeDepth := 60) only [hs, Ok_ite, ite_self, State.wr_ok, State.setTime_ok]

theorem State.noParent_ok {q : List Instr} {s : State} (atTick : Bool) (hs : State.Ok q s) :
    State.Ok q (State.noParent s atTick) := by
  unfold State.noParent
  simp (maxDischargeDepth := 60) only [hs, Ok_ite, ite_self, State.wr_ok, State.setTime_ok, State.raise_ok]

theorem State.chooseParent_ok {q : List Instr} {s : State} (atTick : Bool) (hs : State.Ok q s) :
    State.Ok q (State.chooseParent s atTick) := by
  unfold State.chooseParent
  repeat' (first
    | assumption
    | simp (maxDischargeDepth := 60) only [hs, Ok_ite, State.takeParent_ok, State.noParent_ok]
    | split)

theorem State.steer_ok {q : List Instr} {s : State} (off : Int) (hs : State.Ok q s) :
    State.Ok q (State.steer s off) := by
  unfold State.steer
  simp (maxDischargeDepth := 60) only [hs, Ok_mk, OkParts_state, State.wr_ok]

theorem State.ppsAccept_ok {q : List Instr} {s : State} (off : Int) (hs : State.Ok q s) :
    State.Ok q (State.ppsAccept s off) := by
  unfold State.ppsAccept
  simp (maxDischargeDepth := 60) only [hs, Ok_ite, ite_self, State.setTime_ok, State.wr_ok, State.steer_ok]

theorem State.ppsOutside_ok {q : List Instr} {s : State} (off : Int) (w : Int) (hs : State.Ok q s) :
    State.Ok q (State.ppsOutside s off w) := by
  unfold State.ppsOutside
  simp (maxDischargeDepth := 60) only [hs, Ok_ite, ite_self, State.setTime_ok, State.raise_ok]

theorem State.sendProbes_ok {q : List Instr} {s : State} (hs : State.Ok q s) :
    State.Ok q (State.sendProbes s) := by
  unfold State.sendProbes
  simp (maxDischargeDepth := 60) +contextual only [hs, Ok_ite, ite_self, implies_true, State.emitLink_ok, foldl_ok]

theorem State.setReport_ok {q : List Instr} {s : State} (p : Nat) (r : Neighbour) (hs : State.Ok q s) :
    State.Ok q (State.setReport s p r) := by
  unfold State.setReport
  simp (maxDischargeDepth := 60) only [hs, State.setTime_ok]

theorem State.timeTick_ok {q : List Instr} {s : State} (hs : State.Ok q s) :
    State.Ok q (State.timeTick s) := by
  unfold State.timeTick
  simp (maxDischargeDepth := 60) only [hs, Ok_ite, ite_self, State.setTime_ok, State.wr_ok, State.chooseParent_ok]

theorem execHoldoverEnter_ok {q : List Instr} {s : State} (hs : State.Ok q s) :
    ResOk q (execHoldoverEnter s) := by
  unfold execHoldoverEnter
  repeat' (first
    | assumption
    | simp (maxDischargeDepth := 60) only [hs, ResOk_ite, ResOk_next, ite_self, State.advanceTime_ok, State.setTime_ok,
          State.raise_ok, State.wr_ok]
    | split)

theorem execHoldoverExpire_ok {q : List Instr} {s : State} (hs : State.Ok q s) :
    ResOk q (execHoldoverExpire s) := by
  unfold execHoldoverExpire
  simp (maxDischargeDepth := 60) only [hs, ResOk_ite, ResOk_next, ite_self, State.advanceTime_ok, State.raise_ok,
      State.setTime_ok]

theorem execPpsInEdge_ok {q : List Instr} {s : State} (hs : State.Ok q s) :
    ResOk q (execPpsInEdge s) := by
  unfold execPpsInEdge
  simp (maxDischargeDepth := 60) only [hs, Ok_ite, ResOk_ite, ResOk_next, ite_self, State.wr_ok, State.ppsAccept_ok,
      State.ppsOutside_ok]

theorem execPpsOutEdge_ok {q : List Instr} {s : State} (hs : State.Ok q s) :
    ResOk q (execPpsOutEdge s) := by
  unfold execPpsOutEdge
  simp (maxDischargeDepth := 60) only [hs, Ok_ite, ResOk_ite, ResOk_next, ite_self, State.advanceTime_ok, State.setTime_ok]

theorem execTimeAlignReject_ok {q : List Instr} {s : State} (hs : State.Ok q s) :
    ResOk q (execTimeAlignReject s) := by
  unfold execTimeAlignReject
  repeat' (first
    | assumption
    | simp (maxDischargeDepth := 60) only [hs, ResOk_ite, ResOk_next, ite_self, State.raise_ok, State.chooseParent_ok,
          State.setReport_ok]
    | split)

theorem execTimeProbe_ok {q : List Instr} (p : Nat) (hops : Nat) (anchored : Bool) (backup : Nat) (off : Int) {s : State}
    (hs : State.Ok q s) :
    ResOk q (execTimeProbe p hops anchored backup off s) := by
  unfold execTimeProbe
  simp (maxDischargeDepth := 60) only [hs, Ok_ite, ResOk_ite, ResOk_next, ite_self, State.setReport_ok, State.steer_ok,
      State.wr_ok, State.setTime_ok]

theorem State.abortInbound_ok {q : List Instr} {s : State} (b : Inbound) (hs : State.Ok q s) :
    State.Ok q (State.abortInbound s b) := by
  unfold State.abortInbound
  simp (maxDischargeDepth := 60) only [hs, Ok_ite, ite_self, State.takeFree_ok, State.storePart_ok]

theorem State.abortTile_ok {q : List Instr} {s : State} (t : Nat) (hs : State.Ok q s) :
    State.Ok q (State.abortTile s t) := by
  unfold State.abortTile
  simp (maxDischargeDepth := 60) only [hs, Ok_ite, ite_self, State.creditAll_ok, State.setVe_ok, State.setTile_ok]

theorem State.abortXfers_ok {q : List Instr} {s : State} (e : Nat) (hs : State.Ok q s) :
    State.Ok q (State.abortXfers s e) := by
  unfold State.abortXfers
  simp (maxDischargeDepth := 60) +contextual only [hs, implies_true, State.dropVent_ok, State.storePart_ok,
      State.setStall_ok, State.setXeng_ok, foldl_ok]

theorem State.dropUnsent_ok {q : List Instr} {s : State} (hs : State.Ok q s) :
    State.Ok q (State.dropUnsent s) := by
  unfold State.dropUnsent
  simp (maxDischargeDepth := 60) only [hs, Ok_mk, OkParts_state]

theorem State.abortUnits_ok {q : List Instr} {s : State} (hs : State.Ok q s) :
    State.Ok q (State.abortUnits s) := by
  unfold State.abortUnits
  simp (maxDischargeDepth := 60) +contextual only [hs, Ok_mk, OkParts_state, implies_true, State.abortTile_ok,
      State.abortXfers_ok, State.abortInbound_ok, State.redAbort_ok, State.dropUnsent_ok, foldl_ok]

theorem State.acceptAbort_ok {q : List Instr} {s : State} (n : Nat) (tag : Nat) (restart : Nat) (hs : State.Ok q s) :
    State.Ok q (State.acceptAbort s n tag restart) := by
  unfold State.acceptAbort
  simp (maxDischargeDepth := 60) only [hs, Ok_ite, Ok_mk, OkParts_state, ite_self, State.raise_ok, State.abortUnits_ok,
      State.event_ok, State.takeoverStep_ok, State.answer_ok]

theorem State.timeoutsFirst_ok {q : List Instr} {s : State} (hs : State.Ok q s) :
    State.Ok q (State.timeoutsFirst s) := by
  unfold State.timeoutsFirst
  simp (maxDischargeDepth := 60) +contextual only [hs, implies_true, State.waitExpires_ok, foldl_ok]

theorem State.acceptAborts_ok {q : List Instr} {s : State} (n : Nat) (hs : State.Ok q s) :
    State.Ok q (State.acceptAborts s n) := by
  unfold State.acceptAborts
  simp (maxDischargeDepth := 60) +contextual only [hs, Ok_ite, Ok_mk, OkParts_state, ite_self, implies_true,
      State.timeoutsFirst_ok, State.acceptAbort_ok, foldl_ok]

theorem State.stepAbort_ok {q : List Instr} {s : State} (restart : Nat) (tag : Nat) (hs : State.Ok q s) :
    State.Ok q (State.stepAbort s restart tag).1 := by
  unfold State.stepAbort
  repeat' (first
    | assumption
    | simp (maxDischargeDepth := 60) only []
    | split)

theorem execStepAbort_ok {q : List Instr} (tag : Nat) (restart : Nat) {s : State} (hs : State.Ok q s) :
    ResOk q (execStepAbort tag restart s) := by
  unfold execStepAbort
  simp (maxDischargeDepth := 60) +contextual only [hs, ResOk_next, implies_true, FstOk_eq, State.serve_ok,
      State.stepAbort_ok]

theorem State.enterTile_ok {q : List Instr} {s : State} (t : Nat) (hs : State.Ok q s) :
    State.Ok q (State.enterTile s t) := by
  unfold State.enterTile
  simp (maxDischargeDepth := 60) only [hs, Ok_ite, ite_self, State.setVe_ok, State.raiseSlot_ok, State.bump_ok,
      State.setTile_ok]

theorem State.clearAlive_ok {q : List Instr} {s : State} (hs : State.Ok q s) :
    State.Ok q (State.clearAlive s) := by
  unfold State.clearAlive
  simp (maxDischargeDepth := 60) +contextual only [hs, implies_true, State.wr_ok, foldl_ok]

theorem State.enterBody_ok {q : List Instr} {s : State} (n : Nat) (hs : State.Ok q s) :
    State.Ok q (State.enterBody s n) := by
  unfold State.enterBody
  simp (maxDischargeDepth := 60) +contextual only [hs, Ok_mk, OkParts_state, implies_true, State.enterTile_ok,
      State.clearAlive_ok, State.statClearAll_ok, State.redBodyEntry_ok, State.sinBodyEntry_ok, State.purgeStale_ok,
      foldl_ok]

theorem State.noteFetch_ok {q : List Instr} {s : State} (p : ProgHeader) (d : DirEntry) (hs : State.Ok q s) :
    State.Ok q (State.noteFetch s p d) := by
  unfold State.noteFetch
  simp (maxDischargeDepth := 60) only [hs, Ok_ite, ite_self, State.raiseSlot_ok]

theorem State.loadLists_ok {q : List Instr} {s : State} (p : ProgHeader) (f : Nat) (n : Nat) (hs : State.Ok q s) :
    State.Ok q (State.loadLists s p f n) := by
  unfold State.loadLists
  simp (maxDischargeDepth := 60) +contextual only [hs, Ok_mk, OkParts_state, implies_true, State.noteFetch_ok,
      State.setRed_ok, State.setVe_ok, foldl_ok]

theorem State.advanceFrame_ok {q : List Instr} {s : State} (p : ProgHeader) (f : Nat) (n : Nat) (hs : State.Ok q s) :
    State.Ok q (State.advanceFrame s p f n) := by
  unfold State.advanceFrame
  simp (maxDischargeDepth := 60) only [hs, Ok_ite, Ok_mk, OkParts_state, ite_self, State.enterBody_ok, State.rotateAll_ok,
      State.wr_ok, State.loadLists_ok]

theorem State.idleFrame_ok {q : List Instr} {s : State} (hs : State.Ok q s) :
    State.Ok q (State.idleFrame s) := by
  unfold State.idleFrame
  simp (maxDischargeDepth := 60) only [hs, Ok_mk, OkParts_state, State.bump_ok]

theorem State.stopProgram_ok {q : List Instr} {s : State} (hs : State.Ok q s) :
    State.Ok q (State.stopProgram s) := by
  unfold State.stopProgram
  simp (maxDischargeDepth := 60) only [hs, Ok_mk, OkParts_state, State.event_ok, State.setPwr_ok]

theorem State.haltStep_ok {q : List Instr} {s : State} (hs : State.Ok q s) :
    State.Ok q (State.haltStep s) := by
  unfold State.haltStep
  simp (maxDischargeDepth := 60) only [hs, Ok_ite, Ok_mk, OkParts_state, ite_self]

theorem State.fetchLate_ok {q : List Instr} {s : State} (p : ProgHeader) (f : Nat) (late : List Nat) (hs : State.Ok q s) :
    State.Ok q (State.fetchLate s p f late) := by
  unfold State.fetchLate
  simp (maxDischargeDepth := 60) +contextual only [hs, Ok_ite, ite_self, implies_true, State.haltStep_ok, State.raise_ok,
      foldl_ok]

theorem State.advanceNext_ok {q : List Instr} {s : State} (p : ProgHeader) (n : Nat) (late : List Nat) (hs : State.Ok q s) :
    State.Ok q (State.advanceNext s p n late) := by
  unfold State.advanceNext
  repeat' (first
    | assumption
    | simp (maxDischargeDepth := 60) only [hs, Ok_ite, Ok_mk, OkParts_state, ite_self, State.idleFrame_ok,
          State.stopProgram_ok, State.fetchLate_ok, State.advanceFrame_ok]
    | split)

theorem State.nextBoundary_ok {q : List Instr} {s : State} (hs : State.Ok q s) :
    State.Ok q (State.nextBoundary s) := by
  unfold State.nextBoundary
  simp (maxDischargeDepth := 60) only [hs, State.setPwr_ok]

theorem State.fillsLate_ok {q : List Instr} {s : State} (hs : State.Ok q s) :
    State.Ok q (State.fillsLate s) := by
  unfold State.fillsLate
  simp (maxDischargeDepth := 60) +contextual only [hs, Ok_ite, ite_self, implies_true, State.haltStep_ok,
      State.raiseSlot_ok, foldl_ok]

theorem State.enterAt_ok {q : List Instr} {s : State} (p : ProgHeader) (f : Nat) (n : Nat) (late : List Nat) (hs : State.Ok
    q s) :
    State.Ok q (State.enterAt s p f n late) := by
  unfold State.enterAt
  simp (maxDischargeDepth := 60) only [hs, Ok_ite, Ok_mk, OkParts_state, ite_self, State.fetchLate_ok, State.fillsLate_ok,
      State.idleFrame_ok, State.advanceFrame_ok]

theorem State.boundaryTick_ok {q : List Instr} {s : State} (p : ProgHeader) (n : Nat) (late : List Nat) (hs : State.Ok q s) :
    State.Ok q (State.boundaryTick s p n late) := by
  unfold State.boundaryTick
  repeat' (first
    | assumption
    | simp (maxDischargeDepth := 60) only [hs, Ok_ite, ite_self, State.nextBoundary_ok, State.enterAt_ok,
          State.idleFrame_ok, State.advanceNext_ok]
    | split)

theorem State.commitDue_ok {q : List Instr} {s : State} (n : Nat) (hs : State.Ok q s) :
    State.Ok q (State.commitDue s n) := by
  unfold State.commitDue
  repeat' (first
    | assumption
    | simp (maxDischargeDepth := 60) only [hs, Ok_ite, ite_self, State.commitTick_ok]
    | split)

theorem State.countFec_ok {q : List Instr} {s : State} (fec : List Nat) (hs : State.Ok q s) :
    State.Ok q (State.countFec s fec) := by
  unfold State.countFec
  simp (maxDischargeDepth := 60) +contextual only [hs, Ok_ite, ite_self, implies_true, State.wr_ok, foldl_ok]

theorem State.tickWork_ok {q : List Instr} {s : State} (n : Nat) (hs : State.Ok q s) :
    State.Ok q (State.tickWork s n) := by
  unfold State.tickWork
  simp (maxDischargeDepth := 60) only [hs, Ok_ite, ite_self, State.addLanes_ok, State.removeLanes_ok, State.takeoverStep_ok,
      State.rotateAll_ok, State.powerRound_ok, State.sendProbes_ok, State.timeTick_ok]

theorem State.noteOverrun_ok {q : List Instr} {s : State} (e : Nat) (hs : State.Ok q s) :
    State.Ok q (State.noteOverrun s e) := by
  unfold State.noteOverrun
  repeat' (first
    | assumption
    | simp (maxDischargeDepth := 60) only [hs, State.setEngine_ok, State.raiseRec_ok]
    | split)

theorem State.overruns_ok {q : List Instr} {s : State} (hs : State.Ok q s) :
    State.Ok q (State.overruns s) := by
  unfold State.overruns
  simp (maxDischargeDepth := 60) +contextual only [hs, Ok_ite, ite_self, implies_true, State.haltStep_ok,
      State.noteOverrun_ok, foldl_ok]

theorem State.geyserTick_ok {q : List Instr} {s : State} (p : ProgHeader) (n : Nat) (late : List Nat) (fec : List Nat) (hs :
    State.Ok q s) :
    State.Ok q (State.geyserTick s p n late fec) := by
  unfold State.geyserTick
  simp (maxDischargeDepth := 60) only [hs, Ok_ite, Ok_mk, OkParts_state, ite_self, State.advanceTime_ok, State.countFec_ok,
      State.endFrame_ok, State.powerTick_ok, State.enterFrame_ok, State.bump_ok, State.commitDue_ok, State.tickWork_ok,
      State.boundary_ok, State.overruns_ok, State.checkDeclared_ok, State.boundaryTick_ok, State.acceptAborts_ok]

theorem State.idleNow_ok {q : List Instr} {s : State} (fec : List Nat) (hs : State.Ok q s) :
    State.Ok q (State.idleNow s fec) := by
  unfold State.idleNow
  simp (maxDischargeDepth := 60) only [hs, Ok_ite, ite_self, State.advanceTime_ok, State.countFec_ok, State.endFrame_ok,
      State.nextBoundary_ok, State.boundary_ok, State.powerTick_ok, State.enterFrame_ok, State.tickWork_ok,
      State.idleFrame_ok]

theorem State.tickNow_ok {q : List Instr} {s : State} (late : List Nat) (fec : List Nat) (hs : State.Ok q s) :
    State.Ok q (State.tickNow s late fec) := by
  unfold State.tickNow
  repeat' (first
    | assumption
    | simp (maxDischargeDepth := 60) only [hs, Ok_ite, ite_self, State.geyserTick_ok]
    | split)

theorem State.amendFrame_ok {q : List Instr} {s : State} (energy : Nat) (coreA : Nat) (coreB : Nat) (hs : State.Ok q s) :
    State.Ok q (State.amendFrame s energy coreA coreB) := by
  unfold State.amendFrame
  repeat' (first
    | assumption
    | simp (maxDischargeDepth := 60) only [hs, Ok_ite, ite_self, State.setPwr_ok, State.showFrameEnergy_ok, State.setFum_ok]
    | split)

theorem State.setCap_ok {q : List Instr} {s : State} (w : Nat) (hs : State.Ok q s) :
    State.Ok q (State.setCap s w).1 := by
  unfold State.setCap
  simp (maxDischargeDepth := 60) only [hs, Ok_ite, ite_self, State.wr_ok, State.raise_ok]

theorem State.setFixedOp_ok {q : List Instr} {s : State} (op : Nat) (tag : Nat) (hs : State.Ok q s) :
    State.Ok q (State.setFixedOp s op tag).1 := by
  unfold State.setFixedOp
  repeat' (first
    | assumption
    | simp (maxDischargeDepth := 60) only [hs, State.wr_ok]
    | split)

theorem State.startBundles_ok {q : List Instr} {s : State} (t : Nat) (sl : Slot) (hs : State.Ok q s) :
    State.Ok q (State.startBundles s t sl) := by
  unfold State.startBundles
  simp (maxDischargeDepth := 60) only [hs, Ok_ite, ite_self, State.setTile_ok, State.settleTile_ok, State.setVe_ok,
      State.raiseSlot_ok]

theorem State.startKind_ok {q : List Instr} {s : State} (e : Nat) (sl : Slot) (hs : State.Ok q s) :
    State.Ok q (State.startKind s e sl) := by
  unfold State.startKind
  repeat' (first
    | assumption
    | simp (maxDischargeDepth := 60) only [hs, Ok_ite, ite_self, State.startBundles_ok, State.settleXfer_ok,
          State.setXeng_ok, State.ueStart_ok, State.settleRed_ok, State.setRed_ok]
    | split)

theorem execCapForced_ok {q : List Instr} {s : State} (hs : State.Ok q s) :
    ResOk q (execCapForced s) := by
  unfold execCapForced
  simp (maxDischargeDepth := 60) only [hs, ResOk_ite, ResOk_next, ite_self, State.setPwr_ok, State.raise_ok, State.wr_ok]

theorem execDroopHeavy_ok {q : List Instr} (h0 : Nat) {s : State} (hs : State.Ok q s) :
    ResOk q (execDroopHeavy h0 s) := by
  unfold execDroopHeavy
  simp (maxDischargeDepth := 60) only [hs, ResOk_ite, ResOk_next, ite_self, State.raise_ok, State.setPwr_ok]

theorem execDroopSkip_ok {q : List Instr} (h0 : Nat) {s : State} (hs : State.Ok q s) :
    ResOk q (execDroopSkip h0 s) := by
  unfold execDroopSkip
  simp (maxDischargeDepth := 60) only [hs, ResOk_next, State.advanceTo_ok, State.bump_ok, State.advanceCycles_ok,
      State.setPwr_ok]

theorem execEnergySample_ok {q : List Instr} (mv : Nat) (ma : Nat) (coreA : Nat) (coreB : Nat) {s : State} (hs : State.Ok q
    s) :
    ResOk q (execEnergySample mv ma coreA coreB s) := by
  unfold execEnergySample
  simp (maxDischargeDepth := 60) only [hs, Ok_ite, ResOk_next, ite_self, State.advanceTime_ok, State.bump_ok,
      State.setPwr_ok, State.amendFrame_ok]

theorem execPaceDecision_ok {q : List Instr} (p : Nat) {s : State} (hs : State.Ok q s) :
    ResOk q (execPaceDecision p s) := by
  unfold execPaceDecision
  repeat' (first
    | assumption
    | simp (maxDischargeDepth := 60) only [hs, ResOk_next, State.takePaceDecision_ok, State.popRx_ok]
    | split)

theorem execPaceReport_ok {q : List Instr} (p : Nat) {s : State} (hs : State.Ok q s) :
    ResOk q (execPaceReport p s) := by
  unfold execPaceReport
  repeat' (first
    | assumption
    | simp (maxDischargeDepth := 60) only [hs, ResOk_next, State.takePaceReport_ok, State.popRx_ok]
    | split)

theorem execPowerAlert_ok {q : List Instr} (level : Nat) {s : State} (hs : State.Ok q s) :
    ResOk q (execPowerAlert level s) := by
  unfold execPowerAlert
  simp (maxDischargeDepth := 60) only [hs, ResOk_ite, ResOk_next, ite_self, State.wr_ok, State.alertLevel_ok]

theorem execPwrAlertClearWrite_ok {q : List Instr} (bits : Nat) {s : State} (hs : State.Ok q s) :
    ResOk q (execPwrAlertClearWrite bits s) := by
  unfold execPwrAlertClearWrite
  simp (maxDischargeDepth := 60) only [hs, ResOk_next, State.wr_ok]

theorem execPwrGbWrite_ok {q : List Instr} (h0 : Nat) (gb : Nat) {s : State} (hs : State.Ok q s) :
    ResOk q (execPwrGbWrite h0 gb s) := by
  unfold execPwrGbWrite
  simp (maxDischargeDepth := 60) only [hs, Ok_ite, ResOk_next, ite_self, State.wr_ok, State.setPwr_ok, State.raise_ok]

theorem execSetCap_ok {q : List Instr} (tag : Nat) (watts : Nat) {s : State} (hs : State.Ok q s) :
    ResOk q (execSetCap tag watts s) := by
  unfold execSetCap
  simp (maxDischargeDepth := 60) +contextual only [hs, ResOk_next, implies_true, FstOk_eq, State.serve_ok, State.setCap_ok]

theorem execSetFixedOp_ok {q : List Instr} (tag : Nat) (op : Nat) {s : State} (hs : State.Ok q s) :
    ResOk q (execSetFixedOp tag op s) := by
  unfold execSetFixedOp
  simp (maxDischargeDepth := 60) +contextual only [hs, ResOk_next, implies_true, FstOk_eq, State.serve_ok,
      State.setFixedOp_ok]

theorem execSlotStart_ok {q : List Instr} (e : Nat) {s : State} (hs : State.Ok q s) :
    ResOk q (execSlotStart e s) := by
  unfold execSlotStart
  repeat' (first
    | assumption
    | simp (maxDischargeDepth := 60) only [hs, ResOk_ite, ResOk_next, ite_self, State.haltStep_ok, State.setEngine_ok,
          State.raiseSlot_ok, State.advanceTo_ok, State.startKind_ok]
    | split)

end Sys2Proof.Machine
end

