-- ==== Sys2Proof/Laws/KeepStart.lean ====
section
/-! SUPPORT. What the arbiters, start-up and the Fumarole island keep (see Laws/Keep). -/

set_option autoImplicit false

namespace Sys2Proof.Machine

open Sys2Proof

set_option simprocs false

theorem State.raiseArb_ok {q : List Instr} {s : State} (e : Err) (inst : Nat) (rank : Nat) (d0 : Nat) (d1 : Nat) (hs :
    State.Ok q s) :
    State.Ok q (State.raiseArb s e inst rank d0 d1) := by
  unfold State.raiseArb
  simp (maxDischargeDepth := 60) only [hs, State.raiseRec_ok]

theorem State.setBus_ok {q : List Instr} {s : State} (u : BusUnit) (hs : State.Ok q s) :
    State.Ok q (State.setBus s u) := by
  unfold State.setBus
  simp (maxDischargeDepth := 60) only [hs, Ok_mk, OkParts_state]

theorem State.replyTo_ok {q : List Instr} {s : State} (req : Nat) (r : BusReply) (hs : State.Ok q s) :
    State.Ok q (State.replyTo s req r) := by
  unfold State.replyTo
  simp (maxDischargeDepth := 60) only [hs, State.setBus_ok]

theorem State.resJudge_ok {q : List Instr} {s : State} (inst : Nat) (rank : Nat) (a : Nat) (hs : State.Ok q s) :
    State.Ok q (State.resJudge s inst rank a).1 := by
  unfold State.resJudge
  repeat' (first
    | assumption
    | simp (maxDischargeDepth := 60) only [hs, State.raiseArb_ok]
    | split)

theorem State.resStore_ok {q : List Instr} {s : State} (a : Nat) (bs : List Byte) (hs : State.Ok q s) :
    State.Ok q (State.resStore s a bs) := by
  unfold State.resStore
  repeat' (first
    | assumption
    | simp (maxDischargeDepth := 60) only [hs, State.clearPoison_ok, State.stBytes_ok]
    | split)

theorem State.resWrite_ok {q : List Instr} {s : State} (inst : Nat) (rank : Nat) (a : Nat) (bs : List Byte) (hs : State.Ok q
    s) :
    State.Ok q (State.resWrite s inst rank a bs) := by
  unfold State.resWrite
  grind (splits := 30) [Ok_mk, OkParts_state, ResOk_next, FstOk_eq, State.resJudge_ok, State.resStore_ok]

theorem State.tearTorn_ok {q : List Instr} {s : State} (inst : Nat) (l : ResLock) (hs : State.Ok q s) :
    State.Ok q (State.tearTorn s inst l) := by
  unfold State.tearTorn
  simp (maxDischargeDepth := 60) only [hs, State.raiseArb_ok, State.bump_ok, State.setLock_ok]

theorem State.tearLocks_ok {q : List Instr} {s : State} (rank : Nat) (hs : State.Ok q s) :
    State.Ok q (State.tearLocks s rank) := by
  unfold State.tearLocks
  refine foldl_ok (fun s a hs => ?_) _ hs
  split
  · split
    · exact State.tearTorn_ok _ _ hs
    · exact hs
  · exact hs

theorem State.tearLong_ok {q : List Instr} {s : State} (inst : Nat) (l : ResLock) (hs : State.Ok q s) :
    State.Ok q (State.tearLong s inst l) := by
  unfold State.tearLong
  simp (maxDischargeDepth := 60) only [hs, State.replyTo_ok, State.raiseArb_ok, State.bump_ok, State.setLock_ok]

theorem State.writeBeats_ok {q : List Instr} {s : State} (rank : Nat) (a2 : List (Nat × Nat)) (a3 : List Byte) (hs :
    State.Ok q s) :
    State.Ok q (State.writeBeats s rank a2 a3) := by
  induction a2 generalizing s a3 with
  | nil => exact hs
  | cons p r ih => exact ih _ (State.resWrite_ok _ _ _ _ (State.countGrant_ok _ hs))

theorem execLockGapTear_ok {q : List Instr} (inst : Nat) {s : State} (hs : State.Ok q s) :
    ResOk q (execLockGapTear inst s) := by
  unfold execLockGapTear
  repeat' (first
    | assumption
    | simp (maxDischargeDepth := 60) only [hs, ResOk_next, State.tearLong_ok]
    | split)

theorem State.setStart_ok {q : List Instr} {s : State} (u : StartUnit) (hs : State.Ok q s) :
    State.Ok q (State.setStart s u) := by
  unfold State.setStart
  simp (maxDischargeDepth := 60) only [hs, Ok_mk, OkParts_state]

theorem State.beginStep_ok {q : List Instr} {s : State} (k : Nat) (hs : State.Ok q s) :
    State.Ok q (State.beginStep s k) := by
  unfold State.beginStep
  simp (maxDischargeDepth := 60) only [hs, State.setStart_ok, State.wr_ok]

theorem State.setPower_ok {q : List Instr} {s : State} (new : Nat) (cause : Nat) (hs : State.Ok q s) :
    State.Ok q (State.setPower s new cause) := by
  unfold State.setPower
  simp (maxDischargeDepth := 60) only [hs, Ok_ite, ite_self, State.setPend_ok, State.emitState_ok, State.wr_ok]

theorem State.becomeReady_ok {q : List Instr} {s : State} (hs : State.Ok q s) :
    State.Ok q (State.becomeReady s) := by
  unfold State.becomeReady
  simp (maxDischargeDepth := 60) only [hs, Ok_ite, ite_self, State.wr_ok, State.beginStep_ok, State.setStart_ok,
      State.setPower_ok]

theorem State.beginRails_ok {q : List Instr} {s : State} (cause : Nat) (hs : State.Ok q s) :
    State.Ok q (State.beginRails s cause) := by
  unfold State.beginRails
  simp (maxDischargeDepth := 60) only [hs, State.beginStep_ok, State.setPower_ok, State.wr_ok, State.setStart_ok]

theorem State.clearDomain_ok {q : List Instr} {s : State} (d : RegDomain) (unit : Nat → Bool) (hs : State.Ok q s) :
    State.Ok q (State.clearDomain s d unit) := by
  unfold State.clearDomain
  exact ⟨hs.mem, hs.host,
    RegsFit_filter hs.regs fun k => !(domainFields d).any fun q => q.1 == k % 512 && unit (k / 512 / q.2), hs.pend⟩

theorem State.clearCores_ok {q : List Instr} {s : State} (hs : State.Ok q s) :
    State.Ok q (State.clearCores s) := by
  unfold State.clearCores
  simp (maxDischargeDepth := 60) only [hs, State.clearDomain_ok]

theorem State.dropCommands_ok {q : List Instr} {s : State} (hs : State.Ok q s) :
    State.Ok q (State.dropCommands s) := by
  unfold State.dropCommands
  simp (maxDischargeDepth := 60) only [hs, State.setMbx_ok]

theorem State.resetCtrl_ok {q : List Instr} {s : State} (d : Nat) (hs : State.Ok q s) :
    State.Ok q (State.resetCtrl s d) := by
  unfold State.resetCtrl
  simp (maxDischargeDepth := 60) only [hs, Ok_mk, OkParts_state, State.tearLocks_ok, State.wr_ok]

theorem State.leaveJob_ok {q : List Instr} {s : State} (hs : State.Ok q s) :
    State.Ok q (State.leaveJob s) := by
  unfold State.leaveJob
  simp (maxDischargeDepth := 60) +contextual only [hs, Ok_mk, OkParts_state, implies_true, State.wr_ok, foldl_ok]

theorem State.unloadProgram_ok {q : List Instr} {s : State} (hs : State.Ok q s) :
    State.Ok q (State.unloadProgram s) := by
  unfold State.unloadProgram
  simp (maxDischargeDepth := 60) only [hs, Ok_mk, OkParts_state, State.wr_ok]

theorem State.quiesceCore_ok {q : List Instr} {s : State} (hs : State.Ok q s) :
    State.Ok q (State.quiesceCore s) := by
  unfold State.quiesceCore
  exact State.wr_ok _ _ _ (State.leaveJob_ok (State.unloadProgram_ok
    (foldl_ok (fun s a hs => State.tearLocks_ok a hs) _ (State.setStart_ok _ hs))))

theorem State.resetCore_ok {q : List Instr} {s : State} (keepHbm : Bool) (hs : State.Ok q s) :
    State.Ok q (State.resetCore s keepHbm) := by
  unfold State.resetCore
  have h := State.clearCores_ok (State.quiesceCore_ok hs)
  generalize s.quiesceCore.clearCores = r at h
  generalize hbmEnd = e
  exact ⟨Memory.wf_filter _ h.mem, h.host, h.regs, h.pend⟩

theorem State.resetHa_ok {q : List Instr} {s : State} (hs : State.Ok q s) :
    State.Ok q (State.resetHa s) := by
  unfold State.resetHa
  simp (maxDischargeDepth := 60) only [hs, State.tearLocks_ok, State.clearDomain_ok, State.wr_ok, State.setStart_ok,
      State.setMbx_ok]

theorem State.powerDown_ok {q : List Instr} {s : State} (keepHbm : Bool) (hs : State.Ok q s) :
    State.Ok q (State.powerDown s keepHbm) := by
  unfold State.powerDown
  simp (maxDischargeDepth := 60) only [hs, Ok_ite, Ok_mk, OkParts_state, ite_self, State.resetCtrl_ok, State.resetCore_ok,
      State.dropCommands_ok, State.resetHa_ok, State.wr_ok, State.setStart_ok]

theorem State.fallAsleep_ok {q : List Instr} {s : State} (st : Nat) (hs : State.Ok q s) :
    State.Ok q (State.fallAsleep s st) := by
  unfold State.fallAsleep
  simp (maxDischargeDepth := 60) only [hs, State.powerDown_ok, State.postAll_ok, State.setPower_ok, State.setStart_ok]

theorem State.forceDown_ok {q : List Instr} {s : State} (cause : Nat) (hs : State.Ok q s) :
    State.Ok q (State.forceDown s cause) := by
  unfold State.forceDown
  simp (maxDischargeDepth := 60) only [hs, Ok_ite, ite_self, State.powerDown_ok, State.setStart_ok, State.setPower_ok,
      State.wr_ok]

theorem State.releaseDomains_ok {q : List Instr} {s : State} (bad : List Nat) (hs : State.Ok q s) :
    State.Ok q (State.releaseDomains s bad) := by
  unfold State.releaseDomains
  simp (maxDischargeDepth := 60) only [hs, State.wr_ok, State.beginStep_ok, State.setStart_ok, State.loadFuses_ok,
      State.syncClear_ok]

theorem State.resetPort_ok {q : List Instr} {s : State} (p : Nat) (hs : State.Ok q s) :
    State.Ok q (State.resetPort s p) := by
  unfold State.resetPort
  simp (maxDischargeDepth := 60) only [hs, Ok_mk, OkParts_state, State.clearDomain_ok]

theorem State.resetReduction_ok {q : List Instr} {s : State} (hs : State.Ok q s) :
    State.Ok q (State.resetReduction s) := by
  unfold State.resetReduction
  simp (maxDischargeDepth := 60) only [hs, Ok_mk, OkParts_state, State.clearDomain_ok]

theorem State.resetStream_ok {q : List Instr} {s : State} (n : Nat) (hs : State.Ok q s) :
    State.Ok q (State.resetStream s n) := by
  unfold State.resetStream
  simp (maxDischargeDepth := 60) only [hs, Ok_mk, OkParts_state, State.clearDomain_ok]

theorem State.resetUpdate_ok {q : List Instr} {s : State} (n : Nat) (hs : State.Ok q s) :
    State.Ok q (State.resetUpdate s n) := by
  unfold State.resetUpdate
  simp (maxDischargeDepth := 60) only [hs, Ok_mk, OkParts_state, State.clearDomain_ok]

theorem State.rst_ok {q : List Instr} {s : State} (f : Fld) (i : Nat) (hs : State.Ok q s) :
    State.Ok q (State.rst s f i) := by
  unfold State.rst
  simp (maxDischargeDepth := 60) only [hs, State.wr_ok]

theorem State.stepLimit_ok {q : List Instr} {s : State} (k : Nat) (limitS : Nat) (hs : State.Ok q s) :
    State.Ok q (State.stepLimit s k limitS) := by
  unfold State.stepLimit
  simp (maxDischargeDepth := 60) only [hs, Ok_ite, ite_self, State.raise_ok]

theorem State.wake_ok {q : List Instr} {s : State} (bit : Nat) (hs : State.Ok q s) :
    State.Ok q (State.wake s bit) := by
  unfold State.wake
  simp (maxDischargeDepth := 60) only [hs, Ok_ite, ite_self, State.wr_ok, State.setPower_ok, State.releaseDomains_ok,
      State.setStart_ok]

theorem State.setRule_ok {q : List Instr} {s : State} (r : Nat) (v : RuleRun) (hs : State.Ok q s) :
    State.Ok q (State.setRule s r v) := by
  unfold State.setRule
  simp (maxDischargeDepth := 60) only [hs, State.setFum_ok]

theorem State.activate_ok {q : List Instr} {s : State} (r : Nat) (hs : State.Ok q s) :
    State.Ok q (State.activate s r) := by
  unfold State.activate
  simp (maxDischargeDepth := 60) only [hs, Ok_ite, ite_self, State.setRule_ok, State.bump_ok, State.wr_ok]

theorem State.dropDelivered_ok {q : List Instr} {s : State} (hs : State.Ok q s) :
    State.Ok q (State.dropDelivered s) := by
  unfold State.dropDelivered
  simp (maxDischargeDepth := 60) only [hs, Ok_ite, ite_self, State.setFum_ok]

theorem State.evalRule_ok {q : List Instr} {s : State} (r : Nat) (hs : State.Ok q s) :
    State.Ok q (State.evalRule s r) := by
  unfold State.evalRule
  simp (maxDischargeDepth := 60) only [hs, Ok_ite, ite_self, State.setRule_ok, State.wr_ok]

theorem State.noteCalm_ok {q : List Instr} {s : State} (hs : State.Ok q s) :
    State.Ok q (State.noteCalm s) := by
  unfold State.noteCalm
  simp (maxDischargeDepth := 60) only [hs, State.setFum_ok]

theorem State.ruleAlert_ok {q : List Instr} {s : State} (hs : State.Ok q s) :
    State.Ok q (State.ruleAlert s) := by
  unfold State.ruleAlert
  simp (maxDischargeDepth := 60) only [hs, State.alertLevel_ok]

theorem State.thermOut_ok {q : List Instr} {s : State} (hs : State.Ok q s) :
    State.Ok q (State.thermOut s) := by
  unfold State.thermOut
  simp (maxDischargeDepth := 60) only [hs, Ok_ite, ite_self, State.wr_ok, State.raise_ok]

theorem State.ruleOutputs_ok {q : List Instr} {s : State} (hs : State.Ok q s) :
    State.Ok q (State.ruleOutputs s) := by
  unfold State.ruleOutputs
  simp (maxDischargeDepth := 60) only [hs, State.noteCalm_ok, State.ruleAlert_ok, State.thermOut_ok]

theorem State.ruleRecord_ok {q : List Instr} {s : State} (r : Nat) (c : Nat) (hs : State.Ok q s) :
    State.Ok q (State.ruleRecord s r c) := by
  unfold State.ruleRecord
  simp (maxDischargeDepth := 60) only [hs, State.emitRec_ok]

theorem State.sampleChan_ok {q : List Instr} {s : State} (c : Nat) (raw : Nat) (hs : State.Ok q s) :
    State.Ok q (State.sampleChan s c raw) := by
  unfold State.sampleChan
  simp (maxDischargeDepth := 60) only [hs, State.setFum_ok, State.wr_ok]

theorem State.sendRecords_ok {q : List Instr} {s : State} (rank : Nat) (hs : State.Ok q s) :
    State.Ok q (State.sendRecords s rank) := by
  unfold State.sendRecords
  simp (maxDischargeDepth := 60) only [hs, Ok_ite, ite_self, State.setFum_ok, State.present_ok]

theorem State.subscribe_ok {q : List Instr} {s : State} (handle : Nat) (off : Nat) (entries : Nat) (rank : Nat) (tag : Nat)
    (hs : State.Ok q s) :
    State.Ok q (State.subscribe s handle off entries rank tag).1 := by
  unfold State.subscribe
  repeat' (first
    | assumption
    | simp (maxDischargeDepth := 60) only []
    | split)

theorem State.writeRing_ok {q : List Instr} {s : State} (base : Nat) (entries : Nat) (a3 : List TeleRec) (hs : State.Ok q s)
    :
    State.Ok q (State.writeRing s base entries a3).1 := by
  induction a3 generalizing s with
  | nil => exact hs
  | cons r l ih =>
    unfold State.writeRing
    split
    · exact ih hs
    · split
      · exact ih (State.stBytes_ok _ _ hs)
      · exact hs

theorem execFumaroleRuleFire_ok {q : List Instr} (rule : Nat) {s : State} (hs : State.Ok q s) :
    ResOk q (execFumaroleRuleFire rule s) := by
  unfold execFumaroleRuleFire
  simp (maxDischargeDepth := 60) only [hs, Ok_ite, ResOk_ite, ResOk_next, ite_self, State.activate_ok, State.ruleRecord_ok,
      State.raise_ok, State.ruleOutputs_ok, State.forceDown_ok, State.wake_ok]

theorem execSensorSample_ok {q : List Instr} (samples : List (Nat × Nat)) {s : State} (hs : State.Ok q s) :
    ResOk q (execSensorSample samples s) := by
  unfold execSensorSample
  simp (maxDischargeDepth := 60) +contextual only [hs, ResOk_next, implies_true, State.sampleChan_ok, State.ruleOutputs_ok,
      State.evalRule_ok, foldl_ok]

theorem execSensorSnapshot_ok {q : List Instr} {s : State} (hs : State.Ok q s) :
    ResOk q (execSensorSnapshot s) := by
  unfold execSensorSnapshot
  simp (maxDischargeDepth := 60) +contextual only [hs, ResOk_ite, ResOk_next, ite_self, implies_true, State.advanceTime_ok,
      State.setFum_ok, State.emitRec_ok, foldl_ok]

theorem execTelemetryDeliver_ok {q : List Instr} {s : State} (hs : State.Ok q s) :
    ResOk q (execTelemetryDeliver s) := by
  unfold execTelemetryDeliver
  repeat' (first
    | assumption
    | simp (maxDischargeDepth := 60) only [hs, Ok_ite, ResOk_ite, ResOk_next, ite_self, State.writeRing_ok,
          State.setFum_ok, State.event_ok, State.sendRecords_ok, State.dropDelivered_ok]
    | split)

theorem execTelemetrySubscribe_ok {q : List Instr} (tag : Nat) (handle : Nat) (off : Nat) (entries : Nat) (rank : Nat) {s :
    State} (hs : State.Ok q s) :
    ResOk q (execTelemetrySubscribe tag handle off entries rank s) := by
  unfold execTelemetrySubscribe
  simp (maxDischargeDepth := 60) +contextual only [hs, ResOk_next, implies_true, FstOk_eq, State.serve_ok,
      State.subscribe_ok]

theorem State.wipeTest_ok {q : List Instr} {s : State} (store : Bool) (hs : State.Ok q s) :
    State.Ok q (State.wipeTest s store) := by
  unfold State.wipeTest
  extract_lets gone s1 flat
  exact State.Ok.memFilter (fun p => !gone p.1) (State.clearDomain_ok _ _ hs : State.Ok q s1) rfl rfl rfl rfl

theorem State.passAll_ok {q : List Instr} {s : State} (p : Nat) (hs : State.Ok q s) :
    State.Ok q (State.passAll s p) := by
  unfold State.passAll
  simp (maxDischargeDepth := 60) only [hs, State.setPt_ok]

theorem State.failFull_ok {q : List Instr} {s : State} (p : Nat) (slice : Nat) (misr : Nat) (hs : State.Ok q s) :
    State.Ok q (State.failFull s p slice misr) := by
  unfold State.failFull
  repeat' (first
    | assumption
    | simp (maxDischargeDepth := 60) only [hs, Ok_mk, OkParts_state, State.setResult_ok, State.raise_ok, State.failTile_ok]
    | split)

theorem State.bistFull_ok {q : List Instr} {s : State} (fails : List (Nat × Nat × Nat)) (hs : State.Ok q s) :
    State.Ok q (State.bistFull s fails) := by
  unfold State.bistFull
  simp (maxDischargeDepth := 60) +contextual only [hs, Ok_ite, Ok_mk, OkParts_state, ite_self, implies_true, State.bump_ok,
      State.wipeTest_ok, State.syncClear_ok, State.passAll_ok, State.takeoverStep_ok, State.failFull_ok, foldl_ok]

theorem State.bootSlots_ok {q : List Instr} {s : State} (hs : State.Ok q s) :
    State.Ok q (State.bootSlots s).1 := by
  unfold State.bootSlots
  repeat' (first
    | assumption
    | simp (maxDischargeDepth := 60) only [hs, State.wr_ok, State.raise_ok]
    | split
    | refine foldl_ok (fun s a hs => ?_) _ ?_
    | refine foldl_fst_ok (fun s b a hs => ?_) _ ?_)

theorem State.engineReset_ok {q : List Instr} {s : State} (tag : Nat) (f : State → State) (hs : State.Ok q s) (hf : ∀ (x0 :
    State), State.Ok q x0 → State.Ok q (f x0)) :
    State.Ok q (State.engineReset s tag f).1 := by
  unfold State.engineReset
  repeat' (first
    | assumption
    | simp (maxDischargeDepth := 60) only [hs, hf]
    | split)

theorem State.fillSram_ok {q : List Instr} {s : State} (d : Nat) (body : List Byte) (entry : Nat) (hs : State.Ok q s) :
    State.Ok q (State.fillSram s d body entry) := by
  unfold State.fillSram
  simp (maxDischargeDepth := 60) only [hs, Ok_mk, OkParts_state]

theorem State.firmwareUp_ok {q : List Instr} {s : State} (hs : State.Ok q s) :
    State.Ok q (State.firmwareUp s) := by
  unfold State.firmwareUp
  simp (maxDischargeDepth := 60) only [hs, Ok_ite, ite_self, State.raise_ok, State.setStart_ok, State.beginStep_ok]

theorem State.fruWrite_ok {q : List Instr} {s : State} (a : Nat) (v : Byte) (hs : State.Ok q s) :
    State.Ok q (State.fruWrite s a v) := by
  unfold State.fruWrite
  simp (maxDischargeDepth := 60) only [hs, Ok_ite, ite_self, State.setStart_ok]

theorem State.interrupt_ok {q : List Instr} {s : State} (hs : State.Ok q s) :
    State.Ok q (State.interrupt s) := by
  unfold State.interrupt
  simp (maxDischargeDepth := 60) +contextual only [hs, implies_true, State.endCmd_ok, State.raise_ok, foldl_ok]

theorem State.keepHistory_ok {q : List Instr} {s : State} (l : List (List Byte)) (hs : State.Ok q s) :
    State.Ok q (State.keepHistory s l) := by
  unfold State.keepHistory
  simp (maxDischargeDepth := 60) only [hs, Ok_mk, OkParts_state]

theorem State.linkDown_ok {q : List Instr} {s : State} (hs : State.Ok q s) :
    State.Ok q (State.linkDown s) := by
  unfold State.linkDown
  simp (maxDischargeDepth := 60) only [hs, State.raise_ok, State.bump_ok, State.resetHa_ok]

theorem State.replayRepairs_ok {q : List Instr} {s : State} (hs : State.Ok q s) :
    State.Ok q (State.replayRepairs s) := by
  unfold State.replayRepairs
  repeat' (first
    | assumption
    | simp (maxDischargeDepth := 60) only [hs, OkParts_memWrite, OkParts_memSet, OkParts_hostSet, Ok_ite, ResOk_ite,
          ResOk_next, Ok_mk, OkParts_state, ite_self, implies_true, FstOk_eq, State.softRepair_ok, State.raise_ok]
    | split
    | refine foldl_ok (fun s a hs => ?_) _ ?_
    | refine foldl_fst_ok (fun s b a hs => ?_) _ ?_
    | grind (splits := 30) [Ok_mk, OkParts_state, ResOk_next, FstOk_eq, State.softRepair_ok, State.raise_ok])

theorem State.resetModule_ok {q : List Instr} {s : State} (tag : Nat) (hs : State.Ok q s) :
    State.Ok q (State.resetModule s tag).1 := by
  unfold State.resetModule
  repeat' (first
    | assumption
    | simp (maxDischargeDepth := 60) only []
    | split)

theorem State.resetPortCode_ok {q : List Instr} {s : State} (unit : Nat) (tag : Nat) (hs : State.Ok q s) :
    State.Ok q (State.resetPortCode s unit tag).1 := by
  unfold State.resetPortCode
  repeat' (first
    | assumption
    | simp (maxDischargeDepth := 60) only [hs, State.resetPort_ok]
    | split)

theorem State.resetSecondary_ok {q : List Instr} {s : State} (tag : Nat) (hs : State.Ok q s) :
    State.Ok q (State.resetSecondary s tag).1 := by
  unfold State.resetSecondary
  repeat' (first
    | assumption
    | simp (maxDischargeDepth := 60) only [hs, State.wr_ok, State.resetCtrl_ok]
    | split)

theorem State.showVersion_ok {q : List Instr} {s : State} (f : FlashSlot) (hs : State.Ok q s) :
    State.Ok q (State.showVersion s f) := by
  unfold State.showVersion
  simp (maxDischargeDepth := 60) only [hs, State.wr_ok]

theorem State.restate_ok {q : List Instr} {s : State} (h0 : Nat) (hs : State.Ok q s) :
    State.Ok q (State.restate s h0) := by
  unfold State.restate
  simp (maxDischargeDepth := 60) only [hs, Ok_ite, ite_self, State.wr_ok, State.showVersion_ok]

theorem State.sleepInto_ok {q : List Instr} {s : State} (st : Nat) (tag : Nat) (hs : State.Ok q s) :
    State.Ok q (State.sleepInto s st tag).1 := by
  unfold State.sleepInto
  repeat' (first
    | assumption
    | simp (maxDischargeDepth := 60) only []
    | split)

theorem State.sleepNow_ok {q : List Instr} {s : State} (hs : State.Ok q s) :
    State.Ok q (State.sleepNow s) := by
  unfold State.sleepNow
  repeat' (first
    | assumption
    | simp (maxDischargeDepth := 60) only [hs, State.fallAsleep_ok, State.setStart_ok]
    | split)

theorem State.startIsland_ok {q : List Instr} {s : State} (d : Nat) (hs : State.Ok q s) :
    State.Ok q (State.startIsland s d) := by
  unfold State.startIsland
  simp (maxDischargeDepth := 60) only [hs, Ok_mk, OkParts_state, State.wr_ok]

theorem State.startIslands_ok {q : List Instr} {s : State} (k : Nat) (copyOk : Bool) (hs : State.Ok q s) :
    State.Ok q (State.startIslands s k copyOk) := by
  unfold State.startIslands
  simp (maxDischargeDepth := 60) only [hs, Ok_ite, ite_self, State.showVersion_ok, State.wr_ok, State.startIsland_ok,
      State.fillSram_ok, State.raise_ok]

theorem State.takeRole_ok {q : List Instr} {s : State} (h0 : Nat) (hs : State.Ok q s) :
    State.Ok q (State.takeRole s h0) := by
  unfold State.takeRole
  simp (maxDischargeDepth := 60) only [hs, Ok_ite, ite_self, State.bump_ok, State.wr_ok, State.interrupt_ok,
      State.keepHistory_ok, State.raise_ok]

theorem State.unpowered_ok {q : List Instr} {s : State} (hs : State.Ok q s) :
    State.Ok q (State.unpowered s) := by
  exact ⟨Memory.wf_nil, hs.host, RegsFit_nil, hs.pend⟩

theorem State.wakeCommand_ok {q : List Instr} {s : State} (tag : Nat) (hs : State.Ok q s) :
    State.Ok q (State.wakeCommand s tag).1 := by
  unfold State.wakeCommand
  repeat' (first
    | assumption
    | simp (maxDischargeDepth := 60) only [hs, State.wake_ok]
    | split)

theorem execBrownoutRestart_ok {q : List Instr} {s : State} (hs : State.Ok q s) :
    ResOk q (execBrownoutRestart s) := by
  unfold execBrownoutRestart
  simp (maxDischargeDepth := 60) only [hs, ResOk_ite, ResOk_next, ite_self, State.raise_ok, State.setStart_ok,
      State.bump_ok, State.beginRails_ok]

theorem execControlIslandBoot_ok {q : List Instr} (copyOk : Bool) {s : State} (hs : State.Ok q s) :
    ResOk q (execControlIslandBoot copyOk s) := by
  unfold execControlIslandBoot
  grind (splits := 30) [Ok_mk, OkParts_state, ResOk_next, FstOk_eq, State.bootSlots_ok, State.raise_ok, State.wr_ok,
      State.startIslands_ok, State.firmwareUp_ok]

theorem execCpKickWrite_ok {q : List Instr} (h0 : Nat) {s : State} (hs : State.Ok q s) :
    ResOk q (execCpKickWrite h0 s) := by
  unfold execCpKickWrite
  simp (maxDischargeDepth := 60) only [hs, ResOk_ite, ResOk_next, Ok_mk, OkParts_state, ite_self, State.restate_ok]

theorem execHostAdapterReset_ok {q : List Instr} (cause : HaReset) {s : State} (hs : State.Ok q s) :
    ResOk q (execHostAdapterReset cause s) := by
  unfold execHostAdapterReset
  repeat' (first
    | assumption
    | simp (maxDischargeDepth := 60) only [hs, Ok_ite, ResOk_next, ite_self, State.wr_ok, State.resetHa_ok,
          State.setStart_ok, State.postAll_ok, State.advanceTime_ok]
    | split)

theorem execJtagInstructionLoad_ok {q : List Instr} (h0 : Nat) (code : Nat) {s : State} (hs : State.Ok q s) :
    ResOk q (execJtagInstructionLoad h0 code s) := by
  unfold execJtagInstructionLoad
  simp (maxDischargeDepth := 60) only [hs, Ok_ite, ResOk_ite, ResOk_next, Ok_mk, OkParts_state, ite_self, State.setStart_ok,
      State.raise_ok]

theorem execModuleCoreResetEffect_ok {q : List Instr} (bad : List Nat) {s : State} (hs : State.Ok q s) :
    ResOk q (execModuleCoreResetEffect bad s) := by
  unfold execModuleCoreResetEffect
  split
  · exact hs
  · exact State.releaseDomains_ok _ (State.setStart_ok _ (State.dropCommands_ok (State.resetHa_ok (State.resetCtrl_ok _
      (State.resetCtrl_ok _ (State.resetCore_ok _ (State.postAll_ok (State.advanceTime_ok _ hs))))))))

theorem execPcieLinkEvent_ok {q : List Instr} (speed : Nat) (width : Nat) (flit : Bool) (l0p : Bool) {s : State} (hs :
    State.Ok q s) :
    ResOk q (execPcieLinkEvent speed width flit l0p s) := by
  unfold execPcieLinkEvent
  simp (maxDischargeDepth := 60) only [hs, Ok_ite, ResOk_ite, ResOk_next, ite_self, State.linkDown_ok, State.raise_ok,
      State.bump_ok, State.wr_ok]

theorem execPcieLinkRequest_ok {q : List Instr} (perst : Bool) {s : State} (hs : State.Ok q s) :
    ResOk q (execPcieLinkRequest perst s) := by
  unfold execPcieLinkRequest
  simp (maxDischargeDepth := 60) only [hs, Ok_ite, ResOk_ite, ResOk_next, ite_self, State.wr_ok, State.setStart_ok,
      State.wake_ok]

theorem execPowerApplied_ok {q : List Instr} (slotId : Nat) (perst : Bool) {s : State} (hs : State.Ok q s) :
    ResOk q (execPowerApplied slotId perst s) := by
  unfold execPowerApplied
  simp (maxDischargeDepth := 60) only [hs, ResOk_ite, ResOk_next, ite_self, State.wr_ok, State.unpowered_ok,
      State.setStart_ok]

theorem execPowerRemoved_ok {q : List Instr} {s : State} (hs : State.Ok q s) :
    ResOk q (execPowerRemoved s) := by
  unfold execPowerRemoved
  simp (maxDischargeDepth := 60) only [hs, ResOk_next, State.wr_ok, State.unpowered_ok]

theorem execRailSettleTimeout_ok {q : List Instr} (second : Bool) {s : State} (hs : State.Ok q s) :
    ResOk q (execRailSettleTimeout second s) := by
  unfold execRailSettleTimeout
  repeat' (first
    | assumption
    | simp (maxDischargeDepth := 60) only [hs, ResOk_next, State.advanceTime_ok, State.forceDown_ok, State.raise_ok]
    | split)

theorem execRailStageSettled_ok {q : List Instr} (bad : List Nat) {s : State} (hs : State.Ok q s) :
    ResOk q (execRailStageSettled bad s) := by
  unfold execRailStageSettled
  repeat' (first
    | assumption
    | simp (maxDischargeDepth := 60) only [hs, ResOk_ite, ResOk_next, ite_self, State.setStart_ok, State.releaseDomains_ok]
    | split)

theorem execResetDomainHostAdapter_ok {q : List Instr} (tag : Nat) {s : State} (hs : State.Ok q s) :
    ResOk q (execResetDomainHostAdapter tag s) := by
  unfold execResetDomainHostAdapter
  simp (maxDischargeDepth := 60) +contextual only [hs, ResOk_next, implies_true, FstOk_eq, State.serve_ok, State.setStart_ok]

theorem execResetDomainModuleCore_ok {q : List Instr} (tag : Nat) {s : State} (hs : State.Ok q s) :
    ResOk q (execResetDomainModuleCore tag s) := by
  unfold execResetDomainModuleCore
  simp (maxDischargeDepth := 60) +contextual only [hs, ResOk_next, implies_true, FstOk_eq, State.serve_ok,
      State.resetModule_ok]

theorem execResetDomainPort_ok {q : List Instr} (tag : Nat) (unit : Nat) {s : State} (hs : State.Ok q s) :
    ResOk q (execResetDomainPort tag unit s) := by
  unfold execResetDomainPort
  simp (maxDischargeDepth := 60) +contextual only [hs, ResOk_next, implies_true, FstOk_eq, State.serve_ok,
      State.resetPortCode_ok]

theorem execResetDomainReduction_ok {q : List Instr} (tag : Nat) {s : State} (hs : State.Ok q s) :
    ResOk q (execResetDomainReduction tag s) := by
  unfold execResetDomainReduction
  simp (maxDischargeDepth := 60) +contextual only [hs, ResOk_next, implies_true, FstOk_eq, State.serve_ok,
      State.engineReset_ok, State.resetReduction_ok]

theorem execResetDomainSecondaryCp_ok {q : List Instr} (tag : Nat) {s : State} (hs : State.Ok q s) :
    ResOk q (execResetDomainSecondaryCp tag s) := by
  unfold execResetDomainSecondaryCp
  simp (maxDischargeDepth := 60) +contextual only [hs, ResOk_next, implies_true, FstOk_eq, State.serve_ok,
      State.resetSecondary_ok]

theorem execResetDomainStreamEngine_ok {q : List Instr} (tag : Nat) (n : Nat) {s : State} (hs : State.Ok q s) :
    ResOk q (execResetDomainStreamEngine tag n s) := by
  unfold execResetDomainStreamEngine
  simp (maxDischargeDepth := 60) +contextual only [hs, ResOk_next, implies_true, FstOk_eq, State.serve_ok,
      State.engineReset_ok, State.resetStream_ok]

theorem execResetDomainUpdateEngine_ok {q : List Instr} (tag : Nat) (n : Nat) {s : State} (hs : State.Ok q s) :
    ResOk q (execResetDomainUpdateEngine tag n s) := by
  unfold execResetDomainUpdateEngine
  simp (maxDischargeDepth := 60) +contextual only [hs, ResOk_next, implies_true, FstOk_eq, State.serve_ok,
      State.engineReset_ok, State.resetUpdate_ok]

theorem execSleepDormant_ok {q : List Instr} (tag : Nat) {s : State} (hs : State.Ok q s) :
    ResOk q (execSleepDormant tag s) := by
  unfold execSleepDormant
  simp (maxDischargeDepth := 60) +contextual only [hs, ResOk_next, implies_true, FstOk_eq, State.sleepNow_ok,
      State.serve_ok, State.sleepInto_ok]

theorem execSleepStandby_ok {q : List Instr} (tag : Nat) {s : State} (hs : State.Ok q s) :
    ResOk q (execSleepStandby tag s) := by
  unfold execSleepStandby
  simp (maxDischargeDepth := 60) +contextual only [hs, ResOk_next, implies_true, FstOk_eq, State.sleepNow_ok,
      State.serve_ok, State.sleepInto_ok]

theorem execSlotIdChange_ok {q : List Instr} (slotId : Nat) {s : State} (hs : State.Ok q s) :
    ResOk q (execSlotIdChange slotId s) := by
  unfold execSlotIdChange
  simp (maxDischargeDepth := 60) only [hs, ResOk_ite, ResOk_next, ite_self, State.setStart_ok, State.setPend_ok,
      State.raise_ok, State.wr_ok]

theorem execSmbusAlertResponse_ok {q : List Instr} {s : State} (hs : State.Ok q s) :
    ResOk q (execSmbusAlertResponse s) := by
  unfold execSmbusAlertResponse
  simp (maxDischargeDepth := 60) only [hs, Ok_ite, ResOk_next, ite_self, State.setStart_ok]

theorem execSmbusArp_ok {q : List Instr} (addr : Nat) {s : State} (hs : State.Ok q s) :
    ResOk q (execSmbusArp addr s) := by
  unfold execSmbusArp
  simp (maxDischargeDepth := 60) only [hs, Ok_ite, ResOk_next, ite_self, State.setStart_ok]

theorem execStartupMemoryDone_ok {q : List Instr} (badStacks : List Nat) (fails : List (Nat × Nat × Nat)) {s : State} (hs :
    State.Ok q s) :
    ResOk q (execStartupMemoryDone badStacks fails s) := by
  unfold execStartupMemoryDone
  split
  · exact hs
  exact State.beginStep_ok _ (State.stepLimit_ok _ _ (State.setStart_ok _ (State.Ok.memNil (State.bistFull_ok fails
    (foldl_ok (fun s a hs => State.raise_ok _ _ _ _ hs) _ (State.replayRepairs_ok hs))) rfl rfl rfl rfl)))

theorem execStartupRails_ok {q : List Instr} {s : State} (hs : State.Ok q s) :
    ResOk q (execStartupRails s) := by
  unfold execStartupRails
  simp (maxDischargeDepth := 60) only [hs, ResOk_ite, ResOk_next, ite_self, State.beginRails_ok]

theorem execStartupReady_ok {q : List Instr} {s : State} (hs : State.Ok q s) :
    ResOk q (execStartupReady s) := by
  unfold execStartupReady
  simp (maxDischargeDepth := 60) only [hs, ResOk_ite, ResOk_next, ite_self, State.becomeReady_ok, State.stepLimit_ok]

theorem execWake_ok {q : List Instr} (tag : Nat) {s : State} (hs : State.Ok q s) :
    ResOk q (execWake tag s) := by
  unfold execWake
  simp (maxDischargeDepth := 60) +contextual only [hs, ResOk_next, implies_true, FstOk_eq, State.serve_ok,
      State.wakeCommand_ok]

theorem execWakeComplete_ok {q : List Instr} {s : State} (hs : State.Ok q s) :
    ResOk q (execWakeComplete s) := by
  unfold execWakeComplete
  simp (maxDischargeDepth := 60) only [hs, ResOk_ite, ResOk_next, ite_self, State.becomeReady_ok]

theorem execWatchdogExpire_ok {q : List Instr} (h0 : Nat) {s : State} (hs : State.Ok q s) :
    ResOk q (execWatchdogExpire h0 s) := by
  unfold execWatchdogExpire
  simp (maxDischargeDepth := 60) only [hs, Ok_ite, ResOk_ite, ResOk_next, Ok_mk, OkParts_state, ite_self,
      State.advanceTime_ok, State.bump_ok, State.resetCtrl_ok, State.wr_ok, State.raise_ok, State.takeRole_ok]

end Sys2Proof.Machine
end

