-- ==== Sys2Proof/Laws/KeepMbx.lean ====
section
/-! SUPPORT. What the mailbox commands and the registers keep (see Laws/Keep). -/

set_option autoImplicit false

namespace Sys2Proof.Machine

open Sys2Proof

set_option simprocs false

theorem State.dropSegments_ok {q : List Instr} {s : State} (e : Nat) (x : Xfer) (hs : State.Ok q s) :
    State.Ok q (State.dropSegments s e x) := by
  unfold State.dropSegments
  simp (maxDischargeDepth := 60) only [hs, Ok_mk, OkParts_state]

theorem State.abortActive_ok {q : List Instr} {s : State} (e : Nat) (k : Nat) (x : Xfer) (hs : State.Ok q s) :
    State.Ok q (State.abortActive s e k x) := by
  unfold State.abortActive
  simp (maxDischargeDepth := 60) only [hs, State.setXeng_ok, State.dropXfer_ok, State.dropVent_ok, State.dropSegments_ok,
      State.storePart_ok]

theorem State.dropWait_ok {q : List Instr} {s : State} (e : Nat) (slot : Nat) (rec0 : Nat) (hs : State.Ok q s) :
    State.Ok q (State.dropWait s e slot rec0) := by
  unfold State.dropWait
  simp (maxDischargeDepth := 60) only [hs, Ok_ite, Ok_mk, OkParts_state, ite_self, State.setStall_ok, State.setEngine_ok]

theorem State.abortRecord_ok {q : List Instr} {s : State} (e : Nat) (slot : Nat) (rec0 : Nat) (hs : State.Ok q s) :
    State.Ok q (State.abortRecord s e slot rec0).1 := by
  unfold State.abortRecord
  repeat' (first
    | assumption
    | simp (maxDischargeDepth := 60) only [hs, State.abortActive_ok, State.dropWait_ok, State.setXeng_ok]
    | split)

theorem State.stopCommand_ok {q : List Instr} {s : State} (c : MbxCmd) (hs : State.Ok q s) :
    State.Ok q (State.stopCommand s c) := by
  unfold State.stopCommand
  simp (maxDischargeDepth := 60) only [hs, Ok_ite, Ok_mk, OkParts_state, ite_self, State.endCmd_ok]

theorem State.abortTag_ok {q : List Instr} {s : State} (target : Nat) (hs : State.Ok q s) :
    State.Ok q (State.abortTag s target).1 := by
  unfold State.abortTag
  repeat' (first
    | assumption
    | simp (maxDischargeDepth := 60) only [hs, State.stopCommand_ok]
    | split)

theorem State.statEmptySlot_ok {q : List Instr} {s : State} (slot : Nat) (hs : State.Ok q s) :
    State.Ok q (State.statEmptySlot s slot) := by
  unfold State.statEmptySlot
  simp (maxDischargeDepth := 60) only [hs, State.statClearSlot_ok, State.statWrite_ok]

theorem State.statEmptyAll_ok {q : List Instr} {s : State} (hs : State.Ok q s) :
    State.Ok q (State.statEmptyAll s) := by
  unfold State.statEmptyAll
  simp (maxDischargeDepth := 60) +contextual only [hs, implies_true, State.statEmptySlot_ok, foldl_ok]

theorem State.adopt_ok {q : List Instr} {s : State} (coord : Nat) (tag : Nat) (hs : State.Ok q s) :
    State.Ok q (State.adopt s coord tag).1 := by
  unfold State.adopt
  split
  · have h := foldl_ok (fun s a hs => State.resetPort_ok a hs) (List.range 18) hs
    generalize List.range 18 = l at *
    exact State.statEmptyAll_ok (State.wr_ok _ _ _ (State.syncClear_ok (State.writeCoord_ok _ _ h)))
  · exact hs

theorem State.bistCommand_ok {q : List Instr} {s : State} (fails : List (Nat × Nat × Nat)) (tag : Nat) (hs : State.Ok q s) :
    State.Ok q (State.bistCommand s fails tag).1 := by
  unfold State.bistCommand
  repeat' (first
    | assumption
    | simp (maxDischargeDepth := 60) only [hs, State.bistFull_ok]
    | split)

theorem State.burnCommand_ok {q : List Instr} {s : State} (die : Nat) (bad : List Nat) (tag : Nat) (hs : State.Ok q s) :
    State.Ok q (State.burnCommand s die bad tag).1 := by
  unfold State.burnCommand
  grind (splits := 30) [Ok_mk, OkParts_state, ResOk_next, FstOk_eq, State.burnFuses_ok]

theorem State.fillBuffer_ok {q : List Instr} {s : State} (a : Nat) (bs : List Byte) (hs : State.Ok q s) :
    State.Ok q (State.fillBuffer s a bs) := by
  unfold State.fillBuffer
  simp (maxDischargeDepth := 60) only [hs, State.writeBeats_ok]

theorem State.deviceInfo_ok {q : List Instr} {s : State} (handle : Nat) (offset : Nat) (nonce : Option (List Byte)) (tag :
    Nat) (hs : State.Ok q s) :
    State.Ok q (State.deviceInfo s handle offset nonce tag).1 := by
  unfold State.deviceInfo
  repeat' (first
    | assumption
    | simp (maxDischargeDepth := 60) only [hs, State.setMbx_ok, State.fillBuffer_ok]
    | split)

theorem State.fwUpdate_ok {q : List Instr} {s : State} (handle : Nat) (offset : Nat) (bytes : Nat) (adv : Bool) (tag : Nat)
    (hs : State.Ok q s) :
    State.Ok q (State.fwUpdate s handle offset bytes adv tag).1 := by
  unfold State.fwUpdate
  repeat' (first
    | assumption
    | simp (maxDischargeDepth := 60) only [hs, Ok_ite, Ok_mk, OkParts_state, ite_self, State.wr_ok]
    | split)

theorem State.noteLost_ok {q : List Instr} {s : State} (hs : State.Ok q s) :
    State.Ok q (State.noteLost s) := by
  unfold State.noteLost
  simp (maxDischargeDepth := 60) only [hs, Ok_ite, Ok_mk, OkParts_state, ite_self, State.bump_ok, State.raise_ok]

theorem State.logWrite_ok {q : List Instr} {s : State} (r : ErrRec) (hs : State.Ok q s) :
    State.Ok q (State.logWrite s r) := by
  unfold State.logWrite
  simp (maxDischargeDepth := 60) only [hs, Ok_ite, ite_self, State.noteLost_ok, State.stBytes_ok, State.wr_ok,
      State.setPend_ok, State.keepHistory_ok, State.event_ok]

theorem State.readLog_ok {q : List Instr} {s : State} (first : Nat) (count : Nat) (handle : Nat) (offset : Nat) (persistent
    : Bool) (tag : Nat) (hs : State.Ok q s) :
    State.Ok q (State.readLog s first count handle offset persistent tag).1 := by
  unfold State.readLog
  repeat' (first
    | assumption
    | simp (maxDischargeDepth := 60) only [hs, State.fillBuffer_ok]
    | split)

theorem State.repairCommand_ok {q : List Instr} {s : State} (die : Nat) (entry : Nat) (tag : Nat) (hs : State.Ok q s) :
    State.Ok q (State.repairCommand s die entry tag).1 := by
  unfold State.repairCommand
  grind (splits := 30) [Ok_mk, OkParts_state, ResOk_next, FstOk_eq, State.softRepair_ok]

theorem execAbortOpRecord_ok {q : List Instr} (tag : Nat) (e : Nat) (slotIdx : Nat) (rec0 : Nat) {s : State} (hs : State.Ok
    q s) :
    ResOk q (execAbortOpRecord tag e slotIdx rec0 s) := by
  unfold execAbortOpRecord
  simp (maxDischargeDepth := 60) +contextual only [hs, ResOk_next, implies_true, FstOk_eq, State.serve_ok,
      State.abortRecord_ok]

theorem execAbortOpTag_ok {q : List Instr} (tag : Nat) (target : Nat) {s : State} (hs : State.Ok q s) :
    ResOk q (execAbortOpTag tag target s) := by
  unfold execAbortOpTag
  simp (maxDischargeDepth := 60) +contextual only [hs, ResOk_ite, ResOk_next, ite_self, implies_true, FstOk_eq,
      State.serve_ok, State.abortTag_ok]

theorem execBistScheduleFull_ok {q : List Instr} (tag : Nat) (fails : List (Nat × Nat × Nat)) {s : State} (hs : State.Ok q
    s) :
    ResOk q (execBistScheduleFull tag fails s) := by
  unfold execBistScheduleFull
  simp (maxDischargeDepth := 60) +contextual only [hs, ResOk_next, implies_true, FstOk_eq, State.serve_ok,
      State.bistCommand_ok]

theorem execBistSchedulePeriodic_ok {q : List Instr} (tag : Nat) (gapMs : Nat) (rotEn : Bool) (bistEn : Bool) {s : State}
    (hs : State.Ok q s) :
    ResOk q (execBistSchedulePeriodic tag gapMs rotEn bistEn s) := by
  unfold execBistSchedulePeriodic
  simp (maxDischargeDepth := 60) +contextual only [hs, ResOk_next, Ok_mk, OkParts_state, implies_true, FstOk_eq,
      State.serve_ok, State.wr_ok]

theorem execDeviceInfo_ok {q : List Instr} (tag : Nat) (handle : Nat) (offset : Nat) (nonce : Option (List Byte)) {s :
    State} (hs : State.Ok q s) :
    ResOk q (execDeviceInfo tag handle offset nonce s) := by
  unfold execDeviceInfo
  simp (maxDischargeDepth := 60) +contextual only [hs, OkParts_memWrite, OkParts_memSet, OkParts_hostSet, Ok_ite, ResOk_ite,
      ResOk_next, Ok_mk, OkParts_state, ite_self, implies_true, FstOk_eq, State.serve_ok, State.deviceInfo_ok, foldl_ok,
      foldl_fst_ok]

theorem execErrlogRead_ok {q : List Instr} (tag : Nat) (first : Nat) (count : Nat) (handle : Nat) (offset : Nat) (persistent
    : Bool) {s : State} (hs : State.Ok q s) :
    ResOk q (execErrlogRead tag first count handle offset persistent s) := by
  unfold execErrlogRead
  simp (maxDischargeDepth := 60) +contextual only [hs, OkParts_memWrite, OkParts_memSet, OkParts_hostSet, Ok_ite, ResOk_ite,
      ResOk_next, Ok_mk, OkParts_state, ite_self, implies_true, FstOk_eq, State.serve_ok, State.readLog_ok, foldl_ok,
      foldl_fst_ok]

theorem execErrlogWrite_ok {q : List Instr} {s : State} (hs : State.Ok q s) :
    ResOk q (execErrlogWrite s) := by
  unfold execErrlogWrite
  repeat' (first
    | assumption
    | simp (maxDischargeDepth := 60) only [hs, ResOk_ite, ResOk_next]
    | split
    | refine foldl_ok (fun s a hs => ?_) _ ?_
    | refine foldl_fst_ok (fun s b a hs => ?_) _ ?_
    | grind (splits := 30) [Ok_mk, OkParts_state, ResOk_next, FstOk_eq, State.advanceTime_ok, State.throughArbiters_ok,
          State.logWrite_ok])

theorem execFuseBurn_ok {q : List Instr} (tag : Nat) (h0 : Nat) (bad : List Nat) {s : State} (hs : State.Ok q s) :
    ResOk q (execFuseBurn tag h0 bad s) := by
  unfold execFuseBurn
  simp (maxDischargeDepth := 60) +contextual only [hs, ResOk_next, implies_true, FstOk_eq, State.serve_ok,
      State.burnCommand_ok]

theorem execFwUpdate_ok {q : List Instr} (tag : Nat) (handle : Nat) (offset : Nat) (bytes : Nat) (adv : Bool) {s : State}
    (hs : State.Ok q s) :
    ResOk q (execFwUpdate tag handle offset bytes adv s) := by
  unfold execFwUpdate
  simp (maxDischargeDepth := 60) +contextual only [hs, ResOk_next, implies_true, FstOk_eq, State.serve_ok, State.fwUpdate_ok]

theorem execHostCompletionTimeout_ok {q : List Instr} (e : Nat) (k : Nat) {s : State} (hs : State.Ok q s) :
    ResOk q (execHostCompletionTimeout e k s) := by
  unfold execHostCompletionTimeout
  repeat' (first
    | assumption
    | simp (maxDischargeDepth := 60) only [hs, ResOk_ite, ResOk_next, ite_self, State.hostFailed_ok, State.setXfer_ok]
    | split)

theorem execMbxCmdTailWrite_ok {q : List Instr} (count : Nat) {s : State} (hs : State.Ok q s) :
    ResOk q (execMbxCmdTailWrite count s) := by
  unfold execMbxCmdTailWrite
  simp (maxDischargeDepth := 60) only [hs, ResOk_ite, ResOk_next, ite_self, State.raise_ok, State.wr_ok]

theorem execMbxEnableWrite_ok {q : List Instr} (enable : Bool) {s : State} (hs : State.Ok q s) :
    ResOk q (execMbxEnableWrite enable s) := by
  unfold execMbxEnableWrite
  simp (maxDischargeDepth := 60) only [hs, ResOk_next, State.wr_ok]

theorem execMbxFetch_ok {q : List Instr} {s : State} (hs : State.Ok q s) :
    ResOk q (execMbxFetch s) := by
  unfold execMbxFetch
  simp (maxDischargeDepth := 60) only [hs, ResOk_ite, ResOk_next, ite_self, State.takeEntry_ok, State.wr_ok]

theorem execMbxResponsePost_ok {q : List Instr} {s : State} (hs : State.Ok q s) :
    ResOk q (execMbxResponsePost s) := by
  unfold execMbxResponsePost
  simp (maxDischargeDepth := 60) only [hs, ResOk_next, State.postResponse_ok]

theorem execMctpMessage_ok {q : List Instr} (entry : List Byte) {s : State} (hs : State.Ok q s) :
    ResOk q (execMctpMessage entry s) := by
  unfold execMctpMessage
  simp (maxDischargeDepth := 60) only [hs, ResOk_ite, ResOk_next, ite_self, State.takeEntry_ok]

theorem execMsixModerationEnd_ok {q : List Instr} (v : Nat) {s : State} (hs : State.Ok q s) :
    ResOk q (execMsixModerationEnd v s) := by
  unfold execMsixModerationEnd
  simp (maxDischargeDepth := 60) only [hs, Ok_ite, ResOk_ite, ResOk_next, ite_self, State.advanceTime_ok, State.raiseVec_ok]

theorem execRepairApply_ok {q : List Instr} (tag : Nat) (h0 : Nat) (entry : Nat) {s : State} (hs : State.Ok q s) :
    ResOk q (execRepairApply tag h0 entry s) := by
  unfold execRepairApply
  simp (maxDischargeDepth := 60) +contextual only [hs, ResOk_next, implies_true, FstOk_eq, State.serve_ok,
      State.repairCommand_ok]

theorem execSpareAdopt_ok {q : List Instr} (tag : Nat) (coord : Nat) (_rank : Nat) {s : State} (hs : State.Ok q s) :
    ResOk q (execSpareAdopt tag coord _rank s) := by
  unfold execSpareAdopt
  simp (maxDischargeDepth := 60) +contextual only [hs, ResOk_next, implies_true, FstOk_eq, State.serve_ok, State.adopt_ok]

theorem execTimeStatus_ok {q : List Instr} (tag : Nat) {s : State} (hs : State.Ok q s) :
    ResOk q (execTimeStatus tag s) := by
  unfold execTimeStatus
  simp (maxDischargeDepth := 60) +contextual only [hs, ResOk_next, implies_true, FstOk_eq, State.serve_ok]

theorem State.fillAtu_ok {q : List Instr} {s : State} (first : Nat) (n : Nat) (bus : Nat) (hs : State.Ok q s) :
    State.Ok q (State.fillAtu s first n bus) := by
  unfold State.fillAtu
  simp (maxDischargeDepth := 60) +contextual only [hs, implies_true, State.wr_ok, foldl_ok]

theorem State.allocate_ok {q : List Instr} {s : State} (a : AllocArgs) (tag : Nat) (hs : State.Ok q s) :
    State.Ok q (State.allocate s a tag).1 := by
  unfold State.allocate
  repeat' (first
    | assumption
    | simp (maxDischargeDepth := 60) only [hs, Ok_ite, Ok_mk, OkParts_state, ite_self, State.fillAtu_ok]
    | split)

theorem State.loadKeys_ok {q : List Instr} {s : State} (hs : State.Ok q s) :
    State.Ok q (State.loadKeys s) := by
  unfold State.loadKeys
  simp (maxDischargeDepth := 60) +contextual only [hs, Ok_ite, ite_self, implies_true, State.loadKey_ok, foldl_ok]

theorem State.shareOver_ok {q : List Instr} {s : State} (rank : Nat) (hs : State.Ok q s) :
    State.Ok q (State.shareOver s rank) := by
  unfold State.shareOver
  simp (maxDischargeDepth := 60) only [hs, State.raiseArb_ok]

theorem State.writeShare_ok {q : List Instr} {s : State} (rank : Nat) (k : Nat) (v : Nat) (hs : State.Ok q s) :
    State.Ok q (State.writeShare s rank k v) := by
  unfold State.writeShare
  simp (maxDischargeDepth := 60) only [hs, Ok_ite, ite_self, State.shareOver_ok, State.wr_ok]

theorem State.rangeWrite_ok {q : List Instr} {s : State} (f : Fld) (v : Nat) (i : Nat) (hs : State.Ok q s) :
    State.Ok q (State.rangeWrite s f v i) := by
  unfold State.rangeWrite
  simp (maxDischargeDepth := 60) only [hs, Ok_ite, Ok_mk, OkParts_state, ite_self, State.wr_ok]

theorem State.writeResCtrl_ok {q : List Instr} {s : State} (rank : Nat) (bg : Nat) (starve : Nat) (hs : State.Ok q s) :
    State.Ok q (State.writeResCtrl s rank bg starve) := by
  unfold State.writeResCtrl
  simp (maxDischargeDepth := 60) only [hs, Ok_ite, ite_self, State.shareOver_ok, State.rangeWrite_ok]

theorem State.applyPolicy_ok {q : List Instr} {s : State} (v : Nat) (hs : State.Ok q s) :
    State.Ok q (State.applyPolicy s v) := by
  unfold State.applyPolicy
  simp (maxDischargeDepth := 60) +contextual only [hs, Ok_ite, Ok_mk, OkParts_state, ite_self, implies_true,
      State.writeCoord_ok, State.loadKeys_ok, State.writeShare_ok, State.writeResCtrl_ok, State.rangeWrite_ok, foldl_ok]

theorem State.clearAtu_ok {q : List Instr} {s : State} (first : Nat) (n : Nat) (hs : State.Ok q s) :
    State.Ok q (State.clearAtu s first n) := by
  unfold State.clearAtu
  simp (maxDischargeDepth := 60) +contextual only [hs, implies_true, State.wr_ok, foldl_ok]

theorem State.createDesc_ok {q : List Instr} {s : State} (id : Nat) (bs : List Byte) (hs : State.Ok q s) :
    State.Ok q (State.createDesc s id bs).1 := by
  unfold State.createDesc
  repeat' (first
    | assumption
    | simp (maxDischargeDepth := 60) only [hs, Ok_mk, OkParts_state, State.stBytes_ok]
    | split)

theorem State.freeAlloc_ok {q : List Instr} {s : State} (h0 : Nat) (tag : Nat) (hs : State.Ok q s) :
    State.Ok q (State.freeAlloc s h0 tag).1 := by
  unfold State.freeAlloc
  repeat' (first
    | assumption
    | simp (maxDischargeDepth := 60) only [hs, Ok_ite, Ok_mk, OkParts_state, ite_self, State.clearAtu_ok]
    | split)

theorem State.freeDesc_ok {q : List Instr} {s : State} (id : Nat) (tag : Nat) (hs : State.Ok q s) :
    State.Ok q (State.freeDesc s id tag).1 := by
  unfold State.freeDesc
  repeat' (first
    | assumption
    | simp (maxDischargeDepth := 60) only [hs, OkParts_memWrite, OkParts_memSet, OkParts_hostSet, Ok_ite, ResOk_ite,
          ResOk_next, Ok_mk, OkParts_state, ite_self, implies_true, FstOk_eq]
    | split)

theorem State.joinJob_ok {q : List Instr} {s : State} (t : JobTable) (handle : Nat) (freeRun : Bool) (hs : State.Ok q s) :
    State.Ok q (State.joinJob s t handle freeRun) := by
  unfold State.joinJob
  simp (maxDischargeDepth := 60) +contextual only [hs, Ok_mk, OkParts_state, implies_true, State.wr_ok, foldl_ok]

theorem State.loadPolicy_ok {q : List Instr} {s : State} (v : Nat) (tag : Nat) (hs : State.Ok q s) :
    State.Ok q (State.loadPolicy s v tag).1 := by
  unfold State.loadPolicy
  repeat' (first
    | assumption
    | simp (maxDischargeDepth := 60) only [hs, State.applyPolicy_ok]
    | split)

theorem State.paceJoin_ok {q : List Instr} {s : State} (handle : Nat) (offset : Nat) (freeRun : Bool) (cycle : Bool) (free :
    Nat) (tag : Nat) (hs : State.Ok q s) :
    State.Ok q (State.paceJoin s handle offset freeRun cycle free tag).1 := by
  unfold State.paceJoin
  repeat' (first
    | assumption
    | simp (maxDischargeDepth := 60) only [hs, State.joinJob_ok]
    | split)

theorem execAlloc_ok {q : List Instr} (tag : Nat) (handle : Nat) (kind : Nat) (place : Nat) (bytes : Nat) (symmetric : Bool)
    (paged : Bool) {s : State} (hs : State.Ok q s) :
    ResOk q (execAlloc tag handle kind place bytes symmetric paged s) := by
  unfold execAlloc
  simp (maxDischargeDepth := 60) +contextual only [hs, ResOk_next, implies_true, FstOk_eq, State.serve_ok, State.allocate_ok]

theorem execDescCreate_ok {q : List Instr} (tag : Nat) (descId : Nat) (blk : List Byte) {s : State} (hs : State.Ok q s) :
    ResOk q (execDescCreate tag descId blk s) := by
  unfold execDescCreate
  simp (maxDischargeDepth := 60) +contextual only [hs, ResOk_next, implies_true, FstOk_eq, State.serve_ok,
      State.createDesc_ok]

theorem execFree_ok {q : List Instr} (tag : Nat) (isDesc : Bool) (handle : Nat) {s : State} (hs : State.Ok q s) :
    ResOk q (execFree tag isDesc handle s) := by
  unfold execFree
  grind (splits := 30) [Ok_mk, OkParts_state, ResOk_next, FstOk_eq, State.serve_ok, State.freeDesc_ok, State.freeAlloc_ok]

theorem execPaceGroupJoin_ok {q : List Instr} (tag : Nat) (handle : Nat) (offset : Nat)
    (terms : JoinTerms) {s : State} (hs : State.Ok q s) :
    ResOk q (execPaceGroupJoin tag handle offset terms s) := by
  unfold execPaceGroupJoin
  simp (maxDischargeDepth := 60) +contextual only [hs, ResOk_next, implies_true, FstOk_eq, State.serve_ok, State.paceJoin_ok]

theorem execPaceGroupLeave_ok {q : List Instr} (tag : Nat) {s : State} (hs : State.Ok q s) :
    ResOk q (execPaceGroupLeave tag s) := by
  unfold execPaceGroupLeave
  grind (splits := 30) [Ok_mk, OkParts_state, ResOk_next, FstOk_eq, State.serve_ok, State.leaveJob_ok,
      State.unloadProgram_ok]

theorem execPolicyLoad_ok {q : List Instr} (tag : Nat) (blk : List Byte) {s : State} (hs : State.Ok q s) :
    ResOk q (execPolicyLoad tag blk s) := by
  unfold execPolicyLoad
  simp (maxDischargeDepth := 60) +contextual only [hs, ResOk_next, implies_true, FstOk_eq, State.serve_ok,
      State.loadPolicy_ok]

theorem execResShareWrite_ok {q : List Instr} (rank : Nat) (reg : Nat) (value : Nat) {s : State} (hs : State.Ok q s) :
    ResOk q (execResShareWrite rank reg value s) := by
  unfold execResShareWrite
  simp (maxDischargeDepth := 60) only [hs, Ok_ite, ResOk_next, ite_self, State.writeResCtrl_ok, State.writeShare_ok]

theorem State.beginFills_ok {q : List Instr} {s : State} (hs : State.Ok q s) :
    State.Ok q (State.beginFills s) := by
  unfold State.beginFills
  simp (maxDischargeDepth := 60) +contextual only [hs, Ok_ite, ite_self, implies_true, State.beginFill_ok, foldl_ok]

theorem State.dropPrefills_ok {q : List Instr} {s : State} (hs : State.Ok q s) :
    State.Ok q (State.dropPrefills s) := by
  unfold State.dropPrefills
  simp (maxDischargeDepth := 60) only [hs, Ok_mk, OkParts_state]

theorem State.loading_ok {q : List Instr} {s : State} (a : ProgArgs) (p : ProgFile) (hs : State.Ok q s) :
    State.Ok q (State.loading s a p) := by
  unfold State.loading
  simp (maxDischargeDepth := 60) only [hs, Ok_mk, OkParts_state]

theorem State.loadRegs_ok {q : List Instr} {s : State} (h0 : ProgHeader) (hs : State.Ok q s) :
    State.Ok q (State.loadRegs s h0) := by
  unfold State.loadRegs
  simp (maxDischargeDepth := 60) only [hs, State.wr_ok, State.rst_ok, State.setOp_ok]

theorem State.setCompat_ok {q : List Instr} {s : State} (mask : Nat) (hs : State.Ok q s) :
    State.Ok q (State.setCompat s mask) := by
  unfold State.setCompat
  simp (maxDischargeDepth := 60) +contextual only [hs, implies_true, State.wr_ok, foldl_ok]

theorem State.install_ok {q : List Instr} {s : State} (a : ProgArgs) (p : ProgFile) (hs : State.Ok q s) :
    State.Ok q (State.install s a p) := by
  unfold State.install
  simp (maxDischargeDepth := 60) only [hs, Ok_mk, OkParts_state, State.loading_ok, State.loadRegs_ok, State.setCompat_ok]

theorem State.loadFailed_ok {q : List Instr} {s : State} (f : LoadFail) (hs : State.Ok q s) :
    State.Ok q (State.loadFailed s f).1 := by
  unfold State.loadFailed
  simp (maxDischargeDepth := 60) only [hs, State.raiseInfo_ok]

theorem State.loadProgram_ok {q : List Instr} {s : State} (a : ProgArgs) (hs : State.Ok q s) :
    State.Ok q (State.loadProgram s a).1 := by
  unfold State.loadProgram
  split
  · exact State.loadFailed_ok _ hs
  split
  · exact State.loadFailed_ok _ hs
  dsimp only
  have h1 : State.Ok q s.unloadProgram.dropPrefills := State.dropPrefills_ok (State.unloadProgram_ok hs)
  split
  · exact State.loadFailed_ok _ h1
  split
  · exact State.loadFailed_ok _ h1
  split
  · exact State.loadFailed_ok _ h1
  · exact State.install_ok _ _ h1

theorem State.startProgram_ok {q : List Instr} {s : State} (p : ProgHeader) (epoch : Nat) (hs : State.Ok q s) :
    State.Ok q (State.startProgram s p epoch) := by
  unfold State.startProgram
  simp (maxDischargeDepth := 60) only [hs, Ok_mk, OkParts_state, State.wr_ok, State.beginFills_ok, State.setPwr_ok]

theorem State.startCommand_ok {q : List Instr} {s : State} (epoch : Nat) (tag : Nat) (hs : State.Ok q s) :
    State.Ok q (State.startCommand s epoch tag).1 := by
  unfold State.startCommand
  grind (splits := 30) [Ok_mk, OkParts_state, ResOk_next, FstOk_eq, State.raiseInfo_ok, State.startProgram_ok]

theorem execProgramLoad_ok {q : List Instr} (tag : Nat) (handle : Nat) (imageOff : Nat) (syncOff : Nat) (stepOff : Nat)
    (sinterOff : Nat) (powerOff : Nat) (compat : Nat) {s : State} (hs : State.Ok q s) :
    ResOk q (execProgramLoad tag handle imageOff syncOff stepOff sinterOff powerOff compat s) := by
  unfold execProgramLoad
  simp (maxDischargeDepth := 60) +contextual only [hs, ResOk_next, implies_true, FstOk_eq, State.serve_ok,
      State.loadProgram_ok]

theorem execProgramStart_ok {q : List Instr} (tag : Nat) (epoch : Nat) {s : State} (hs : State.Ok q s) :
    ResOk q (execProgramStart tag epoch s) := by
  unfold execProgramStart
  simp (maxDischargeDepth := 60) +contextual only [hs, ResOk_next, implies_true, FstOk_eq, State.serve_ok,
      State.startCommand_ok]

theorem State.blockChain_ok {q : List Instr} {s : State} (rank : Nat) (group : Nat) (first : Nat) (blocks : Nat) (lost :
    List Nat) (hs : State.Ok q s) :
    State.Ok q (State.blockChain s rank group first blocks lost) := by
  unfold State.blockChain
  repeat' (first
    | assumption
    | simp (maxDischargeDepth := 60) only [hs, State.startChain_ok]
    | split)

theorem State.clearPending_ok {q : List Instr} {s : State} (gi : Nat) (hs : State.Ok q s) :
    State.Ok q (State.clearPending s gi) := by
  unfold State.clearPending
  simp (maxDischargeDepth := 60) only [hs, State.setSin_ok]

theorem State.setRestore_ok {q : List Instr} {s : State} (r : Option Restore) (hs : State.Ok q s) :
    State.Ok q (State.setRestore s r) := by
  unfold State.setRestore
  simp (maxDischargeDepth := 60) only [hs, State.setSin_ok]

theorem State.countRebuilt_ok {q : List Instr} {s : State} (r : Restore) (n : Nat) (hs : State.Ok q s) :
    State.Ok q (State.countRebuilt s r n) := by
  unfold State.countRebuilt
  simp (maxDischargeDepth := 60) only [hs, State.setRestore_ok, State.bump_ok]

theorem State.endRestore_ok {q : List Instr} {s : State} (r : Restore) (a : Answer) (hs : State.Ok q s) :
    State.Ok q (State.endRestore s r a) := by
  unfold State.endRestore
  simp (maxDischargeDepth := 60) only [hs, State.answer_ok, State.setRestore_ok]

theorem State.fullChains_ok {q : List Instr} {s : State} (rank : Nat) (lost : List Nat) (hs : State.Ok q s) :
    State.Ok q (State.fullChains s rank lost) := by
  unfold State.fullChains
  simp (maxDischargeDepth := 60) +contextual only [hs, implies_true, State.startChain_ok, foldl_ok]

theorem State.restoreStat_ok {q : List Instr} (targets : List (Nat × Nat)) (bs : List Byte) {s : State} (slot : Nat) (hs :
    State.Ok q s) :
    State.Ok q (State.restoreStat targets bs s slot) := by
  unfold State.restoreStat
  simp (maxDischargeDepth := 60) +contextual only [hs, Ok_ite, ite_self, implies_true, State.putBytes_ok,
      State.statPromoteSlot_ok, foldl_ok]

theorem State.restoreJoin_ok {q : List Instr} {s : State} (r : Restore) (hs : State.Ok q s) :
    State.Ok q (State.restoreJoin s r) := by
  unfold State.restoreJoin
  simp (maxDischargeDepth := 60) only [hs, Ok_mk, OkParts_state, State.wr_ok, State.enterFrame_ok]

theorem State.restoreCounters_ok {q : List Instr} {s : State} (r : Restore) (hs : State.Ok q s) :
    State.Ok q (State.restoreCounters s r) := by
  unfold State.restoreCounters
  simp (maxDischargeDepth := 60) only [hs, Ok_mk, OkParts_state, State.wr_ok, State.loadKeys_ok]

theorem State.restoreFinish_ok {q : List Instr} {s : State} (r : Restore) (hs : State.Ok q s) :
    State.Ok q (State.restoreFinish s r) := by
  unfold State.restoreFinish
  simp (maxDischargeDepth := 60) +contextual only [hs, implies_true, State.restoreStat_ok, State.endRestore_ok,
      State.restoreJoin_ok, State.restoreCounters_ok, foldl_ok]

theorem State.restoreStep_ok {q : List Instr} {s : State} (hs : State.Ok q s) :
    State.Ok q (State.restoreStep s) := by
  unfold State.restoreStep
  repeat' (first
    | assumption
    | simp (maxDischargeDepth := 60) only [hs, Ok_ite, ite_self, State.endRestore_ok, State.restoreFinish_ok,
          State.setRestore_ok, State.raiseSin_ok]
    | split)

theorem State.heldRecordPart_ok {q : List Instr} {s : State} (r : Restore) (m : Msg) (hs : State.Ok q s) :
    State.Ok q (State.heldRecordPart s r m) := by
  unfold State.heldRecordPart
  repeat' (first
    | assumption
    | simp (maxDischargeDepth := 60) only [hs, Ok_ite, ite_self, State.raiseSin_ok, State.putBytes_ok,
          State.restoreStep_ok, State.setSin_ok]
    | split)

theorem State.ownRecordWhole_ok {q : List Instr} {s : State} (r : Restore) (hs : State.Ok q s) :
    State.Ok q (State.ownRecordWhole s r) := by
  unfold State.ownRecordWhole
  simp (maxDischargeDepth := 60) only [hs, Ok_ite, ite_self, State.stepWindow_ok, State.restoreStep_ok, State.setRestore_ok,
      State.endRestore_ok]

theorem State.ownRecordPart_ok {q : List Instr} {s : State} (r : Restore) (m : Msg) (hs : State.Ok q s) :
    State.Ok q (State.ownRecordPart s r m) := by
  unfold State.ownRecordPart
  simp (maxDischargeDepth := 60) only [hs, Ok_ite, ite_self, State.ownRecordWhole_ok, State.setRestore_ok]

theorem State.putRebuilt_ok {q : List Instr} {s : State} (gi : Nat) (g : SinGroup) (r : Restore) (m : Msg) (hs : State.Ok q
    s) :
    State.Ok q (State.putRebuilt s gi g r m) := by
  unfold State.putRebuilt
  repeat' (first
    | assumption
    | simp (maxDischargeDepth := 60) only [hs, Ok_ite, State.countRebuilt_ok, State.clearPending_ok, State.putBytes_ok]
    | split)

theorem State.restoreTarget_ok {q : List Instr} {s : State} (r : Restore) (hs : State.Ok q s) :
    State.Ok q (State.restoreTarget s r).1 := by
  unfold State.restoreTarget
  repeat' (first
    | assumption
    | simp (maxDischargeDepth := 60) only [hs, State.raiseSin_ok, State.restoreStep_ok, State.setRestore_ok,
          State.syncClear_ok]
    | split)

theorem State.sendHeldRecord_ok {q : List Instr} {s : State} (dst : Nat) (r : Nat) (hs : State.Ok q s) :
    State.Ok q (State.sendHeldRecord s dst r) := by
  unfold State.sendHeldRecord
  repeat' (first
    | assumption
    | simp (maxDischargeDepth := 60) only [hs, State.sendRecord_ok]
    | split)

theorem State.sendCopy_ok {q : List Instr} {s : State} (dst : Nat) (q0 : Nat × Nat × Nat) (hs : State.Ok q s) :
    State.Ok q (State.sendCopy s dst q0) := by
  unfold State.sendCopy
  repeat' (first
    | assumption
    | simp (maxDischargeDepth := 60) only [hs, State.present_ok, State.bump_ok]
    | split
    | refine foldl_ok (fun s a hs => ?_) _ ?_
    | refine foldl_fst_ok (fun s b a hs => ?_) _ ?_)

theorem State.restoreSource_ok {q : List Instr} {s : State} (rank : Nat) (recs : List Nat) (copies : List (Nat × Nat × Nat))
    (chains : State → State) (hs : State.Ok q s) (hchains : ∀ (x0 : State), State.Ok q x0 → State.Ok q (chains x0)) :
    State.Ok q (State.restoreSource s rank recs copies chains) := by
  unfold State.restoreSource
  simp (maxDischargeDepth := 60) +contextual only [hs, hchains, implies_true, State.sendHeldRecord_ok, State.sendCopy_ok,
      foldl_ok]

theorem State.restoreBlock_ok {q : List Instr} {s : State} (tag : Nat) (target : Bool) (rank : Nat) (group : Nat) (first :
    Nat) (blocks : Nat) (lost : List Nat) (copy : Nat) (copies : List (Nat × Nat × Nat)) (hs : State.Ok q s) :
    State.Ok q (State.restoreBlock s tag target rank group first blocks lost copy copies).1 := by
  unfold State.restoreBlock
  grind (splits := 30) [Ok_mk, OkParts_state, ResOk_next, FstOk_eq, State.restoreTarget_ok, State.restoreSource_ok,
      State.syncClear_ok, State.blockChain_ok]

theorem State.restoreFull_ok {q : List Instr} {s : State} (tag : Nat) (target : Bool) (rank : Nat) (lost : List Nat) (step :
    Nat) (epoch : Nat) (recs : List Nat) (copy : Nat) (crcs : List (Nat × Nat × Nat)) (copies : List (Nat × Nat × Nat)) (hs
    : State.Ok q s) :
    State.Ok q (State.restoreFull s tag target rank lost step epoch recs copy crcs copies).1 := by
  unfold State.restoreFull
  grind (splits := 30) [Ok_mk, OkParts_state, ResOk_next, FstOk_eq, State.restoreTarget_ok, State.restoreSource_ok,
      State.syncClear_ok, State.fullChains_ok]

theorem execRestoreBlock_ok {q : List Instr} (tag : Nat) (target : Bool) (rank : Nat) (group : Nat) (first : Nat) (blocks :
    Nat) (lost : List Nat) (copy : Nat) (copies : List (Nat × Nat × Nat)) {s : State} (hs : State.Ok q s) :
    ResOk q (execRestoreBlock tag target rank group first blocks lost copy copies s) := by
  unfold execRestoreBlock
  simp (maxDischargeDepth := 60) +contextual only [hs, ResOk_next, implies_true, FstOk_eq, State.serve_ok,
      State.restoreBlock_ok]

theorem execRestoreFull_ok {q : List Instr} (tag : Nat) (target : Bool) (rank : Nat) (lost : List Nat) (step : Nat) (epoch :
    Nat) (recs : List Nat) (copy : Nat) (crcs : List (Nat × Nat × Nat)) (copies : List (Nat × Nat × Nat)) {s : State} (hs :
    State.Ok q s) :
    ResOk q (execRestoreFull tag target rank lost step epoch recs copy crcs copies s) := by
  unfold execRestoreFull
  simp (maxDischargeDepth := 60) +contextual only [hs, ResOk_next, implies_true, FstOk_eq, State.serve_ok,
      State.restoreFull_ok]

theorem execSinterCopyReceive_ok {q : List Instr} (q0 : Nat) {s : State} (hs : State.Ok q s) :
    ResOk q (execSinterCopyReceive q0 s) := by
  unfold execSinterCopyReceive
  repeat' (first
    | assumption
    | simp (maxDischargeDepth := 60) only [hs, ResOk_ite, ResOk_next, ite_self, State.popRx_ok, State.raiseSin_ok,
          State.restoreStep_ok, State.countRebuilt_ok, State.putBytes_ok]
    | split)

theorem execSinterRebuildReceive_ok {q : List Instr} (q0 : Nat) {s : State} (hs : State.Ok q s) :
    ResOk q (execSinterRebuildReceive q0 s) := by
  unfold execSinterRebuildReceive
  repeat' (first
    | assumption
    | simp (maxDischargeDepth := 60) only [hs, ResOk_ite, ResOk_next, ite_self, State.popRx_ok, State.raiseSin_ok,
          State.restoreStep_ok, State.putRebuilt_ok]
    | split)

theorem execSinterRecordReceive_ok {q : List Instr} (q0 : Nat) {s : State} (hs : State.Ok q s) :
    ResOk q (execSinterRecordReceive q0 s) := by
  unfold execSinterRecordReceive
  repeat' (first
    | assumption
    | simp (maxDischargeDepth := 60) only [hs, Ok_ite, ResOk_ite, ResOk_next, ite_self, State.popRx_ok,
          State.ownRecordPart_ok, State.heldRecordPart_ok, State.takeRecord_ok]
    | split)

theorem State.beatWrites_ok {q : List Instr} {s : State} (inst : Nat) (r : ResReq) (hs : State.Ok q s) :
    State.Ok q (State.beatWrites s inst r).1 := by
  unfold State.beatWrites
  repeat' (first
    | assumption
    | simp (maxDischargeDepth := 60) only [hs, State.resJudge_ok]
    | split)

theorem State.latchBook_ok {q : List Instr} {s : State} (req : Nat) (r : Reg) (hs : State.Ok q s) :
    State.Ok q (State.latchBook s req r) := by
  unfold State.latchBook
  simp (maxDischargeDepth := 60) +contextual only [hs, implies_true, State.setBus_ok, foldl_ok]

theorem State.clearRoc_ok {q : List Instr} {s : State} (r : Reg) (i : Nat) (hs : State.Ok q s) :
    State.Ok q (State.clearRoc s r i) := by
  unfold State.clearRoc
  simp (maxDischargeDepth := 60) +contextual only [hs, Ok_ite, ite_self, implies_true, State.wr_ok, foldl_ok]

theorem State.latchHalf_ok {q : List Instr} {s : State} (req : Nat) (off : Nat) (v : Option Nat) (hs : State.Ok q s) :
    State.Ok q (State.latchHalf s req off v) := by
  unfold State.latchHalf
  simp (maxDischargeDepth := 60) only [hs, State.setBus_ok]

theorem State.regRead_ok {q : List Instr} {s : State} (req : Nat) (off : Nat) (wide : Bool) (hs : State.Ok q s) :
    State.Ok q (State.regRead s req off wide) := by
  unfold State.regRead
  repeat' (first
    | assumption
    | simp (maxDischargeDepth := 60) only [hs, Ok_ite, ite_self, State.replyTo_ok, State.latchBook_ok, State.clearRoc_ok,
          State.latchHalf_ok]
    | split)

theorem State.readAt_ok {q : List Instr} {s : State} (rank : Nat) (a : Nat) (n : Nat) (hs : State.Ok q s) :
    State.Ok q (State.readAt s rank a n) := by
  unfold State.readAt
  simp (maxDischargeDepth := 60) only [hs, Ok_ite, ite_self, State.regRead_ok, State.replyTo_ok]

theorem stateAfter_ok {q : List Instr} {s : State} (r : Res) (hs : State.Ok q s) (hr : ResOk q r) :
    State.Ok q (stateAfter s r) := by
  unfold stateAfter
  cases r with
  | next t => exact hr
  | fault e => exact hs
  | refused e => exact hs

theorem State.writeField_ok {q : List Instr} {s : State} (i : Nat) (w : Nat) (f : Fld) (hs : State.Ok q s) :
    State.Ok q (State.writeField s i w f) := by
  unfold State.writeField
  repeat' (first
    | assumption
    | simp (maxDischargeDepth := 60) only [hs, State.rangeWrite_ok, State.wr_ok]
    | split)

theorem State.writeFields_ok {q : List Instr} {s : State} (r : Reg) (i : Nat) (w : Nat) (h0 : WriteHalf) (hs : State.Ok q s)
    :
    State.Ok q (State.writeFields s r i w h0) := by
  unfold State.writeFields
  simp (maxDischargeDepth := 60) +contextual only [hs, Ok_ite, ite_self, implies_true, State.writeField_ok, foldl_ok]

theorem State.writePlain_ok {q : List Instr} {s : State} (req : Nat) (r : Reg) (i : Nat) (w : Nat) (h0 : WriteHalf) (hs :
    State.Ok q s) :
    State.Ok q (State.writePlain s req r i w h0) := by
  unfold State.writePlain
  repeat' (first
    | assumption
    | simp (maxDischargeDepth := 60) only [hs, OkParts_memWrite, OkParts_memSet, OkParts_hostSet, Ok_ite, ResOk_ite,
          ResOk_next, Ok_mk, OkParts_state, ite_self, implies_true, FstOk_eq, State.writeFields_ok, State.orFlags_ok,
          State.dropPrefill_ok]
    | split)

theorem State.writeReg_ok {q : List Instr} {s : State} (req : Nat) (r : Reg) (i : Nat) (v : Nat) (h0 : WriteHalf) (hs :
    State.Ok q s) :
    State.Ok q (State.writeReg s req r i v h0) := by
  unfold State.writeReg
  repeat' (first
    | assumption
    | simp (maxDischargeDepth := 60) only [hs, Ok_ite, ite_self, State.writeResCtrl_ok, State.writeShare_ok,
          stateAfter_ok, execSyncHostSigWrite_ok, execFabCoordWrite_ok, execFabCreditLimitWrite_ok, execMaintSetWrite_ok,
          State.writeFields_ok, execSliceStart_ok, execPrefillStart_ok, execRowmapWrite_ok, execPwrGbWrite_ok,
          execPwrAlertClearWrite_ok, execCpKickWrite_ok, execMbxEnableWrite_ok, execMbxCmdTailWrite_ok, State.writePlain_ok]
    | split)

theorem State.regWrite_ok {q : List Instr} {s : State} (req : Nat) (off : Nat) (v : Nat) (wide : Bool) (hs : State.Ok q s) :
    State.Ok q (State.regWrite s req off v wide) := by
  unfold State.regWrite
  repeat' (first
    | assumption
    | simp (maxDischargeDepth := 60) only [hs, Ok_ite, ite_self, State.writeReg_ok]
    | split)

theorem State.putWrite_ok {q : List Instr} {s : State} (rank : Nat) (w : LockWrite) (hs : State.Ok q s) :
    State.Ok q (State.putWrite s rank w) := by
  unfold State.putWrite
  simp (maxDischargeDepth := 60) only [hs, Ok_ite, ite_self, State.regWrite_ok, State.resStore_ok]

theorem State.applyLock_ok {q : List Instr} {s : State} (rank : Nat) (l : List LockWrite) (hs : State.Ok q s) :
    State.Ok q (State.applyLock s rank l) := by
  unfold State.applyLock
  simp (maxDischargeDepth := 60) +contextual only [hs, implies_true, State.putWrite_ok, foldl_ok]

theorem State.readLocked_ok {q : List Instr} {s : State} (k : ResLock) (a : Nat) (n : Nat) (hs : State.Ok q s) :
    State.Ok q (State.readLocked s k a n) := by
  unfold State.readLocked
  simp (maxDischargeDepth := 60) only [hs, State.readAt_ok, State.setBus_ok]

theorem State.lockBeat_ok {q : List Instr} {s : State} (inst : Nat) (k : ResLock) (r : ResReq) (n : Nat) (hs : State.Ok q s)
    :
    State.Ok q (State.lockBeat s inst k r n) := by
  unfold State.lockBeat
  simp (maxDischargeDepth := 60) only [hs, Ok_ite, ite_self, State.tearLong_ok, State.beatWrites_ok, State.countGrant_ok,
      State.readLocked_ok, State.applyLock_ok, State.setLock_ok]

theorem State.freeBeat_ok {q : List Instr} {s : State} (inst : Nat) (r : ResReq) (n : Nat) (hs : State.Ok q s) :
    State.Ok q (State.freeBeat s inst r n) := by
  unfold State.freeBeat
  simp (maxDischargeDepth := 60) only [hs, Ok_ite, ite_self, State.beatWrites_ok, State.countGrant_ok, State.readAt_ok,
      State.setLock_ok, State.applyLock_ok]

theorem State.beat_ok {q : List Instr} {s : State} (inst : Nat) (r : ResReq) (n : Nat) (hs : State.Ok q s) :
    State.Ok q (State.beat s inst r n) := by
  unfold State.beat
  repeat' (first
    | assumption
    | simp (maxDischargeDepth := 60) only [hs, State.lockBeat_ok, State.freeBeat_ok]
    | split)

theorem State.beats_ok {q : List Instr} {s : State} (rank : Nat) (a2 : List (Nat × Nat)) (a3 : Option (List Byte)) (hs :
    State.Ok q s) :
    State.Ok q (State.beats s rank a2 a3) := by
  induction a2 generalizing s a3 with
  | nil => exact hs
  | cons p r ih => exact ih _ (State.beat_ok _ _ _ hs)

theorem State.readMem_ok {q : List Instr} {s : State} (rank : Nat) (a : Nat) (n : Nat) (hs : State.Ok q s) :
    State.Ok q (State.readMem s rank a n) := by
  unfold State.readMem
  simp (maxDischargeDepth := 60) only [hs, State.replyTo_ok, State.countBeats_ok]

theorem State.access_ok {q : List Instr} {s : State} (x : HeldAccess) (hs : State.Ok q s) :
    State.Ok q (State.access s x) := by
  unfold State.access
  simp (maxDischargeDepth := 60) only [hs, Ok_ite, ite_self, State.countGrant_ok, State.beat_ok, State.beats_ok,
      State.readMem_ok]

theorem State.releaseHeld_ok {q : List Instr} {s : State} (hs : State.Ok q s) :
    State.Ok q (State.releaseHeld s) := by
  unfold State.releaseHeld
  simp (maxDischargeDepth := 60) +contextual only [hs, implies_true, State.setBus_ok, State.access_ok, foldl_ok]

theorem State.holdAccess_ok {q : List Instr} {s : State} (x : HeldAccess) (hs : State.Ok q s) :
    State.Ok q (State.holdAccess s x) := by
  unfold State.holdAccess
  simp (maxDischargeDepth := 60) only [hs, State.setBus_ok]

theorem State.busAccess_ok {q : List Instr} {s : State} (x : HeldAccess) (hs : State.Ok q s) :
    State.Ok q (State.busAccess s x) := by
  unfold State.busAccess
  simp (maxDischargeDepth := 60) only [hs, Ok_ite, ite_self, State.releaseHeld_ok, State.holdAccess_ok, State.access_ok]

theorem State.busRead_ok {q : List Instr} {s : State} (req : Nat) (off : Nat) (wide : Bool) (hs : State.Ok q s) :
    State.Ok q (State.busRead s req off wide) := by
  unfold State.busRead
  simp (maxDischargeDepth := 60) only [hs, State.busAccess_ok]

theorem State.bar0Read_ok {q : List Instr} {s : State} (off : Nat) (n : Nat) (hs : State.Ok q s) :
    State.Ok q (State.bar0Read s off n) := by
  unfold State.bar0Read
  repeat' (first
    | assumption
    | simp (maxDischargeDepth := 60) only [hs, Ok_ite, ite_self, State.replyTo_ok, State.busRead_ok]
    | split)

theorem State.busWrite_ok {q : List Instr} {s : State} (req : Nat) (off : Nat) (v : Nat) (wide : Bool) (hs : State.Ok q s) :
    State.Ok q (State.busWrite s req off v wide) := by
  unfold State.busWrite
  simp (maxDischargeDepth := 60) only [hs, State.busAccess_ok]

theorem State.bar0Write_ok {q : List Instr} {s : State} (off : Nat) (bs : List Byte) (hs : State.Ok q s) :
    State.Ok q (State.bar0Write s off bs) := by
  unfold State.bar0Write
  repeat' (first
    | assumption
    | simp (maxDischargeDepth := 60) only [hs, State.busWrite_ok]
    | split)

theorem State.unbacked_ok {q : List Instr} {s : State} (off : Nat) (hs : State.Ok q s) :
    State.Ok q (State.unbacked s off) := by
  unfold State.unbacked
  simp (maxDischargeDepth := 60) only [hs, Ok_ite, ite_self, State.raise_ok, State.setBus_ok]

theorem execGeyserTick_ok {q : List Instr} (late : List Nat) (fec : List Nat) {s : State} (hs : State.Ok q s) :
    ResOk q (execGeyserTick late fec s) := by
  unfold execGeyserTick
  simp (maxDischargeDepth := 60) only [hs, ResOk_next, State.releaseHeld_ok, State.tickNow_ok]

theorem execHalfWordRead_ok {q : List Instr} (req : Nat) (off : Nat) {s : State} (hs : State.Ok q s) :
    ResOk q (execHalfWordRead req off s) := by
  unfold execHalfWordRead
  simp (maxDischargeDepth := 60) only [hs, Ok_ite, ResOk_next, ite_self, State.busRead_ok]

theorem execHostBarRead_ok {q : List Instr} (bar : Nat) (off : Nat) (n : Nat) {s : State} (hs : State.Ok q s) :
    ResOk q (execHostBarRead bar off n s) := by
  unfold execHostBarRead
  repeat' (first
    | assumption
    | simp (maxDischargeDepth := 60) only [hs, Ok_ite, ResOk_ite, ResOk_next, ite_self, State.replyTo_ok,
          State.unbacked_ok, State.bar0Read_ok, State.busAccess_ok]
    | split)

theorem execHostBarWrite_ok {q : List Instr} (bar : Nat) (off : Nat) (data : List Byte) {s : State} (hs : State.Ok q s) :
    ResOk q (execHostBarWrite bar off data s) := by
  unfold execHostBarWrite
  repeat' (first
    | assumption
    | simp (maxDischargeDepth := 60) only [hs, Ok_ite, ResOk_ite, ResOk_next, ite_self, State.unbacked_ok,
          State.bar0Write_ok, State.busAccess_ok]
    | split)

theorem execIdleTick_ok {q : List Instr} (fec : List Nat) {s : State} (hs : State.Ok q s) :
    ResOk q (execIdleTick fec s) := by
  unfold execIdleTick
  simp (maxDischargeDepth := 60) only [hs, ResOk_next, State.releaseHeld_ok, State.idleNow_ok]

theorem execPwrFrameEnergyRead_ok {q : List Instr} (req : Nat) (wide : Bool) {s : State} (hs : State.Ok q s) :
    ResOk q (execPwrFrameEnergyRead req wide s) := by
  unfold execPwrFrameEnergyRead
  simp (maxDischargeDepth := 60) only [hs, Ok_ite, ResOk_next, ite_self, State.busRead_ok]

theorem execRedExpectedRead_ok {q : List Instr} (req : Nat) {s : State} (hs : State.Ok q s) :
    ResOk q (execRedExpectedRead req s) := by
  unfold execRedExpectedRead
  simp (maxDischargeDepth := 60) only [hs, Ok_ite, ResOk_next, ite_self, State.busRead_ok]

theorem execRegisterWrite_ok {q : List Instr} (req : Nat) (off : Nat) (value : Nat) (wide : Bool) {s : State} (hs : State.Ok
    q s) :
    ResOk q (execRegisterWrite req off value wide s) := by
  unfold execRegisterWrite
  simp (maxDischargeDepth := 60) only [hs, Ok_ite, ResOk_next, ite_self, State.busWrite_ok]

theorem execResidualGrant_ok {q : List Instr} (arb : Nat) (reqs : List ResReq) {s : State} (hs : State.Ok q s) :
    ResOk q (execResidualGrant arb reqs s) := by
  unfold execResidualGrant
  repeat' (first
    | assumption
    | simp (maxDischargeDepth := 60) only [hs, ResOk_ite, ResOk_next, ite_self, State.releaseHeld_ok, State.holdAccess_ok,
          State.beat_ok]
    | split)

theorem execRocRead_ok {q : List Instr} (req : Nat) (off : Nat) {s : State} (hs : State.Ok q s) :
    ResOk q (execRocRead req off s) := by
  unfold execRocRead
  simp (maxDischargeDepth := 60) only [hs, Ok_ite, ResOk_next, ite_self, State.busRead_ok]

theorem execSinExpectedRead_ok {q : List Instr} (req : Nat) {s : State} (hs : State.Ok q s) :
    ResOk q (execSinExpectedRead req s) := by
  unfold execSinExpectedRead
  simp (maxDischargeDepth := 60) only [hs, Ok_ite, ResOk_next, ite_self, State.busRead_ok]

theorem execSyncIssuedRead_ok {q : List Instr} (req : Nat) (wide : Bool) {s : State} (hs : State.Ok q s) :
    ResOk q (execSyncIssuedRead req wide s) := by
  unfold execSyncIssuedRead
  simp (maxDischargeDepth := 60) only [hs, Ok_ite, ResOk_next, ite_self, State.busRead_ok]

theorem execTbNowRead_ok {q : List Instr} (req : Nat) (ofEpoch : Bool) (wide : Bool) {s : State} (hs : State.Ok q s) :
    ResOk q (execTbNowRead req ofEpoch wide s) := by
  unfold execTbNowRead
  simp (maxDischargeDepth := 60) only [hs, Ok_ite, ResOk_next, ite_self, State.busRead_ok]

end Sys2Proof.Machine
end

