-- ==== Sys2Proof/Laws/KeepStep.lean ====
section
/-! SUPPORT. What commands and steps keep (see Laws/Keep). -/

set_option autoImplicit false

namespace Sys2Proof.Machine

open Sys2Proof

set_option simprocs false

theorem exec_ok {q : List Instr} (i : Instr) {s : State} (hs : State.Ok q s) :
    ResOk q (exec i s) := by
  cases i with
  | deviceInfo tag handle offset nonce => exact execDeviceInfo_ok tag handle offset nonce hs
  | policyLoad tag blk => exact execPolicyLoad_ok tag blk hs
  | timeStatus tag => exact execTimeStatus_ok tag hs
  | errlogRead tag first number handle offset persistent =>
      exact execErrlogRead_ok tag first number handle offset persistent hs
  | alloc tag handle kind place bytes symmetric paged =>
      exact execAlloc_ok tag handle kind place bytes symmetric paged hs
  | free tag isDesc handle => exact execFree_ok tag isDesc handle hs
  | descCreate tag descId blk => exact execDescCreate_ok tag descId blk hs
  | programLoad tag handle imageOff syncOff stepOff sinterOff powerOff compat =>
      exact execProgramLoad_ok tag handle imageOff syncOff stepOff sinterOff powerOff compat hs
  | programStart tag epoch => exact execProgramStart_ok tag epoch hs
  | stepCommit tag step token => exact execStepCommit_ok tag step token hs
  | stepCommitCatchup tag => exact execStepCommitCatchup_ok tag hs
  | stepAbort tag restart => exact execStepAbort_ok tag restart hs
  | abortOpRecord tag e slotIdx rec => exact execAbortOpRecord_ok tag e slotIdx rec hs
  | abortOpTag tag target => exact execAbortOpTag_ok tag target hs
  | secureNow tag step => exact execSecureNow_ok tag step hs
  | setCap tag watts => exact execSetCap_ok tag watts hs
  | setFixedOp tag op => exact execSetFixedOp_ok tag op hs
  | paceGroupJoin tag handle offset terms => exact execPaceGroupJoin_ok tag handle offset terms hs
  | paceGroupLeave tag => exact execPaceGroupLeave_ok tag hs
  | telemetrySubscribe tag handle offset entries rank =>
      exact execTelemetrySubscribe_ok tag handle offset entries rank hs
  | restoreFull tag asTarget rank lost step epoch recs copy crcs copies =>
      exact execRestoreFull_ok tag asTarget rank lost step epoch recs copy crcs copies hs
  | restoreBlock tag asTarget rank group firstBlock blocks lost copy copies =>
      exact execRestoreBlock_ok tag asTarget rank group firstBlock blocks lost copy copies hs
  | spareAdopt tag coord rank => exact execSpareAdopt_ok tag coord rank hs
  | bistScheduleFull tag fails => exact execBistScheduleFull_ok tag fails hs
  | bistSchedulePeriodic tag gapMs rotEn bistEn =>
      exact execBistSchedulePeriodic_ok tag gapMs rotEn bistEn hs
  | repairApply tag h word => exact execRepairApply_ok tag h word hs
  | fuseBurn tag h bad => exact execFuseBurn_ok tag h bad hs
  | resetDomainSecondaryCp tag => exact execResetDomainSecondaryCp_ok tag hs
  | resetDomainModuleCore tag => exact execResetDomainModuleCore_ok tag hs
  | resetDomainPort tag unit => exact execResetDomainPort_ok tag unit hs
  | resetDomainStreamEngine tag n => exact execResetDomainStreamEngine_ok tag n hs
  | resetDomainUpdateEngine tag n => exact execResetDomainUpdateEngine_ok tag n hs
  | resetDomainReduction tag => exact execResetDomainReduction_ok tag hs
  | resetDomainHostAdapter tag => exact execResetDomainHostAdapter_ok tag hs
  | moduleCoreResetEffect bad => exact execModuleCoreResetEffect_ok bad hs
  | sleepStandby tag => exact execSleepStandby_ok tag hs
  | sleepDormant tag => exact execSleepDormant_ok tag hs
  | wake tag => exact execWake_ok tag hs
  | fwUpdate tag handle offset bytes adv => exact execFwUpdate_ok tag handle offset bytes adv hs
  | mbxCmdTailWrite count => exact execMbxCmdTailWrite_ok count hs
  | mbxFetch => exact execMbxFetch_ok hs
  | mbxResponsePost => exact execMbxResponsePost_ok hs
  | mbxEnableWrite enable => exact execMbxEnableWrite_ok enable hs
  | mctpMessage entry => exact execMctpMessage_ok entry hs
  | smbusAlertResponse => exact execSmbusAlertResponse_ok hs
  | smbusArp addr => exact execSmbusArp_ok addr hs
  | msixModerationEnd v => exact execMsixModerationEnd_ok v hs
  | cpKickWrite h => exact execCpKickWrite_ok h hs
  | watchdogExpire h => exact execWatchdogExpire_ok h hs
  | controlIslandBoot copyOk => exact execControlIslandBoot_ok copyOk hs
  | errlogWrite => exact execErrlogWrite_ok hs
  | powerApplied slotId perst => exact execPowerApplied_ok slotId perst hs
  | powerRemoved => exact execPowerRemoved_ok hs
  | startupRails => exact execStartupRails_ok hs
  | railStageSettled bad => exact execRailStageSettled_ok bad hs
  | railSettleTimeout second => exact execRailSettleTimeout_ok second hs
  | startupMemoryDone badStacks fails => exact execStartupMemoryDone_ok badStacks fails hs
  | startupReady => exact execStartupReady_ok hs
  | wakeComplete => exact execWakeComplete_ok hs
  | brownoutRestart => exact execBrownoutRestart_ok hs
  | pcieLinkRequest perst => exact execPcieLinkRequest_ok perst hs
  | hostAdapterReset cause => exact execHostAdapterReset_ok cause hs
  | pcieLinkEvent speed width flit l0p => exact execPcieLinkEvent_ok speed width flit l0p hs
  | slotIdChange slotId => exact execSlotIdChange_ok slotId hs
  | jtagInstructionLoad h code => exact execJtagInstructionLoad_ok h code hs
  | hostBarRead bar barOff len => exact execHostBarRead_ok bar barOff len hs
  | hostBarWrite bar barOff sent => exact execHostBarWrite_ok bar barOff sent hs
  | hostCompletionTimeout e k => exact execHostCompletionTimeout_ok e k hs
  | residualGrant arb reqs => exact execResidualGrant_ok arb reqs hs
  | lockGapTear arb => exact execLockGapTear_ok arb hs
  | registerWrite req regOff regVal wide => exact execRegisterWrite_ok req regOff regVal wide hs
  | rocRead req regOff => exact execRocRead_ok req regOff hs
  | halfWordRead req regOff => exact execHalfWordRead_ok req regOff hs
  | tbNowRead req ofEpoch wide => exact execTbNowRead_ok req ofEpoch wide hs
  | syncIssuedRead req wide => exact execSyncIssuedRead_ok req wide hs
  | redExpectedRead req => exact execRedExpectedRead_ok req hs
  | sinExpectedRead req => exact execSinExpectedRead_ok req hs
  | pwrFrameEnergyRead req wide => exact execPwrFrameEnergyRead_ok req wide hs
  | resShareWrite reqRank reg value => exact execResShareWrite_ok reqRank reg value hs
  | fabCoordWrite valid coord => exact execFabCoordWrite_ok valid coord hs
  | fabCreditLimitWrite p vc limit => exact execFabCreditLimitWrite_ok p vc limit hs
  | pwrGbWrite h gb => exact execPwrGbWrite_ok h gb hs
  | pwrAlertClearWrite bits => exact execPwrAlertClearWrite_ok bits hs
  | syncHostSigWrite id count => exact execSyncHostSigWrite_ok id count hs
  | maintSetWrite => exact execMaintSetWrite_ok hs
  | geyserTick late fec => exact execGeyserTick_ok late fec hs
  | idleTick fec => exact execIdleTick_ok fec hs
  | timeProbe p hops anchored backup off => exact execTimeProbe_ok p hops anchored backup off hs
  | timeAlignReject => exact execTimeAlignReject_ok hs
  | ppsInEdge => exact execPpsInEdge_ok hs
  | ppsOutEdge => exact execPpsOutEdge_ok hs
  | holdoverEnter => exact execHoldoverEnter_ok hs
  | holdoverExpire => exact execHoldoverExpire_ok hs
  | slotStart e => exact execSlotStart_ok e hs
  | guardHeldLaunch => exact execGuardHeldLaunch_ok hs
  | droopSkip h => exact execDroopSkip_ok h hs
  | droopHeavy h => exact execDroopHeavy_ok h hs
  | powerAlert level => exact execPowerAlert_ok level hs
  | capForced => exact execCapForced_ok hs
  | energySample mv ma coreA coreB => exact execEnergySample_ok mv ma coreA coreB hs
  | sensorSample samples => exact execSensorSample_ok samples hs
  | fumaroleRuleFire rule => exact execFumaroleRuleFire_ok rule hs
  | sensorSnapshot => exact execSensorSnapshot_ok hs
  | telemetryDeliver => exact execTelemetryDeliver_ok hs
  | paceReport p => exact execPaceReport_ok p hs
  | paceDecision p => exact execPaceDecision_ok p hs
  | syncSignalApply sigs => exact execSyncSignalApply_ok sigs hs
  | syncWaitRegister e => exact execSyncWaitRegister_ok e hs
  | syncWaitRelease e => exact execSyncWaitRelease_ok e hs
  | syncWaitTimeout e => exact execSyncWaitTimeout_ok e hs
  | barrierReport p => exact execBarrierReport_ok p hs
  | barrierRelease p => exact execBarrierRelease_ok p hs
  | syncBodyEntry => exact execSyncBodyEntry_ok hs
  | syncProgramEndCheck => exact execSyncProgramEndCheck_ok hs
  | transferStart e => exact execTransferStart_ok e hs
  | hbmOperationComplete e k ev => exact execHbmOperationComplete_ok e k ev hs
  | transferComplete e k => exact execTransferComplete_ok e k hs
  | sendSegmentReceive q n => exact execSendSegmentReceive_ok q n hs
  | sendAckReceive q => exact execSendAckReceive_ok q hs
  | gatherRequestReceive q => exact execGatherRequestReceive_ok q hs
  | gatherResponseReceive q => exact execGatherResponseReceive_ok q hs
  | patrolScrub inst ev => exact execPatrolScrub_ok inst ev hs
  | residentFillComplete t => exact execResidentFillComplete_ok t hs
  | messageArrive p m replays => exact execMessageArrive_ok p m replays hs
  | creditReturn p vc => exact execCreditReturn_ok p vc hs
  | laneFail p lane replay => exact execLaneFail_ok p lane replay hs
  | laneDropNotice p lane replay => exact execLaneDropNotice_ok p lane replay hs
  | portSignalLoss p => exact execPortSignalLoss_ok p hs
  | portSignalDetect p => exact execPortSignalDetect_ok p hs
  | portTrainingComplete p lanes coord nport => exact execPortTrainingComplete_ok p lanes coord nport hs
  | ledgerAuditExchange p rx cret occ => exact execLedgerAuditExchange_ok p rx cret occ hs
  | ledgerAudit => exact execLedgerAudit_ok hs
  | redRecordStart h => exact execRedRecordStart_ok h hs
  | redPartReceive q h => exact execRedPartReceive_ok q h hs
  | redDeadline h => exact execRedDeadline_ok h hs
  | redAckReceive q => exact execRedAckReceive_ok q hs
  | commitVote => exact execCommitVote_ok hs
  | sinterCapture => exact execSinterCapture_ok hs
  | sinterResecure => exact execSinterResecure_ok hs
  | sinterDeltaReceive q => exact execSinterDeltaReceive_ok q hs
  | sinterFreshReceive q => exact execSinterFreshReceive_ok q hs
  | sinterRecordReceive q => exact execSinterRecordReceive_ok q hs
  | sinterRebuildReceive q => exact execSinterRebuildReceive_ok q hs
  | sinterCopyReceive q => exact execSinterCopyReceive_ok q hs
  | parityApply => exact execParityApply_ok hs
  | sliceStart pt slice keyLeft => exact execSliceStart_ok pt slice keyLeft hs
  | sliceComplete pt pass misr rowsOk => exact execSliceComplete_ok pt pass misr rowsOk hs
  | sliceBudgetExpire pt => exact execSliceBudgetExpire_ok pt hs
  | prefillStart pt pos => exact execPrefillStart_ok pt pos hs
  | prefillComplete => exact execPrefillComplete_ok hs
  | rowmapWrite pt dly rowmap => exact execRowmapWrite_ok pt dly rowmap hs
  | spareLaneTest p bitError => exact execSpareLaneTest_ok p bitError hs
  | droppedLaneTestEnd p lane failed => exact execDroppedLaneTestEnd_ok p lane failed hs
  | laneRepairTrained p => exact execLaneRepairTrained_ok p hs
  | nop t slot b => exact execNop_ok t slot b hs
  | fadd t w b => exact execFadd_ok t w b hs
  | fsub t w b => exact execFsub_ok t w b hs
  | fmul t w b => exact execFmul_ok t w b hs
  | fma t w b => exact execFma_ok t w b hs
  | fnma t w b => exact execFnma_ok t w b hs
  | fmin t w b => exact execFmin_ok t w b hs
  | fmax t w b => exact execFmax_ok t w b hs
  | fabs t w b => exact execFabs_ok t w b hs
  | fneg t w b => exact execFneg_ok t w b hs
  | fcpys t w b => exact execFcpys_ok t w b hs
  | fmant t w b => exact execFmant_ok t w b hs
  | fmant2 t w b => exact execFmant2_ok t w b hs
  | frnd t w b => exact execFrnd_ok t w b hs
  | fscale t w b => exact execFscale_ok t w b hs
  | fdivFin t w b => exact execFdivFin_ok t w b hs
  | fsqrtFin t w b => exact execFsqrtFin_ok t w b hs
  | mov t w b => exact execMov_ok t w b hs
  | sel t w b => exact execSel_ok t w b hs
  | iadd t w b => exact execIadd_ok t w b hs
  | isub t w b => exact execIsub_ok t w b hs
  | imul t w b => exact execImul_ok t w b hs
  | imin t w b => exact execImin_ok t w b hs
  | imax t w b => exact execImax_ok t w b hs
  | and t w b => exact execAnd_ok t w b hs
  | or t w b => exact execOr_ok t w b hs
  | xor t w b => exact execXor_ok t w b hs
  | shl t w b => exact execShl_ok t w b hs
  | shr t w b => exact execShr_ok t w b hs
  | sra t w b => exact execSra_ok t w b hs
  | fcmpEq t w b => exact execFcmpEq_ok t w b hs
  | fcmpLt t w b => exact execFcmpLt_ok t w b hs
  | fcmpLe t w b => exact execFcmpLe_ok t w b hs
  | fcmpUn t w b => exact execFcmpUn_ok t w b hs
  | icmpEq t w b => exact execIcmpEq_ok t w b hs
  | icmpLt t w b => exact execIcmpLt_ok t w b hs
  | rmax t w b => exact execRmax_ok t w b hs
  | rmin t w b => exact execRmin_ok t w b hs
  | bcol t w b => exact execBcol_ok t w b hs
  | redAdd t w b => exact execRedAdd_ok t w b hs
  | redSq t w b => exact execRedSq_ok t w b hs
  | redCsq t w b => exact execRedCsq_ok t w b hs
  | redGet t w b => exact execRedGet_ok t w b hs
  | redClr t w b => exact execRedClr_ok t w b hs
  | cvt t w b => exact execCvt_ok t w b hs
  | seed t w b => exact execSeed_ok t w b hs
  | scanLr t w b => exact execScanLr_ok t w b hs
  | scanCget t w b => exact execScanCget_ok t w b hs
  | scanCput t w b => exact execScanCput_ok t w b hs
  | ld t w b => exact execLd_ok t w b hs
  | st t w b => exact execSt_ok t w b hs
  | ftqPop t w b => exact execFtqPop_ok t w b hs
  | awinRd t w b => exact execAwinRd_ok t w b hs
  | awinClr t w b => exact execAwinClr_ok t w b hs
  | lds t w b => exact execLds_ok t w b hs
  | sts t w b => exact execSts_ok t w b hs
  | veEnd t w b => exact execVeEnd_ok t w b hs
  | br t w b => exact execBr_ok t w b hs
  | salu t w b => exact execSalu_ok t w b hs
  | li t w b => exact execLi_ok t w b hs
  | addi t w b => exact execAddi_ok t w b hs
  | lsh16 t w b => exact execLsh16_ok t w b hs
  | aget t w b => exact execAget_ok t w b hs
  | pred t w b => exact execPred_ok t w b hs
  | syncSig t w b => exact execSyncSig_ok t w b hs
  | syncWait t w b => exact execSyncWait_ok t w b hs
  | flagsRd t w b => exact execFlagsRd_ok t w b hs
  | flagsClr t w b => exact execFlagsClr_ok t w b hs
  | calWload t w b => exact execCalWload_ok t w b hs
  | calWloadStart t => exact execCalWloadStart_ok t hs
  | weightSetLoaded t => exact execWeightSetLoaded_ok t hs
  | calMm t w b => exact execCalMm_ok t w b hs
  | calMmStart t => exact execCalMmStart_ok t hs
  | calMmComplete t fault => exact execCalMmComplete_ok t fault hs
  | calAccload t w b => exact execCalAccload_ok t w b hs
  | calAccloadStart t => exact execCalAccloadStart_ok t hs
  | calAccloadComplete done => exact execCalAccloadComplete_ok done hs
  | calDrain t w b => exact execCalDrain_ok t w b hs
  | calDrainStart t => exact execCalDrainStart_ok t hs
  | calDrainPost post => exact execCalDrainPost_ok post hs
  | ventMv t w b => exact execVentMv_ok t w b hs
  | ventMvStart t => exact execVentMvStart_ok t hs
  | ventMvComplete done => exact execVentMvComplete_ok done hs
  | ueNop n w => exact execUeNop_ok n w hs
  | ueLd n w => exact execUeLd_ok n w hs
  | ueSt n w => exact execUeSt_ok n w hs
  | ueScalew n w => exact execUeScalew_ok n w hs
  | ueFadd n w => exact execUeFadd_ok n w hs
  | ueFsub n w => exact execUeFsub_ok n w hs
  | ueFmul n w => exact execUeFmul_ok n w hs
  | ueFma n w => exact execUeFma_ok n w hs
  | ueFnma n w => exact execUeFnma_ok n w hs
  | ueFdiv n w => exact execUeFdiv_ok n w hs
  | ueFsqrt n w => exact execUeFsqrt_ok n w hs
  | ueFmin n w => exact execUeFmin_ok n w hs
  | ueFmax n w => exact execUeFmax_ok n w hs
  | ueSqacc n w => exact execUeSqacc_ok n w hs
  | ueSadd n w => exact execUeSadd_ok n w hs
  | ueSmul n w => exact execUeSmul_ok n w hs
  | ueSfma n w => exact execUeSfma_ok n w hs
  | ueSdiv n w => exact execUeSdiv_ok n w hs
  | ueSsqrt n w => exact execUeSsqrt_ok n w hs
  | ueSpowi n w => exact execUeSpowi_ok n w hs
  | sinterRecordAcknowledged q => exact execSinterRecordAcknowledged_ok q hs

theorem State.idleCycle_ok {q : List Instr} {s : State} (hs : State.Ok q s) :
    State.Ok q (State.idleCycle s) := by
  unfold State.idleCycle
  simp (maxDischargeDepth := 60) +contextual only [hs, Ok_ite, ite_self, implies_true, State.retryTile_ok,
      State.advanceCycles_ok, foldl_ok]

theorem State.withFetchWord_ok {q : List Instr} {s : State} (nbits : Nat) (w : Nat) (hs : State.Ok q s) :
    State.Ok q (State.withFetchWord s nbits w) := by
  unfold State.withFetchWord decodeTableWord
  exact hs

end Sys2Proof.Machine
end

