-- ==== Sys2Proof/WellFormed.lean ====
section
/-! DEFINITION. Well-formed commands: every operand names something the module has. -/

set_option autoImplicit false

namespace Sys2Proof

/-- A command whose operands lie in the ranges of the spec. -/
def Instr.wellFormed (i : Instr) : Bool :=
  match i with
  | .deviceInfo tag handle offset nonce => decide (tag < 2 ^ 32) && decide (handle < 2 ^ 32) && decide (offset < 2 ^ 64) && decide ((∀ l ∈ nonce, l.length = 32))
  | .policyLoad tag blk => decide (tag < 2 ^ 32) && decide (blk.length = 128)
  | .timeStatus tag => decide (tag < 2 ^ 32)
  | .errlogRead tag first number handle offset _ => decide (tag < 2 ^ 32) && decide (first < 2 ^ 64) && decide (number < 2 ^ 17) && decide (handle < 2 ^ 32) && decide (offset < 2 ^ 64)
  | .alloc tag handle kind place bytes _ _ => decide (tag < 2 ^ 32) && decide (handle < 2 ^ 32) && decide (kind < 256) && decide (place < 2 ^ 64) && decide (bytes < 2 ^ 64)
  | .free tag _ handle => decide (tag < 2 ^ 32) && decide (handle < 2 ^ 32)
  | .descCreate tag descId blk => decide (tag < 2 ^ 32) && decide (descId < 2 ^ 32) && decide (blk.length = 128)
  | .programLoad tag handle imageOff syncOff stepOff sinterOff powerOff compat => decide (tag < 2 ^ 32) && decide (handle < 2 ^ 32) && decide (imageOff < 2 ^ 64) && decide (syncOff < 2 ^ 64) && decide (stepOff < 2 ^ 64) && decide (sinterOff < 2 ^ 64) && decide (powerOff < 2 ^ 64) && decide (compat < 2 ^ 256)
  | .programStart tag epoch => decide (tag < 2 ^ 32) && decide (epoch < 2 ^ 96)
  | .stepCommit tag step token => decide (tag < 2 ^ 32) && decide (step < 2 ^ 32) && decide (token < 2 ^ 64)
  | .stepCommitCatchup tag => decide (tag < 2 ^ 32)
  | .stepAbort tag restart => decide (tag < 2 ^ 32) && decide (restart < 2 ^ 64)
  | .abortOpRecord tag e slotIdx rec => decide (tag < 2 ^ 32) && decide (e < 291) && decide (slotIdx < 512) && decide (rec < 4096)
  | .abortOpTag tag target => decide (tag < 2 ^ 32) && decide (target < 2 ^ 32)
  | .secureNow tag step => decide (tag < 2 ^ 32) && decide (step < 2 ^ 32)
  | .setCap tag watts => decide (tag < 2 ^ 32) && decide (watts < 2 ^ 32)
  | .setFixedOp tag op => decide (tag < 2 ^ 32) && decide (op < 8)
  | .paceGroupJoin tag handle offset terms => decide (tag < 2 ^ 32) && decide (handle < 2 ^ 32) && decide (offset < 2 ^ 64) && decide (terms.free < 65537)
  | .paceGroupLeave tag => decide (tag < 2 ^ 32)
  | .telemetrySubscribe tag handle offset entries rank => decide (tag < 2 ^ 32) && decide (handle < 2 ^ 32) && decide (offset < 2 ^ 64) && decide (entries < 2 ^ 32) && decide (rank < 65536)
  | .restoreFull tag _ rank lost step epoch recs copy _ _ => decide (tag < 2 ^ 32) && decide (rank < 65536) && decide (lost.all (fun r => r < 65536) = true) && decide (step < 2 ^ 32) && decide (epoch < 2 ^ 96) && decide (recs.all (fun r => r < 65536) = true) && decide (copy < 2 ^ 64)
  | .restoreBlock tag _ rank group firstBlock blocks lost copy _ => decide (tag < 2 ^ 32) && decide (rank < 65536) && decide (group < 2 ^ 32) && decide (firstBlock < 131072) && decide (blocks ≤ 131072) && decide (lost.all (fun r => r < 65536) = true) && decide (copy < 2 ^ 64)
  | .spareAdopt tag coord rank => decide (tag < 2 ^ 32) && decide (coord < 65536) && decide (rank < 65536)
  | .bistScheduleFull tag fails => decide (tag < 2 ^ 32) && decide (fails.all (fun f => decide (f.1 < 272 ∧ f.2.1 < 16)) = true)
  | .bistSchedulePeriodic tag gapMs _ _ => decide (tag < 2 ^ 32) && decide (gapMs < 65536)
  | .repairApply tag h word => decide (tag < 2 ^ 32) && decide (h < 2) && decide (word < 2 ^ 32)
  | .fuseBurn tag h bad => decide (tag < 2 ^ 32) && decide (h < 2) && decide (bad.all (fun i => i < 4096) = true)
  | .resetDomainSecondaryCp tag => decide (tag < 2 ^ 32)
  | .resetDomainModuleCore tag => decide (tag < 2 ^ 32)
  | .resetDomainPort tag unit => decide (tag < 2 ^ 32) && decide (unit < 32)
  | .resetDomainStreamEngine tag n => decide (tag < 2 ^ 32) && decide (n < 16)
  | .resetDomainUpdateEngine tag n => decide (tag < 2 ^ 32) && decide (n < 16)
  | .resetDomainReduction tag => decide (tag < 2 ^ 32)
  | .resetDomainHostAdapter tag => decide (tag < 2 ^ 32)
  | .moduleCoreResetEffect bad => decide (bad.all (fun i => i < 4096) = true)
  | .sleepStandby tag => decide (tag < 2 ^ 32)
  | .sleepDormant tag => decide (tag < 2 ^ 32)
  | .wake tag => decide (tag < 2 ^ 32)
  | .fwUpdate tag handle offset bytes _ => decide (tag < 2 ^ 32) && decide (handle < 2 ^ 32) && decide (offset < 2 ^ 64) && decide (bytes < 2 ^ 64)
  | .mbxCmdTailWrite count => decide (count < 2 ^ 32)
  | .mbxFetch => true
  | .mbxResponsePost => true
  | .mbxEnableWrite _ => true
  | .mctpMessage entry => decide (entry.length = 256)
  | .smbusAlertResponse => true
  | .smbusArp addr => decide (addr < 128)
  | .msixModerationEnd v => decide (v < 4)
  | .cpKickWrite h => decide (h < 2)
  | .watchdogExpire h => decide (h < 2)
  | .controlIslandBoot _ => true
  | .errlogWrite => true
  | .powerApplied slotId _ => decide (slotId < 64)
  | .powerRemoved => true
  | .startupRails => true
  | .railStageSettled bad => decide (bad.all (fun i => i < 4096) = true)
  | .railSettleTimeout _ => true
  | .startupMemoryDone badStacks fails => decide (badStacks.all (fun i => i < 16) = true) && decide (fails.all (fun f => decide (f.1 < 272 ∧ f.2.1 < 16)) = true)
  | .startupReady => true
  | .wakeComplete => true
  | .brownoutRestart => true
  | .pcieLinkRequest _ => true
  | .hostAdapterReset _ => true
  | .pcieLinkEvent speed width _ _ => decide (speed < 7) && decide (width < 17)
  | .slotIdChange slotId => decide (slotId < 64)
  | .jtagInstructionLoad h code => decide (h < 2) && decide (code < 256)
  | .hostBarRead bar barOff len => decide (bar = 0 ∨ bar = 2) && decide (barOff < 2 ^ 42) && decide (1 ≤ len ∧ len ≤ 4096 ∧ (bar = 0 → len = 4 ∨ len = 8))
  | .hostBarWrite bar barOff sent => decide (bar = 0 ∨ bar = 2) && decide (barOff < 2 ^ 42) && decide (1 ≤ sent.length ∧ sent.length ≤ 4096 ∧ (bar = 0 → sent.length = 4 ∨ sent.length = 8))
  | .hostCompletionTimeout e _ => decide (e < 291)
  | .residualGrant arb reqs => decide (arb < 35) && decide (reqs.all (fun r => decide (1 ≤ r.rank ∧ r.rank ≤ 10)) = true)
  | .lockGapTear arb => decide (arb < 35)
  | .registerWrite req regOff regVal _ => decide (1 ≤ req ∧ req ≤ 10) && decide (regOff < 2 ^ 28 ∧ regOff % 4 = 0) && decide (regVal < 2 ^ 64)
  | .rocRead req regOff => decide (1 ≤ req ∧ req ≤ 10) && decide (regOff < 2 ^ 28 ∧ regOff % 4 = 0)
  | .halfWordRead req regOff => decide (1 ≤ req ∧ req ≤ 10) && decide (regOff < 2 ^ 28 ∧ regOff % 4 = 0)
  | .tbNowRead req _ _ => decide (1 ≤ req ∧ req ≤ 10)
  | .syncIssuedRead req _ => decide (1 ≤ req ∧ req ≤ 10)
  | .redExpectedRead req => decide (1 ≤ req ∧ req ≤ 10)
  | .sinExpectedRead req => decide (1 ≤ req ∧ req ≤ 10)
  | .pwrFrameEnergyRead req _ => decide (1 ≤ req ∧ req ≤ 10)
  | .resShareWrite reqRank reg value => decide (reqRank < 16) && decide (reg < 9) && decide (value < 2 ^ 32)
  | .fabCoordWrite _ coord => decide (coord < 65536)
  | .fabCreditLimitWrite p vc limit => decide (p < 18) && decide (vc < 4) && decide (limit < 512)
  | .pwrGbWrite h gb => decide (h < 2) && decide (gb < 256)
  | .pwrAlertClearWrite bits => decide (bits < 32)
  | .syncHostSigWrite id count => decide (id < 2 ^ 24) && decide (count < 2 ^ 32)
  | .maintSetWrite => true
  | .geyserTick late fec => decide (late.all (fun e => e < 291) = true) && decide (fec.all (fun k => k < 72) = true)
  | .idleTick fec => decide (fec.all (fun k => k < 72) = true)
  | .timeProbe p hops _ backup _ => decide (p < 18) && decide (hops < 64) && decide (backup < 16)
  | .timeAlignReject => true
  | .ppsInEdge => true
  | .ppsOutEdge => true
  | .holdoverEnter => true
  | .holdoverExpire => true
  | .slotStart e => decide (e < 291)
  | .guardHeldLaunch => true
  | .droopSkip h => decide (h < 2)
  | .droopHeavy h => decide (h < 2)
  | .powerAlert level => decide (level < 16)
  | .capForced => true
  | .energySample _ _ _ _ => true
  | .sensorSample samples => decide (samples.all (fun p => decide (p.1 < 49 ∧ p.2 < 65536)) = true)
  | .fumaroleRuleFire rule => decide ((rule < 32 ∨ (128 ≤ rule ∧ rule < 134)))
  | .sensorSnapshot => true
  | .telemetryDeliver => true
  | .paceReport p => decide (p < 18)
  | .paceDecision p => decide (p < 18)
  | .syncSignalApply _ => true
  | .syncWaitRegister e => decide (e < 291)
  | .syncWaitRelease e => decide (e < 291)
  | .syncWaitTimeout e => decide (e < 291)
  | .barrierReport p => decide (p < 18)
  | .barrierRelease p => decide (p < 18)
  | .syncBodyEntry => true
  | .syncProgramEndCheck => true
  | .transferStart e => decide (e < 291)
  | .hbmOperationComplete e _ _ => decide (e < 291)
  | .transferComplete e _ => decide (e < 291)
  | .sendSegmentReceive q n => decide (q < 19) && decide (n < 16)
  | .sendAckReceive q => decide (q < 19)
  | .gatherRequestReceive q => decide (q < 19)
  | .gatherResponseReceive q => decide (q < 19)
  | .patrolScrub inst _ => decide (inst < 34)
  | .residentFillComplete t => decide (t < 256)
  | .messageArrive p _ _ => decide (p < 18)
  | .creditReturn p vc => decide (p < 18) && decide (vc < 4)
  | .laneFail p lane _ => decide (p < 18) && decide (lane < 4)
  | .laneDropNotice p lane _ => decide (p < 18) && decide (lane < 4)
  | .portSignalLoss p => decide (p < 18)
  | .portSignalDetect p => decide (p < 18)
  | .portTrainingComplete p lanes coord nport => decide (p < 18) && decide (lanes < 16) && decide (coord < 65536) && decide (nport < 18)
  | .ledgerAuditExchange p _ _ _ => decide (p < 18)
  | .ledgerAudit => true
  | .redRecordStart h => decide (h < 2)
  | .redPartReceive q h => decide (q < 19) && decide (h < 2)
  | .redDeadline h => decide (h < 2)
  | .redAckReceive q => decide (q < 19)
  | .commitVote => true
  | .sinterCapture => true
  | .sinterResecure => true
  | .sinterDeltaReceive q => decide (q < 19)
  | .sinterFreshReceive q => decide (q < 19)
  | .sinterRecordReceive q => decide (q < 19)
  | .sinterRebuildReceive q => decide (q < 19)
  | .sinterCopyReceive q => decide (q < 19)
  | .parityApply => true
  | .sliceStart pt slice _ => decide (pt < 272) && decide (slice < 16)
  | .sliceComplete pt _ misr _ => decide (pt < 272) && decide (misr < 2 ^ 64)
  | .sliceBudgetExpire pt => decide (pt < 272)
  | .prefillStart pt pos => decide (pt < 272) && decide (pos < 16)
  | .prefillComplete => true
  | .rowmapWrite pt dly rowmap => decide (pt < 272) && decide (dly < 1024) && decide (rowmap < 32768)
  | .spareLaneTest p _ => decide (p < 18)
  | .droppedLaneTestEnd p lane _ => decide (p < 18) && decide (lane < 4)
  | .laneRepairTrained p => decide (p < 18)
  | .nop t _ _ => decide (t < 256)
  | .fadd t _ _ => decide (t < 256)
  | .fsub t _ _ => decide (t < 256)
  | .fmul t _ _ => decide (t < 256)
  | .fma t _ _ => decide (t < 256)
  | .fnma t _ _ => decide (t < 256)
  | .fmin t _ _ => decide (t < 256)
  | .fmax t _ _ => decide (t < 256)
  | .fabs t _ _ => decide (t < 256)
  | .fneg t _ _ => decide (t < 256)
  | .fcpys t _ _ => decide (t < 256)
  | .fmant t _ _ => decide (t < 256)
  | .fmant2 t _ _ => decide (t < 256)
  | .frnd t _ _ => decide (t < 256)
  | .fscale t _ _ => decide (t < 256)
  | .fdivFin t _ _ => decide (t < 256)
  | .fsqrtFin t _ _ => decide (t < 256)
  | .mov t _ _ => decide (t < 256)
  | .sel t _ _ => decide (t < 256)
  | .iadd t _ _ => decide (t < 256)
  | .isub t _ _ => decide (t < 256)
  | .imul t _ _ => decide (t < 256)
  | .imin t _ _ => decide (t < 256)
  | .imax t _ _ => decide (t < 256)
  | .and t _ _ => decide (t < 256)
  | .or t _ _ => decide (t < 256)
  | .xor t _ _ => decide (t < 256)
  | .shl t _ _ => decide (t < 256)
  | .shr t _ _ => decide (t < 256)
  | .sra t _ _ => decide (t < 256)
  | .fcmpEq t _ _ => decide (t < 256)
  | .fcmpLt t _ _ => decide (t < 256)
  | .fcmpLe t _ _ => decide (t < 256)
  | .fcmpUn t _ _ => decide (t < 256)
  | .icmpEq t _ _ => decide (t < 256)
  | .icmpLt t _ _ => decide (t < 256)
  | .rmax t _ _ => decide (t < 256)
  | .rmin t _ _ => decide (t < 256)
  | .bcol t _ _ => decide (t < 256)
  | .redAdd t _ _ => decide (t < 256)
  | .redSq t _ _ => decide (t < 256)
  | .redCsq t _ _ => decide (t < 256)
  | .redGet t _ _ => decide (t < 256)
  | .redClr t _ _ => decide (t < 256)
  | .cvt t _ _ => decide (t < 256)
  | .seed t _ _ => decide (t < 256)
  | .scanLr t _ _ => decide (t < 256)
  | .scanCget t _ _ => decide (t < 256)
  | .scanCput t _ _ => decide (t < 256)
  | .ld t _ _ => decide (t < 256)
  | .st t _ _ => decide (t < 256)
  | .ftqPop t _ _ => decide (t < 256)
  | .awinRd t _ _ => decide (t < 256)
  | .awinClr t _ _ => decide (t < 256)
  | .lds t _ _ => decide (t < 256)
  | .sts t _ _ => decide (t < 256)
  | .veEnd t _ _ => decide (t < 256)
  | .br t _ _ => decide (t < 256)
  | .salu t _ _ => decide (t < 256)
  | .li t _ _ => decide (t < 256)
  | .addi t _ _ => decide (t < 256)
  | .lsh16 t _ _ => decide (t < 256)
  | .aget t _ _ => decide (t < 256)
  | .pred t _ _ => decide (t < 256)
  | .syncSig t _ _ => decide (t < 256)
  | .syncWait t _ _ => decide (t < 256)
  | .flagsRd t _ _ => decide (t < 256)
  | .flagsClr t _ _ => decide (t < 256)
  | .calWload t _ _ => decide (t < 256)
  | .calWloadStart t => decide (t < 256)
  | .weightSetLoaded t => decide (t < 256)
  | .calMm t _ _ => decide (t < 256)
  | .calMmStart t => decide (t < 256)
  | .calMmComplete t _ => decide (t < 256)
  | .calAccload t _ _ => decide (t < 256)
  | .calAccloadStart t => decide (t < 256)
  | .calAccloadComplete done => decide (done.tile < 256)
  | .calDrain t _ _ => decide (t < 256)
  | .calDrainStart t => decide (t < 256)
  | .calDrainPost post => decide (post.tile < 256)
  | .ventMv t _ _ => decide (t < 256)
  | .ventMvStart t => decide (t < 256)
  | .ventMvComplete done => decide (done.tile < 256)
  | .ueNop n _ => decide (n < 16)
  | .ueLd n _ => decide (n < 16)
  | .ueSt n _ => decide (n < 16)
  | .ueScalew n _ => decide (n < 16)
  | .ueFadd n _ => decide (n < 16)
  | .ueFsub n _ => decide (n < 16)
  | .ueFmul n _ => decide (n < 16)
  | .ueFma n _ => decide (n < 16)
  | .ueFnma n _ => decide (n < 16)
  | .ueFdiv n _ => decide (n < 16)
  | .ueFsqrt n _ => decide (n < 16)
  | .ueFmin n _ => decide (n < 16)
  | .ueFmax n _ => decide (n < 16)
  | .ueSqacc n _ => decide (n < 16)
  | .ueSadd n _ => decide (n < 16)
  | .ueSmul n _ => decide (n < 16)
  | .ueSfma n _ => decide (n < 16)
  | .ueSdiv n _ => decide (n < 16)
  | .ueSsqrt n _ => decide (n < 16)
  | .ueSpowi n _ => decide (n < 16)
  | .sinterRecordAcknowledged q => decide (q < 19)

end Sys2Proof
end

