-- ==== Sys2Proof/Tests/Slice0.lean ====
section
/-! SUPPORT. Tests of the model on values of the spec, ill-formed commands that WellFormed refuses, and, for each statement with
hypotheses, a state and operands that meet them. -/

set_option autoImplicit false

open Sys2Proof Sys2Proof.Machine

namespace Sys2Proof.Tests

set_option Elab.async false

/-! ### States of the tests -/

/-- An ACTIVE module that serves the mailbox, with every domain up. -/
def up : State :=
  { (State.reset.wr .FUM_STATUS_STATE 3).wr .MBX_STATUS_STATE 2 with
    start := { StartUnit.reset with coresUp := true, haUp := true, fresh := false } }

/-- A field of the active module set. -/
abbrev upW (f : Fld) (v : Nat) (i : Nat := 0) : State := up.wr f v i

theorem wf_reset : State.reset.wf := ⟨rfl, rfl, RegsFit_nil⟩

theorem wf_wr {s : State} (h : s.wf) (f : Fld) (v i : Nat) : (s.wr f v i).wf := ⟨h.1, h.2.1, RegsFit_wr h.2.2 f v i⟩

theorem wf_up : up.wf := ⟨rfl, rfl, (wf_wr (wf_wr wf_reset .FUM_STATUS_STATE 3 0) .MBX_STATUS_STATE 2 0).2.2⟩

/-! ### Hypotheses met: the machine, its registers, its arbiters and windows -/

/-- O1, O3, O5. -/
theorem test_meets_step : ({ up with pending := [.powerRemoved] } : State).pending = .powerRemoved :: [] ∧
    step State.reset = .next State.reset.idleCycle ∧ exec (.timeStatus 1) up = .next (up.serve 3 1 fun s => (s, .ok s.timeStatus)) :=
  ⟨rfl, rfl, rfl⟩

/-- O6: GLB_STARTUP. -/
theorem test_meets_registerRead : up.busUp = true ∧ regAt 0x2010 = some ⟨.GLB_STARTUP, 0, false⟩ ∧ bookRegs .GLB_STARTUP = [] ∧
    up.bookLatch 1 .GLB_STARTUP = none ∧ up.regFree 0x2010 := ⟨by decide, by decide, by decide, by decide, by unfold State.regFree; decide⟩

/-- O7: GEY_FRAME_COUNT, first not latched, then latched by requester 3. -/
theorem test_meets_halfWordRead :
    (regAt (regOffset .GEY_FRAME_COUNT) = some ⟨.GEY_FRAME_COUNT, 0, false⟩ ∧ (regRow .GEY_FRAME_COUNT).wide = true ∧
      bookRegs .GEY_FRAME_COUNT = [] ∧ up.bookLatch 3 .GEY_FRAME_COUNT = none) ∧
    let s := up.setBus { up.bus with half := tabSet none (latchKey 3 (regOffset .GEY_FRAME_COUNT)) (some 7) up.bus.half }
    s.busUp = true ∧ regAt (regOffset .GEY_FRAME_COUNT + 4) = some ⟨.GEY_FRAME_COUNT, 0, true⟩ ∧
      tabGet none (latchKey 3 (regOffset .GEY_FRAME_COUNT)) s.bus.half = some 7 ∧
      up.regFree (regOffset .GEY_FRAME_COUNT) ∧ s.regFree (regOffset .GEY_FRAME_COUNT + 4) := by unfold State.regFree; decide

/-- O8, O9. -/
theorem test_meets_bookRead : let s := (up.latchBook 4 .GEY_EPOCH).latchBook 4 .RED_EXPECTED
    s.busUp = true ∧ s.bookLatch 4 .GEY_EPOCH_HI = some 0 ∧ s.bookLatch 4 .RED_FOLDED = some 0 ∧
      ∀ r ∈ [Reg.GEY_TB_NOW, .GEY_TB_NOW_HI, .GEY_EPOCH, .GEY_EPOCH_HI, .RED_EXPECTED, .RED_FOLDED], s.regFree (regOffset r) := by
  unfold State.regFree; decide

/-- O10: a register with one range, one written by a host requester, one whose ring is off, one that needs a free sequencer. -/
theorem test_meets_registerWrite : up.wf ∧ up.busUp = true ∧ up.seqFree = true ∧ up.rd .MBX_CTRL_ENABLE = 0 ∧
    ∀ r ∈ [Reg.PWR_CAP_W, .HA_ATU, .MBX_CMD_SIZE, .PWR_PACE_ROUND], r ∉ ownWrite ∧ regAt (regOffset r) = some ⟨r, 0, false⟩ ∧
      up.regFree (regOffset r) :=
  ⟨wf_up, by unfold State.regFree; decide⟩

/-- O11: the whole rotation, one window more, and a sequencer that is not free. -/
theorem test_meets_shareWrite : up.wf ∧ up.seqFree = true ∧ sharesFit up ∧ ({ up with seq := .running } : State).seqFree = false ∧
    ownedWindows (up.rd .RES_CTRL_BG_WINDOWS) (setAt up.shareRegs 7 0x01010103) ≤ 200 ∧
    200 < ownedWindows (up.rd .RES_CTRL_BG_WINDOWS) (setAt up.shareRegs 7 0x01010104) :=
  ⟨wf_up, by decide, by unfold sharesFit; decide, by decide, by decide, by decide⟩

/-- O12: the widest coordinate, the last VC, die B at the greatest guardband. -/
theorem test_meets_ownWrites : up.wf ∧ 0xFFFF < 2 ^ 16 ∧ 3 < 4 ∧ 1 < 2 ∧ 255 < 256 := ⟨wf_up, by decide⟩

/-- A requester that waits to write two bytes of interleaved HBM. -/
def waiting (lock : LockBeat) : ResReq := ⟨1, 0, 0x20, some [1, 2], lock⟩

/-- The arbiter of that address locked by requester 1, after so many beats. -/
def locked (beats : Nat) : State := up.setLock (up.arbiterOf 0x20) (some ⟨1, beats, 0x20, []⟩)

/-- O13: memory, and a register. -/
theorem test_meets_grant : up.lockOf (up.arbiterOf 0x20) = none ∧ waitAt up (up.arbiterOf 0x20) [waiting .none] ∧
    (waiting .none).lock = .none ∧ isRegAddr (waiting .none).addr = false ∧ up.lockOf regFabric = none ∧
    waitAt up regFabric [⟨4, 0, regBase + 0x2010, none, .none⟩] ∧ isRegAddr (regBase + 0x2010) = true := by
  unfold waitAt; decide

/-- O14: the last beat that may follow, one too many, and a read. -/
theorem test_meets_lock : let s := locked 63
    s.lockOf (s.arbiterOf 0x20) = some ⟨1, 63, 0x20, []⟩ ∧ (waiting .hold).rank = 1 ∧ isRegAddr (waiting .hold).addr = false ∧
      (waiting .hold).lock ≠ .release ∧ 63 < 64 ∧ (waiting .release).lock = .release ∧ s.discards 1 0x20 = none ∧
      (locked 64).lockOf (s.arbiterOf 0x20) = some ⟨1, 64, 0x20, []⟩ ∧ (waiting .release).write ≠ none ∧
      (s.countGrant (s.arbiterOf 0x20)).discards 1 0x20 = none ∧ waitAt s (s.arbiterOf 0x20) [waiting .hold] ∧
      waitAt s (s.arbiterOf 0x20) [waiting .release] ∧ waitAt (locked 64) (s.arbiterOf 0x20) [waiting .hold] ∧
      waitAt s (s.arbiterOf 0x20) [⟨1, 0, 0x20, none, .hold⟩] := by
  unfold waitAt; decide

/-- The link up, BAR2 at address 0. -/
def linked : State := (upW .HA_STATUS_LINK_UP 1).wr .HA_BAR2_BASE_BASE 0

/-- The link up and a remap of logical tile 0 staged. -/
def staged : State :=
  { linked with str := { linked.str with takeovers := [⟨0, 0⟩] } }.wr .HA_BAR2_BASE_BASE (ocAddr 0 0)

/-- O15: an address behind the window, one outside it, one that another requester's lock holds. -/
theorem test_meets_window : linked.linkUp = true ∧ linked.barAddr 2 0x20 = some 0x20 ∧ 0x20 + 2 ≤ regBase ∧
    pathFree linked 0x20 2 ∧ linked.barAddr 2 0x00C000000000 = none ∧
    (linked.setLock (linked.arbiterOf 0x20) (some ⟨1, 1, 0x20, []⟩)).heldUp hostRank (linked.beatsOf 2 0x20 2) = true := by
  unfold pathFree; decide

/-- O15: an access to a tile whose remap is staged. -/
theorem test_meets_staged : staged.linkUp = true ∧ staged.barAddr 2 0 = some (ocAddr 0 0) ∧ staged.heldAt (ocAddr 0 0) = true ∧
    staged.bus.held = [] ∧ ocAddr 0 0 + 2 ≤ regBase := by decide

/-- O15: a register of BAR0, and a word of the MSI-X table. -/
theorem test_meets_bar0 : linked.regFree 0x2010 ∧ msixWord 0x2010 = none ∧ (msixWord 0x06002004).isSome = true := by
  unfold State.regFree; decide
/-! ### Hypotheses met: the vector engine -/

/-- Tile 0 runs its one slot of bundles; address register 0 holds the first address of its operand cache. -/
def veS : State :=
  { State.reset with
    seq := .running
    engines := [(0, { EngineRun.reset with running := true, slots := [⟨0, 0, false, 0, 0⟩] })]
    tiles := [(0, { Tile.reset with a := [(0, BitVec.ofNat 48 (ocAddr 0 0))] })] }

theorem wf_veS : veS.wf := ⟨rfl, rfl, RegsFit_nil⟩

/-- An A-slot word that an opcode admits: the 32-bit integer type for the integer forms, count register 1 for FSCALE. -/
def aWord (o : Nat) : BitVec 36 :=
  BitVec.ofNat 36 ((if 0x18 ≤ o ∧ o ≤ 0x22 ∨ o = 0x2C ∨ o = 0x2D then 0xA * 2 ^ 32 else 0) + if o = 0x0E then 2 ^ 15 else 0)

/-- O16, O17: every element-wise opcode. -/
theorem test_meets_elementwise : veS.wf ∧ ∀ p ∈ elementOps, Ready veS 0 (aloneA p.1 (aWord p.1)) :=
  ⟨wf_veS, by unfold Ready; decide⟩

/-- O18, O19, O20. -/
theorem test_meets_aSlot : ∀ o ∈ [0x12, 0x28, 0x29, 0x2A, 0x2B, 0x2C, 0x2D, 0x30, 0x31, 0x32, 0x34, 0x35, 0x36, 0x37, 0x38, 0x3C],
    Ready veS 0 (aloneA o (aWord o)) := by unfold Ready; decide

/-- O16: a bundle that is not taken, one past the operand cache, one that fails a check, one that waits for the queue, one that
begins a synchronisation wait. -/
theorem test_meets_refusedBundle :
    State.reset.canIssue 0 = false ∧
    (let s := veS.setVe 0 { VeRun.reset with pc := 0x30000 }
     s.canIssue 0 = true ∧ 0x300000 ≤ (s.veOf 0).pc * 16) ∧
    (firstFail [staticChecks (aloneA 0x18 0), check8 (veS.tile 0) 0 (aloneA 0x18 0)]).isSome = true ∧
    (veS.waitCause 0 (aloneM 3 0) = 3 ∧ bitsOf (aloneM 3 0).c 31 27 ≠ 7) ∧
    veS.waitCause 0 (aloneC 7 (BitVec.ofNat 27 (2 ^ 13))) = 0 := by decide

/-- O21, O25, O26, O27: the F and C slots. -/
theorem test_meets_otherSlots :
    (∀ o ∈ [1, 2, 3, 4], Ready veS 0 (aloneF o 0)) ∧ (∀ o ∈ [1, 2, 3, 5, 6, 8, 9, 16, 17, 18, 19, 20], Ready veS 0 (aloneC o 0)) ∧
    (∀ o ∈ [0, 1, 2, 3], Ready veS 0 (aloneI o 0)) ∧ (∀ sl ∈ [BundleSlot.a, .f, .m, .c], Ready veS 0 (besideWord Beside.nops sl 0)) ∧
    (veS.tile 0).cal = [] ∧ (veS.veOf 0).fenced = [] ∧ (veS.tile 0).wideDrains = 0 ∧
    firstFail [staticChecks (aloneC 7 (BitVec.ofNat 27 (2 ^ 13))), check8 (veS.tile 0) 0 (aloneC 7 (BitVec.ofNat 27 (2 ^ 13)))] = none := by
  unfold Ready; decide

/-- O22, O23: loads and stores at the first byte of the operand cache, and a load of a poisoned codeword. -/
theorem test_meets_loadStore :
    (∀ o ∈ [1, 2, 6, 7], Ready veS 0 (aloneM o 0)) ∧
    (∀ o ∈ [1, 2, 6, 7], tileOffset 0 ((veS.tile 0).ar 0).toNat (mBytes (o * 2 ^ 26)) = some 0) ∧
    veS.poisonedIn (ocCell (veS.physOf 0) 0) 1024 = none ∧
    let s : State := { veS with poison := [(codewordOf (ocCell (veS.physOf 0) 0), true)] }
    Ready s 0 (aloneM 1 0) ∧ (s.poisonedIn (ocCell (s.physOf 0) 0) (mBytes (2 ^ 26))).isSome = true := by
  unfold Ready; decide

/-- An entry in the finished-tile queue. -/
def ftqS : State := { veS with tiles := [(0, { Tile.reset with ftq := [⟨.float32, 0, 0, 0⟩] })] }

/-- O24: a queue with an entry; a bank read through the window while CAL holds nothing; no window. -/
theorem test_meets_queueWindow :
    (Ready ftqS 0 (aloneM 3 0) ∧ (ftqS.tile 0).ftq = ⟨.float32, 0, 0, 0⟩ :: []) ∧
    (let s := veS.wr .VE_CTRL_ACC_WINDOW 1 0
     Ready s 0 (aloneM 4 0) ∧ Ready s 0 (aloneM 5 0) ∧ s.rd .VE_CTRL_ACC_WINDOW 0 ≠ 0 ∧ (s.tile 0).windowBusy 0 = false) ∧
    Ready veS 0 (aloneM 4 0) ∧ veS.rd .VE_CTRL_ACC_WINDOW 0 = 0 :=
  ⟨⟨by unfold Ready; decide, rfl⟩, by unfold Ready; decide⟩

/-! ### Hypotheses met: Caldera and the update engines -/

/-- A command queued on tile 0, or started with its products formed; weight set 0 is loaded and bank 0 held. -/
def calOp (c : CalCmd) (started : Bool) : CalOp := { CalOp.issued c 0 false false with started := started }

/-- Tile 0 with one such command. -/
def calS (c : CalCmd) (started : Bool) : State :=
  { veS with tiles := [(0, { Tile.reset with
      sets := [(0, { WeightSet.reset with state := .loaded, ncols := 1, klen := 1 })]
      banks := [(0, { Bank.reset with state := .held })]
      cal := [calOp c started] })] }

theorem wf_calS (c : CalCmd) (started : Bool) : (calS c started).wf := ⟨rfl, rfl, RegsFit_nil⟩

/-- A weight load of one step, a multiply by it, a clear of bank 0, a drain in each format, a Vent multiply of no steps. -/
def loadOne (bt : Nat) : CalCmd := .wload 0 bt 0 false (ocAddr 0 0) 0 (2 ^ 16)
/-- The multiply. -/
def mmOne (ty : Nat) : CalCmd := .mm 0 0 ty 0 false false (ocAddr 0 0) 0 (2 ^ 16)
/-- The load of a bank. -/
def accOne (fmt : Nat) : CalCmd := .accload 0 fmt 0 (ocAddr 0 0)
/-- The drain. -/
def drainOne (fmt : Nat) : CalCmd := .drain 0 fmt 0 false false (ocAddr 0 0) 0 0
/-- The Vent multiply. -/
def ventOne (ty : Nat) : CalCmd := .vent 0 0 ty 0 false 0

/-- O28: each command ready and admitted; each ready with a check that it fails. -/
theorem test_meets_calStart :
    (calS (loadOne 0) false).opReady 0 .weight = some (calOp (loadOne 0) false) ∧ checkWload 0 0 false (ocAddr 0 0) 0 (2 ^ 16) = none ∧
    (checkWload 0 11 false (ocAddr 0 0) 0 (2 ^ 16)).isSome = true ∧
    (calS (mmOne 0) false).opReady 0 .feed = some (calOp (mmOne 0) false) ∧
    checkMm ((calS (mmOne 0) false).tile 0) 0 0 0 0 false false (ocAddr 0 0) 0 (2 ^ 16) = none ∧
    (checkMm ((calS (mmOne 11) false).tile 0) 0 0 0 11 false false (ocAddr 0 0) 0 (2 ^ 16)).isSome = true ∧
    (∀ f ∈ [0, 3, 4, 5], (calS (accOne f) false).opReady 0 .port = some (calOp (accOne f) false) ∧ checkAccload 0 f (ocAddr 0 0) = none) ∧
    (checkAccload 0 1 0).isSome = true ∧
    (∀ f ∈ [0, 1, 2, 3, 5], (calS (drainOne f) false).opReady 0 .port = some (calOp (drainOne f) false) ∧
      checkDrain ((calS (drainOne f) false).tile 0) 0 0 f 0 (ocAddr 0 0) = none) ∧
    (checkDrain ((calS (drainOne 6) false).tile 0) 0 0 6 0 (ocAddr 0 0)).isSome = true ∧
    (calS (ventOne 0) false).opReady 0 .vent = some (calOp (ventOne 0) false) ∧
    checkVent ((calS (ventOne 0) false).tile 0) 0 0 false 0 = none ∧
    ventBytes (ventK 0) ≤ ventReady 0 ((calS (ventOne 0) false).ventOf (ventK 0).engine) ∧
    (checkVent ((calS (ventOne 6) false).tile 0) 0 6 false 0).isSome = true ∧
    (calS (loadOne 0) false).calPoison 0 (ringOf (2 ^ 16)) 0 32 = none := by decide

/-- O28: nothing is being written that the sources read; registers with a parity mismatch; a queue with no room; chunks missing. -/
theorem test_meets_calWaits :
    ((calS (loadOne 0) false).tile 0).wideMeetsRing 0 (ringOf (2 ^ 16)) 0 32 = false ∧
    ((calS (mmOne 0) false).tile 0).wideMeetsRing 0 (ringOf (2 ^ 16)) 0 1024 = false ∧
    ((calS (accOne 3) false).tile 0).wideMeets 0 0 8192 = false ∧
    (∀ f ∈ [0, 1, 2, 3, 5], (calS (drainOne f) false).drainPads 0 (calOp (drainOne f) false) = false ∧
      drainEntries f ≤ (calS (drainOne f) false).ftqFree 0) ∧
    (let s := (calS (drainOne 0) false).setTile 0 { (calS (drainOne 0) false).tile 0 with ftqReserved := 32 }
     s.opReady 0 .port = some (calOp (drainOne 0) false) ∧ s.ftqFree 0 < drainEntries 0 ∧
       checkDrain (s.tile 0) 0 0 0 0 (ocAddr 0 0) = none) ∧
    (∀ c ∈ [accOne 0, ventOne 0], let o := CalOp.issued c 0 false true
      let s := (calS c false).setTile 0 { (calS c false).tile 0 with cal := [o] }
      s.opReady 0 (if c = accOne 0 then .port else .vent) = some o ∧ o.upset = true) ∧
    (let c : CalCmd := .vent 0 0 0 0 false 1
     (calS c false).opReady 0 .vent = some (calOp c false) ∧ checkVent ((calS c false).tile 0) 0 0 false 1 = none ∧
       ventReady 0 ((calS c false).ventOf (ventK 1).engine) < ventBytes (ventK 1)) := by decide

/-- O29, O30: each command started; a drain in format 5 outside a resident region. -/
theorem test_meets_calEnd :
    ((calS (loadOne 0) true).tile 0).cal.find? (startedOf .weight) = some (calOp (loadOne 0) true) ∧
    ((calS (mmOne 0) true).tile 0).cal.find? (startedOf .feed) = some (calOp (mmOne 0) true) ∧ (mmOne 0).bank = some 0 ∧
    ((calS (accOne 0) true).tile 0).cal.find? isAccloadStarted = some (calOp (accOne 0) true) ∧ (accOne 0).bank = some 0 ∧
    ((calS (ventOne 0) true).tile 0).cal.find? (startedOf .vent) = some (calOp (ventOne 0) true) ∧ (ventOne 0).bank = some 0 ∧
    (∀ f ∈ [0, 3, 4, 5], ((calS (drainOne f) true).tile 0).cal.find? isPortStarted = some (calOp (drainOne f) true)) ∧
    (calS (drainOne 5) true).residentWrite 0 (ocAddr 0 0 - ocAddr 0 0) = false := by decide

/-- A shard with streams 1 to 3, of one element each. -/
def shard : ShardEntry := ⟨[1, 2, 3], 0, 0, 0, 0, 0, 0, 0⟩

/-- A step table with that shard and one microprogram of two instructions in each section. -/
def table : StepTable :=
  ⟨true, false, 0, 0, 0x010001, 0, 0, 0, 0, 0, 0x7F800000, [], [shard], [[2 * 2 ^ 30 + 2 * 2 ^ 18 + 2 * 2 ^ 6]]⟩

/-- Where the engine stands: at the first instruction of a section. -/
def ueAt (pre : Bool) (pass : Nat) : UeRun := { UeRun.reset with preDone := pre, pass := pass }

/-- What the descriptor table holds of descriptors 1 to 3. -/
@[irreducible] def ueMem : Memory :=
  ([(1, 0), (2, 4 * 2 ^ 8 + 2 ^ 32), (3, 0x40 * 2 ^ 8 + 2 ^ (8 * 0x4C))].foldl (fun (s : State) (p : Nat × Nat) =>
    s.stBytes (descTable + p.1 * 128) (leBytes 128 (p.2 + descCheck p.2 * 2 ^ (8 * 0x7A)))) State.reset).mem

/-- Update engine 0 in its slot; descriptors 1 to 3 live, 2 written to in the paged allocation 1, 3 with scales in 1. -/
def ueS (r : UeRun) : State :=
  { State.reset with
    seq := .running
    mem := ueMem
    engines := [(0x110, { EngineRun.reset with running := true, slots := [⟨0, 0, false, 2, 0⟩] })]
    descs := [1, 2, 3]
    allocs := [⟨1, 0, 0, 0, 65536, false, true⟩]
    policy := { Policy.reset with statSlots := 1 }
    step := { StepUnit.reset with table := some table, ue := [(0, r)] } }

theorem wf_ueMem : Memory.wf ueMem = true := by decide +kernel

theorem wf_ueS (r : UeRun) : (ueS r).wf := ⟨wf_ueMem, rfl, RegsFit_nil⟩

/-- O31, O32, O33: the instructions of the UPDATE, NORM and PRE sections, and one that its section does not admit. -/
theorem test_meets_ueVector :
    (∀ o ∈ [0x00, 0x01, 0x08, 0x09, 0x0A, 0x0B, 0x0C, 0x0D, 0x0E, 0x0F, 0x10], UeReady (ueS (ueAt true 2)) 0 (o * 2 ^ 58) (ueAt true 2) shard) ∧
    UeReady (ueS (ueAt true 1)) 0 (0x11 * 2 ^ 58) (ueAt true 1) shard ∧
    (∀ o ∈ [0x18, 0x19, 0x1A, 0x1B, 0x1C, 0x1D], UeReady (ueS (ueAt false 1)) 0 (o * 2 ^ 58) (ueAt false 1) shard) ∧
    (ueS (ueAt true 2)).ueActive 0 = some (ueAt true 2, shard) ∧ (ueS (ueAt true 2)).ueInstrOk shard 2 (0x11 * 2 ^ 58) = false ∧
    (ueS (ueAt true 2)).ueOver 0 shard = false ∧ (ueS { ueAt true 2 with seg := 1 }).ueOver 0 shard = true ∧
    State.reset.ueActive 0 = none := by unfold UeReady MidSection; decide +kernel

/-- Engine 0 at the first UPDATE instruction. -/
def ueM : State := ueS (ueAt true 2)

/-- O34: UE_LD of stream 0, UE_ST to stream 1, UE_SCALEW of stream 2. -/
theorem test_meets_ueMemory :
    UeReady ueM 0 (2 ^ 58) (ueAt true 2) shard ∧ ueM.ueOver 0 shard = false ∧ (∀ i ∈ [1, 2, 3], ueM.ueStreamFail i = none ∧ ueM.ueBadDesc [i] = none) ∧
    ueM.ueWaits 0 (2 * 2 ^ 58 + 2 ^ 35) = false ∧ ueM.ueWaits 0 (3 * 2 ^ 58 + 2 * 2 ^ 35) = false ∧
    ueM.firstPoisoned ((ueM.readLocs (ueM.desc 1) (segWindow (ueM.desc 1) 0)).filterMap fun l => match l with | .here a => some a | _ => none) = none ∧
    ueM.ueInstrOk shard 2 (2 * 2 ^ 58 + 2 ^ 35) = true ∧ ueM.ueInstrOk shard 2 (3 * 2 ^ 58 + 2 * 2 ^ 35) = true ∧
    (ueM.desc 3).statSlot ≠ 0xFFFF ∧ ueM.statBad (ueM.desc 3).statSlot = false ∧ (ueM.desc 3).scaleMode ≠ 0 ∧
    ueM.descLive (ueM.desc 3).scaleLink = true ∧ ueM.residentByte (ueM.firstAddr (ueM.desc 3).scaleLink) = none := by
  unfold UeReady MidSection; decide +kernel


/-- Engine 0 at UE_ST to stream 1, which pads are written to, while an engine before it has yet to end a slot that writes there. -/
def ueP : State :=
  let v := 4 * 2 ^ 8 + 2 ^ 32 + 2 ^ 18
  let s := ueM.stBytes (descTable + 2 * 128) (leBytes 128 (v + descCheck v * 2 ^ (8 * 0x7A)))
  { s with
    engines := s.engines ++ [(0x100, { EngineRun.reset with slots := [⟨2 ^ 31, 0, false, 2, 0⟩] })]
    step := { s.step with table := some { table with shards := [{ shard with digLocal := 2 }] } } }

/-- O31: a store that waits for the padded footprint of an earlier slot. -/
theorem test_meets_ueWaits : ueP.ueWaits 0 (2 * 2 ^ 58 + 2 ^ 35) = true := by decide +kernel
/-! ### Hypotheses met: synchronisation -/

/-- A loaded table: counter 1 consumed by engine 0x100, module barrier 0x010000, job barrier 0x010001 with one member. -/
def syncU : SyncUnit :=
  { SyncUnit.reset with
    table := true
    decls := [⟨1, 0, 0x100, 0⟩, ⟨0x010000, 1, 0, 2⟩, ⟨0x010001, 2, 0, 1⟩]
    barParent := 5, barChildren := 8 }

/-- The active module with that unit, and messages in a port's receive buffer. -/
def syncS (u : SyncUnit) (p : Nat) (l : List Msg) : State :=
  { up with sync := u, fab := { FabUnit.reset with rx := if l.isEmpty then [] else [(p, l.map fun m => ⟨m, false⟩)], bodyCount := some 1 } }

/-- A wait of engine e. -/
def waitOne (e obj thr : Nat) (consume : Bool) (left : Nat) (st : WaitState) : SyncWait := ⟨e, 0, 0, obj, thr, consume, left, st, false⟩

/-- The unit with one registered, sent or satisfied wait. -/
def waitU (w : SyncWait) : SyncUnit := { syncU with waits := [w] }

/-- O35: a unit with a declared table, a registered consuming wait, and one count in flight. -/
theorem test_meets_syncBooks :
    let u := { waitU (waitOne 0x100 1 1 true 3 .registered) with issued := 5, inflight := [⟨1, 5, .host, true⟩] }
    BooksLevel u ∧ SyncSound u ∧ SyncCommand (.syncSignalApply ⟨0, []⟩) :=
  ⟨by unfold BooksLevel; decide, by unfold SyncSound; decide, Or.inl ⟨_, rfl⟩⟩

/-- A bundle of SYNC.WAIT that a tile holds. -/
def heldWait : HeldBundle := ⟨BitVec.ofNat 128 (aloneC 7 0).bits, .c, .none⟩

/-- A second bundle whose command also pops the finished-tile queue. -/
def heldPop : HeldBundle := ⟨BitVec.ofNat 128 { aloneC 7 0 with m := 3 * 2 ^ 26 }.bits, .c, .none⟩

/-- O37: two signals of one cycle, to the largest count; a wait that is accepted, one that is refused, a satisfied wait of a tile
that holds its bundle, with and without another cause to wait, one of a stream engine, an expired one, first or behind another. -/
theorem test_meets_signalsWaits :
    (let s := syncS { syncU with inflight := [⟨1, maxCount - 1, .host, false⟩, ⟨1, 1, .host, true⟩] } 0 []
     tabWf 0 s.sync.count = true ∧ s.sync.decl 1 = some ⟨1, 0, 0x100, 0⟩ ∧ isCounter 1 = true ∧
       s.sync.cnt 1 + countTo (signalsOf s 0 [1] true) 1 ≤ maxCount ∧ (signalsOf s 0 [1] true).length = 2 ∧
       ∀ m ∈ signalsOf s 0 [1] true, m.obj = 1) ∧
    (let w := waitOne 0x100 1 0 true 1 .sent
     (waitU w).waitOf 0x100 = some w ∧ w.state = .sent ∧ (waitU w).entryDue = false ∧ (waitU w).waitRefusal w = none ∧
       w.thr ≤ (waitU w).level w.obj) ∧
    (let w := waitOne 0x101 1 0 true 1 .sent
     (waitU w).waitOf 0x101 = some w ∧ (waitU w).waitRefusal w = some .ERR_SYNC_CONSUMER) ∧
    (let w := waitOne 0 1 0 false 1 .satisfied
     ∀ h ∈ [heldWait, heldPop], let s := (syncS (waitU w) 0 []).setVe 0 { VeRun.reset with held := some h }
     s.sync.waitOf 0 = some w ∧ w.state = .satisfied ∧ isTile 0 = true ∧ (s.veOf 0).held = some h ∧
       bitsOf (bundleOf h.bits.toNat).c 31 27 = 7 ∧
       let s₁ := { s with sync := s.sync.dropWait 0 }.setVe 0 (s.veOf 0).dropped
       s₁.waitCause 0 (bundleOf h.bits.toNat) = if h = heldWait then 0 else 3) ∧
    (let w := waitOne 0x100 1 0 true 1 .satisfied
     (waitU w).waitOf 0x100 = some w ∧ w.state = .satisfied ∧ isTile 0x100 = false) ∧
    (let w := waitOne 0x100 1 1 true 0 .registered
     let s := syncS (waitU w) 0 []
     s.sync.waitOf 0x100 = some w ∧ w.expired = true ∧ expireBefore s w = []) ∧
    (let w := waitOne 0x101 1 1 true 0 .registered
     let s := syncS { syncU with waits := [waitOne 0x100 1 1 true 0 .registered, w] } 0 []
     s.sync.waitOf 0x101 = some w ∧ w.expired = true ∧ expireBefore s w ≠ []) := by decide

/-- O38: a report of the next generation from child port 3, one of another generation; a release from the parent, one from
elsewhere; a stale message of each kind. -/
theorem test_meets_barrierTree :
    (let m := { msgPlain 7 3 0 0x010001 0 1 [] with tag := 1 }
     let s := syncS syncU 3 [m]
     let b := s.sync.bar 0x010001
     s.peekRx 3 (fun m => m.kind == 7) = some m ∧ s.staleTag m.tag = false ∧ s.jobBarrier m.obj = some ⟨0x010001, 2, 0, 1⟩ ∧
       bitOf s.sync.barChildren 3 = true ∧ m.aux = b.gen + 1 ∧ bitOf b.children 3 = false ∧
       (s.sync.setBar m.obj { b with children := b.children ||| 2 ^ 3 }).reportReady ⟨0x010001, 2, 0, 1⟩ = false ∧
       (msgPlain 7 3 0 0x010001 0 2 []).aux ≠ b.gen + 1) ∧
    (let m := { msgPlain 8 3 0 0x010001 0 maxCount [] with tag := 1 }
     let s := syncS (syncU.setBar 0x010001 ⟨0, maxCount - 1, true, 8⟩) 5 [m]
     let b := s.sync.bar 0x010001
     s.peekRx 5 (fun m => m.kind == 8) = some m ∧ s.staleTag m.tag = false ∧ s.jobBarrier m.obj = some ⟨0x010001, 2, 0, 1⟩ ∧
       5 = s.sync.barParent ∧ m.aux = b.gen + 1 ∧ m.aux ≤ maxCount ∧ b.reported = true ∧ b.arrivals < 1 ∧ 4 ≠ s.sync.barParent) ∧
    (∀ k ∈ [7, 8], let m := { msgPlain k 3 0 0x010002 0 1 [] with tag := 1 }
     let s := syncS syncU 3 [m]
     s.staleTag m.tag = false ∧ s.jobBarrier m.obj = none ∧ s.peekRx 3 (fun m => m.kind == k) = some m) ∧
    ∀ k ∈ [7, 8], let s := syncS syncU 3 [msgPlain k 3 0 0x010001 0 1 []]
      s.staleTag 0 = true ∧ s.peekRx 3 (fun m => m.kind == k) = some (msgPlain k 3 0 0x010001 0 1 []) := by decide

/-- O39: a body entry due, and a program-end check due, with nothing but new counts in flight. -/
theorem test_meets_bodyEntry :
    (let u := { syncU with entryDue := true, inflight := [⟨1, 1, .host, true⟩] }
     u.entryDue = true ∧ (∀ m ∈ u.inflight, m.fresh = true) ∧ (∃ d ∈ u.decls, d.kind = 0 ∧ ∀ x ∈ u.decls, x.id = d.id → x.kind = 0) ∧
       ∃ d ∈ u.decls, d.kind ≠ 0) ∧
    ({ syncU with endCheckDue := true } : SyncUnit).endCheckDue = true := by decide

/-! ### Hypotheses met: transfers, the fabric, reductions, Sinter -/

/-- The bytes of a descriptor: INT8, rank 1, size n, of a class, in an allocation. -/
def descBytes (cls h n : Nat) : Nat :=
  let v := 1 + 8 * 2 ^ 4 + cls * 2 ^ 10 + h * 2 ^ 32 + 0xFFFF * 2 ^ (8 * 0x0E) + n * 2 ^ (8 * 0x10) + 2 ^ (8 * 0x28) + n * 2 ^ (8 * 0x50)
  v + descCheck v * 2 ^ (8 * 0x7A)

/-- A live descriptor put into the table. -/
def withDesc (s : State) (id v : Nat) : State :=
  { s.stBytes (descTable + id * 128) (leBytes 128 v) with descs := s.descs ++ [id] }

/-- Two allocations of interleaved HBM, 1 and 2; descriptor 1 reads four elements of the first, 2 writes the second. -/
def xS : State :=
  let s := withDesc (withDesc up 1 (descBytes 0 1 4)) 2 (descBytes 1 2 4)
  { s with seq := .running, allocs := [⟨1, 0, 0, 0, 65536, false, false⟩, ⟨2, 0, 0, 65536, 65536, false, false⟩] }

/-- A COPY from descriptor 1 to descriptor 2 with a signal to object 1. -/
def copyWords : XWords := ⟨1 + 2 * 2 ^ 20, 2 ^ 24 + 1, 0, 0⟩

/-- An active transfer of that record. -/
def xfer0 : Xfer := ⟨0, 0, copyWords, [], [], [], true, [], [], [], 0, 0, 0, [], 0, 0, 0, false, false, false⟩

/-- Stream engine 0 in a slot of one record at address 0x10000 of an image at 0, with active transfers. -/
def xRun (next : Nat) (l : List Xfer) : State :=
  let s := ((xS.stNat 0x10000 8 copyWords.w0).stNat 0x10008 8 copyWords.w1).stNat 0x10010 8 0
  { s with
    prog := some ⟨9, 0, false, 10000, 0, 1, 2, 1, 0, 0, 1, 0, 0x20000, 0, none⟩
    engines := [(0x100, { EngineRun.reset with running := true, slots := [⟨2 ^ 48 + 0x10000, 0, false, 1, 0⟩] })]
    xfer := [(0x100, ⟨next, l, [], 0⟩)] }

/-- A protected COPY from a host allocation: channel 3, CRC-32. -/
def tagged : Xfer := { xfer0 with words := ⟨1 + 2 * 2 ^ 20, 0, 3 * 2 ^ 37 + 2 ^ 36 + 2 ^ 34, 0⟩, crc := 7 }

/-- The engine with that transfer, the tag left for its channel, and the source in the host window. -/
def tagS (crc : Nat) : State :=
  let s := ((xRun 1 [tagged]).wr .SE_PCH_RX_TAG_CRC crc 3).wr .SE_PCH_RX_TAG_ALIVE 1 3
  { s with allocs := [⟨1, 4, 0, hostWindow, 65536, false, false⟩, ⟨2, 0, 0, 65536, 65536, false, false⟩] }

/-- O40: a record that may start, one that stalls behind an active transfer, an operation in flight, and transfers that are over:
plain, protected with a fitting tag, failed, and protected with another CRC. -/
theorem test_meets_transfers :
    (MayTry (xRun 0 []) 0x100 ⟨2 ^ 48 + 0x10000, 0, false, 1, 0⟩ copyWords ∧ (xRun 0 []).xStall 0x100 0 copyWords = 0 ∧
      (xRun 0 [{ xfer0 with writes := [⟨2, 65536, 65539⟩] }]).xStall 0x100 0 copyWords = 3) ∧
    ((xRun 1 [{ xfer0 with opsLeft := 2, src := [5] }]).xeng 0x100).active[0]? = some { xfer0 with opsLeft := 2, src := [5] } ∧
    0 < ({ xfer0 with opsLeft := 2, src := [5] } : Xfer).inTable ∧ (xRun 0 []).xeng 0x100 = ⟨0, [], [], 0⟩ ∧
    (((xRun 1 [xfer0]).xeng 0x100).active[0]? = some xfer0 ∧ xfer0.isOver = true ∧ ¬TagChecked (xRun 1 [xfer0]) xfer0) ∧
    (((tagS 7).xeng 0x100).active[0]? = some tagged ∧ tagged.isOver = true ∧ TagChecked (tagS 7) tagged ∧ TagFits (tagS 7) 0x100 tagged) ∧
    ({ xfer0 with failed := true } : Xfer).isOver = true ∧
    (TagChecked (tagS 8) tagged ∧ tagged.crc ≠ (tagS 8).rd .SE_PCH_RX_TAG_CRC (engNum 0x100 * 64 + tagged.words.pch)) := by
  unfold MayTry TagChecked TagFits; decide +kernel

/-- O15: a transfer that reads through the host window and has not failed. -/
theorem test_meets_hostTimeout : ((tagS 7).xeng 0x100).active[0]? = some tagged ∧ tagged.failed = false ∧
    (tagS 7).inHost ((tagS 7).desc tagged.words.src) = true := by decide +kernel

/-- A message in port 3's receive buffer. -/
def rxS (s : State) (m : Msg) : State := { s with fab := { s.fab with rx := [(3, [⟨m, false⟩])], bodyCount := some 0 } }

/-- The first and only segment of a SEND to descriptor 2 for stream engine 0. -/
def sendMsg (n : Nat) : Msg :=
  { msgPlain 1 1 0 2 0 0 [1, 2, 3, 4] with
    first := true, last := true, ext := some ⟨[n, 0, 0, 0, 0, 0], 8, 1⟩, sig := some ⟨1, 1, 0, false⟩ }

/-- A SEND in progress whose last segment is out. -/
def sendX : Xfer := { xfer0 with words := ⟨1 + 2 * 2 ^ 20 + 3 * 2 ^ 58, 0, 0, 0⟩, sent := 1 }

/-- A transfer with one gather request open. -/
def gatherX : Xfer := { xfer0 with reqs := [⟨0, 0, 1, 0, 4, none⟩], formed := false }

/-- O41: a first segment that is not yet the last, a whole SEND, one that does not fit its descriptor; an acknowledgement of the
last segment and one of another; a gather request to a live allocation, one to none; an answer that completes the requests, one that does not. -/
theorem test_meets_sends :
    (let m := { sendMsg 4 with last := false }
     let s := rxS xS m
     let b := s.inboundOf 0 m.src m.obj
     s.peekRx 3 (fun m => m.kind == 1 && m.unit == 0) = some m ∧ b.bad = false ∧ 0 < s.sbFree 0 ∧ (withSegment b m).whole = false ∧
       m.ext = some ⟨[4, 0, 0, 0, 0, 0], 8, 1⟩ ∧ s.sendPairFail m.obj m.src ⟨[4, 0, 0, 0, 0, 0], 8, 1⟩ = none ∧ s.inboundWaits 0 m = false) ∧
    (let m := sendMsg 4
     let s := rxS xS m
     let b := withSegment (s.inboundOf 0 m.src m.obj) m
     b.whole = true ∧ b.ext ≠ none ∧ (b.sig.getD ⟨0, 0, 0, false⟩).protect = false) ∧
    (rxS xS (sendMsg 5)).sendPairFail 2 0 ⟨[5, 0, 0, 0, 0, 0], 8, 1⟩ = some (.ERR_SEND_PAIR, 2, 0) ∧
    (let m := { msgPlain 2 1 0 2 0 0 [] with last := true }
     let s := rxS (xRun 1 [sendX]) m
     s.peekRx 3 (fun m => m.kind == 2) = some m ∧ (s.xeng (0x100 + m.unit % 16)).active[0]? = some sendX ∧ ackFits s m sendX = true) ∧
    (let m := msgPlain 3 0 0 1 0 (4 * 2 ^ 40) []
     let s := rxS xS m
     s.peekRx 3 (fun m => m.kind == 3) = some m ∧ s.allocOf m.obj = some ⟨1, 0, 0, 0, 65536, false, false⟩ ∧
       (∀ i < 4, s.firstPoisoned [0 + i] = none) ∧ xS.allocOf 7 = none) ∧
    (∀ k ∈ [0, 1],
     let m := msgPlain 4 1 0 1 k 0 [1, 2, 3, 4]
     let s := rxS (xRun 1 [gatherX]) m
     s.peekRx 3 (fun m => m.kind == 4) = some m ∧
       ((s.xeng (0x100 + m.unit % 32)).active.findIdx? fun x => x.reqs.any fun r => r.num == m.index) = (if k = 0 then some 0 else none) ∧
       answered (answerReq 0 m.payload gatherX.reqs) = true) := by decide +kernel

/-- Logical tile 0 being filled with so many chunks of 64 KiB, the first codeword of the image poisoned or not. -/
def fillS (n : Nat) (bad : Bool) : State :=
  { upW .VE_RES_SIZE_SIZE n with fills := [0], poison := if bad then (match up.placeOf 0 with | .cell c => [(codewordOf c, true)] | _ => []) else [] }

/-- O42: every scrub step, with and without a lock; a fill of logical tile 0, from a good image and from a poisoned one. -/
theorem test_meets_fill : up.lockOf 16 = none ∧ (up.setLock 16 (some ⟨1, 1, 0, []⟩)).lockOf 16 ≠ none ∧
    (∀ b ∈ [true, false], 0 ∈ (fillS 1 b).fills ∧ (fillS 1 b).physOf 0 < 272) ∧
    (fillS 0 false).firstPoisoned ((List.range 0).map ((fillS 0 false).rd .VE_RES_SRC_ADDR 0 + ·)) = none := by decide +kernel

/-- O42: the poisoned codeword of the image is met. -/
theorem test_meets_poisonedFill :
    (fillS 1 true).firstPoisoned ((List.range (65535 + 1)).map ((fillS 1 true).rd .VE_RES_SRC_ADDR 0 + ·)) = some 0 := by
  rw [List.range_succ_eq_map, List.map_cons]
  unfold State.firstPoisoned
  rw [List.find?_cons_of_pos (by decide +kernel)]
  decide +kernel
/-- Ports 3 and 4 live with all lanes; a job of two modules, of which the other, at coordinate 7, is behind port 4. -/
def fabS : State :=
  let s := [(Fld.FAB_STATUS_STATE, 3, 3), (.FAB_STATUS_STATE, 3, 4), (.FAB_STATUS_LANE_MASK, 15, 3), (.FAB_STATUS_LANE_MASK, 15, 4),
    (.FAB_COORD_VALID, 1, 0)].foldl (fun (s : State) (x : Fld × Nat × Nat) => s.wr x.1 x.2.1 x.2.2) up
  { s with fab := { s.fab with job := some ⟨1, [0, 7], [(7, 16)], false⟩ }, frameCycle := 300 }

theorem wf_fabS : fabS.wf := ⟨rfl, rfl,
  (wf_wr (wf_wr (wf_wr (wf_wr (wf_wr wf_up .FAB_STATUS_STATE 3 3) .FAB_STATUS_STATE 3 4) .FAB_STATUS_LANE_MASK 15 3)
    .FAB_STATUS_LANE_MASK 15 4) .FAB_COORD_VALID 1 0).2.2⟩

/-- A sound TOKEN message for a coordinate. -/
def tokenTo (d : Nat) : Msg := let m := msgPlain 7 0 d 0x010001 0 1 []
  { m with hcrc := msgCrc m }

/-- A message that waits to leave by port 4. -/
def queued (m : Msg) (s : State) : State := { s with fab := { s.fab with txq := [(4, [⟨m, none⟩])] } }

/-- O43: a message for this module, one with another check sum, one in transit without and with a route, in and after the tick guard;
a credit with nothing and with one message waiting; the end of the guard with both. -/
theorem test_meets_fabricMessages :
    fabS.wf ∧ TakesOn fabS 3 0 ∧ (tokenTo 0).dst = fabS.coord ∧ Sound (tokenTo 0) ∧ ¬Sound { tokenTo 0 with aux := 2 } ∧
    fabS.routePort 9 .first = none ∧ fabS.routePort 7 .first = some 4 ∧ fabS.mayLaunch 4 0 = true ∧ fabS.txOf 4 = [] ∧
    (let s := { fabS with frameCycle := 0 }
     TakesOn s 3 0 ∧ s.inGuard = true ∧ s.routePort 7 .first = some 4) ∧
    (let s := (queued (tokenTo 7) fabS).wr .FAB_CREDIT_VC_AVAIL 0 16
     s.portLive 4 = true ∧ s.txOf 4 = [⟨tokenTo 7, none⟩] ∧ s.inGuard = false ∧ s.coordValid = true ∧
       s.rd .FAB_CREDIT_VC_AVAIL (4 * 4 + 0) = 0 ∧ (frameKind (tokenTo 7).kind && s.gateShut) = false) ∧
    0 < (queued (tokenTo 7) fabS).rd .FAB_CREDIT_VC_AVAIL (4 * 4 + (tokenTo 7).vc) :=
  ⟨wf_fabS, by unfold TakesOn; decide, by decide, by unfold Sound; decide +kernel, by unfold Sound; decide +kernel, by decide, by decide, by decide, by decide,
    by unfold TakesOn; decide, by decide +kernel, by decide⟩

/-- O44: a live port, an absent one, one that trains and has learned another neighbour; a lane of four, and one of two that are left. -/
theorem test_meets_ports :
    up.portsPowered = true ∧ fabS.portState 3 ≠ 1 ∧ (upW .FAB_STATUS_STATE 1 3).portState 3 = 1 ∧
    (let s := (upW .FAB_STATUS_STATE 2 3).wr .FAB_NEIGH_LEARNED 1 3
     s.portsPowered = true ∧ s.portState 3 = 2 ∧ laneCount 1 < 2 ∧ 2 ≤ laneCount 3 ∧ s.rd .FAB_NEIGH_LEARNED 3 = 1 ∧
       s.rd .FAB_NEIGH_COORD 3 ≠ 7 ∧ s.rd .FAB_NEIGH_COORD 3 = 0) ∧
    (fabS.laneUsed 3 0 = true ∧ (fabS.fab.drops.filter fun d => d.port == 3).length + 3 ≤ laneCount (fabS.rd .FAB_STATUS_LANE_MASK 3)) ∧
    (let s := fabS.wr .FAB_STATUS_LANE_MASK 3 3
     s.laneUsed 3 0 = true ∧ laneCount (s.rd .FAB_STATUS_LANE_MASK 3) < (s.fab.drops.filter fun d => d.port == 3).length + 3) := by
  decide

/-- Port 3 audited, with the terms of its VC 0 latched. -/
def auditS (avail : Nat) : State :=
  { fabS with fab := { fabS.fab with audited := [(3, true)], credit := [(12, some ⟨avail, 0, 0, 0, 0, 0, 32⟩)] } }

/-- O45: balanced and not. -/
theorem test_meets_ledger :
    ({ up with fab := { up.fab with latch := [⟨2, 0, 0, 0, 31, 32⟩] } } : State).fab.latch = [⟨2, 0, 0, 0, 31, 32⟩] ∧
    ∀ a ∈ [31, 32], tabGet false 3 (auditS a).fab.audited = true ∧ (auditS a).portLive 3 = true ∧
      (∀ v < 4, v ≠ 0 → tabGet none (3 * 4 + v) (auditS a).fab.credit = none) ∧
      tabGet none (3 * 4 + 0) (auditS a).fab.credit = some ⟨a, 0, 0, 0, 0, 0, 32⟩ := by decide

/-- An XOR of one entry over four bytes, delivered to descriptor 2, with a signal; its entry is descriptor 1 of this module, or a
partial of rank 1. -/
def redMem (loc : Bool) : State :=
  let s := (xS.stNat 0x10000 8 (2 ^ 60 + 2 ^ 46 + 4 * 2 ^ 24)).stNat 0x10008 8 (2 ^ 24 + 1)
  let s := (s.stNat 0x10010 8 2).stNat 0x10018 8 (0xFFFF * 2 ^ 48 + 5)
  s.stNat 0x10020 8 (if loc then 0xFFFE * 2 ^ 48 + 0xFFFF * 2 ^ 32 + 2 ^ 20 + 1 else 2 ^ 48 + 0xFFFF * 2 ^ 32 + 2 ^ 20)

/-- The slot of that record. -/
def redSlot : Slot := ⟨2 ^ 48 + 0x10000, 0, false, 3, 0⟩

/-- Half 0 in that slot, with its records. -/
def redS (loc : Bool) (next : Nat) (l : List RedRun) : State :=
  { redMem loc with
    prog := some ⟨9, 0, false, 10000, 0, 1, 2, 1, 0, 0, 1, 0, 0x20000, 0, none⟩
    engines := [(0x120, { EngineRun.reset with running := true, slots := [redSlot] })]
    fab := { FabUnit.reset with job := some ⟨1, [0, 7], [(7, 16)], false⟩ }
    red := [(0, ⟨next, l⟩)] }

/-- That record in a phase. -/
def redRun (ph : RedPhase) : RedRun := ⟨5, ph, 0, 0, 0x10000, 0, [], [], 0, List.replicate 4 0, false, [], [], false⟩

/-- A partial of rank 1 for record rid. -/
def partMsg (rid : Nat) : Msg := { msgPlain 5 2 0 rid 0 0 [1, 2, 3, 4] with src := 7, first := true, last := true }

/-- O46: a record whose one entry is remote, one whose entry is local; partials of a record that stages, is cancelled, is active or is
not known; a deadline; an acknowledgement. -/
theorem test_meets_reductions :
    (MayStartRed (redS false 0 []) 0 redSlot 0x10000 ((redS false 0 []).redRecAt 0x10000) ∧
      entLocal ((redS false 0 []).redEntry ((redS false 0 []).redRecAt 0x10000) 0) = false) ∧
    (let s := redS true 0 []
     let r := s.redRecAt 0x10000
     MayStartRed s 0 redSlot 0x10000 r ∧ r.ncon = 1 ∧ entLocal (s.redEntry r 0) = true ∧ r.isLocal = true ∧
       s.firstPoisoned (s.localBytes (entDesc (s.redEntry r 0))) = none ∧
       (s.setEngine (redEngine 0) { s.engine (redEngine 0) with wait := .none }).padWaits (redEngine 0) 0 (s.touch (s.desc r.outDesc)) = false) ∧
    (let s := rxS (redS false 1 [redRun .staging]) (partMsg 5)
     let m := partMsg 5
     s.peekRx 3 (fun m => m.kind == 5 && m.unit == 0) = some m ∧ s.chainOf (m.obj % 2 ^ 14) = none ∧
       (s.redHalf 0).run (m.obj % 2 ^ 14) = some (redRun .staging) ∧ bitsOf m.obj 23 14 < (s.redRecAt 0x10000).ncon ∧
       sourceOfRank (s.redEntry (s.redRecAt 0x10000) (bitsOf m.obj 23 14)) (s.rankOfCoord m.src) = some false) ∧
    (∀ ph ∈ [RedPhase.cancelled, .active], ((rxS (redS false 1 [redRun ph]) (partMsg 5)).redHalf 0).run 5 = some (redRun ph)) ∧
    (((rxS (redS false 1 []) (partMsg 6)).redHalf 0).run 6 = none ∧ (rxS (redS false 1 []) (partMsg 6)).redFrames 0 6 = none) ∧
    (let s := redS false 1 [redRun .active]
     (s.redHalf 0).runs = [redRun .active] ∧ (s.redRecAt 0x10000).ncon = 1 ∧ entLocal (s.redEntry (s.redRecAt 0x10000) 0) = false) ∧
    (let m := { msgPlain 6 0 0 0 0 0 [] with last := true, src := 0 }
     let s := rxS ((redS false 1 [redRun .sent]).stNat 0x10018 8 5) m
     s.peekRx 3 (fun m => m.kind == 6) = some m ∧ s.ackedRun 0 m = some (redRun .sent)) := by
  unfold MayStartRed; decide +kernel

/-- A parity position and a data position of the group of 16 ranks, and the record of rank 1. -/
def parG : SinGroup := ⟨3, 14, [], 1, 1, 1, 0, List.range 16⟩
/-- The data position. -/
def datG : SinGroup := ⟨4, 0, [⟨1, 1, 0⟩], 1, 1, 1, 0, List.range 16⟩
/-- The loaded Sinter table. -/
def sinT : SinTable := ⟨2, 3, [1], 2, 2048, 0, [parG, datG]⟩

/-- A module of a job with that table. -/
def sinS : State :=
  { xS with
    sin := { SinUnit.reset with table := some sinT }
    fab := { FabUnit.reset with job := some ⟨1, List.range 16, [(7, 16)], false⟩ } }

/-- Sinter in a kind-4 slot. -/
def sinSlotS (payload : Nat) (s : State) : State :=
  { s with engines := [(sinEngine, { EngineRun.reset with running := true, slots := [⟨payload, 0, false, 4, 0⟩] })] }

/-- A step table that asks for the host's word, with nothing queued. -/
def authStep : StepUnit := { StepUnit.reset with table := some { table with hostAuth := true } }

/-- O47: a DELTA and a FRESH message that are accepted, stale, and of no group; a granule to apply; a part of a record; its
acknowledgement by a holder. The granule's way is free, and not where another holds its arbiter. -/
theorem test_meets_parity :
    (∀ u ∈ [0, 1],
     let m := { msgPlain 9 2 0 3 0 0 [1, 2, 3, 4] with unit := u, src := 1 }
     let s := rxS sinS m
     s.peekRx 3 (sinMsg u) = some m ∧ s.sin.drift = false ∧ s.staleTag m.tag = false ∧ s.sinAccepts m = some (0, parG) ∧
       InHbm (s.areaAddr parG (if u = 1 then s.freshBuf else s.pendBuf) 0) (granBytes * parG.len) ∧ ({ s with fab := { s.fab with bodyCount := some 1 } } : State).staleTag m.tag = true ∧
       s.sinAccepts { m with obj := 5 } = none) ∧
    (let s := (sinS.wr .SIN_STATUS_APPLYING 1)
     s.rd .SIN_STATUS_APPLYING = 1 ∧ s.sin.drift = false ∧ granuleAt (s.rd .SIN_APPLY_POS_GRANULE) s.sinGroups.zipIdx = some (0, parG, 0) ∧
       InHbm (s.areaAddr parG s.parityBuf 0) granBytes ∧ s.granTotal ≤ 2 ^ fldWidth .SIN_APPLY_POS_GRANULE ∧
       (let a := s.areaAddr parG s.parityBuf 0
        s.heldUp sinterRank (s.beatsOf granBytes a granBytes) = false ∧
          (s.setLock (s.arbiterOf a) (some ⟨1, 1, a, []⟩)).heldUp sinterRank (s.beatsOf granBytes a granBytes) = true)) ∧
    (let m := { msgPlain 9 2 0 1 0 0 [1, 2, 3, 4] with unit := 2, src := 1 }
     let s := rxS sinS m
     s.peekRx 3 recordMsg = some m ∧ s.sin.restore = none ∧ s.sin.table = some sinT ∧ s.staleTag m.tag = false ∧
       s.recAddr (s.rankOfCoord m.src) (1 - s.recCopy (s.rankOfCoord m.src)) = some (65536 + 2048) ∧ m.obj = s.rankOfCoord m.src ∧
       m.index + m.payload.length ≤ sinT.recBytes) ∧
    (let m := { msgPlain 9 2 0 1 0 0 [] with unit := 2, src := 2 }
     let s := rxS { sinS with sin := { sinS.sin with capture := some 2 } } m
     s.peekRx 3 recordAck = some m ∧ s.sin.capture = some 2 ∧ s.sin.table = some sinT) := by
  unfold InHbm; decide +kernel

/-- What a RESTORE still needs. -/
def restoreOf (rebuild copy : Nat) : Restore := ⟨1, true, 0, 0, [], [], [], none, [], rebuild, copy, 0⟩

/-- A target of RESTORE with a message in its buffer. -/
def restS (r : Restore) (m : Msg) : State := rxS { sinS with sin := { sinS.sin with restore := some r } } m

/-- O48: CAPTURE that lacks the host's word, and one that needs none; RESECURE in an ordinary and in a securing body; rebuilt blocks of
a parity and a data position, and none awaited; copied bytes, and none awaited. -/
theorem test_meets_sinter :
    (let s := { sinSlotS 0 sinS with step := authStep }
     s.sinSlot = some ⟨0, 0, false, 4, 0⟩ ∧ s.sin.table = some sinT ∧ (⟨0, 0, false, 4, 0⟩ : Slot).action = 0 ∧ s.sin.capture = none ∧
       (s.hostAuth && s.authToken.isNone) = true ∧ ((sinSlotS 0 sinS).hostAuth && (sinSlotS 0 sinS).authToken.isNone) = false) ∧
    (let p := 2 ^ 60 + 2 ^ 44 + 1
     let s := (sinSlotS p sinS).wr .SIN_STATUS_SECURING 1
     s.sinSlot = some ⟨p, 0, false, 4, 0⟩ ∧ (⟨p, 0, false, 4, 0⟩ : Slot).action = 1 ∧ s.securing = true ∧
       s.sinGroups[bitsOf p 51 44]? = some datG ∧ bitsOf p 21 0 = 1 ∧ s.blockAddr datG (bitsOf p 43 22 + 0) = some 0 ∧
       s.firstPoisoned ((List.range granBytes).map fun i => 0 + i) = none ∧ (sinSlotS p sinS).securing = false) ∧
    (∀ g ∈ [(parG, 0), (datG, 1)],
     let m := { msgPlain 9 2 0 g.1.id 0 0 [1, 2, 3, 4] with unit := 3, src := 1 }
     let s := restS (restoreOf 2 0) m
     s.peekRx 3 (sinMsg 3) = some m ∧ s.sin.restore = some (restoreOf 2 0) ∧
       (s.sinGroups.zipIdx.find? fun p => p.1.id == m.obj) = some g ∧ m.index % granBytes = 0 ∧
       m.index + m.payload.length ≤ g.1.len * granBytes ∧ (g.1.parity = true ∨ s.blockAddr g.1 (m.index / granBytes) = some 0)) ∧
    (restoreOf 0 0).needRebuild = 0 ∧
    (let m := { msgPlain 9 2 0 1 0 0 [1, 2, 3, 4] with unit := 4, src := 1 }
     let s := restS (restoreOf 0 5) m
     s.peekRx 3 (sinMsg 4) = some m ∧ s.sin.restore = some (restoreOf 0 5) ∧ s.copyInside m = true ∧ s.currentAddr m.obj m.aux = some 0 ∧
       m.payload.length < (restoreOf 0 5).needCopy ∧ (restoreOf 0 0).needCopy = 0) := by decide +kernel

/-! ### Hypotheses met: self-test, time, power, the island, the mailbox, start-up -/

/-- The active module with a self-test block. -/
def strS (u : StrUnit) : State := { upW .STR_CTRL_BIST_EN 1 with str := u }

/-- O49: the spare of cluster 0, a slice on it, a prefill, spare lanes, a dropped lane under test, a lane repair. -/
theorem test_meets_selfTest :
    (let s := strS .reset
     s.rd .STR_CTRL_BIST_EN ≠ 0 ∧ (s.pt 16).state = .spare ∧ s.spareLaneFree 3 = true) ∧
    (strS { StrUnit.reset with slices := [⟨16, 2, 0, 0, 0⟩] }).sliceOf 16 = some ⟨16, 2, 0, 0, 0⟩ ∧
    (let s := strS { StrUnit.reset with prefill := some (16, 3) }
     s.str.prefill = some (16, 3) ∧ (s.pt 16).state = .spare) ∧
    (let s := strS { StrUnit.reset with laneTest := [(12, true)] }
     tabGet false (3 * 4 + 0) s.str.laneTest = true ∧ s.spareLaneFree 3 = true) ∧
    tabGet none 3 (strS { StrUnit.reset with laneRepair := [(3, some 0)] }).str.laneRepair = some 0 := by decide

/-- A module whose parent is the neighbour at port 3, with its last report. -/
def parentS (st : TbState) (isOver : Nat) : State :=
  let s := fabS.wr .GEY_TIME_PARENT_PORT 3
  { s with frameCycle := 9, time := { s.time with state := st, reports := [(3, some ⟨1, true, 15, 0, isOver, 0⟩)] } }

/-- A module with a discipline, at a time. -/
def timeS (r : TimeRole) (st : TbState) (tb : Nat) : State :=
  let s := ((upW .GEY_CTRL_PPS_IN_EN 1).wr .GEY_CTRL_PPS_OUT_EN 1).wr .GEY_STATUS_PPS_QUALIFIED 1
  { s with time := { s.time with role := r, state := st, lastAccepted := some 0 }, tb := tb }

/-- O50: a probe from a neighbour and from the parent, on a dead port and outside the guard; a parent out of line three times; an edge on the second and half a second off;
a lost PPS; holdover. -/
theorem test_meets_timeBase :
    (let s := { fabS with frameCycle := 255 }
     s.portLive 3 = true ∧ s.inGuard = true ∧ s.parentPort ≠ some 3) ∧ (fabS.portLive 3 && fabS.inGuard) = false ∧ (parentS .locked 0).inGuard = true ∧ (parentS .locked 0).portLive 3 = true ∧ (parentS .locked 0).parentPort = some 3 ∧
    (parentS .locked 3).reportOf 3 = some ⟨1, true, 15, 0, 3, 0⟩ ∧
    (let s := timeS .anchor .locked 0
     s.rd .GEY_CTRL_PPS_IN_EN ≠ 0 ∧ s.ppsOffset.natAbs ≤ s.rd .GEY_PPS_WINDOW_NS_WINDOW * 1000 ∧ s.rd .GEY_CTRL_PPS_OUT_EN ≠ 0 ∧
       s.time.lastAccepted = some 0 ∧ s.time.role = .anchor ∧ s.time.state = .locked) ∧
    (let s := timeS .anchor .locked (tbPerSec / 2)
     s.rd .GEY_PPS_WINDOW_NS_WINDOW * 1000 < s.ppsOffset.natAbs) ∧
    (timeS .anchor .holdover 0).time.state = .holdover := by decide

/-- The header of a program of two frames. -/
def head2 : ProgHeader := ⟨9, 0, false, 10000, 0, 1, 2, 2, 0, 1, 0, 0, 0x20000, 0, none⟩

/-- A program in a state of the sequencer, an operating point, and engine 0x100 with a slot list. -/
def progS (q : SeqState) (op : Nat) (e : EngineRun) : State :=
  let s := (upW .PWR_STATUS_OP_NOW op).wr .GEY_FRAME_PERIOD_NS_PERIOD 10000
  { s with seq := q, prog := some head2, seqRun := ⟨true, 1, [], none⟩, engines := [(0x100, e)] }

/-- A slot list of one slot of a kind with a budget of 100 cycles. -/
def oneSlot (kind payload : Nat) : EngineRun := { EngineRun.reset with slots := [⟨payload, 100, false, kind, 512⟩] }

/-- O51: the epoch tick, a join, an advance, an overrun; an idle tick; a transfer slot, a tile's slot, and one without a budget. -/
theorem test_meets_ticks :
    (let s := progS .armed 1 .reset
     s.prog = some head2 ∧ s.seqRun.aborts = [] ∧ s.seq = .armed ∧ s.fills = []) ∧
    (let s := progS .running 0 .reset
     s.seqRun.live = true ∧ s.seqRun.intervals = 1 ∧ s.opNow < s.baseOp) ∧
    (let s := progS .running 1 .reset
     s.joins s.opNow = false ∧ (∀ q ∈ s.engines, q.2.running = false) ∧ s.step.commitStart = none ∧ s.pwr.decision = none ∧ s.pwr.level = 0 ∧
       s.rd .PWR_STATUS_DIL = 0 ∧ s.capForced = false ∧ s.inAlert = false ∧ s.nextFrame head2 (s.rd .GEY_PROG_FRAME_INDEX) = some 1) ∧
    (let s := progS .running 1 { EngineRun.reset with running := true }
     s.joins s.opNow = false ∧ (∃ q ∈ s.engines, q.2.running = true ∧ q.2.overrun = false) ∧ s.seqRun.restart ≠ some (s.frameCount + 1)) ∧
    up.seqFree = true ∧
    (let s := progS .running 1 (oneSlot 1 (2 ^ 48))
     (s.engine 0x100).slots[(s.engine 0x100).idx]? = some ⟨2 ^ 48, 100, false, 1, 512⟩ ∧ s.slotReady 0x100 = true ∧
       512 - s.frameCycle ≤ s.cyclesLeft ∧ s.slotBounds (s.engine 0x100).slots (s.engine 0x100).idx ⟨2 ^ 48, 100, false, 1, 512⟩ = true ∧
       (let u : State := { s with tb := s.nextTick - 1 }
        u.slotReady 0x100 = true ∧ u.cyclesLeft < 512 - u.frameCycle ∧
          u.slotBounds (s.engine 0x100).slots (s.engine 0x100).idx ⟨2 ^ 48, 100, false, 1, 512⟩ = true)) ∧
    (let s := { progS .running 1 .reset with engines := [(5, oneSlot 0 0)] }
     (s.engine 5).slots[(s.engine 5).idx]? = some ⟨0, 100, false, 0, 512⟩ ∧ s.slotReady 5 = true ∧
       s.slotBounds (s.engine 5).slots (s.engine 5).idx ⟨0, 100, false, 0, 512⟩ = true ∧ 512 - s.frameCycle ≤ s.cyclesLeft ∧
       (s.veOf 5).halted = false) ∧
    (let s := { progS .running 1 .reset with engines := [(5, { EngineRun.reset with slots := [⟨0, 0, false, 0, 512⟩] })] }
     (s.engine 5).slots[(s.engine 5).idx]? = some ⟨0, 0, false, 0, 512⟩ ∧ s.slotReady 5 = true ∧
       s.slotBounds (s.engine 5).slots (s.engine 5).idx ⟨0, 0, false, 0, 512⟩ = false) := by decide +kernel

/-- The root of a tree with a child at port 3, in the round of tick 5. -/
def paceS (parent children : Nat) (m : Msg) : State :=
  let s := rxS fabS m
  { s with sync := { s.sync with barParent := parent, barChildren := children }, pwr := { s.pwr with round := some ⟨5, 2, 0, 0, false⟩ } }

/-- O52: a heavy die, a power alert's edge, a cap overrun twice, a report of a child, of another port, the last and not the last one;
a late round; decisions from the parent and from elsewhere, in time and late. -/
theorem test_meets_power :
    8 ≤ tabGet 0 1 ({ up with pwr := { up.pwr with heavy := [(1, 8)] } } : State).pwr.heavy ∧ up.powerState = 3 ∧
    (up.rd .PWR_ALERT_LATCH = 0 ∧ 1 % 16 ≠ 0) ∧ (let s := { up with pwr := { up.pwr with isOver := 2 } }; 2 ≤ s.pwr.isOver ∧ s.capForced = false) ∧
    (let m := msgPlain 10 3 0 0 5 1 []
     let m := { m with unit := 1 }
     ∀ c ∈ [8, 24], let s := paceS 0xFF c m
       s.peekRx 3 (paceMsg 1) = some m ∧ s.pwr.round = some ⟨5, 2, 0, 0, false⟩ ∧ bitOf s.sync.barChildren 3 = true ∧ m.index = 5 % 2 ^ 32 ∧
         s.frameCount + 1 < 5 ∧ 5 ≤ (s.wr .GEY_FRAME_COUNT_COUNT 4).frameCount + 1 ∧ bitOf (paceS 0xFF 16 m).sync.barChildren 3 = false) ∧
    (let m := msgPlain 10 3 0 0 5 1 []
     let m := { m with unit := 2 }
     (paceS 3 0 m).peekRx 3 (paceMsg 2) = some m ∧ (paceS 3 0 m).paceTick m.index = some 5 ∧
       ((paceS 3 0 m).wr .GEY_FRAME_COUNT_COUNT 6).paceTick m.index = none ∧ 3 ≠ (paceS 4 0 m).sync.barParent) := by decide

/-- O53: a first and a later sample of a temperature; H5 and H0 due; a snapshot due; records for a ring, and no ring. -/
theorem test_meets_island :
    (up.powerState ≠ 0 ∧ 5 < chanCount ∧ (up.chan 5).samples = []) ∧
    (let s := { up with fum := { up.fum with chans := [(5, ⟨[3], 0⟩)] } }
     (s.chan 5).samples ≠ []) ∧
    (let s := { up with fum := { up.fum with rules := [(0x85, ⟨5, false⟩), (0x80, ⟨10, false⟩)] } }
     (∀ r ∈ [0x85, 0x80], r ∈ ruleKeys ∧ (s.ruleRun r).active = false ∧ s.ruleOn r = true ∧ s.ruleHold r ≤ (s.ruleRun r).count) ∧
       bitOf (s.ruleActions 0x85) 4 = false ∧ bitOf (s.ruleActions 0x85) 5 = false ∧ bitOf (s.ruleActions 0x80) 4 = true) ∧
    ((upW .FUM_REC_CTRL_SENSOR_PERIOD 1).rd .FUM_REC_CTRL_SENSOR_PERIOD ≠ 0 ∧ up.fum.recs.length + 3 ≤ recBufferSize) ∧
    (up.fum.rank = none ∧ up.fum.ring = none) ∧
    (let s := { up with fum := { up.fum with ring := some (hostWindow, 4), recs := [⟨1, 0, 0, 2, 0, [], true, false⟩] } }
     s.fum.rank = none ∧ s.fum.ring = some (hostWindow, 4) ∧ ∀ r ∈ s.fum.recs, r.toRing = true ∧ s.ringRoom 4 r.seq = true) := by decide

/-- The entry of a TIME_STATUS with TAG 7. -/
def entry : List Byte := leBytes 2 3 ++ leBytes 2 0 ++ leBytes 4 7 ++ List.replicate 20 0 ++ leBytes 4 0xB4BC10E6 ++ List.replicate 224 0

/-- Its first 32 bytes without the CRC. -/
def entryHead : List Byte := leBytes 4 3 ++ leBytes 4 7 ++ List.replicate 24 0

/-- The CRC's register over 32 bytes of zeros. -/
def crcZeros (c : Nat) : Nat := (List.replicate 32 (0 : Byte)).foldl (crcByte 0x82F63B78) c

theorem crc_of {bs : List Byte} {c : Nat} (h : bs.foldl (crcByte 0x82F63B78) 0xFFFFFFFF = c) : crc32c bs = c ^^^ 0xFFFFFFFF := by
  unfold crc32c crcOf; rw [h]

theorem crc_entry {bs a : List Byte} {c : Nat} (h : bs.take 0x1C ++ leBytes 4 0 ++ (bs.drop 0x20).take 224 = a) (g : crc32c a = c) :
    cmdEntryCrc bs = c := by unfold cmdEntryCrc; rw [h]; exact g

theorem crc_zeros {c d : Nat} (a : List Byte) (h : crcZeros c = d) :
    (List.replicate 32 (0 : Byte) ++ a).foldl (crcByte 0x82F63B78) c = a.foldl (crcByte 0x82F63B78) d := by
  rw [List.foldl_append, ← crcZeros, h]

theorem entry_crc : cmdEntryCrc entry = 0xB4BC10E6 := by
  refine crc_entry (a := entryHead ++ (List.replicate 32 0 ++ (List.replicate 32 0 ++ (List.replicate 32 0 ++ (List.replicate 32 0 ++ (List.replicate 32 0 ++ (List.replicate 32 0 ++
    (List.replicate 32 0 ++ []))))))))
    (by decide +kernel) (crc_of (c := 0x4B43EF19) ?_)
  rw [List.foldl_append, show entryHead.foldl (crcByte 0x82F63B78) 0xFFFFFFFF = 0x53D99297 from by decide +kernel]
  rw [crc_zeros _ (show crcZeros 0x53D99297 = 0x2DEA2EEE from by decide +kernel)]
  rw [crc_zeros _ (show crcZeros 0x2DEA2EEE = 0x7E7BD11A from by decide +kernel)]
  rw [crc_zeros _ (show crcZeros 0x7E7BD11A = 0x04E6D58E from by decide +kernel)]
  rw [crc_zeros _ (show crcZeros 0x04E6D58E = 0x8E54DF8C from by decide +kernel)]
  rw [crc_zeros _ (show crcZeros 0x8E54DF8C = 0xE3D7EAFE from by decide +kernel)]
  rw [crc_zeros _ (show crcZeros 0xE3D7EAFE = 0x68DDEA2C from by decide +kernel)]
  rw [crc_zeros _ (show crcZeros 0x68DDEA2C = 0x4B43EF19 from by decide +kernel)]
  rw [List.foldl_nil]

/-- The fields of that entry. -/
def entryFields : CmdEntry := ⟨3, 0, 7, 0, 0, 0xB4BC10E6, List.replicate 224 0⟩

theorem entry_fields : cmdEntryOf entry = entryFields := by decide +kernel

theorem entry_format : cmdFormatOk entryFields = true := by decide +kernel

theorem entry_fetch (s : State) (b : Bool) : s.fetchError entry b = if s.tagPending 7 then some .ERR_MBX_TAG else none := by
  unfold State.fetchError
  simp only [entry_crc, entry_fields, entry_format]
  simp [entryFields, cmdClass, smbusAdmits]

/-- The rings on, with one entry of bytes waiting. -/
def ringS (bs : List Byte) : State :=
  let s := (upW .MBX_CTRL_ENABLE 1).wr .MBX_CMD_TAIL_COUNT 1
  { s with hostMem := hostWrite s.hostMem 0 bs }

/-- A finished response. -/
def resp : Response := ⟨3, 0, 7, 0, 0, 0, false⟩

/-- O54: a tail that fits and one that overfills; a good entry and an empty one, fetched and over SMBus; a response with room, and in a
full ring before and after its record; an event held back; a low alert. -/
theorem test_meets_mailbox :
    (let s := upW .MBX_CMD_SIZE_LOG2 3
     s.ringSize .MBX_CMD_SIZE_LOG2 = 8 ∧ (2 ^ 32 + 8 - s.rd .MBX_CMD_HEAD_COUNT) % 2 ^ 32 = 8) ∧
    ((ringS entry).mayFetch = true ∧ hostRead (ringS entry).hostMem 0 256 = entry ∧ (ringS entry).tagPending 7 = false ∧
      ({ ringS entry with mbx := { up.mbx with finished := [resp] } } : State).tagPending 7 = true) ∧
    (up.powerState ≠ 0 ∧ up.tagPending 7 = false ∧ up.fetchError [] true = some .ERR_MBX_CRC) ∧
    (∀ b ∈ [true, false],
     let s := { ringS [] with mbx := { up.mbx with finished := [resp], full := b } }
     s.mbx.finished = [resp] ∧ s.rd .MBX_CTRL_ENABLE = 1 ∧ s.rspRoom = true ∧
       (s.wr .MBX_RSP_TAIL_COUNT (s.ringSize .MBX_RSP_SIZE_LOG2)).rspRoom = false) ∧
    (let s := { upW .MBX_IRQ_EN 1 2 with mbx := { up.mbx with irqHeld := [(2, true)] } }
     tabGet false 2 s.mbx.irqHeld = true ∧ s.rd .MBX_IRQ_EN 2 = 1) ∧
    ((upW .GLB_ALERT_PEND 1).wr .GLB_ALERT_MASK_EN 1).alertLow = true := by decide +kernel

/-- A record that waits to be written. -/
def waitingErr : ErrRec := ⟨Err.ERR_BOOT_FAIL.code, 3, 0, 0, none, none, 0, 0, 0, 0⟩

/-- O55: a record and room in the log, its way free and held; an island that states itself again; a running secondary and primary; blank flash at start-up; a strap that changes; a TAP. -/
theorem test_meets_errors :
    (let s := { up with hbmReady := true, errq := [waitingErr] }
     oldestErr s.errq = some waitingErr ∧ s.rd .ERRLOG_PROD_COUNT < s.rd .ERRLOG_CONS_COUNT + logSize ∧
       s.heldUp mailboxRank (s.beatsOf 32 s.logNext 32) = false ∧
       (s.setLock (s.arbiterOf s.logNext) (some ⟨1, 1, s.logNext, []⟩)).heldUp mailboxRank (s.beatsOf 32 s.logNext 32) = true) ∧
    (let s := ((upW .CP_STATUS_STATE_A 2).wr .MBX_STATUS_STATE 1).wr .GLB_STARTUP_STEP 7
     s.cpRuns 0 = true ∧ decide (s.cpPrimary = 0 ∧ s.mbxState = 1 ∧ s.rd .GLB_STARTUP_STEP = 7) = true ∧
       decide ((upW .CP_STATUS_STATE_A 2).mbxState = 1) = false) ∧
    (∀ h ∈ [0, 1], (upW (cpStateFld h) 2).cpRuns h = true ∧ (up.cp.expiries.filter fun e => e.1 == h) = [] ∧ up.cpPrimary = 0) ∧
    (up.start.coresUp = true ∧ up.rd .CP_STATUS_STATE_A < 2 ∧ up.rd .CP_STATUS_STATE_B < 2 ∧ up.cp.directory < 2 ∧
      (upW .GLB_STARTUP_STEP 4).rd .GLB_STARTUP_STEP = 4) ∧
    (up.powerState ≠ 0 ∧ 5 ≠ up.start.slotPins) ∧ (upW .STR_CTRL_MAINT 1).rd .STR_CTRL_MAINT = 1 := by decide

/-- The module in STANDBY with a start-up unit. -/
def standby (u : StartUnit) : State := { State.reset with start := u }

/-- O56: OFF; a fresh module in STANDBY; the first and the last rail stage; step 5; step 6; a brown-out with and without a restart left;
a reset of the module due. -/
theorem test_meets_startup :
    (State.reset.wr .FUM_STATUS_STATE 0).powerState = 0 ∧
    (let s := State.reset
     s.start.fresh = true ∧ s.start.stage = none ∧ s.powerState = 1 ∧ s.anyActs 4 = false) ∧
    ((standby { StartUnit.reset with stage := some 0 }).start.stage = some 0 ∧ (standby { StartUnit.reset with stage := some 7 }).start.stage = some 7) ∧
    (upW .GLB_STARTUP_STEP 5).rd .GLB_STARTUP_STEP = 5 ∧ (upW .GLB_STARTUP_STEP 6).rd .GLB_STARTUP_STEP = 6 ∧
    (∀ l ∈ [[], [0, 0, 0]],
     let s := standby { StartUnit.reset with inputDown := true, restarts := l }
     s.start.inputDown = true ∧ s.powerState = 1 ∧ s.anyActs 4 = false ∧
       (s.start.restarts.filter fun t => decide (s.tb < 60 * tbPerSec + t)) = l) ∧
    ({ up with start := { up.start with coreDue := some 5 } } : State).start.coreDue = some 5 := by decide

/-- O57: an adapter out of reset, a reset of it due; the link up at another width; a request that may wake and one that may not. -/
theorem test_meets_hostLink :
    up.start.haUp = true ∧ ({ up with start := { up.start with haDue := some 5 } } : State).start.haDue = some 5 ∧
    (let s := ((upW .HA_STATUS_LINK_UP 1).wr .HA_STATUS_SPEED 5).wr .HA_STATUS_WIDTH 16
     s.start.haUp = true ∧ s.rd .HA_STATUS_LINK_UP = 1 ∧ s.rd .HA_STATUS_WIDTH ≠ 8 ∧ s.rd .HA_STATUS_SPEED = 5) ∧
    (let s := State.reset.wr .FUM_CTRL_WAKE_EN 1
     s.powerState ≠ 0 ∧ s.wakeAllowed 0 = true) ∧
    (up.powerState ≠ 0 ∧ up.powerState ≠ 2 ∧ up.wakeAllowed 0 = false) := by decide

/-! ### Hypotheses met: mailbox commands -/

/-- The numbers of the mailbox commands. -/
def served : List Nat :=
  [0x01, 0x02, 0x03, 0x04, 0x10, 0x11, 0x12, 0x20, 0x21, 0x22, 0x23, 0x24, 0x25, 0x30, 0x31, 0x32, 0x33, 0x40, 0x41, 0x50, 0x51, 0x52, 0x60, 0x61, 0x70]

/-- Every command of the ring is served with TAG 1 while the module is ACTIVE, WAKE in STANDBY and DORMANT. -/
theorem test_mayServe : (∀ op ∈ served, MayServe up op 1) ∧ (MayServe State.reset 0x62 1 ∧ MayServe State.reset 0x01 1) ∧
    MayServe (State.reset.wr .FUM_STATUS_STATE 2) 0x62 1 := by unfold MayServe; decide

/-- The turn of a command depends on the registers of the island and of the mailbox and on the mailbox alone. -/
theorem mayServe_of {s t : State} {op tag : Nat} (h : MayServe s op tag) (hm : t.mbx = s.mbx)
    (hf : t.rd .FUM_STATUS_STATE = s.rd .FUM_STATUS_STATE) (hs : t.rd .MBX_STATUS_STATE = s.rd .MBX_STATUS_STATE) : MayServe t op tag := by
  simpa [MayServe, State.turnOf, State.service, State.cmdOf, State.mbxState, hm, hf, hs] using h

/-- The block of a POLICY_LOAD: one statistics slot in allocation 1, coordinate 5, a secure interval of 60 s. -/
def policyBlk : List Byte :=
  leBytes 4 0x594C4F50 ++ leBytes 2 1 ++ leBytes 2 5 ++ leBytes 8 77 ++ leBytes 4 1 ++ leBytes 2 1 ++ leBytes 2 0 ++ leBytes 8 0 ++
    List.replicate 0x20 0 ++ leBytes 2 0x0808 ++ leBytes 2 60 ++ leBytes 2 20 ++ leBytes 2 50 ++ List.replicate 56 0

/-- The bytes of a DESC_CREATE: CHECK is 0 in them. -/
def createBlk : List Byte :=
  leBytes 128 (1 + 8 * 2 ^ 4 + 2 ^ 32 + 0xFFFF * 2 ^ (8 * 0x0E) + 4 * 2 ^ (8 * 0x10) + 2 ^ (8 * 0x28) + 4 * 2 ^ (8 * 0x50))

/-- The module with two allocations and two descriptors, no program. -/
def idleS : State := { xS with seq := .empty }

theorem ld_hole (s : State) (a : Nat) (h1 : 0x00C000000000 ≤ a) (h2 : a < 0x010000000000) : s.ld a = 0 := by
  have h : s.placeOf a = .none := by
    unfold State.placeOf actBytes
    rw [if_neg (by omega), if_neg (by omega), if_neg (by omega), if_neg (by omega), if_neg (by omega), if_neg (by omega)]
  simp [State.ld, h]

theorem ldNat_hole (s : State) (a : Nat) (h1 : 0x00C000000000 ≤ a) (h2 : a + 3 < 0x010000000000) : s.ldNat a 4 = 0 := by
  simp [State.ldNat, State.ldBytes, leNat, ld_hole s a h1 (by omega), ld_hole s (a + 1) (by omega) (by omega),
    ld_hole s (a + 2) (by omega) (by omega), ld_hole s (a + 3) (by omega) (by omega)]

theorem sparse_zero (l : List Nat) (h : ∀ x ∈ l, x = 0) : sparse l = [] := by
  unfold sparse
  rw [List.filter_eq_nil_iff]
  intro p hp
  simp [h p.2 (List.of_mem_zip hp).2]

/-- A job of n modules at address 0, of which this one is the first; its route table lies where nothing is backed. -/
def jobS (n : Nat) : State :=
  idleS.stBytes 0 (leBytes 4 0x4A4F424C ++ leBytes 4 1 ++ leBytes 4 9 ++ leBytes 4 n ++ leBytes 4 0 ++ leBytes 12 (n - 1) ++ leBytes 8 128 ++
    leBytes 8 0x00C000000000 ++ List.replicate 80 0 ++ (List.range n).flatMap (leBytes 2 ·))

theorem jobS_routes (n : Nat) (h : byteField ((jobS n).ldNat 0 64) 0x28 8 = 0x00C000000000) : ((jobS n).jobTable 0).routes = [] := by
  have e : ((jobS n).jobTable 0).routes = sparse ((jobS n).ldList (0 + byteField ((jobS n).ldNat 0 64) 0x28 8) 4 65536) := by
    simp only [State.jobTable]
  rw [e, h]
  refine sparse_zero _ fun x hx => ?_
  unfold State.ldList at hx
  rw [List.mem_map] at hx
  obtain ⟨i, hi, rfl⟩ := hx
  rw [List.mem_range] at hi
  exact ldNat_hole _ _ (by omega) (by omega)

/-- O58: PACE_GROUP_JOIN of a job of one module, and of two. -/
theorem test_meets_paceJoin (n : Nat) (h : n ∈ [1, 2]) : (jobS n).seq = .empty ∧ (jobS n).start.hbmBad = [] ∧
    (jobS n).rd .STR_CTRL_MAINT ≠ 1 ∧ (jobS n).allocOf 1 = some ⟨1, 0, 0, 0, 65536, false, false⟩ ∧
    ((jobS n).jobTable (0 + 0)).ok ((jobS n).rd .FAB_COORD_COORD) = true ∧ crowded ((jobS n).jobTable (0 + 0)).size (n - 1) = decide (n = 2) ∧
    crowded ((jobS n).jobTable (0 + 0)).size 0 = false := by
  simp only [List.mem_cons, List.not_mem_nil, or_false] at h
  rcases h with rfl | rfl <;>
  · refine ⟨by decide +kernel, by decide +kernel, by decide +kernel, by decide +kernel, ?_, by decide +kernel, by decide +kernel⟩
    simp only [JobTable.ok, Bool.and_eq_true]
    refine ⟨⟨⟨⟨⟨?_, ?_⟩, ?_⟩, ?_⟩, ?_⟩, ?_⟩
    · decide +kernel
    · decide +kernel
    · decide +kernel
    · decide +kernel
    · decide +kernel
    · rw [show (0 + 0 : Nat) = 0 from rfl, jobS_routes _ (by decide +kernel)]; rfl

/-- An allocation that holds exactly what DEVICE_INFO writes. -/
def infoS : State := { up with allocs := [⟨1, 0, 0, 0, (up.infoBytes none).length, false, false⟩] }

/-- No arbiter is locked. -/
theorem heldUp_free (s : State) (rank : Nat) (l : List (Nat × Nat)) (h : s.res.locks = []) : s.heldUp rank l = false := by
  simp [State.heldUp, State.lockOf, h, tabGet]

/-- O58: its buffer, which nothing holds. -/
theorem test_meets_deviceInfo : 3 ≤ infoS.powerState ∧ infoS.buffer 1 0 (infoS.infoBytes none).length = some 0 ∧
    infoS.bufferHeld 1 0 (infoS.infoBytes none).length = false := by
  refine ⟨by decide, ?_, by unfold State.bufferHeld; split <;> simp [heldUp_free _ _ _ (show infoS.res.locks = [] from rfl)]⟩
  have h : infoS.infoBytes none = up.infoBytes none := rfl
  have h' : infoS.allocOf 1 = some ⟨1, 0, 0, 0, (up.infoBytes none).length, false, false⟩ := rfl
  simp [State.buffer, h, h']

/-- O58: allocations in HBM and in the host window; a free allocation and descriptor; a descriptor, a policy; a job to leave; a log and a
history with one record; a ring for records. -/
theorem test_meets_allocates :
    (idleS.allocError ⟨5, 0, 0, 32768, false, false⟩ = none ∧ (idleS.allocBase ⟨5, 0, 0, 32768, false, false⟩).isSome = true ∧
      idleS.allocError ⟨6, 4, 4096, 4096, false, false⟩ = none ∧ idleS.allocBase ⟨6, 4, 4096, 4096, false, false⟩ = some hostWindow) ∧
    (let s := { up with allocs := [⟨1, 0, 0, 0, 65536, false, false⟩, ⟨6, 4, 4096, hostWindow, 4096, false, false⟩] }
     (s.allocOf 1).isSome = true ∧ (∀ l ∈ s.allocs, s.allocInUse l = false) ∧ (s.allocOf 6).isSome = true) ∧
    (idleS.descLive 1 = true ∧ idleS.descInUse 1 = false) ∧
    (createBlk.length = 128 ∧ idleS.descValidate 3 (leNat createBlk) = none) ∧
    (let f := byteField (leNat policyBlk)
     idleS.seqFree = true ∧ policyFormOk (leNat policyBlk) = true ∧ idleS.coordRefused (f 6 2) = false ∧
       idleS.statTableOk (f 0x10 4) (f 0x14 2) (f 0x18 8) = true ∧ f 0x14 2 = 1 ∧ f 0x42 2 = 60 ∧ f 6 2 = 5) ∧
    (fabS.seqFree = true ∧ fabS.fab.job.isSome = true) ∧ up.hasKey = true ∧
    (let s := idleS.wr .ERRLOG_PROD_COUNT 1
     s.buffer 1 0 (32 * min 1 (s.rd .ERRLOG_PROD_COUNT - max 0 (s.rd .ERRLOG_PROD_COUNT - logSize))) = some 0 ∧ s.bufferHeld 1 0 32 = false) ∧
    (let s := { idleS with cp := { idleS.cp with history := [List.replicate 32 0] } }
     s.buffer 1 0 (32 * min 1 (s.cp.history.length - 0)) = some 0) ∧
    (up.allocOf 0 = none ∧
      ({ up with allocs := [⟨6, 4, 4096, hostWindow, 4096, false, false⟩] } : State).allocOf 6 = some ⟨6, 4, 4096, hostWindow, 4096, false, false⟩) := by
  decide +kernel

/-- A program of one frame in which nothing runs: the header at address 0, the frame table behind it. -/
def oneFrame : State :=
  idleS.stBytes 0 (leBytes 4 0x47595346 ++ leBytes 4 1 ++ leBytes 4 10000 ++ leBytes 2 50 ++ leBytes 1 1 ++ leBytes 1 1 ++ leBytes 4 1 ++
    leBytes 12 0 ++ leBytes 8 64 ++ leBytes 8 80 ++ List.replicate 32 0)

/-- The tags of a waiting and of a running mailbox command. -/
def cmds : List MbxCmd := [⟨5, 0x20, false, false, false, false⟩, ⟨6, 0x40, false, true, false, false⟩]

/-- A program that has been loaded. -/
def loadedS : State := { (upW .GEY_FRAME_PERIOD_NS_PERIOD 10000).wr .PWR_STATUS_OP_NOW 1 with seq := .loaded, prog := some head2 }

/-- The engine of a list with one record active, one record over, and one to come. -/
def abortS (acked : Bool) : State :=
  { up with
    engines := [(0x100, { EngineRun.reset with running := true, slots := [⟨3 * 2 ^ 48, 100, false, 1, 512⟩] })]
    xfer := [(0x100, ⟨2, [{ xfer0 with record := 1, acked := acked }], [], 0⟩)] }

/-- O59: a vote; a program that loads and starts; an authorisation; a catch-up; a body to abort; a step to secure. -/
theorem test_meets_runsStep :
    (let s := { up with step := { StepUnit.reset with table := some table, commitStart := some 3 } }
     s.step.table = some table ∧ s.step.commitStart.isSome = true ∧ s.step.voted = false) ∧
    (let a : ProgArgs := ⟨1, 0, 0, 0, 0, 0, 0⟩
     let u := (oneFrame.startCmd 0x20 1).unloadProgram.dropPrefills
     oneFrame.seqFree = true ∧ oneFrame.start.hbmBad = [] ∧ oneFrame.rd .STR_CTRL_MAINT ≠ 1 ∧
       oneFrame.allocOf 1 = some ⟨1, 0, 0, 0, 65536, false, false⟩ ∧
       u.planFail a (u.progFile a ⟨1, 0, 0, 0, 65536, false, false⟩) = none) ∧
    (loadedS.startError (2 ^ 46) = none ∧ loadedS.prog = some head2) ∧
    (stepAhead 15 (up.rd .GEY_STEP_COUNT_STEP) = some 15 ∧ (up.step.auth.any fun p => p.1 == 15) = false ∧ up.step.auth.length < 16) ∧
    (let s := { (upW .STEP_STATUS_ARRIVED 1).wr .STEP_STATUS_RETAINED 1 with seq := .haltStep }
     s.seq = .haltStep ∧ s.rd .STEP_STATUS_ARRIVED = 1 ∧ s.rd .STEP_STATUS_RETAINED = 1) ∧
    ({ progS .running 1 .reset with fab := { up.fab with bodyCount := some 0 } } : State).inBody = true ∧
    (sinS.sin.table.isSome = true ∧ (2 ^ 32 + 1 - sinS.rd .GEY_STEP_COUNT_STEP % 2 ^ 32) % 2 ^ 32 = 1) := by decide +kernel

/-- O59: ABORT_OP of a record of no list, of one under way with and without its acknowledgement, of one that is over, of one that has not
started; of no command, one not started, one running; RESTORE on a target and on a source. -/
theorem test_meets_aborts :
    (up.engine 0x100).slots[0]? = none ∧
    (∀ b ∈ [true, false],
     let s := abortS b
     (s.engine 0x100).slots[0]? = some ⟨3 * 2 ^ 48, 100, false, 1, 512⟩ ∧ (⟨3 * 2 ^ 48, 100, false, 1, 512⟩ : Slot).records = 3 ∧
       (∀ r ∈ [0, 1, 2], ((s.xeng 0x100).active.findIdx? fun a => a.slot == 0 && a.record == r) = (if r = 1 then some 0 else none)) ∧
       0 = (s.engine 0x100).idx ∧ (s.xeng 0x100).next = 2 ∧ ((s.xeng 0x100).active.map fun a => a.acked) = [b]) ∧
    (let s := { up with mbx := { up.mbx with cmds := cmds } }
     s.mbx.find 9 = none ∧ s.mbx.find 5 = some ⟨5, 0x20, false, false, false, false⟩ ∧ s.mbx.find 6 = some ⟨6, 0x40, false, true, false, false⟩ ∧
       s.turnOf 0x24 1 = true ∧ s.service 0x24 = .run) ∧
    (let s := { sinS with seq := .loaded }
     s.seq = .loaded ∧ s.sin.table.isSome = true ∧ s.restoreLost [] = none ∧ MayServe s 0x40 1) ∧
    (let s := { sinS with seq := .haltStep }
     s.seq = .haltStep ∧ s.restoreLost [] = none ∧ MayServe s 0x40 1) := by unfold MayServe; decide +kernel

/-- A module whose input voltage a fuse burn admits, in maintenance, with one repair that is not fused. -/
def fuseS : State :=
  { upW .STR_CTRL_MAINT 1 with
    fum := { up.fum with chans := [(0, ⟨[5000], 5000 * 65536⟩)] }
    str := { up.str with soft := [(0, [⟨0x10000000, false⟩])] } }

/-- O60: a full and a periodic test; a repair; fuses; a spare that may join; the secondary; sleep, wake, a firmware image in a buffer. -/
theorem test_meets_repairs :
    (up.seq = .empty ∧ up.str.takeovers = [] ∧ (up.pt 5).state ≠ .failed) ∧
    ((up.softOf 0).length < 2048 ∧ (up.applyRepair 0 0x40000000 false).2 = none) ∧
    (fuseS.rd .STR_CTRL_MAINT ≠ 0 ∧ fuseS.fuseRange = true ∧ (fuseS.fusesOf 0).length + (fuseS.unfused 0).length = 1) ∧
    (let s := { upW .GEY_TIME_PARENT_HOPS 62 with time := { up.time with state := .locked } }
     s.seq = .empty ∧ s.fab.job = none ∧ s.time.state = .locked ∧ s.rd .GEY_TIME_PARENT_HOPS ≤ 62) ∧
    up.rd (cpStateFld (1 - up.cpPrimary)) ≠ 3 ∧ up.rd .FAB_JOB_SIZE_SIZE = 0 ∧ 17 < 18 ∧ up.seqFree = true ∧ up.powerState = 3 ∧
    (let s := State.reset.wr .FUM_CTRL_WAKE_EN 2
     s.powerState ≠ 3 ∧ s.wakeAllowed 1 = true) ∧
    (idleS.seq = .empty ∧ idleS.buffer 1 0 1024 = some 0) ∧ (upW .STR_CTRL_MAINT 1).rd .STR_CTRL_MAINT ≠ 0 := by decide +kernel

/-! ### Ill-formed commands -/

/-- WellFormed refuses every command of a list. -/
def refused (l : List Instr) : Bool := l.all fun i => !i.wellFormed

theorem test_illFormed_1 : refused [
    .deviceInfo (2 ^ 32) 1 1 none, .deviceInfo 1 (2 ^ 32) 1 none, .deviceInfo 1 1 (2 ^ 64) none, .deviceInfo 1 1 1 (some []),
    .policyLoad (2 ^ 32) (List.replicate 128 0), .policyLoad 1 [], .timeStatus (2 ^ 32), .errlogRead (2 ^ 32) 1 1 1 1 false,
    .errlogRead 1 (2 ^ 64) 1 1 1 false, .errlogRead 1 1 (2 ^ 17) 1 1 false, .errlogRead 1 1 1 (2 ^ 32) 1 false,
    .errlogRead 1 1 1 1 (2 ^ 64) false, .alloc (2 ^ 32) 1 1 1 1 false false, .alloc 1 (2 ^ 32) 1 1 1 false false,
    .alloc 1 1 256 1 1 false false, .alloc 1 1 1 (2 ^ 64) 1 false false, .alloc 1 1 1 1 (2 ^ 64) false false, .free (2 ^ 32) false 1,
    .free 1 false (2 ^ 32), .descCreate (2 ^ 32) 1 (List.replicate 128 0), .descCreate 1 (2 ^ 32) (List.replicate 128 0),
    .descCreate 1 1 [], .programLoad (2 ^ 32) 1 1 1 1 1 1 1, .programLoad 1 (2 ^ 32) 1 1 1 1 1 1, .programLoad 1 1 (2 ^ 64) 1 1 1 1 1,
    .programLoad 1 1 1 (2 ^ 64) 1 1 1 1, .programLoad 1 1 1 1 (2 ^ 64) 1 1 1, .programLoad 1 1 1 1 1 (2 ^ 64) 1 1,
    .programLoad 1 1 1 1 1 1 (2 ^ 64) 1, .programLoad 1 1 1 1 1 1 1 (2 ^ 256), .programStart (2 ^ 32) 1, .programStart 1 (2 ^ 96),
    .stepCommit (2 ^ 32) 1 1, .stepCommit 1 (2 ^ 32) 1, .stepCommit 1 1 (2 ^ 64), .stepCommitCatchup (2 ^ 32), .stepAbort (2 ^ 32) 1,
    .stepAbort 1 (2 ^ 64)] = true := by decide +kernel

theorem test_illFormed_2 : refused [
    .abortOpRecord (2 ^ 32) 1 1 1, .abortOpRecord 1 291 1 1, .abortOpRecord 1 1 512 1, .abortOpRecord 1 1 1 4096, .abortOpTag (2 ^ 32) 1,
    .abortOpTag 1 (2 ^ 32), .secureNow (2 ^ 32) 1, .secureNow 1 (2 ^ 32), .setCap (2 ^ 32) 1, .setCap 1 (2 ^ 32), .setFixedOp (2 ^ 32) 1,
    .setFixedOp 1 8, .paceGroupJoin (2 ^ 32) 1 1 ⟨false, false, 1⟩, .paceGroupJoin 1 (2 ^ 32) 1 ⟨false, false, 1⟩,
    .paceGroupJoin 1 1 (2 ^ 64) ⟨false, false, 1⟩, .paceGroupJoin 1 1 1 ⟨false, false, 65537⟩, .paceGroupLeave (2 ^ 32),
    .telemetrySubscribe (2 ^ 32) 1 1 1 1, .telemetrySubscribe 1 (2 ^ 32) 1 1 1, .telemetrySubscribe 1 1 (2 ^ 64) 1 1,
    .telemetrySubscribe 1 1 1 (2 ^ 32) 1, .telemetrySubscribe 1 1 1 1 65536, .restoreFull (2 ^ 32) false 1 [] 1 1 [] 1 [] [],
    .restoreFull 1 false 65536 [] 1 1 [] 1 [] [], .restoreFull 1 false 1 [65536] 1 1 [] 1 [] [],
    .restoreFull 1 false 1 [] (2 ^ 32) 1 [] 1 [] [], .restoreFull 1 false 1 [] 1 (2 ^ 96) [] 1 [] [],
    .restoreFull 1 false 1 [] 1 1 [65536] 1 [] [], .restoreFull 1 false 1 [] 1 1 [] (2 ^ 64) [] [],
    .restoreBlock (2 ^ 32) false 1 1 1 1 [] 1 [], .restoreBlock 1 false 65536 1 1 1 [] 1 [],
    .restoreBlock 1 false 1 (2 ^ 32) 1 1 [] 1 [], .restoreBlock 1 false 1 1 131072 1 [] 1 [], .restoreBlock 1 false 1 1 1 131073 [] 1 [],
    .restoreBlock 1 false 1 1 1 1 [65536] 1 [], .restoreBlock 1 false 1 1 1 1 [] (2 ^ 64) [], .spareAdopt (2 ^ 32) 1 1,
    .spareAdopt 1 65536 1] = true := by decide +kernel

theorem test_illFormed_3 : refused [
    .spareAdopt 1 1 65536, .bistScheduleFull (2 ^ 32) [], .bistScheduleFull 1 [(272, 0, 0)], .bistScheduleFull 1 [(0, 16, 0)],
    .bistSchedulePeriodic (2 ^ 32) 1 false false, .bistSchedulePeriodic 1 65536 false false, .repairApply (2 ^ 32) 1 1,
    .repairApply 1 2 1, .repairApply 1 1 (2 ^ 32), .fuseBurn (2 ^ 32) 1 [], .fuseBurn 1 2 [], .fuseBurn 1 1 [4096],
    .resetDomainSecondaryCp (2 ^ 32), .resetDomainModuleCore (2 ^ 32), .resetDomainPort (2 ^ 32) 1, .resetDomainPort 1 32,
    .resetDomainStreamEngine (2 ^ 32) 1, .resetDomainStreamEngine 1 16, .resetDomainUpdateEngine (2 ^ 32) 1,
    .resetDomainUpdateEngine 1 16, .resetDomainReduction (2 ^ 32), .resetDomainHostAdapter (2 ^ 32), .moduleCoreResetEffect [4096],
    .sleepStandby (2 ^ 32), .sleepDormant (2 ^ 32), .wake (2 ^ 32), .fwUpdate (2 ^ 32) 1 1 1 false, .fwUpdate 1 (2 ^ 32) 1 1 false,
    .fwUpdate 1 1 (2 ^ 64) 1 false, .fwUpdate 1 1 1 (2 ^ 64) false, .mbxCmdTailWrite (2 ^ 32), .mctpMessage [], .smbusArp 128,
    .msixModerationEnd 4, .cpKickWrite 2, .watchdogExpire 2, .powerApplied 64 false, .railStageSettled [4096]] = true := by decide +kernel

theorem test_illFormed_4 : refused [
    .startupMemoryDone [16] [], .startupMemoryDone [] [(272, 0, 0)], .startupMemoryDone [] [(0, 16, 0)], .pcieLinkEvent 7 1 false false,
    .pcieLinkEvent 1 17 false false, .slotIdChange 64, .jtagInstructionLoad 2 1, .jtagInstructionLoad 1 256, .hostBarRead 1 0 4,
    .hostBarRead 0 (2 ^ 42) 4, .hostBarRead 2 0 0, .hostBarRead 2 0 4097, .hostBarRead 0 0 5, .hostBarWrite 1 0 (List.replicate 4 0),
    .hostBarWrite 0 (2 ^ 42) (List.replicate 4 0), .hostBarWrite 2 0 [], .hostBarWrite 2 0 (List.replicate 4097 0),
    .hostBarWrite 0 0 [0], .hostCompletionTimeout 291 1, .residualGrant 35 [], .residualGrant 1 [⟨0, 0, 0, none, .none⟩],
    .residualGrant 1 [⟨11, 0, 0, none, .none⟩], .lockGapTear 35, .registerWrite 0 0 1 false, .registerWrite 11 0 1 false,
    .registerWrite 1 (2 ^ 28) 1 false, .registerWrite 1 2 1 false, .registerWrite 1 0 (2 ^ 64) false, .rocRead 0 0, .rocRead 11 0,
    .rocRead 1 (2 ^ 28), .rocRead 1 2, .halfWordRead 0 0, .halfWordRead 11 0, .halfWordRead 1 (2 ^ 28), .halfWordRead 1 2,
    .tbNowRead 0 false false, .tbNowRead 11 false false] = true := by decide +kernel

theorem test_illFormed_5 : refused [
    .syncIssuedRead 0 false, .syncIssuedRead 11 false, .redExpectedRead 0, .redExpectedRead 11, .sinExpectedRead 0, .sinExpectedRead 11,
    .pwrFrameEnergyRead 0 false, .pwrFrameEnergyRead 11 false, .resShareWrite 16 1 1, .resShareWrite 1 9 1, .resShareWrite 1 1 (2 ^ 32),
    .fabCoordWrite false 65536, .fabCreditLimitWrite 18 1 1, .fabCreditLimitWrite 1 4 1, .fabCreditLimitWrite 1 1 512, .pwrGbWrite 2 1,
    .pwrGbWrite 1 256, .pwrAlertClearWrite 32, .syncHostSigWrite (2 ^ 24) 1, .syncHostSigWrite 1 (2 ^ 32), .geyserTick [291] [],
    .geyserTick [] [72], .idleTick [72], .timeProbe 18 1 false 1 0, .timeProbe 1 64 false 1 0, .timeProbe 1 1 false 16 0, .slotStart 291,
    .droopSkip 2, .droopHeavy 2, .powerAlert 16, .sensorSample [(49, 0)], .sensorSample [(0, 65536)], .fumaroleRuleFire 32,
    .fumaroleRuleFire 134, .paceReport 18, .paceDecision 18, .syncWaitRegister 291, .syncWaitRelease 291] = true := by decide +kernel

theorem test_illFormed_6 : refused [
    .syncWaitTimeout 291, .barrierReport 18, .barrierRelease 18, .transferStart 291, .hbmOperationComplete 291 1 .none,
    .transferComplete 291 1, .sendSegmentReceive 19 1, .sendSegmentReceive 1 16, .sendAckReceive 19, .gatherRequestReceive 19,
    .gatherResponseReceive 19, .patrolScrub 34 .none, .residentFillComplete 256,
    .messageArrive 18 (.mk 0 0 false false 0 0 0 0 0 0 0 none none [] 0) 1, .creditReturn 18 1, .creditReturn 1 4, .laneFail 18 1 1,
    .laneFail 1 4 1, .laneDropNotice 18 1 1, .laneDropNotice 1 4 1, .portSignalLoss 18, .portSignalDetect 18,
    .portTrainingComplete 18 1 1 1, .portTrainingComplete 1 16 1 1, .portTrainingComplete 1 1 65536 1, .portTrainingComplete 1 1 1 18,
    .ledgerAuditExchange 18 [] [] [], .redRecordStart 2, .redPartReceive 19 1, .redPartReceive 1 2, .redDeadline 2, .redAckReceive 19,
    .sinterDeltaReceive 19, .sinterFreshReceive 19, .sinterRecordReceive 19, .sinterRebuildReceive 19, .sinterCopyReceive 19,
    .sliceStart 272 1 false] = true := by decide +kernel

theorem test_illFormed_7 : refused [
    .sliceStart 1 16 false, .sliceComplete 272 false 1 false, .sliceComplete 1 false (2 ^ 64) false, .sliceBudgetExpire 272,
    .prefillStart 272 1, .prefillStart 1 16, .rowmapWrite 272 1 1, .rowmapWrite 1 1024 1, .rowmapWrite 1 1 32768,
    .spareLaneTest 18 false, .droppedLaneTestEnd 18 1 false, .droppedLaneTestEnd 1 4 false, .laneRepairTrained 18, .nop 256 .a .nops,
    .calWloadStart 256, .weightSetLoaded 256, .calMmStart 256, .calMmComplete 256 .none, .calAccloadStart 256,
    .calAccloadComplete ⟨256, false⟩, .calDrainStart 256, .calDrainPost ⟨256, .none⟩, .ventMvStart 256, .ventMvComplete ⟨256, false⟩,
    .sinterRecordAcknowledged 19] = true := by decide +kernel

theorem test_wellFormed_1 : ([
    .deviceInfo 1 1 1 none, .policyLoad 1 (List.replicate 128 0), .timeStatus 1, .errlogRead 1 1 1 1 1 false,
    .alloc 1 1 1 1 1 false false, .free 1 false 1, .descCreate 1 1 (List.replicate 128 0), .programLoad 1 1 1 1 1 1 1 1,
    .programStart 1 1, .stepCommit 1 1 1, .stepCommitCatchup 1, .stepAbort 1 1, .abortOpRecord 1 1 1 1, .abortOpTag 1 1, .secureNow 1 1,
    .setCap 1 1, .setFixedOp 1 1, .paceGroupJoin 1 1 1 ⟨false, false, 1⟩, .paceGroupLeave 1, .telemetrySubscribe 1 1 1 1 1,
    .restoreFull 1 false 1 [] 1 1 [] 1 [] [], .restoreBlock 1 false 1 1 1 1 [] 1 [], .spareAdopt 1 1 1, .bistScheduleFull 1 [],
    .bistSchedulePeriodic 1 1 false false, .repairApply 1 1 1, .fuseBurn 1 1 [], .resetDomainSecondaryCp 1, .resetDomainModuleCore 1,
    .resetDomainPort 1 1, .resetDomainStreamEngine 1 1, .resetDomainUpdateEngine 1 1, .resetDomainReduction 1, .resetDomainHostAdapter 1,
    .moduleCoreResetEffect [], .sleepStandby 1, .sleepDormant 1, .wake 1] : List Instr).all Instr.wellFormed = true := by decide +kernel

theorem test_wellFormed_2 : ([
    .fwUpdate 1 1 1 1 false, .mbxCmdTailWrite 1, .mctpMessage (List.replicate 256 0), .smbusArp 1, .msixModerationEnd 1, .cpKickWrite 1,
    .watchdogExpire 1, .powerApplied 1 false, .railStageSettled [], .startupMemoryDone [] [], .pcieLinkEvent 1 1 false false,
    .slotIdChange 1, .jtagInstructionLoad 1 1, .hostBarRead 0 0 4, .hostBarWrite 0 0 (List.replicate 4 0), .hostCompletionTimeout 1 1,
    .residualGrant 1 [], .lockGapTear 1, .registerWrite 1 0 1 false, .rocRead 1 0, .halfWordRead 1 0, .tbNowRead 1 false false,
    .syncIssuedRead 1 false, .redExpectedRead 1, .sinExpectedRead 1, .pwrFrameEnergyRead 1 false, .resShareWrite 1 1 1,
    .fabCoordWrite false 1, .fabCreditLimitWrite 1 1 1, .pwrGbWrite 1 1, .pwrAlertClearWrite 1, .syncHostSigWrite 1 1, .geyserTick [] [],
    .idleTick [], .timeProbe 1 1 false 1 0, .slotStart 1, .droopSkip 1, .droopHeavy 1] : List Instr).all Instr.wellFormed = true := by decide +kernel

theorem test_wellFormed_3 : ([
    .powerAlert 1, .sensorSample [], .fumaroleRuleFire 1, .paceReport 1, .paceDecision 1, .syncWaitRegister 1, .syncWaitRelease 1,
    .syncWaitTimeout 1, .barrierReport 1, .barrierRelease 1, .transferStart 1, .hbmOperationComplete 1 1 .none, .transferComplete 1 1,
    .sendSegmentReceive 1 1, .sendAckReceive 1, .gatherRequestReceive 1, .gatherResponseReceive 1, .patrolScrub 1 .none,
    .residentFillComplete 1, .messageArrive 1 (.mk 0 0 false false 0 0 0 0 0 0 0 none none [] 0) 1, .creditReturn 1 1, .laneFail 1 1 1,
    .laneDropNotice 1 1 1, .portSignalLoss 1, .portSignalDetect 1, .portTrainingComplete 1 1 1 1, .ledgerAuditExchange 1 [] [] [],
    .redRecordStart 1, .redPartReceive 1 1, .redDeadline 1, .redAckReceive 1, .sinterDeltaReceive 1, .sinterFreshReceive 1,
    .sinterRecordReceive 1, .sinterRebuildReceive 1, .sinterCopyReceive 1, .sliceStart 1 1 false, .sliceComplete 1 false 1 false] : List Instr).all Instr.wellFormed = true := by decide +kernel

theorem test_wellFormed_4 : ([
    .sliceBudgetExpire 1, .prefillStart 1 1, .rowmapWrite 1 1 1, .spareLaneTest 1 false, .droppedLaneTestEnd 1 1 false,
    .laneRepairTrained 1, .calWloadStart 1, .weightSetLoaded 1, .calMmStart 1, .calMmComplete 1 .none, .calAccloadStart 1,
    .calAccloadComplete ⟨1, false⟩, .calDrainStart 1, .calDrainPost ⟨1, .none⟩, .ventMvStart 1, .ventMvComplete ⟨1, false⟩,
    .sinterRecordAcknowledged 1] : List Instr).all Instr.wellFormed = true := by decide +kernel

theorem test_illFormed_a : (([
    .fadd, .fsub, .fmul, .fma, .fnma, .fmin, .fmax, .fabs, .fneg, .fcpys, .fmant, .fmant2, .frnd, .fscale, .fdivFin, .fsqrtFin, .mov,
    .sel, .iadd, .isub, .imul, .imin, .imax, .and, .or, .xor, .shl, .shr, .sra, .fcmpEq, .fcmpLt, .fcmpLe, .fcmpUn, .icmpEq, .icmpLt,
    .rmax, .rmin, .bcol, .redAdd, .redSq, .redCsq, .redGet, .redClr, .cvt] : List (Nat → BitVec 36 → Beside → Instr)).all fun c => !(c 256 0 .nops).wellFormed) = true := by decide +kernel

theorem test_illFormed_i : (([
    .seed, .scanLr, .scanCget, .scanCput] : List (Nat → BitVec 19 → Beside → Instr)).all fun c => !(c 256 0 .nops).wellFormed) = true := by decide +kernel

theorem test_illFormed_m : (([
    .ld, .st, .ftqPop, .awinRd, .awinClr, .lds, .sts] : List (Nat → BitVec 26 → Beside → Instr)).all fun c => !(c 256 0 .nops).wellFormed) = true := by decide +kernel

theorem test_illFormed_c : (([
    .veEnd, .br, .salu, .pred, .syncSig, .syncWait, .flagsRd, .flagsClr, .calWload, .calMm, .calAccload, .calDrain, .ventMv] : List (Nat → BitVec 27 → Beside → Instr)).all fun c => !(c 256 0 .nops).wellFormed) = true := by decide +kernel

theorem test_illFormed_f : (([
    .li, .addi, .lsh16, .aget] : List (Nat → BitVec 25 → Beside → Instr)).all fun c => !(c 256 0 .nops).wellFormed) = true := by decide +kernel

theorem test_illFormed_u : (([
    .ueNop, .ueLd, .ueSt, .ueScalew, .ueFadd, .ueFsub, .ueFmul, .ueFma, .ueFnma, .ueFdiv, .ueFsqrt, .ueFmin, .ueFmax, .ueSqacc, .ueSadd,
    .ueSmul, .ueSfma, .ueSdiv, .ueSsqrt, .ueSpowi] : List (Nat → BitVec 58 → Instr)).all fun c => !(c 16 0).wellFormed) = true := by decide +kernel

/-! ### The spec's worked examples -/

/-- The state that a command leaves. -/
def after (c : Instr) (s : State) : State := match exec c s with | .next t => t | _ => s

/-- Frames and time, period choice: 20,000 ns at OP5 and OP0, 20,003 ns at OP5, 20,005 ns at both. -/
theorem test_periodCycles : wholeCycles 20000 5 = true ∧ wholeCycles 20000 0 = true ∧ cyclesOf 20000 5 = 32000 ∧ cyclesOf 20000 0 = 18000 ∧
    wholeCycles 20003 5 = false ∧ wholeCycles 20005 5 = true ∧ wholeCycles 20005 0 = false := by decide

/-- Scope, the registers of logical tile 165 begin at block offset 0x01A5_0000. -/
theorem test_tileWindow : regAt (0x01A50000 + 0x1000) = some ⟨.VE_CTRL, 165, false⟩ := by decide

/-- E4M3 near the top of its range: 300 and 470 with SAT 0 and 1, and 460. -/
theorem test_e4m3Top :
    let c : CvtCtl := ⟨.rne, 0, false, false⟩
    let f := convertNum .fp32 .e4m3
    f c (fmt32.decode 0x43960000) = (0x79, fIX) ∧ f c (fmt32.decode 0x43EB0000) = (0x7F, fOF ||| fIX) ∧
      f { c with sat := true } (fmt32.decode 0x43EB0000) = (0x7E, fOF ||| fIX) ∧ f c (fmt32.decode 0x43E60000) = (0x7E, fIX) := by decide +kernel

/-- E4M3 under stochastic rounding: 300 goes up from r = 0xA0_0000 on. -/
theorem test_e4m3Stochastic :
    (convertNum .fp32 .e4m3 ⟨.sr, 0xA00000, false, false⟩ (fmt32.decode 0x43960000)).1 = 0x7A ∧
      (convertNum .fp32 .e4m3 ⟨.sr, 0x9FFFFF, false, false⟩ (fmt32.decode 0x43960000)).1 = 0x79 := by decide +kernel

/-- Delayed scaling on layer 37: AMAX 3.25 and 3.7. -/
theorem test_nextScale : nextScale .e4m3 0x40500000 0 = (0x78, false) ∧ nextScale .e4m3 0x406CCCCD 0 = (0x79, false) := by decide +kernel

/-- One block into E2M1: 13.75 and 1.3 under FLOOR and CEIL, with the scale bytes. -/
theorem test_blockE2m1 :
    let xs := [fmt32.decode 0x415C0000, fmt32.decode 0x3FA60000]
    let a := encodeBlock .e2m1 false .rne [0, 0] xs
    let b := encodeBlock .e2m1 true .rne [0, 0] xs
    a.scale = 0x80 ∧ a.elems = [7, 1] ∧ b.scale = 0x81 ∧ b.elems = [5, 1] := by decide +kernel

/-- One register of quotients: 1.0 by 3.0 with the refined estimate 0x3F2A_AAAB gives 0x3EAA_AAAB and IX. -/
theorem test_fdivFin : elFdivFin fmt32 .rne 0x3F800000 0x40400000 0x3F2AAAAB = (0x3EAAAAAB, fIX) := by decide +kernel

/-- Decoding a bundle: its four slots, and the bundle passes the static checks. -/
theorem test_bundle :
    let b := bundleOf 0x144831410002730005040FC0225FFFFF
    b = ⟨0x5120C50400, 0x9CC00, 0x5040FC0, 0x225FFFFF⟩ ∧ staticChecks b = none ∧
      bitsOf b.a 41 36 = 5 ∧ bitsOf b.f 23 19 = 1 ∧ bitsOf b.m 29 26 = 1 ∧ bitsOf b.c 31 27 = 4 := by decide +kernel

/-- Reading a timeout record: the 32 bytes of log entry 0x2A17. -/
theorem test_timeoutRecord :
    (⟨0x0701, 2, 0, 0x25, some 0x41, some 0x04A01000, 1000 * tbPerSec + tbPerSec / 2, 2 ^ 32 + 1, 0, 0⟩ : ErrRec).bytes =
      [0x01, 0x07, 0x42, 0x09, 0, 0, 0, 0x65, 0xCD, 0x1D, 0xFA, 0, 0, 0, 0, 0xC0] ++ leBytes 8 0x0000410100000001 ++
        leBytes 8 0x0940200000000000 := by decide +kernel

/-- Physical row 2 fails: the maps of tile 83 after REPAIR_APPLY of entry 0x1053_0002. -/
theorem test_repairRow :
    let t := after (.repairApply 1 0 0x10530002) up
    (t.ptile 83).rowmap = 0x28C8 ∧ (t.ptile 83).feedDly = 0x014A := by decide +kernel

/-- Two data positions lost: the coefficients for D3 while 9 is lost too, and the byte that they rebuild. -/
theorem test_rebuildCoef :
    rebuildCoef 3 (some 9) 15 = some 0x6F ∧ rebuildCoef 3 (some 9) 14 = some 0x5E ∧ rebuildCoef 3 (some 9) 0 = some 0x31 ∧
      gfMul 0x5E 0x4C ^^^ gfMul 0x6F 0xCA ^^^ gfMul 0x31 0x01 = 0x5A := by decide +kernel

/-- Order in a reduction: 2⁶⁰, 2⁻⁶⁰, −2⁶⁰, 2⁻⁶⁰ in list order leave 2⁻⁶⁰, a term lost. -/
theorem test_reductionOrder :
    let f := fun (p : List Acc × Bool) (b : Nat) => let r := foldSum p.1 [fmt32.decode b]; (r.1, p.2 || r.2.2)
    let p := [0x5D800000, 0x21800000, 0xDD800000, 0x21800000].foldl f ([0], false)
    p.2 = true ∧ p.1.map (fun a => (accRound fmt32 .rne 0 false 0 a).1) = [0x21800000] := by decide +kernel

/-- One credit book: VC 1 of port 3 with AVAIL 40 sums to its LIMIT of 128, and is one short with AVAIL 39. -/
theorem test_creditBook :
    let s := fun (a : Nat) => { fabS with fab := { fabS.fab with
      audited := [(3, true)], credit := [(13, some ⟨a, 1000000, 0, 0, 999912, 0, 128⟩)] } }
    let c : Instr := .ledgerAuditExchange 3 [0, 999970, 0, 0] [0, 999920, 0, 0] [0, 50, 0, 0]
    (after c (s 40)).errq = [] ∧ (after c (s 39)).errq.map (fun r => r.code) = [Err.ERR_LEDGER_MISMATCH.code] := by decide +kernel

/-- Three write descriptors: SIZE 64, 32 with STRIDE 4, 128; SIZE 16, 3, 2 with 4, 128, 192; SIZE 16, 3 with 4, 128. -/
theorem test_injective :
    let d := fun (sz : List Nat) (st : List Int) =>
      ({ descOf 1 0 with rank := sz.length, etype := 1, cls := 1, size := sz, stride := st, gsize := sz } : Desc)
    up.injective (d [64, 32] [4, 128]) = false ∧ up.injective (d [16, 3, 2] [4, 128, 192]) = false ∧
      up.injective (d [16, 3] [4, 128]) = true := by decide +kernel

end Sys2Proof.Tests
end

section
/-! Reads of one word of a 64-bit register (00, R18): what such a read answers, what it latches or uses up, and that it leaves memory
and tiles as they are. -/

set_option autoImplicit false

namespace Sys2Proof.Machine

open Sys2Proof

/-! ### What the operations of a read leave unchanged -/

/-- Clearing read-to-clear fields changes register fields only. -/
theorem State.clearRoc_eq (s : State) (r : Reg) (i : Nat) : ∃ regs, s.clearRoc r i = { s with regs := regs } := by
  unfold State.clearRoc
  induction (regRow r).fields generalizing s with
  | nil => exact ⟨s.regs, rfl⟩
  | cons f fs ih =>
    rw [List.foldl_cons]
    split
    · obtain ⟨regs, h⟩ := ih (s.wr f (fldRow f).reset (s.regIndex r i))
      exact ⟨regs, h.trans rfl⟩
    · exact ih s

@[simp] theorem State.clearRoc_mem (s : State) (r : Reg) (i : Nat) : (s.clearRoc r i).mem = s.mem := by
  obtain ⟨_, h⟩ := s.clearRoc_eq r i; rw [h]

@[simp] theorem State.clearRoc_hostMem (s : State) (r : Reg) (i : Nat) : (s.clearRoc r i).hostMem = s.hostMem := by
  obtain ⟨_, h⟩ := s.clearRoc_eq r i; rw [h]

@[simp] theorem State.clearRoc_tiles (s : State) (r : Reg) (i : Nat) : (s.clearRoc r i).tiles = s.tiles := by
  obtain ⟨_, h⟩ := s.clearRoc_eq r i; rw [h]

@[simp] theorem State.latchHalf_mem (s : State) (req off : Nat) (w : Option Nat) : (s.latchHalf req off w).mem = s.mem := rfl
@[simp] theorem State.latchHalf_hostMem (s : State) (req off : Nat) (w : Option Nat) :
    (s.latchHalf req off w).hostMem = s.hostMem := rfl
@[simp] theorem State.latchHalf_tiles (s : State) (req off : Nat) (w : Option Nat) : (s.latchHalf req off w).tiles = s.tiles := rfl

@[simp] theorem State.latchHalf_half_same (s : State) (req off : Nat) (w : Option Nat) :
    tabGet none (latchKey req off) (s.latchHalf req off w).bus.half = w := tabGet_tabSet_same none _ w _

@[simp] theorem State.replyTo_mem (s : State) (req : Nat) (x : BusReply) : (s.replyTo req x).mem = s.mem := rfl
@[simp] theorem State.replyTo_hostMem (s : State) (req : Nat) (x : BusReply) : (s.replyTo req x).hostMem = s.hostMem := rfl
@[simp] theorem State.replyTo_tiles (s : State) (req : Nat) (x : BusReply) : (s.replyTo req x).tiles = s.tiles := rfl
@[simp] theorem State.replyTo_half (s : State) (req : Nat) (x : BusReply) : (s.replyTo req x).bus.half = s.bus.half := rfl
@[simp] theorem State.replyTo_reply (s : State) (req : Nat) (x : BusReply) : (s.replyTo req x).bus.reply = some (req, x) := rfl

@[simp] theorem State.afterGrant_mem (s : State) (wide : Bool) : (s.afterGrant wide).mem = s.mem := by
  unfold State.afterGrant; cases wide <;> simp

@[simp] theorem State.afterGrant_hostMem (s : State) (wide : Bool) : (s.afterGrant wide).hostMem = s.hostMem := by
  unfold State.afterGrant; cases wide <;> simp

@[simp] theorem State.afterGrant_tiles (s : State) (wide : Bool) : (s.afterGrant wide).tiles = s.tiles := by
  unfold State.afterGrant; cases wide <;> simp

@[simp] theorem State.afterGrant_bus (s : State) (wide : Bool) : (s.afterGrant wide).bus = s.bus := by
  unfold State.afterGrant; cases wide <;> simp

@[simp] theorem State.afterGrant_bookLatch (s : State) (wide : Bool) (req : Nat) (r : Reg) :
    (s.afterGrant wide).bookLatch req r = s.bookLatch req r := by
  unfold State.bookLatch; rw [State.afterGrant_bus]

/-- States with the same stored bytes and tiles differ in neither memory and in no tile. -/
theorem sameMem_sameTiles_of_eq {s t : State} (hm : t.mem = s.mem) (hh : t.hostMem = s.hostMem) (ht : t.tiles = s.tiles) :
    SameMem s t ∧ SameTiles [] s t :=
  ⟨⟨fun c => by rw [hm], fun a => by rw [hh]⟩, fun p _ => by unfold State.ptile; rw [ht]⟩

/-! ### What a read of one word does -/

/-- A register that latches no book leaves the books as they are. -/
theorem State.latchBook_of_no_book (s : State) (req : Nat) {r : Reg} (h : bookRegs r = []) : s.latchBook req r = s := by
  unfold State.latchBook; rw [h]; rfl

/-- A register that no book has latched is seen with its current value. -/
theorem State.seenValue_of_not_latched {s : State} {req : Nat} {r : Reg} (i : Nat) (h : s.bookLatch req r = none) :
    s.seenValue req r i = s.regValue r i := by
  unfold State.seenValue; rw [h]

/-- A 32-bit read of the low word answers it and latches the high word of the same value (R18). -/
theorem State.regRead_lowWord {s : State} {req off : Nat} {r : Reg} {i : Nat} (hat : regAt off = some ⟨r, i, false⟩)
    (hw : (regRow r).wide = true) (hb : bookRegs r = []) (hl : s.bookLatch req r = none) :
    s.regRead req off false = ((s.clearRoc r i).latchHalf req off (some (s.regValue r i / 2 ^ 32))).replyTo req
      (.data (s.regValue r i % 2 ^ 32)) := by
  unfold State.regRead
  rw [hat]
  simp only [Bool.false_eq_true, if_false, hw, if_true, s.latchBook_of_no_book req hb, State.seenValue_of_not_latched i hl]

/-- A read of the high word answers the word latched for the requester and uses it up (R18). -/
theorem State.regRead_highWord {s : State} {req off : Nat} {r : Reg} {i v : Nat} (wide : Bool)
    (hat : regAt (off + 4) = some ⟨r, i, true⟩) (hv : tabGet none (latchKey req off) s.bus.half = some v) :
    s.regRead req (off + 4) wide = ((s.clearRoc r i).latchHalf req off none).replyTo req (.data v) := by
  unfold State.regRead
  rw [hat]
  simp only [if_true, Nat.add_sub_cancel, hv, Option.getD_some]

/-- HALF_WORD_READ that nothing holds back: its one grant is counted, and the word is read. -/
theorem exec_halfWordRead_plain {s : State} {off : Nat} (req : Nat) (hup : s.busUp = true) (hfree : s.regFree off) :
    exec (.halfWordRead req off) s = .next ((s.afterGrant false).regRead req off false) := by
  show execHalfWordRead req off s = _
  unfold execHalfWordRead
  rw [if_pos hup, State.busRead_plain hfree]

/-- A counted access that clears a register, sets or uses up a latch and answers leaves memory and tiles as they are. -/
theorem State.wordRead_frame (s : State) (req off : Nat) (r : Reg) (i : Nat) (w : Option Nat) (x : BusReply) :
    let t := (((s.afterGrant false).clearRoc r i).latchHalf req off w).replyTo req x
    SameMem s t ∧ SameTiles [] s t :=
  sameMem_sameTiles_of_eq (by simp) (by simp) (by simp)

/-- Settles O7: the low word's read latches the high word of the value that it answers from, and the high word's read answers
from that latch. -/
theorem halfWordReadLatchesTheHighWord : Obligations.HalfWordReadLatchesTheHighWord := by
  unfold Obligations.HalfWordReadLatchesTheHighWord
  refine ⟨fun s req off r i hup hfree hat hwide hbook hlatch => ?_, fun s req off r i v hup hfree hat hv => ?_⟩
  · refine ⟨_, exec_halfWordRead_plain req hup hfree, ?_⟩
    rw [State.regRead_lowWord hat hwide hbook ((s.afterGrant_bookLatch false req r).trans hlatch)]
    exact ⟨by simp, by simp, s.wordRead_frame req off r i _ _⟩
  · refine ⟨_, exec_halfWordRead_plain req hup hfree, ?_⟩
    rw [State.regRead_highWord false hat ((congrArg _ (by rw [State.afterGrant_bus])).trans hv)]
    exact ⟨by simp, by simp, s.wordRead_frame req off r i _ _⟩

end Sys2Proof.Machine
end

section
/-! Reads of the registers of a book (00, R50): a read of its first register latches the others for the requester, and a read of one of
those answers the latched value; beside the bus's latches and answer such a read changes only the count of starvation grants. -/

set_option autoImplicit false

namespace Sys2Proof.Machine

open Sys2Proof

/-! ### What a counted access that changes the bus alone leaves unchanged -/

theorem State.rd_afterGrant (s : State) (wide : Bool) {f : Fld} {j : Nat} (h : ¬(f = .RES_STARVE_GRANTS_COUNT ∧ j = 0)) :
    (s.afterGrant wide).rd f j = s.rd f j := by
  unfold State.afterGrant
  cases wide
  · exact s.rd_countGrant _ h
  · exact (State.rd_countGrant _ _ h).trans (s.rd_countGrant _ h)

@[simp] theorem State.afterGrant_tb (s : State) (wide : Bool) : (s.afterGrant wide).tb = s.tb := by
  unfold State.afterGrant; cases wide <;> simp

theorem State.onlyRegs_afterGrant_setBus (s : State) (wide : Bool) (u : BusUnit) :
    OnlyRegs [(.RES_STARVE_GRANTS_COUNT, 0)] s ((s.afterGrant wide).setBus u) := by
  obtain ⟨hmem, htiles⟩ : SameMem s ((s.afterGrant wide).setBus u) ∧ SameTiles [] s ((s.afterGrant wide).setBus u) :=
    sameMem_sameTiles_of_eq (by simp) (by simp) (by simp)
  refine ⟨hmem, htiles, fun f j hf => ?_⟩
  rw [State.setBus_rd, s.rd_afterGrant wide (by simpa using hf)]

/-! ### What the registers of the time base show -/

/-- No register shows anything of the bus's latches and answers. -/
theorem State.regValue_setBus (s : State) (u : BusUnit) (r : Reg) (i : Nat) : (s.setBus u).regValue r i = s.regValue r i := rfl

/-- A register of one field from bit 0 that is not write-only shows that field. -/
theorem State.regValue_of_one_field (s : State) {r : Reg} {f : Fld} (i : Nat) (hf : (regRow r).fields = [f])
    (hacc : (fldRow f).acc ≠ .wo) (hlo : (fldRow f).lo = 0) : s.regValue r i = s.viewField r f (s.regIndex r i) := by
  unfold State.regValue
  rw [hf, List.foldl_cons, List.foldl_nil, if_neg hacc, hlo, Nat.pow_zero, Nat.mul_one, Nat.zero_add]

/-- A field of a Fumarole register outside the self-test block is seen as its unit's state gives it, cut to its width. -/
theorem State.viewField_fumarole (s : State) {r : Reg} (f : Fld) (i : Nat) (hd : (regRow r).domain = .fumarole)
    (hb : (regRow r).base ≠ 0x05000000) : s.viewField r f i = s.viewOther f i % 2 ^ fldWidth f := by
  unfold State.viewField
  dsimp only
  rw [hd]
  dsimp only
  rw [if_neg hb]

/-- GEY_TB_NOW shows bits 63:0 of the time's stamp. -/
theorem State.regValue_tbNow (s : State) : s.regValue .GEY_TB_NOW 0 = stampOf s.tb % 2 ^ 64 := by
  rw [s.regValue_of_one_field 0 (f := .GEY_TB_NOW_STAMP_LO) rfl (by decide) rfl, s.viewField_fumarole _ _ rfl (by decide)]
  congr 1

/-- GEY_TB_NOW_HI shows bits 95:64 of the time's stamp. -/
theorem State.regValue_tbNowHi (s : State) : s.regValue .GEY_TB_NOW_HI 0 = stampOf s.tb / 2 ^ 64 % 2 ^ 32 := by
  rw [s.regValue_of_one_field 0 (f := .GEY_TB_NOW_HI_STAMP_HI) rfl (by decide) rfl, s.viewField_fumarole _ _ rfl (by decide)]
  congr 1

/-! ### What a read of a book's register does -/

/-- A register without read-to-clear fields is read without being cleared (R14). -/
theorem State.clearRoc_of_no_roc (s : State) {r : Reg} (i : Nat) (h : ∀ f ∈ (regRow r).fields, (fldRow f).acc ≠ .roc) :
    s.clearRoc r i = s := by
  unfold State.clearRoc
  generalize (regRow r).fields = l at h
  induction l with
  | nil => rfl
  | cons f fs ih =>
    rw [List.foldl_cons, if_neg (h f List.mem_cons_self)]
    exact ih fun g hg => h g (List.mem_cons_of_mem f hg)

/-- Latching a book changes the bus alone. -/
theorem State.latchBook_eq_setBus (s : State) (req : Nat) (r : Reg) : ∃ u, s.latchBook req r = s.setBus u := by
  unfold State.latchBook
  induction bookRegs r generalizing s with
  | nil => exact ⟨s.bus, rfl⟩
  | cons x xs ih =>
    obtain ⟨u, h⟩ := ih (s.setBus _)
    exact ⟨u, h.trans rfl⟩

/-- The latch of a book does not change what a register shows. -/
@[simp] theorem State.regValue_latchBook (s : State) (req : Nat) (p r : Reg) (i : Nat) :
    (s.latchBook req p).regValue r i = s.regValue r i := by
  obtain ⟨u, h⟩ := s.latchBook_eq_setBus req p
  rw [h, s.regValue_setBus]

/-- A book of one more register latches that register's value. -/
theorem State.bookLatch_latchBook (s : State) (req : Nat) {r x : Reg} (h : bookRegs r = [x]) :
    (s.latchBook req r).bookLatch req x = some (s.regValue x 0) := by
  unfold State.latchBook; rw [h]
  exact tabGet_tabSet_same none _ (some (s.regValue x 0)) _

@[simp] theorem State.latchHalf_bookLatch (s : State) (req off : Nat) (w : Option Nat) (q : Nat) (r : Reg) :
    (s.latchHalf req off w).bookLatch q r = s.bookLatch q r := rfl

@[simp] theorem State.replyTo_bookLatch (s : State) (req : Nat) (x : BusReply) (q : Nat) (r : Reg) :
    (s.replyTo req x).bookLatch q r = s.bookLatch q r := rfl

/-- The first register of a book is seen with its current value, latched before or not. -/
theorem State.seenValue_of_first (s : State) (req : Nat) {r : Reg} (i : Nat) (h : bookRegs r ≠ []) :
    s.seenValue req r i = s.regValue r i := by
  unfold State.seenValue
  cases s.bookLatch req r with
  | none => rfl
  | some v => exact if_neg h

/-- A register of a book that is not its first is seen with the value latched for the requester. -/
theorem State.seenValue_of_latched {s : State} {req v : Nat} {r : Reg} (i : Nat) (h : bookRegs r = [])
    (hv : s.bookLatch req r = some v) : s.seenValue req r i = v := by
  unfold State.seenValue; rw [hv]; exact if_pos h

section FirstRegister

variable {r : Reg} {off : Nat} (hat : regAt off = some ⟨r, 0, false⟩) (hbook : bookRegs r ≠ [])
  (hroc : ∀ f ∈ (regRow r).fields, (fldRow f).acc ≠ .roc)

include hat hbook hroc

/-- A 64-bit read of a book's first register latches the book and answers the register. -/
theorem State.regRead_first_all (s : State) (req : Nat) :
    s.regRead req off true = (s.latchBook req r).replyTo req (.data (s.regValue r 0)) := by
  unfold State.regRead
  rw [hat]
  simp only [Bool.false_eq_true, if_false, if_true, State.clearRoc_of_no_roc _ _ hroc, State.seenValue_of_first _ _ _ hbook,
    State.regValue_latchBook]

/-- A 32-bit read of the low word of a 64-bit first register latches the book and the register's high word, and answers the low word. -/
theorem State.regRead_first_low (hwide : (regRow r).wide = true) (s : State) (req : Nat) :
    s.regRead req off false = ((s.latchBook req r).latchHalf req off (some (s.regValue r 0 / 2 ^ 32))).replyTo req
      (.data (s.regValue r 0 % 2 ^ 32)) := by
  unfold State.regRead
  rw [hat]
  simp only [Bool.false_eq_true, if_false, if_true, hwide, State.clearRoc_of_no_roc _ _ hroc, State.seenValue_of_first _ _ _ hbook,
    State.regValue_latchBook]

/-- A read of a book's first register, of 64 bits or of its low word, changes the bus alone. -/
theorem State.regRead_first_eq_setBus (hwide : (regRow r).wide = true) (s : State) (req : Nat) (wide : Bool) :
    ∃ u, s.regRead req off wide = s.setBus u := by
  obtain ⟨u, h⟩ := s.latchBook_eq_setBus req r
  cases wide
  · exact ⟨_, by rw [State.regRead_first_low hat hbook hroc hwide, h]; rfl⟩
  · exact ⟨_, by rw [State.regRead_first_all hat hbook hroc, h]; rfl⟩

/-- A granted read of the first register of a book of two answers that register, latches the other one and, where it reads only the low
word, the high word, and leaves memory, tiles and every register field but the count of starvation grants. -/
theorem State.regRead_first_latches (hwide : (regRow r).wide = true) {x : Reg} (hx : bookRegs r = [x]) (s : State) (req : Nat)
    (wide : Bool) :
    let u := s.afterGrant wide
    let t := u.regRead req off wide
    t.bus.reply = some (req, .data (if wide then u.regValue r 0 else u.regValue r 0 % 2 ^ 32)) ∧
      t.bookLatch req x = some (u.regValue x 0) ∧
      (wide = false → tabGet none (latchKey req off) t.bus.half = some (u.regValue r 0 / 2 ^ 32)) ∧
      OnlyRegs [(.RES_STARVE_GRANTS_COUNT, 0)] s t := by
  intro u t
  have hframe : OnlyRegs [(.RES_STARVE_GRANTS_COUNT, 0)] s t := by
    obtain ⟨b, hb⟩ := State.regRead_first_eq_setBus hat hbook hroc hwide u req wide
    rw [show t = u.setBus b from hb]
    exact s.onlyRegs_afterGrant_setBus wide b
  cases wide
  · have ht : t = _ := State.regRead_first_low hat hbook hroc hwide u req
    exact ⟨by simp [ht], by simp [ht, u.bookLatch_latchBook req hx], by simp [ht], hframe⟩
  · have ht : t = _ := State.regRead_first_all hat hbook hroc u req
    exact ⟨by simp [ht], by simp [ht, u.bookLatch_latchBook req hx], by simp, hframe⟩

end FirstRegister

/-- A 32-bit read of a latched register of a book answers the low word of what was latched and changes nothing else. -/
theorem State.regRead_latched {s : State} {req off v : Nat} {r : Reg} (hat : regAt off = some ⟨r, 0, false⟩)
    (hbook : bookRegs r = []) (hroc : ∀ f ∈ (regRow r).fields, (fldRow f).acc ≠ .roc) (hwide : (regRow r).wide = false)
    (hv : s.bookLatch req r = some v) : s.regRead req off false = s.replyTo req (.data (v % 2 ^ 32)) := by
  unfold State.regRead
  rw [hat]
  simp only [Bool.false_eq_true, if_false, hwide, s.latchBook_of_no_book req hbook, s.clearRoc_of_no_roc _ hroc,
    State.seenValue_of_latched _ hbook hv]

/-! ### Reads of the stamps -/

/-- TB_NOW_READ that nothing holds back: its grants are counted, and the stamp's low register is read. -/
theorem exec_tbNowRead_plain {s : State} (req : Nat) (ofEpoch wide : Bool) (hup : s.busUp = true)
    (hfree : s.regFree (regOffset (if ofEpoch then .GEY_EPOCH else .GEY_TB_NOW))) :
    exec (.tbNowRead req ofEpoch wide) s =
      .next ((s.afterGrant wide).regRead req (regOffset (if ofEpoch then .GEY_EPOCH else .GEY_TB_NOW)) wide) := by
  show execTbNowRead req ofEpoch wide s = _
  unfold execTbNowRead
  rw [if_pos hup, State.busRead_plain hfree]

/-- ROC_READ that nothing holds back: its one grant is counted, and the register is read. -/
theorem exec_rocRead_plain {s : State} {off : Nat} (req : Nat) (hup : s.busUp = true) (hfree : s.regFree off) :
    exec (.rocRead req off) s = .next ((s.afterGrant false).regRead req off false) := by
  show execRocRead req off s = _
  unfold execRocRead
  rw [if_pos hup, State.busRead_plain hfree]

/-- The word that a read of either width takes from the low 64 bits of a value is cut from the value itself. -/
theorem low_word_of_low_stamp (v : Nat) (wide : Bool) :
    (if wide then v % 2 ^ 64 else v % 2 ^ 64 % 2 ^ 32) = v % 2 ^ (if wide then 64 else 32) := by
  cases wide
  · simp only [Bool.false_eq_true, if_false]
    exact Nat.mod_mod_of_dvd v (Nat.pow_dvd_pow 2 (by decide))
  · simp only [if_true]

/-- The HI registers are 32-bit registers that a book of another register latches, and no read clears them. -/
theorem stampHi_is_book_word : ∀ r ∈ [Reg.GEY_TB_NOW_HI, Reg.GEY_EPOCH_HI],
    regAt (regOffset r) = some ⟨r, 0, false⟩ ∧ bookRegs r = [] ∧ (regRow r).wide = false ∧
      ∀ f ∈ (regRow r).fields, (fldRow f).acc ≠ .roc := by decide

/-- Settles O8: either stamp's low register is the first of a book of two with its HI register, whose later read answers the latch. -/
theorem stampReadLatchesTheWholeStamp : Obligations.StampReadLatchesTheWholeStamp := by
  unfold Obligations.StampReadLatchesTheWholeStamp
  refine ⟨fun s req wide hup hfree => ?_, fun s req wide hup hfree => ?_, fun s req v hup r hr hfree hv => ?_⟩
  · refine ⟨_, exec_tbNowRead_plain req false wide hup hfree, ?_⟩
    have h := State.regRead_first_latches (r := .GEY_TB_NOW) (off := regOffset .GEY_TB_NOW) (by decide) (by decide) (by decide) rfl rfl
      s req wide
    simp only [State.regValue_tbNow, State.regValue_tbNowHi, State.afterGrant_tb, low_word_of_low_stamp] at h
    exact h
  · exact ⟨_, exec_tbNowRead_plain req true wide hup hfree,
      State.regRead_first_latches (by decide) (by decide) (by decide) rfl rfl s req wide⟩
  · obtain ⟨hat, hbook, hwide, hroc⟩ := stampHi_is_book_word r hr
    refine ⟨_, exec_rocRead_plain req hup hfree, ?_⟩
    rw [State.regRead_latched hat hbook hroc hwide ((s.afterGrant_bookLatch false req r).trans hv)]
    exact ⟨rfl, s.onlyRegs_afterGrant_setBus false _⟩

end Sys2Proof.Machine
end
